-- ==== Sys2Proof/Word.lean ====
section
/-! DEFINITION. The word types of the register space (R5) and of the byte buffers. -/

namespace Sys2Proof

/-- A register word: registers are 32 bits wide (R5). -/
abbrev W32 := BitVec 32

/-- A byte of a buffer, a message or an image. -/
abbrev Byte := BitVec 8

end Sys2Proof
end

