-- ==== Sys2Proof/Syntax.lean ====
section
/-! DEFINITION. The commands: one constructor per row of spec/opcode_table.json, in the table's order, and the types
of their operands. The table gives a row no operand fields; each operand below is what the row's rule reads from
outside the block. Every constructor's first operand `t` is the device time, in ticks of 250 ps counted from power
application, at which the command comes (notes/assumptions/2.md). -/

namespace Sys2Proof

/-- The path of an access to the register space (R506, CB_VIOL_INFO.PATH). -/
inductive Path where
  | housePort | hl0 | hl1 | tap
  deriving DecidableEq, Repr

/-- The supply rails, in the bit order of Table 12.7. -/
inductive Rail where
  | vin12 | vddSafe | vddCore | vddSer | vddhSer | vddIo | vddGl
  deriving DecidableEq, Repr

/-- The two die-to-die links (R15). -/
inductive Link where
  | a | b
  deriving DecidableEq, Repr

/-- What a listening interval counts toward (Table 3.1). -/
inductive Interval where
  | preshow            -- pre-show window
  | tick0              -- the window-reflection tick
  | segment (g : Nat)  -- gate segment g
  deriving DecidableEq, Repr

/-- One reading of the two pins of a safe output (R325). -/
structure PinRead where
  hs : Bool
  ls : Bool
  deriving DecidableEq, Repr

/-- The cue record of Table 7.3. `flags` and `runtime` keep the reserved bits and the run-time bytes as written. -/
structure CueRec where
  kind    : Nat
  cls     : Nat
  node    : Nat
  profile : Nat
  flags   : Nat
  points  : Nat
  queue   : Nat
  hqueue  : Nat
  start   : Nat
  period  : Nat
  count   : Nat
  bound   : Nat
  trig    : Nat
  rerun   : Nat
  tag     : Nat
  runtime : Nat
  deriving DecidableEq, Repr

/-- For how many ticks each release condition of R486 has held without a break. -/
structure ReleaseObs where
  gl   : Nat
  rails : Nat
  ref  : Nat
  rstn : Nat
  deriving DecidableEq, Repr

/-- One converter calibration reading: the codes of inputs 24 to 27 (R462). -/
structure ConvCodes where
  c0   : Int
  c25  : Int
  c75  : Int
  c100 : Int
  deriving DecidableEq, Repr

/-- What an entry holds after a measurement (R456, Table 13.2): its window, the counts of its bins by number, the counted
shots, and those whose stop fell in the window. -/
structure Arrival where
  w0    : Nat
  bins  : List (Nat × Nat)
  shots : Nat
  fill  : Nat
  deriving DecidableEq, Repr

/-- A check of an excitation source (R434, Table 13.4): the EXC_I it drives, the current it delivers in nA, and whether it
reaches its compliance. -/
structure ExcReading where
  excI  : Nat
  nA    : Nat
  limit : Bool
  deriving DecidableEq, Repr

/-- What dress rehearsal finds at its numbered steps (Table 13.3). -/
structure RehearsalObs where
  clocksLock : Bool
  linkA      : Bool
  linkB      : Bool
  flymanOk   : Bool
  sramOk     : Bool
  conv       : List (ConvCodes × ConvCodes)   -- lead, understudy: measurement and repeat
  breakdown  : List Nat × List Nat            -- search and repeat: SPADs that fired at each step
  tj2        : Int                            -- hotspot 2, 1/16 °C
  auxOffset  : List (Int × Int)               -- per range: offset and repeat, millionths of the range
  excitation : List ExcReading                -- per source
  hotCounts  : List (Nat × List Nat)          -- channel, avalanche counts of its 16 SPADs in 10 ms
  skew       : List (Nat × Arrival × Arrival) -- channel, its work-light measurement and repeat
  readbackOk : Bool
  loopback   : List Nat                       -- lanes whose loop-back failed
  deriving DecidableEq, Repr

/-- A capability record received in EXCHANGE (Table 11.3). -/
structure Caps where
  verHi   : Nat
  verLo   : Nat
  rates   : Nat
  role    : Nat
  lane    : Nat
  fwd     : Bool
  timeSrc : Bool
  retLim  : Nat
  credits : List Nat
  linkId  : W32
  deriving DecidableEq, Repr

/-- What a receiver in BASE has seen (R381, R384): the run of valid sync headers, the run of TRAIN blocks, and whether
they carried READY. -/
structure TrainSeen where
  headers : Nat
  trains  : Nat
  ready   : Bool
  deriving DecidableEq, Repr

/-- What the receiver saw over the time for which R386 judges a lock. -/
structure LockObs where
  aligned   : Bool
  locked    : Bool
  invalid   : Nat
  uncorrectable : Nat
  corrected : Nat
  symbols   : Nat
  deriving DecidableEq, Repr

/-- A lane and what its receiver saw while its lock was judged. -/
structure LaneLock where
  lane : Nat
  seen : LockObs
  deriving DecidableEq, Repr

/-- Codewords of a PAM4 lane within 1 ms (R387): the uncorrectable ones, and those with corrected symbols. -/
structure Codewords where
  uncorrectable : Nat
  corrected     : Nat
  deriving DecidableEq, Repr

/-- How long a rail has lain at a level, in ticks, and the level in mV: the one nearest its nominal value over that time where
the rail has left a range, the one furthest from it where it has come back (R446, R496). -/
structure Sag where
  ticks : Nat
  mv    : Nat
  deriving DecidableEq, Repr

/-- When VDD_CORE is looked at, and the lowest level it has had over the last microsecond, in mV (R447). -/
structure CoreLevel where
  t      : Nat
  lowest : Nat
  deriving DecidableEq, Repr

/-- The HCRC byte of a house-port transaction, and whether HP_CS_N rises before the transaction has taken effect (R514): before
a read's turnaround ends, before a write's second turnaround clock ends. -/
structure PortHead where
  crc : Byte
  cut : Bool
  deriving DecidableEq, Repr

/-- When lock is lost, and the channel whose clock gate loses it; none where the TPLL does (R99). -/
structure LockLoss where
  t    : Nat
  gate : Option Nat
  deriving DecidableEq, Repr

/-- A frame that holds a segment of a longer message (R393, R394): its VC, on VC5 its SRC and inner VC, its SEG, and its
LEN. -/
structure Segment where
  vc    : Nat
  src   : Nat
  inner : Nat
  seg   : Nat
  len   : Nat
  deriving DecidableEq, Repr

/-- What a receiver discards (R392 to R394): a control block, a frame, or what a segment finds out of order. -/
inductive BadIn where
  | block
  | frame
  | segment (x : Segment)
  deriving DecidableEq, Repr


/-- A route header of VC5 (R395). -/
structure Route where
  dest     : Nat
  src      : Nat
  epoch    : Nat
  innerVc  : Nat
  innerType : Nat
  hops     : Nat
  deriving DecidableEq, Repr

/-- A completion record as a guest sends it (Table 7.8). -/
structure CueEnd where
  handle    : Nat
  status    : Nat
  reason    : Nat
  worst     : Nat
  flags     : Nat
  players   : Nat
  points    : Nat
  returns   : Nat
  noreturns : Nat
  refused   : Nat
  deriving DecidableEq, Repr

inductive Instr where
  | registerWrite (t : Nat) (path : Path) (addr : Nat) (value : W32)
  | readClear (t : Nat) (path : Path) (addr : Nat)
  | wideReadCapture (t : Nat) (path : Path) (addr : Nat)
  | powerOnReset (t : Nat)
  | supplyReset (t : Nat) (rail : Rail) (below : Sag)
  | resetNAssert (t : Nat) (low : Nat)
  | resetRelease (t : Nat) (strap : Nat) (held : ReleaseObs) (obs : RehearsalObs)
  | dressRehearsalEnd (t : Nat)
  | resetHeldTimeout (t : Nat) (ms : Nat)
  | softwareReset (t : Nat) (path : Path) (value : W32)
  | laneReset (t : Nat) (lane : Nat) (zlVer : Nat) (serial : W32)
  | referenceWindow (t : Nat) (sysclk : Bool) (edges : Nat)
  | referenceLoss (t : Nat) (edges : Nat)
  | clockCheck (t : Nat) (companion : Nat) (flyman : Nat)
  | modeReqShow (t : Nat) (path : Path)
  | modeReqStandby (t : Nat) (path : Path)
  | modeReqDark (t : Nat) (path : Path)
  | enterShow (t : Nat)
  | wakeHousePort (t : Nat) (low : Nat)
  | wakeSafetyInput (t : Nat) (persist : Nat)
  | wakeTimer (t : Nat)
  | holdExpiry (t : Nat)
  | emitterCloseStart (t : Nat) (in30a in31a in30b in31b in30c : Nat)
  | emitterReadbackSample (t : Nat) (in30 in31 : Nat)
  | switchFault (t : Nat)
  | doorChallenge (t : Nat) (path : Path) (scope : Nat)
  | doorUnlockKey (t : Nat) (path : Path) (readback : Bool)
  | doorUnlockPw (t : Nat) (path : Path) (readback : Bool)
  | doorClose (t : Nat) (path : Path)
  | doorProgSlot (t : Nat) (path : Path) (slot : Nat) (readback : Bool)
  | doorRevoke (t : Nat) (path : Path) (slot : Nat) (readback : Bool)
  | doorRetire (t : Nat) (path : Path) (readback : Bool)
  | challengeExpiry (t : Nat)
  | doorWaitExpiry (t : Nat)
  | loadWindowWrite (t : Nat) (path : Path) (offset : Nat) (value : W32)
  | imageGo (t : Nat) (path : Path)
  | imageAbort (t : Nat) (path : Path)
  | patchCancel (t : Nat) (path : Path)
  | imageChecksEnd (t : Nat)
  | bootFetchDone (t : Nat) (copy : Nat) (single : Bool) (bytes : List Byte)
  | laneImage (t : Nat) (lane : Nat) (offset : Nat) (bytes : List Byte)
  | calRunTap (t : Nat) (path : Path)
  | calRunConv (t : Nat) (path : Path)
  | calRunSkew (t : Nat) (path : Path)
  | calRunBd (t : Nat) (path : Path)
  | codeDensityRunEnd (t : Nat) (counts : List Nat)
  | breakdownSearchEnd (t : Nat) (fired : List Nat)
  | calEntryComplete (t : Nat) (entry : Nat)
  | edelayRemeasure (t : Nat) (batten : Nat)
  | tapRecalTrigger (t : Nat)
  | biasTargetUpdate (t : Nat)
  | eyeMonitor (t : Nat) (lane : Nat) (width height : List Nat)
  | sliceStart (t : Nat) (kind inst : Nat)
  | sliceEnd (t : Nat) (kind : Nat) (readings : List Nat) (pass : Bool) (codes : Option ConvCodes)
  | slicePreempt (t : Nat) (kind : Nat)
  | sliceStarved (t : Nat) (kind inst : Nat)
  | slotBoundary (t : Nat)
  | shotStart (t : Nat) (batten : Nat)      -- 64 + n names segment n of the work light
  | listenOpen (t : Nat) (channel : Nat) (interval : Interval)
  | spadEvent (t : Nat) (channel : Nat) (spad : Nat) (sub : Nat)
  | ringHoldEnd (t : Nat) (channel : Nat)
  | blankIntervalEnd (t : Nat) (channel : Nat)
  | shotTimeout (t : Nat) (channel : Nat)
  | tpllUnlock (loss : LockLoss)
  | biasOkFall (t : Nat)
  | rxCntSelWrite (t : Nat) (path : Path) (value : W32)
  | phLockRise (t : Nat) (good : Nat)
  | phLockFall (t : Nat) (bad : Nat)
  | pulseSenseReady (t : Nat) (batten : Nat) (peak : Nat) (integral : Nat)
  | offTimeSample (t : Nat) (samples : List (Nat × Nat))
  | govBucketAdvance (t : Nat) (window : Nat)
  | driveLevelUpdate (t : Nat) (group : Nat)
  | batCsClr (t : Nat) (path : Path)
  | batSwClr (t : Nat) (path : Path)
  | batGovClr (t : Nat) (path : Path)
  | shotResultAccumulate (t : Nat) (channel : Nat)
  | filterStart (t : Nat)
  | filterDone (t : Nat) (engine : Nat)
  | feStopSet (t : Nat) (path : Path) (engine : Nat)
  | feStopClear (t : Nat) (path : Path) (engine : Nat)
  | filterEngineStopped (t : Nat) (engine : Nat)
  | ftaGateClose (t : Nat)
  | ftaFitDone (t : Nat)
  | cueSubmit (t : Nat) (path : Path)
  | cueSubmitTemplate (t : Nat) (path : Path) (idx : Nat)
  | admissionDecision (t : Nat)
  | laneCue (t : Nat) (lane : Nat) (rec : CueRec)
  | laneCalendar (t : Nat) (lane : Nat) (bytes : List Byte)
  | unpackDone (t : Nat)
  | cueAbort (t : Nat) (path : Path) (handle : Nat)
  | laneAbort (t : Nat) (lane : Nat) (handle : Nat)
  | calendarAdvance (t : Nat)
  | triggerSample (t : Nat)
  | triggerTimeout (t : Nat) (unit : Nat)
  | triggerSoftware (t : Nat) (path : Path) (unit : Nat)
  | capacityMeasure (t : Nat) (resource : Nat) (rate : Nat)
  | promiseConditionClear (t : Nat) (code : Nat)
  | calendarSelect (t : Nat) (path : Path) (group : Nat)
  | cueSelect (t : Nat) (path : Path) (index : Nat)
  | loopPeriod (t : Nat) (pos : Nat) (missed : Bool)
  | sceneProgramStart (t : Nat)
  | fsHold (t : Nat) (path : Path)
  | fsRelease (t : Nat) (path : Path)
  | fsRunSet (t : Nat) (path : Path)
  | fsRunClear (t : Nat) (path : Path)
  | fsFeClr (t : Nat) (path : Path)
  | safetyBoundary (t : Nat) (mainOk flyOk : Bool)
  | permitMessage (t : Nat) (period : Nat) (valid : Bool)
  | permitTimeout (t : Nat)
  | curtainRaise (t : Nat) (a1 b1 a2 b2 : PinRead)
  | testPulse (t : Nat) (output : Nat) (at150 at250 : PinRead) (interrupted : Bool)
  | safeOutputOvercurrent (t : Nat) (output : Nat) (milliamps : Nat) (lasted : Nat)
  | safetyInputSample (t : Nat) (levels : List Bool)
  | sinDiscrepancy (t : Nat) (input : Nat)
  | sirelCommand (t : Nat) (lane : Nat) (frame : List Byte)
  | sirelPrepare (t : Nat) (lane : Nat) (frame : List Byte)
  | sirelConfirm (t : Nat) (lane : Nat) (frame : List Byte) (readback : Bool)
  | sirelTimeout (t : Nat)
  | commissionWindowExpiry (t : Nat)
  | d2dMessage (t : Nat) (link : Link) (idle : Bool) (valid : Bool) (seq : Nat)
  | d2dLinkLost (t : Nat) (link : Link)
  | d2dLinkTimeout (t : Nat) (link : Link)
  | d2dLinkUp (t : Nat) (link : Link)
  | wqFlush (t : Nat) (path : Path) (queue : Nat)
  | wqMark (t : Nat) (path : Path) (queue : Nat)
  | wqClearMark (t : Nat) (path : Path) (queue : Nat)
  | wqRewind (t : Nat) (path : Path) (queue : Nat)
  | wqRelease (t : Nat) (path : Path) (queue : Nat) (n : Nat)
  | wqRead (t : Nat) (path : Path) (queue : Nat)
  | wqDone (t : Nat) (path : Path) (queue : Nat)
  | wqResync (t : Nat) (path : Path)
  | pinnedCommandResume (t : Nat) (queue : Nat)
  | packerGroupStart (t : Nat) (lane : Nat) (contextOk : Bool) (verifyOk : Bool)
  | readComplete (t : Nat) (lane : Nat)
  | laneLeaveOff (t : Nat) (lane : Nat)
  | laneDetectProbe (t : Nat) (lane : Nat) (found : Bool)
  | laneBaseLock (t : Nat) (lane : Nat) (seen : TrainSeen) (inverted : Bool) (index : Nat)
  | laneBaseTimeout (t : Nat) (lane : Nat)
  | laneCaps (t : Nat) (lane : Nat) (caps : Caps) (acked : Bool)
  | laneExchangeTimeout (t : Nat) (lane : Nat)
  | laneRateAccept (t : Nat) (lock : LaneLock)
  | laneRateTimeout (t : Nat) (lane : Nat)
  | laneDelayDone (t : Nat) (lane : Nat)
  | laneRetrain (t : Nat) (path : Path) (lane : Nat)
  | laneRetry (t : Nat) (path : Path) (lane : Nat)
  | laneDisable (t : Nat) (path : Path) (lane : Nat)
  | laneSignalLoss (t : Nat) (lane : Nat) (lasted : Nat)
  | laneTerminationChange (t : Nat) (lane : Nat)
  | blockLockLoss (t : Nat) (lane : Nat) (invalid : Nat)
  | fecUncLimit (t : Nat) (lane : Nat) (words : Codewords)
  | retrainLock (t : Nat) (lock : LaneLock)
  | retrainTimeout (t : Nat) (lane : Nat)
  | laneBadFrame (t : Nat) (lane : Nat) (what : BadIn)
  | laneCredit (t : Nat) (lane : Nat) (vc : Nat) (count : Nat) (afseq : Nat) (ack nak : Bool)
  | replayTimeout (t : Nat) (lane : Nat)
  | laneRead (t : Nat) (lane : Nat) (addr : Nat) (words : Nat)
  | laneWrite (t : Nat) (lane : Nat) (addr : Nat) (words : List W32)
  | laneQcmd (t : Nat) (lane : Nat) (cmd : W32) (arg : W32)
  | laneTopoUp (t : Nat) (lane : Nat) (size : Nat)
  | laneAddr (t : Nat) (lane : Nat) (addr : Nat) (epoch : Nat) (hostVer : Nat) (depth : Nat)
  | laneRouted (t : Nat) (lane : Nat) (route : Route) (payload : List Byte)
  | laneChildFrame (t : Nat) (lane : Nat) (vc : Nat) (type : Nat) (payload : List Byte)
  | laneDecision (t : Nat) (lane : Nat) (res : W32) (start : Nat) (peak : Nat)
  | laneCueEnd (t : Nat) (lane : Nat) (rec : CueEnd)
  | timeSync (t : Nat) (lane : Nat) (t1 : Int)
  | timeDreq (t : Nat) (lane : Nat) (t3 : Int)
  | timeDrsp (t : Nat) (lane : Nat) (t4 : Int)
  | syncSend (t : Nat)
  | cueBusWord (t : Nat) (window : Nat) (code : Nat) (parity : Bool) (pos : Nat)
  | hkConversion (t : Nat) (conv : Nat) (input : Nat) (code : Nat) (ovr : Bool) (more : Bool)
  | hkUrgentRequest (t : Nat) (path : Path) (input : Nat)
  | auxSample (t : Nat) (code : Int) (ovr : Bool) (current : List Nat) (compliance : List Bool)
  | auxMeasurementEnd (t : Nat)
  | loopUpdate (t : Nat) (code : Nat)
  | loopFaultClear (t : Nat) (path : Path)
  | thermalStep (t : Nat)
  | thermalShutdownClear (t : Nat) (path : Path)
  | supplyWarningEnter (t : Nat) (rail : Rail) (level : Sag)
  | supplyWarningLeave (t : Nat) (rail : Rail) (level : Sag)
  | droopFall (t : Nat) (millivolts : Nat)
  | droopRaise (level : CoreLevel)
  | hpRead (t : Nat) (cmd : Byte) (addr : Nat) (head : PortHead)
  | hpWrite (t : Nat) (cmd : Byte) (addr : Nat) (head : PortHead) (data : List W32) (dcrc : BitVec 16)
  | hpRepeat (t : Nat) (cmd : Byte) (addr : Nat) (head : PortHead)
  | hpInvalidOp (t : Nat) (cmd : Byte) (addr : Nat) (hcrc : Byte)
  | hpCsRise (t : Nat)
  | safeOutputReadbackSample (t : Nat) (output : Nat) (pins : PinRead)
  | ghostLightSinChange (t : Nat) (channel : Nat) (high : Bool)
  | tickLockRise (t : Nat)
  | biasOkRise (t : Nat)
  deriving DecidableEq, Repr

end Sys2Proof
end

