-- ==== Sys2Proof/Machine/ImageTypes.lean ====
section
/-! DEFINITION. The records of a blocking image (chapter "The blocking image", Tables 2.1 to 2.9 and R43 to R58) and
of its safety parameter block (R333), as plain data. -/

namespace Sys2Proof.Machine

/-- Node kinds of Table 2.5 keep their numbers: 0 ensemble, 1 ranging channel, 2 reference channel, 3 batten,
4 auxiliary input, 5 housekeeping input, 6 follow spot, 7 guest ensemble. -/
structure NodeRec where
  kind  : Nat
  index : Nat
  first : Nat
  deriving DecidableEq, Repr

/-- A channel-map entry (R45). -/
structure ChEntry where
  batten : Nat
  enable : Bool
  fly    : Bool
  deriving DecidableEq, Repr

/-- A batten record (Table 2.6). -/
structure BatRec where
  enable  : Bool
  ref     : Nat
  width   : Nat
  floor   : Nat
  pwrCoef : Nat
  delay   : Int
  wlTc    : Int
  knee    : Int
  govSet  : Nat
  deriving DecidableEq, Repr

/-- A governor limit set (R47): short, middle and long window. -/
structure GovSet where
  short  : Nat
  middle : Nat
  long   : Nat
  deriving DecidableEq, Repr

/-- An act profile (Table 2.7). -/
structure ActProfile where
  shots1     : Nat
  phaseReps  : Nat
  maxCand    : Nat
  fset       : Nat
  coincK     : Nat
  coincWin   : Nat
  apHold     : Nat
  ringHold   : Nat
  gateStart  : Nat
  gateLen    : Nat
  preshowOfs : Int
  preshowLen : Nat
  candThr    : Nat
  deriving DecidableEq, Repr

/-- A filter coefficient set (R49, R174): coefficients are signed with 18 fraction bits. -/
structure FilterSet where
  setId : Nat
  coefs : List Int
  deriving DecidableEq, Repr

/-- The rejection parameters (R50). -/
structure RejParams where
  ambWeight : Nat
  nfRange   : Nat
  nfDepth   : Nat
  nfTol     : Nat
  codeEn    : Bool
  ftaTrains : Nat
  ftaGate   : Nat
  ftaMin    : Nat
  ftaResid  : Nat
  ftaBlank  : Nat
  codeSeed  : W32
  slotPhase : Nat
  deriving DecidableEq, Repr

/-- A scene-profile record (Table 2.8). -/
structure SceneProfile where
  shape   : Nat
  rate    : Nat
  azStart : Nat
  azEnd   : Nat
  flyback : Nat
  stare   : Nat
  comp    : Nat
  deriving DecidableEq, Repr

/-- A step of the scene program. -/
structure SceneStep where
  profile : Nat
  reps : Nat
  deriving DecidableEq, Repr

/-- The scene program (R51). -/
structure SceneProgram where
  profiles : List SceneProfile
  steps    : List SceneStep
  deriving DecidableEq, Repr

/-- A trigger pattern record (R53). -/
structure Pattern where
  patId : Nat
  node  : Nat
  codes : List Nat
  deriving DecidableEq, Repr

/-- A trigger mask record (R53). -/
structure MaskRec where
  maskId : Nat
  type   : Nat
  lo     : List Nat
  hi     : List Nat
  deriving DecidableEq, Repr

/-- The trigger section. -/
structure TriggerSect where
  patterns : List Pattern
  masks    : List MaskRec
  deriving DecidableEq, Repr

/-- A queue record of the wings graph (Table 2.9). -/
structure QueueRec where
  queue    : Nat
  maxItem  : Nat
  consumer : Nat
  quota    : Nat
  pack     : Nat
  context  : Nat
  producer : Nat
  slane    : Nat
  deriving DecidableEq, Repr

/-- A lane-plan record (R56). -/
structure LanePlan where
  enable    : Bool
  rates     : Nat
  verMin    : Nat
  creditLim : Nat
  vcCredits : List Nat
  deriving DecidableEq, Repr

/-- A housekeeping input record (R57). -/
structure HkInput where
  conv     : Nat
  accShift : Nat
  period   : Nat
  disagree : Nat
  deriving DecidableEq, Repr

/-- An auxiliary input record (R57). -/
structure AuxInput where
  exc    : Nat
  excI   : Nat
  wiring : Nat
  notch  : Nat
  range  : Nat
  deriving DecidableEq, Repr

/-- The loop record (R57, R438): QTY and INDEX of SOURCE, and the raw 16-bit LOW and HIGH. -/
structure LoopRec where
  qty   : Nat
  index : Nat
  low   : Nat
  high  : Nat
  deriving DecidableEq, Repr

/-- The housekeeping plan (R57). -/
structure HkPlan where
  inputs : List HkInput
  aux    : List AuxInput
  loop   : LoopRec
  deriving DecidableEq, Repr

/-- A SIN_CFG entry (Table 9.5): ROLE 0 unused, 1 guard, 2 emergency stop, 3 reset. -/
structure SinCfg where
  role : Nat
  mode : Nat
  disc : Nat
  filt : Nat
  deriving DecidableEq, Repr

/-- A reference record of the safety block (R333). -/
structure RefRec where
  lpOfs  : Int
  refNom : Nat
  deriving DecidableEq, Repr

/-- A spike record (Table 9.13). -/
structure SpikeRec where
  spikeId : Nat
  funcs   : Nat
  dir     : Nat
  lostMax : Nat
  near    : Nat
  far     : Nat
  ampMin  : Nat
  flyMin  : Nat
  posLo   : Int
  posHi   : Int
  slsMax  : Int
  sdiTol  : Int
  look    : Int
  mainCh  : List Nat
  flyCh   : List Nat
  deriving DecidableEq, Repr

/-- An entry of a protective field (Table 9.14). -/
structure FieldEntry where
  channel : Nat
  near    : Nat
  far     : Nat
  bgFar   : Nat
  deriving DecidableEq, Repr

/-- A field record (Table 9.14). -/
structure FieldRec where
  fieldId  : Nat
  persist  : Nat
  bg       : Bool
  flyHits  : Nat
  azLo     : Nat
  azHi     : Nat
  spikeSel : Nat
  actLo    : Int
  actHi    : Int
  entries  : List FieldEntry
  deriving DecidableEq, Repr

/-- The safety parameter block (R58, R333) with its CRC-32C. -/
structure SafetyBlock where
  devId      : Nat
  peerId     : Nat
  timeExp    : Nat
  tpInterval : Nat
  restart    : Nat
  xchkN      : Nat
  xtol       : Int
  sin        : List SinCfg
  refs       : List RefRec
  spikes     : List SpikeRec
  fields     : List FieldRec
  crc        : Nat
  deriving DecidableEq, Repr

/-- A full image as the working tables hold it once it is active (R66). -/
structure Image where
  format    : Nat
  serial    : Nat
  workSize  : Nat
  toolVer   : Nat
  nodes     : List NodeRec
  members   : List Nat
  channels  : List ChEntry
  battens   : List BatRec
  gov       : List GovSet
  profiles  : List ActProfile
  fsets     : List FilterSet
  rej       : RejParams
  scene     : SceneProgram
  templates : List CueRec
  triggers  : TriggerSect
  queues    : List QueueRec
  lanes     : List LanePlan
  hk        : HkPlan
  safety    : SafetyBlock
  deriving DecidableEq, Repr

/-- The sections a patch image may carry (Table 2.3, column "Patch image"). -/
structure Patch where
  profiles  : Option (List ActProfile)
  fsets     : Option (List FilterSet)
  rej       : Option RejParams
  scene     : Option SceneProgram
  templates : Option (List CueRec)
  triggers  : Option TriggerSect
  hk        : Option HkPlan
  deriving DecidableEq, Repr

end Sys2Proof.Machine
end

