-- ==== Sys2Proof/Machine/State.lean ====
section
/-! DEFINITION. The state of the block, as plain data: every register, queue, buffer, counter, mode and pin the
manual gives it, and the queue of waiting commands. The default of each field is its value right after reset (the value
of its register table, or a value named in notes/assumptions). A configuration register that software writes whole is
kept as its 32-bit word; a live status field is kept under its own name and put together when it is read. -/

namespace Sys2Proof.Machine

/-- A sparse table keyed by number: an unlisted key reads as the default that its accessor names. -/
abbrev Tab (α : Type) := List (Nat × α)

/-- Addressed byte storage in canonical form (`Memory.wf`): an unlisted address reads as 0. -/
abbrev Memory := List Host.Cell

/-! ### Call board and bus (chapter 15) -/

/-- The call board page (Table 15.6). -/
structure CallBoard where
  event      : W32 := 0
  mask       : W32 := 0
  firstValid : Bool := false
  first      : Nat := 0
  violAddr   : W32 := 0
  violCount  : Nat := 0
  violPath   : Nat := 0
  violKind   : Nat := 0
  hpCfg      : W32 := 8
  hpErr      : Nat := 0
  bootSingle : Bool := false
  bootCopy   : Nat := 0
  strap      : Nat := 0
  deriving DecidableEq, Repr

/-- The house port: the open transaction, the answer on the wires, the stored response (R513), and the shadows of
R10 by register address. -/
structure Port where
  inTransaction : Bool := false
  status        : Nat := 0
  data          : List W32 := []
  dcrc          : BitVec 16 := 0
  stored        : Option (Nat × List W32 × BitVec 16) := none
  shadow        : Tab W32 := []
  deriving DecidableEq, Repr

/-- What came in the running core clock cycle (R9): the RC counters as they stood at its start, by register address, and the
W1C bits that were set in it. -/
structure Recent where
  cycle    : Nat := 0
  counts   : Tab Nat := []
  events   : W32 := 0
  trig     : BitVec 64 := 0
  warn     : BitVec 7 := 0
  bothLost : Bool := false
  cut      : List Nat := []
  /-- what each RC register that keeps a least or a greatest value has been given in it, by register address -/
  values   : Tab (List Int) := []
  deriving DecidableEq, Repr

/-! ### Die-to-die links (R15 to R19) -/

structure D2dLink where
  up        : Bool := false
  crcRun    : Nat := 0
  idleRun   : Nat := 0
  crcErr    : Nat := 0
  lastValid : Nat := 0
  deriving DecidableEq, Repr

structure D2d where
  a        : D2dLink := {}
  b        : D2dLink := {}
  bothLost : Bool := false
  /-- sequence numbers accepted from one link whose second copy has not come (R15), and how many messages were accepted -/
  got      : List Nat := []
  accepted : Nat := 0
  deriving DecidableEq, Repr

/-! ### Power, reset, lifecycle, stage door (chapter 14) -/

/-- The power modes of Table 14.1; reset overrides every mode (R476). -/
inductive Mode where
  | dark | standby | show
  deriving DecidableEq, Repr

/-- The lifecycle states held in OTP (Table 14.6); Field-Opened is the ghost light's. -/
inductive Lifecycle where
  | opened | locked | retired
  deriving DecidableEq, Repr

/-- An OTP key-hash slot (R41). `spent` marks bits lost to a failed readback (R503). -/
structure KeySlot where
  hash    : Option Nat := none
  revoked : Bool := false
  spent   : Bool := false
  /-- the bits of the revoke mark are lost to a failed readback -/
  revokeSpent : Bool := false
  deriving DecidableEq, Repr

/-- An OTP commissioning slot (chapter 9, "Commissioning"). -/
structure CommSlot where
  crc       : Nat
  serial    : Nat
  confirmed : Bool
  deriving DecidableEq, Repr

/-- OTP contents. The values after reset are the model's (notes/assumptions/3.md). -/
structure Otp where
  uid       : BitVec 64 := 0
  lifecycle : Lifecycle := .locked
  keys      : Tab KeySlot := []
  comm      : Tab CommSlot := []
  devKey    : Option Nat := none
  password  : Option Nat := none
  /-- the bits of Retired are lost to a failed readback -/
  retireSpent : Bool := false
  vbd       : Int := 0
  tc        : Int := 0
  gDelay    : Tab Int := []
  pipe      : Tab Int := []
  deriving DecidableEq, Repr

/-- What the always-on ghost light holds (R480, Tables 14.7 and 14.8). -/
structure GhostLight where
  fieldOpened : Bool := false
  wake        : W32 := 3
  resets      : Nat := 0
  held        : Bool := false
  src         : BitVec 8 := 1
  cause       : Nat := 1
  heldMs      : Nat := 0
  fails       : Nat := 0
  sinChanges  : Nat := 0
  sinLevel    : BitVec 8 := 0
  refSys      : Bool := false
  darkSince   : Nat := 0
  /-- device time of the last power-on reset -/
  onAt        : Nat := 0
  deriving DecidableEq, Repr

/-- The stage door (R500 to R505). -/
structure Door where
  ctrl       : W32 := 0
  result     : Nat := 0
  /-- the door refuses until this time (R501) -/
  waitUntil  : Nat := 40000000000
  chal       : List Byte := []
  chalScope  : Nat := 0
  chalAt     : Option Nat := none
  resp       : Tab W32 := []
  data       : Tab W32 := []
  scope      : Nat := 0
  zeroised   : Bool := false
  /-- the key and password shadows are cleared and their fuses closed to reads (R502) -/
  closed     : Bool := false
  deriving DecidableEq, Repr

structure Power where
  mode       : Mode := .standby
  inReset    : Bool := false
  /-- earliest release the ended sources allow (Table 14.4) -/
  holdUntil  : Nat := 0
  rstnLow    : Bool := false
  rstnSince  : Nat := 0
  /-- the assertion in progress has set HELD (R490) -/
  heldNow    : Bool := false
  releasedAt : Nat := 0
  refuse     : Nat := 0
  cpll       : Bool := false
  tpll       : Bool := false
  companion  : Bool := false
  sysTried   : Bool := false
  xtalGood   : Nat := 0
  refValid   : Bool := false
  showPend   : Bool := false
  /-- timebase µs of the group at which a scheduled entry to Show falls (R478) -/
  showAt     : Option Nat := none
  /-- device time at which an accepted lane-commanded reset begins (R494) -/
  resetAt    : Option Nat := none
  deriving DecidableEq, Repr

/-! ### The blocking image loader (chapter 2) -/

/-- A load being checked: its kind, its bytes as staged, and where it came from (PK_UNP_STAT.SRC codes). -/
structure LoadJob where
  patch : Bool
  bytes : List Byte
  /-- the bytes of the staging area that complete the last word (R60) -/
  after : List Byte := []
  src   : Nat
  copy  : Nat
  /-- the code of check 1 as it stood at GO; 0 when it passed (R63) -/
  first : Nat := 0
  deriving DecidableEq, Repr

/-- A pending patch: its sections, and whether the patch-class ones have applied (R67, R68). -/
structure PendingPatch where
  patch   : Patch
  applied : Bool
  deriving DecidableEq, Repr

structure Loader where
  kind       : Bool := false
  page       : Bool := false
  full       : Memory := []
  patchArea  : Memory := []
  stagedLen  : Nat := 0
  expanded   : List Byte := []
  errSect    : Nat := 0
  errCode    : Nat := 0
  feWait     : BitVec 8 := 0
  auth       : Bool := false
  keySlot    : Option Nat := none
  active     : Option Image := none
  pending    : Option PendingPatch := none
  load       : Option LoadJob := none
  /-- when a patch last applied at a scene change (R69) -/
  sceneAt    : Option Nat := none
  /-- boot-flash copy being fetched: 1 primary, 2 secondary -/
  fetching   : Option Nat := none
  /-- the image on VC0 that BOOT_SRC 10 waits for (R59) -/
  waitLane   : Bool := false
  deriving DecidableEq, Repr

/-! ### Receive channels (chapter 3) -/

/-- The shot a channel is running: its start tick, its batten, the listening rules in force, and what the coincidence
detector and the result word hold so far. -/
structure Shot where
  batten    : Nat
  handle    : Nat
  act       : Nat
  idx       : Nat
  phase     : Nat
  coarse    : Bool
  launched  : Bool
  workLight : Bool
  safetyCls : Bool
  /-- device tick and timebase tick of its start -/
  start     : Nat
  startTb   : Nat
  preOfs    : Int
  preLen    : Nat
  k         : Nat
  win       : Nat
  hold      : Nat
  apHold    : Nat
  segs      : List (Nat × Nat)
  blanks    : List (Int × Int)
  interval  : Option Interval
  detector  : List (Nat × Nat)
  preCnt    : Nat
  wref      : Bool
  deriving DecidableEq, Repr

/-- A finished shot with its result word (Table 3.3), waiting for its histogram engine. -/
structure ShotResult where
  word      : W32
  batten    : Nat
  handle    : Nat
  act       : Nat
  idx       : Nat
  phase     : Nat
  coarse    : Bool
  launched  : Bool
  workLight : Bool
  safetyCls : Bool
  start     : Nat
  blanked   : List (Int × Int)
  deriving DecidableEq, Repr

structure Channel where
  cutSeen : Bool := false
  /-- per SPAD, the time in LSB of 1/1,024 tick until which it is blind (R76) -/
  blind   : Tab Nat := []
  /-- AP_HOLD of the channel's latest shot -/
  apHold  : Nat := 0
  /-- shots, by batten and timebase start tick, that ended before their start (R97, R99) -/
  early   : List (Nat × Nat) := []
  /-- the channel's clock gate has lost lock (R99) -/
  gateLost : Bool := false
  shot    : Option Shot := none
  results : List ShotResult := []
  deriving DecidableEq, Repr

structure Rx where
  cfg       : W32 := 0x001E0014
  refCfg    : W32 := 0x00400804
  cntSel    : W32 := 0x80000000
  biasOk    : Bool := false
  tickLock  : Bool := false
  cntStop   : Nat := 0
  cntNoret  : Nat := 0
  cntCut    : Nat := 0
  cntVoid   : Nat := 0
  cntWref   : Nat := 0
  cntPre    : Nat := 0
  mask      : Tab (BitVec 16) := []
  /-- the bits dress rehearsal set, which stay until the next reset (R77) -/
  hot       : Tab (BitVec 16) := []
  chan      : Tab Channel := []
  deriving DecidableEq, Repr

/-! ### Battens (chapter 4) -/

/-- What a booked shot place holds: who fires, for which cue and which shot of which point. -/
structure Place where
  batten  : Nat
  handle  : Nat
  cls     : Nat
  kind    : Nat
  occ     : Nat
  point   : Nat
  act     : Nat
  idx     : Nat
  reserve : Bool
  deriving DecidableEq, Repr

structure Batten where
  level     : Nat := 0
  peak      : Nat := 0
  wlOob     : Bool := false
  derated   : Bool := false
  short     : Bool := false
  overCur   : Bool := false
  opened    : Bool := false
  /-- consecutive low peaks and consecutive leaking off-time samples -/
  lowRun    : Nat := 0
  leakRun   : Nat := 0
  nextLevel : Nat := 0
  nextDer   : Bool := false
  ringS     : List Nat := []
  ringM     : List Nat := []
  ringL     : List Nat := []
  /-- the fault found since the last slot boundary has not taken effect yet (R132) -/
  faultWait : Bool := false
  /-- start ticks of the batten's shots in the last 64 slots, newest first, with their slot numbers -/
  starts    : List (Nat × Nat) := []
  /-- temperature when the emission delay was last judged, and when (R459) -/
  edAt      : Option Nat := none
  edTemp    : Int := 0
  deriving DecidableEq, Repr

/-- A fire edge that launched: its batten, device tick, and the emission-only cue it fires for. -/
structure Fired where
  batten : Nat
  time   : Nat
  cue    : Option Nat
  /-- fine phase of the edge, and WIDTH of the gate pulse in 62.5 ps (R113, R124) -/
  phase  : Nat := 0
  width  : Nat := 0
  deriving DecidableEq, Repr

/-- A closing sequence of the emitter-supply switches (Table 4.5): device tick of step 1, and what inputs 30 and 31 read
for step 2 and input 30 for step 4. -/
structure Closing where
  since : Nat
  low30 : Nat
  low31 : Nat
  top30 : Nat
  deriving DecidableEq, Repr

structure Bat where
  slotCfg   : W32 := 0x00003E80
  driveCfg  : W32 := 0xFF2800C0
  tsrc      : W32 := 0x88888888
  csCfg     : W32 := 0x0332C80A
  hold      : Bool := true
  holdSince : Nat := 0
  short     : Bool := false
  swFault   : Bool := false
  govTrip   : Bool := false
  lsRb      : Bool := false
  hsRb      : Bool := false
  emCmd     : Bool := false
  phLock    : Bool := false
  codeState : W32 := 0
  codeSlot  : W32 := 0
  /-- the code state after the latest slot boundary (BAT_CODE_STATE, R146) -/
  codeShown : W32 := 0
  /-- a new seed or enable waits for the next slot boundary (R116) -/
  codeLoad  : Bool := false
  unlocks   : Nat := 0
  tripMulti : Bool := false
  tripWin   : Nat := 0
  tripBat   : Nat := 0
  /-- device tick of the update that tripped the governor (R136) -/
  tripAt    : Nat := 0
  ch        : Tab Batten := []
  /-- slot origin tick (R212) and number of the next boundary -/
  origin    : Nat := 0
  slot      : Nat := 0
  /-- the switches' commands, when they last changed, and since when the readback disagrees -/
  lsCmd     : Bool := false
  hsCmd     : Bool := false
  cmdAt     : Nat := 0
  disagree  : Option Nat := none
  /-- the closing sequence passed and waits for the next slot boundary (Table 4.5 step 5) -/
  closed    : Bool := false
  closing   : Option Closing := none
  /-- slots whose off-time samples have been taken: the next one (R130) -/
  offSlot   : Nat := 0
  /-- bucket boundaries passed, per window -/
  bucketS   : Nat := 0
  bucketM   : Nat := 0
  bucketL   : Nat := 0
  /-- shots of the issued descriptor that have not started yet, with their start ticks -/
  due       : List (Place × Nat) := []
  /-- fire edges launched whose pulse sense is still to come, oldest first (R122, R129) -/
  fired     : List Fired := []
  deriving DecidableEq, Repr

/-! ### Points (chapters 5 and 6) -/

/-- One act-two window of a frame. -/
structure Window where
  w0      : Nat
  exposed : Nat := 0
  c1      : Nat := 0
  c2      : Nat := 0
  bins    : Tab Nat := []
  screen  : Bool := false
  blank   : Bool := false
  deriving DecidableEq, Repr

/-- A point in progress or forming: its frame (Table 5.4) with its histograms, what it captured at its first shot
(R155), and the rejection figures of the point (Table 6.2). -/
structure Point where
  handle     : Nat
  profileIdx : Nat
  prof       : ActProfile
  fset       : FilterSet
  /-- the set of the profile as each filter engine held it at the first shot (R68, R155) -/
  sets       : List FilterSet := []
  taps       : List Int
  edelay     : Int
  skew       : Int
  ptCfg      : W32
  escCfg     : W32
  rejCfg     : W32
  batten     : Nat
  safetyCls  : Bool
  /-- the occurrence of its cue, whose reserve a rerun takes (R242) -/
  occ        : Nat := 0
  state      : Nat := 1
  bank       : Option Nat := none
  coarse     : Bool := false
  rerun      : Bool := false
  overrun    : Bool := false
  noCand     : Bool := false
  far        : Nat := 0
  shotsDone  : Nat := 0
  noret      : Nat := 0
  cut        : Nat := 0
  void       : Nat := 0
  void2      : Nat := 0
  wref       : Nat := 0
  preshow    : Nat := 0
  ambRate    : Nat := 0
  amb2       : Nat := 0
  h1         : Tab Nat := []
  /-- act-one stops: STOP, timebase tick of the shot's start, and u of R203 -/
  stops1     : List (Nat × Nat × Nat) := []
  zeroStops  : Nat := 0
  n1         : Nat := 0
  nAll       : Nat := 0
  pre1       : Nat := 0
  windows    : List Window := []
  rPre       : Option Rat := none
  rBins      : Option Rat := none
  excl       : List Nat := []
  u          : Tab Nat := []
  stCnt      : Nat := 0
  veto       : Nat := 0
  blanked    : Nat := 0
  azimuth    : Nat := 0
  scene      : Nat := 0
  /-- device tick at which the last shot of the point started -/
  fired      : Option Nat := none
  /-- device tick at which its last act-one shot started -/
  oneFired   : Option Nat := none
  /-- device tick of the fire edge of the latest act-two shot whose result it has taken (R122) -/
  lastTwo    : Option Nat := none
  /-- the filter engine that took it, and the promise conditions, by `condKey`, that were in force since its last shot
  (R246) -/
  engine     : Option Nat := none
  conds      : List Nat := []
  words      : List W32 := []
  deriving DecidableEq, Repr

/-- The per-channel part of the histogram store and of the rejection state that outlives a point. -/
structure HistChan where
  /-- points whose acts run, one per cue -/
  cur       : List Point := []
  forming   : List Point := []
  nextBank  : Nat := 0
  held      : List Nat := []
  /-- escaped points of this channel that wait for their rerun: cue and occurrence, one entry a point (R184) -/
  rerunNext : List (Nat × Nat) := []
  rPrev     : Nat := 0
  /-- the latest point that left the acts: its frame stays as it stood until the next point begins (R168, R215) -/
  ended     : Option Point := none
  /-- history entries written since the history was cleared -/
  nfCount   : Nat := 0
  nfHist    : List (List Nat) := []
  nfProfile : Nat := 0
  deriving DecidableEq, Repr

structure Engine where
  /-- channel and cue of the point being filtered -/
  busy    : Option (Nat × Nat) := none
  stopped : Bool := true
  sets    : List FilterSet := []
  deriving DecidableEq, Repr

structure Hist where
  ptCfg     : W32 := 0x08000118
  escCfg    : W32 := 0x00001810
  /-- the values points use, taken over at scene changes (R190, R191) -/
  ptUse     : W32 := 0x08000118
  escUse    : W32 := 0x00001810
  feStop    : BitVec 8 := 0
  engines   : Tab Engine := []
  /-- points that wait for a filter engine, in order: end of act two, channel, cue -/
  waiting   : List (Nat × Nat × Nat) := []
  cntPoints : Nat := 0
  cntEmpty  : Nat := 0
  cntCoarse : Nat := 0
  cntEsc    : Nat := 0
  cntRerun  : Nat := 0
  cntOver   : Nat := 0
  chan      : Tab HistChan := []
  deriving DecidableEq, Repr

/-! ### Rejection (chapter 6) -/

/-- A foreign train: STATE 0 free, 1 tracked, 2 coasting. `phase` is the predicted arrival in timebase ticks. -/
structure Train where
  state  : Nat := 0
  period : Rat := 0
  phase  : Rat := 0
  stamps : Nat := 0
  resid  : Nat := 0
  fails  : Nat := 0
  mask   : List Nat := []
  deriving DecidableEq, Repr

/-- An analyser gate that holds a stamp, or that has ended and waits for its close: timebase ticks `start` to `stop` − 1, and
its stamps (timebase tick, channel), oldest first (R206). -/
structure Gate where
  start  : Nat
  stop   : Nat
  stamps : List (Nat × Nat) := []
  deriving DecidableEq, Repr

structure Rej where
  cfg       : W32 := 0x06000201
  cfgUse    : W32 := 0x06000201
  cntStamps : Nat := 0
  cntLost   : Nat := 0
  cntVeto   : Nat := 0
  cntSecond : Nat := 0
  cntBlank  : Nat := 0
  trains    : Tab Train := []
  /-- the gates that are held one by one, oldest first (R206) -/
  gates     : List Gate := []
  /-- the first gate not yet closed, of those that no entry of `gates` holds -/
  nextGate  : Nat := 0
  /-- the trains after the fits of each closed gate whose fits have not completed, oldest first (R208) -/
  fits      : List (Tab Train) := []
  phaseUse  : Nat := 0
  deriving DecidableEq, Repr

/-! ### The stage manager (chapter 7) -/

/-- Where a submission came from. -/
inductive Source where
  | port (path : Path)
  | template
  | lane (l : Nat)
  | calendar (l : Nat)
  | trigger (handle : Nat)
  deriving DecidableEq, Repr

structure Submission where
  cue    : CueRec
  source : Source
  deriving DecidableEq, Repr

/-- A guest's part of a split cue (R405): its stage lane, the handle it gave, and what it reported. -/
structure GuestPart where
  lane     : Nat
  handle   : Nat := 0
  accepted : Option Bool := none
  reason   : Nat := 0
  ended    : Bool := false
  /-- PEAK of its DECISION (R407) -/
  peak     : Nat := 0
  deriving DecidableEq, Repr

/-- A calibration entry (Table 13.2). STATE keeps the table's numbers. -/
structure CalEntry where
  state   : Nat := 0
  w0      : Nat := 0
  shots   : Nat := 0
  fill    : Nat := 0
  arrival : Int := 0
  arrFill : Nat × Nat := (0, 0)
  coarse  : List (Option Nat) := []
  perPhase : Tab Nat := []
  bins    : Tab Nat := []
  deriving DecidableEq, Repr

/-- What a housekeeping cue has gathered for one player (Tables 12.2 and 13.5). -/
structure HkSum where
  count  : Nat := 0
  sumA   : Int := 0
  sumB   : Int := 0
  other  : Nat := 0
  lo     : Nat := 0xFFFF
  hi     : Nat := 0
  flags  : Nat := 0
  tFirst : Nat := 0
  tLast  : Nat := 0
  /-- the arrival entry of a batten player (R473) -/
  entry  : CalEntry := {}
  done   : Bool := false
  deriving DecidableEq, Repr

/-- A cue-table entry (R230, R231) with the sums of its completion record (Table 7.8). STATE keeps the numbers of
Table 7.5. -/
structure CueEntry where
  gen       : Nat := 0
  /-- how many cues were accepted before it -/
  order     : Nat := 0
  state     : Nat := 0
  cue       : CueRec
  reason    : Nat := 0
  source    : Source
  players   : List Nat := []
  guests    : List GuestPart := []
  start     : Nat := 0
  /-- occurrences admitted or refused so far, and the start of the next -/
  occ       : Nat := 0
  nextStart : Nat := 0
  /-- points of admitted occurrences that have not been committed or dropped yet, per channel -/
  left      : Tab Nat := []
  reserve   : Tab Nat := []
  status    : Option (Nat × Nat × Nat) := none
  points    : Nat := 0
  returns   : Nat := 0
  noreturns : Nat := 0
  worst     : Nat := 0
  refused   : Nat := 0
  /-- players that took part behind guests, as their CUE_END messages count them (R406) -/
  guestPlayers : Nat := 0
  late      : Bool := false
  abortMet  : Bool := false
  spent     : Bool := false
  /-- housekeeping-cue sums per player node, and the occurrences still to be recorded: node and start in µs -/
  hk        : Tab HkSum := []
  hkStarts  : List (Nat × Nat) := []
  deriving DecidableEq, Repr

/-- A throughput booking of the calendar (R234): `handle` is a cue's, or 65,536 plus a slice kind; `res` is an index of
Table 7.6. -/
structure Booking where
  handle : Nat
  cls    : Nat
  group  : Nat
  res    : Nat
  amount : Nat
  /-- the occurrence it serves, and whether it belongs to the rerun reserve (R242) -/
  occ    : Nat := 0
  spare  : Bool := false
  deriving DecidableEq, Repr

/-- Published capacity of a resource and its run of higher measurements (R243). -/
structure Capacity where
  cap  : Nat := 0
  runs : List Nat := []
  deriving DecidableEq, Repr

/-- A promise condition (R245): in force, and since when it has held again. -/
structure Condition where
  inForce : Bool := false
  okSince : Option Nat := none
  deriving DecidableEq, Repr

/-- A committed point as a trigger unit sees it: the member's position, whether it has a return, its first TOF, and
for a capture the histogram record and the shot result words (R256, R260). -/
structure SeenPoint where
  pos     : Nat
  ret     : Bool
  tof     : Nat
  cue     : Nat
  channel : Nat
  record  : List Byte
  words   : List W32
  deriving DecidableEq, Repr

/-- What a trigger unit has gathered: its timer's start and the points since its last sample. -/
structure TrigUnit where
  since : Nat := 0
  seen  : List SeenPoint := []
  /-- cues that contributed to the last sample -/
  cues  : List Nat := []
  deriving DecidableEq, Repr

structure Stage where
  cfg       : W32 := 1
  qsel      : W32 := 0
  qsel2     : W32 := 0
  cntAccept : Nat := 0
  cntReject : Nat := 0
  cntRefused : Nat := 0
  cntLate   : Nat := 0
  cntAbortLost : Nat := 0
  cntTrigSupp : Nat := 0
  submit    : Tab W32 := []
  subCtrl   : W32 := 0
  resBusy   : Bool := false
  resAccept : Bool := false
  resReason : Nat := 0
  resResource : Nat := 0
  resHandle : Nat := 0
  subStart  : W32 := 0
  /-- RESULT of the last write to SM_ABORT, device tick at which it is set, and what RESULT reads until then (R253) -/
  abortRes  : Nat := 0
  abortDone : Nat := 0
  abortWas  : Nat := 0
  calSel    : W32 := 0
  calData   : Tab W32 := []
  cueSel    : W32 := 0
  cueData   : Tab W32 := []
  trigStat  : BitVec 64 := 0
  trigCfg   : Tab W32 := []
  /-- submissions waiting for their decision, in order of arrival (R227) -/
  fifo      : List Submission := []
  /-- a split cue that waits for its guests' decisions, and the source to answer (R405) -/
  deciding  : Option (Nat × Source) := none
  /-- cues accepted since reset -/
  orders    : Nat := 0
  cues      : Tab CueEntry := []
  books     : List Booking := []
  slots     : Tab (List Place) := []
  /-- the last group that has entered the horizon -/
  entered   : Nat := 0
  /-- class B cues that have fired in a group, as group and cue; a place of theirs in it no longer moves (R239) -/
  cueFired  : List (Nat × Nat) := []
  caps      : Tab Capacity := []
  conds     : Tab Condition := []
  trig      : Tab TrigUnit := []
  /-- cue-bus codes taken and software units fired in the running calendar slot -/
  busCodes  : List Nat := []
  swFired   : List Nat := []
  /-- the code this device sends in the running calendar slot (R414) -/
  busOut    : Option Nat := none
  sampleAt  : Nat := 0
  deriving DecidableEq, Repr

/-! ### Follow spot (chapter 8) -/

/-- A scene as the stage manager fixes it (R290): its first loop period, profile, program step and repeat, and whether a
triangle runs in reverse. -/
structure FixedScene where
  start   : Nat
  prof    : SceneProfile
  step    : Nat
  rep     : Nat
  reverse : Bool
  deriving DecidableEq, Repr

structure FollowSpot where
  hold      : Bool := true
  run       : Bool := false
  set       : Nat := 0
  feCfg     : W32 := 0x00140400
  drvLim    : W32 := 0xF7FF0800
  park      : W32 := 0x8000
  setpt     : W32 := 0x8000
  comp      : Tab W32 := []
  fault     : Nat := 0
  feOver    : Bool := false
  sat       : Bool := false
  sceneRun  : Bool := false
  held      : Bool := true
  /-- d[k] of the last loop period, and the code that the drive converter outputs: a missed update leaves the previous one
  (R275, R277) -/
  drv       : Nat := 0x8000
  out       : Nat := 0x8000
  pos       : Nat := 0
  posPrev   : Nat := 0
  cntFe     : Nat := 0
  cntSat    : Nat := 0
  cntXfer   : Nat := 0
  cntMiss   : Nat := 0
  /-- e[k−1..k−3] and v[k−1..k−3] (R277, R278) -/
  eHist     : List Int := []
  vHist     : List Int := []
  feTimer   : Nat := 0
  rangeRun  : Nat := 0
  missRun   : Nat := 0
  /-- number of the next loop period -/
  k         : Nat := 0
  /-- a release or a stop waits for the next loop boundary (R281, R291) -/
  release   : Bool := false
  stop      : Bool := false
  parkNext  : Bool := false
  /-- timebase tick at which RUN, a released loop and Show first held together (R284) -/
  readyAt   : Option Nat := none
  scene     : Nat := 0
  step      : Nat := 0
  rep       : Nat := 0
  /-- the program has run before, so its next first scene takes the next SCENE number (R291) -/
  ranBefore : Bool := false
  /-- step and repeat count of the next scene to be fixed (R290) -/
  planStep  : Nat := 0
  planRep   : Nat := 0
  cur       : Option FixedScene := none
  /-- scenes fixed by the stage manager and not begun, oldest first (R290) -/
  fixed     : List FixedScene := []
  deriving DecidableEq, Repr

/-! ### Machine safety (chapter 9) -/

/-- One evaluator's view of a spike. -/
structure SpikeEval where
  pos       : Int := 0
  seen      : Bool := false
  lastSeen  : Option Nat := none
  sightings : Nat := 0
  speed     : Option Int := none
  unseen    : Nat := 0
  ext       : Option Int := none
  deriving DecidableEq, Repr

structure Evaluator where
  spikes   : Tab SpikeEval := []
  fieldRun : Tab Nat := []
  permit   : Bool := false
  deriving DecidableEq, Repr

/-- A point as the main evaluator takes it: channel, azimuth, returns (TOF, AMPLITUDE). -/
structure MainDatum where
  channel : Nat
  azimuth : Nat
  returns : List (Nat × Nat)
  deriving DecidableEq, Repr

/-- A FLY shot result word with its shot index and the flyman's own position sample. -/
structure FlyDatum where
  channel : Nat
  batten  : Nat
  start   : Nat
  idx     : Nat
  word    : W32
  azimuth : Nat
  deriving DecidableEq, Repr

/-- The state of a dual-channel safety input (R321). -/
inductive InState where
  | opened | closed | discrepant
  deriving DecidableEq, Repr

structure SafeInput where
  a         : Bool := false
  b         : Bool := false
  raw       : Option InState := none
  persist   : Nat := 0
  state     : Option InState := none
  discSince : Option Nat := none
  closedAt  : Option Nat := none
  /-- how long it had been closed when it last left that state (R322) -/
  closedFor : Nat := 0
  fault     : Bool := false
  seenOpen  : Bool := false
  seenClosed : Bool := false
  deriving DecidableEq, Repr

structure SafeOutput where
  hs       : Bool := false
  ls       : Bool := false
  hsHigh   : Bool := false
  lsHigh   : Bool := false
  fault    : Bool := false
  lastTest : Nat := 0
  offOk    : Bool := false
  /-- the next test of a closed output is a low-side one (R327) -/
  lowNext  : Bool := false
  /-- tests that fell due since entry to Show -/
  tests    : Nat := 0
  deriving DecidableEq, Repr

/-- The Sirel connection (R331, R332) and the commissioning exchange (R334, R336). -/
structure Sirel where
  started   : Bool := false
  up        : Bool := false
  lastSeq   : Option Nat := none
  txSeq     : Nat := 0
  texp      : Nat := 0
  lastAt    : Nat := 0
  run       : Bool := false
  reset     : Bool := false
  commWait  : Bool := false
  commPeer  : Nat := 0
  commSeq   : Nat := 0
  commCrc   : Nat := 0
  commSer   : Nat := 0
  commSlot  : Nat := 0
  nonce     : Nat := 0
  openedAt  : Nat := 0
  released  : Bool := false
  /-- frames sent, newest first -/
  sent      : List (List Byte) := []
  deriving DecidableEq, Repr

/-- A permit message as the flyman receives it (R303): period number, verdict, the main evaluator's spike positions. -/
structure PermitMsg where
  period : Nat
  permit : Bool
  spikes : List (Nat × Int)
  deriving DecidableEq, Repr

structure Safety where
  cause     : Nat := 0
  causes    : BitVec 20 := 0
  curtain   : Bool := false
  everUp    : Bool := false
  guardDone : Bool := false
  main      : Evaluator := {}
  fly       : Evaluator := {}
  /-- the main verdict of the running period, and whether its permit message has come -/
  verdict   : Bool := false
  gotPermit : Bool := false
  message   : Option PermitMsg := none
  missing   : Nat := 0
  good      : Nat := 0
  period    : Nat := 0
  /-- number of the safety boundary that comes next -/
  boundary  : Nat := 0
  boundaryAt : Nat := 0
  spikeViol : BitVec 64 := 0
  fieldViol : BitVec 32 := 0
  fieldAct  : BitVec 32 := 0
  cntDemand : Nat := 0
  cntXchk   : Nat := 0
  cntCrc    : Nat := 0
  cntTp     : Nat := 0
  cntTpDisc : Nat := 0
  cntLate   : Nat := 0
  xchkRun   : Tab Nat := []
  inputs    : Tab SafeInput := []
  outA      : SafeOutput := {}
  outB      : SafeOutput := {}
  sirel     : Sirel := {}
  mainData  : List MainDatum := []
  flyData   : List FlyDatum := []
  /-- a valid reset waits for the next safety boundary (R324) -/
  resetReq  : Bool := false
  /-- causes whose condition was present during the running period, and for how many periods each was absent -/
  present   : BitVec 20 := 0
  absent    : Tab Nat := []
  showAt    : Nat := 0
  /-- when the latest test pulse and the latest raise sequence end (R328) -/
  pulseEnd  : Nat := 0
  raiseEnd  : Nat := 0
  deriving DecidableEq, Repr

/-! ### Wings and packer (chapter 10) -/

/-- What the promise of a committed point rests on (R246): its channel, the filter engine that formed it, and the queues of
its point and histogram records. -/
structure Scope where
  handle  : Nat
  channel : Nat
  engine  : Option Nat
  queues  : List Nat
  deriving DecidableEq, Repr

structure Item where
  seq   : Nat
  kind  : Nat
  bytes : Nat
  time  : Nat
  cells : List Nat
  /-- of a point record that waits for its delivery on a lane -/
  scope : Option Scope := none
  /-- the consumer has read it before, so a second delivery is a replay (R358) -/
  read  : Bool := false
  deriving DecidableEq, Repr

/-- An item a producer has open: the cells written so far, and whether a flush or a limit discards it. -/
structure OpenItem where
  owner : Nat
  cells : List Nat
  dead  : Bool
  deriving DecidableEq, Repr

/-- A wing queue (R344, R349) with its positions, mark and counters. `waitCmd` is a command that waits on a pinned lane
item (R357, R359): 1 FLUSH, 4 REWIND. -/
structure Queue where
  items    : List Item := []
  opens    : List OpenItem := []
  tail     : Nat := 0
  rd       : Nat := 0
  rel      : Nat := 0
  mark     : Nat := 0
  markValid : Bool := false
  markLost : Bool := false
  pinned   : Option Nat := none
  autoRel  : Bool := true
  lost     : Nat := 0
  flushed  : Nat := 0
  drop     : Nat := 0
  waitCmd  : Option Nat := none
  /-- the next packed group carries RESET (R365) -/
  reset    : Bool := true
  lastSeq  : Option Nat := none
  /-- the lane that served the queue's last group -/
  lastLane : Option Nat := none
  deriving DecidableEq, Repr

structure Wings where
  pool     : Memory := []
  used     : List Nat := []
  cntLost  : Nat := 0
  qsel     : W32 := 0
  cmdArg   : W32 := 0
  resBusy  : Bool := false
  resLost  : Nat := 0
  result   : Nat := 0
  queues   : Tab Queue := []
  /-- the item in the view with its queue, and its bytes -/
  view     : Option (Nat × Item) := none
  viewBytes : List Byte := []
  deriving DecidableEq, Repr

/-- The saved copy of a stream context (R366): its history, newest byte first, the 60 bytes of its state beside the
CRC-32C, and the CRC-32C over both. -/
structure StreamContext where
  past  : List Byte
  state : List Byte
  crc   : Nat
  deriving DecidableEq, Repr

structure Packer where
  /-- the group being handed on: queue, SEQ, bytes of the group -/
  group    : Option (Nat × Nat × Nat) := none
  /-- VC and payload of the group's last frame -/
  vc       : Nat := 0
  tail     : List Byte := []
  /-- the active stream context, and its history, newest byte first (R366) -/
  context  : Option Nat := none
  past     : List Byte := []
  cntIn    : Nat := 0
  cntOut   : Nat := 0
  cntGroups : Nat := 0
  cntReset : Nat := 0
  cntVerify : Nat := 0
  cntCtx   : Nat := 0
  /-- bytes in and out below one unit of 64 -/
  inRest   : Nat := 0
  outRest  : Nat := 0
  deriving DecidableEq, Repr

structure Pk where
  lanes    : Tab Packer := []
  unpSrc   : Nat := 0
  unpType  : Nat := 0
  unpCode  : Nat := 0
  unpOk    : Nat := 0
  unpFail  : Nat := 0
  /-- inbound calendars waiting for the unpacker: lane and bytes (R372) -/
  waiting  : List (Nat × List Byte) := []
  /-- the saved stream contexts of the blocking and context store (R366) -/
  contexts : Tab StreamContext := []
  deriving DecidableEq, Repr

/-! ### Zitlane (chapter 11) -/

/-- The training states of Table 11.2. -/
inductive LaneState where
  | off | detect | base | exchange | rate | delay | active | retrain | halt
  deriving DecidableEq, Repr

/-- A frame: VC, TYPE, SEG (0 whole message, 1 first, 2 middle, 3 last segment) and payload. -/
structure LaneMsg where
  vc      : Nat
  type    : Nat
  seg     : Nat
  payload : List Byte
  deriving DecidableEq, Repr

/-- A frame in the replay buffer (R399). -/
structure SentFrame where
  fseq    : Nat
  msg     : LaneMsg
  sentAt  : Nat
  replays : Nat := 0
  deriving DecidableEq, Repr

structure Lane where
  disable   : Bool := false
  state     : LaneState := .off
  since     : Nat := 0
  haltCode  : Nat := 0
  ver       : Nat := 0
  rate      : Nat := 0
  rates     : List Nat := []
  rxInv     : Bool := false
  reversed  : Bool := false
  logical   : Nat := 0
  partner   : W32 := 0
  caps      : Option Caps := none
  rtd       : Nat := 0
  asym      : W32 := 0
  cntFecCorr : Nat := 0
  cntFecUnc : Nat := 0
  cntFrameErr : Nat := 0
  cntReplay : Nat := 0
  cntRetrain : Nat := 0
  cntDiscard : Nat := 0
  cntRoute  : Nat := 0
  worst     : Nat := 0
  termLost  : Bool := false
  fail      : Bool := false
  trips     : Nat := 0
  fseq      : Nat := 0
  rxSeq     : Nat := 0
  credits   : List Nat := []
  waiting   : List LaneMsg := []
  replay    : List SentFrame := []
  /-- frames whose credit has not come back: VC, cost, time the END block left (R398) -/
  unpaid    : List (Nat × Nat × Nat) := []
  /-- the last control block the lane sent: its type byte, and its stamp or the bits [55:0] of a CREDIT block -/
  block     : Option (Nat × Int) := none
  /-- a DREQ is out and its DRSP has not come (R409) -/
  asked     : Bool := false
  /-- block lock (R381) -/
  lock      : Bool := false
  /-- when the last uncorrectable codeword came (R386) -/
  uncAt     : Option Nat := none
  /-- messages of which a FIRST segment has come and no LAST, by key (R394) -/
  opens     : List Nat := []
  lastAck   : Nat := 0
  t1        : Int := 0
  t2        : Int := 0
  t3        : Int := 0
  /-- the lane plan in force on this lane -/
  plan      : LanePlan := { enable := false, rates := 7, verMin := 0x10, creditLim := 10000,
                            vcCredits := [16, 16, 16, 16, 16, 16] }
  childSize : Nat := 0
  childAddr : Nat := 0
  eyeH      : Nat := 0
  eyeW      : Nat := 0
  /-- when the eye was last measured (R464) -/
  eyeAt     : Option Nat := none
  guest     : Nat := 4
  /-- aborts sent to a guest that it has not answered yet -/
  owed      : Nat := 0
  /-- decisions still to come on cues that were dropped while they waited (R404) -/
  lateDec   : Nat := 0
  /-- handles of guest parts that were aborted with no parent left, whose CUE_END is still to come (R404) -/
  deadEnds  : List Nat := []
  deriving DecidableEq, Repr

/-- The default plan of a house lane (R379). -/
def housePlan : LanePlan :=
  { enable := true, rates := 7, verMin := 0x10, creditLim := 10000, vcCredits := [16, 16, 16, 16, 16, 16] }

structure Zitlane where
  lanes    : Tab Lane := [(0, { plan := housePlan }), (1, { plan := housePlan })]
  addr     : Nat := 0
  epoch    : Nat := 0
  depth    : Nat := 0
  root     : Bool := true
  hostVer  : Nat := 0x12
  addressed : Bool := true
  timeOk   : Bool := false
  /-- twice θ of the last measurements, newest first (R409, R410) -/
  thetas   : List Int := []
  goodRun  : Nat := 0
  theta    : Int := 0
  steeredAt : Nat := 0
  cbCfg    : W32 := 0
  cntCbErr : Nat := 0
  deriving DecidableEq, Repr

/-! ### Housekeeping, heat and supplies (chapter 12) -/

/-- One accumulator of an input on one converter with its last result and tracker (R424 to R428). -/
structure Accum where
  sum   : Nat := 0
  count : Nat := 0
  ovrIn : Bool := false
  valid : Bool := false
  ovr   : Bool := false
  dis   : Bool := false
  res   : Nat := 0
  min   : Nat := 0xFFFF
  max   : Nat := 0
  /-- a result of the shared pair that waits for its partner's -/
  fresh : Bool := false
  /-- timebase µs at which the next plan sample is due -/
  due   : Nat := 0
  deriving DecidableEq, Repr

/-- An auxiliary input's published figures. -/
structure AuxOut where
  valid     : Bool := false
  unsettled : Bool := false
  broken    : Bool := false
  excFault  : Bool := false
  ovr       : Bool := false
  value     : Int := 0
  tValid    : Bool := false
  temp      : Int := 0
  lead      : Nat := 0
  settled   : Int := 0
  /-- BROKEN as the latest settled output or a failed excitation left it (R436) -/
  setBroken : Bool := false
  /-- RANGE and WIRING in force, taken at the make (R433) -/
  range     : Nat := 0
  wiring    : Nat := 0
  deriving DecidableEq, Repr

structure Hk where
  urgInput  : Nat := 0
  /-- input of the urgent reading in progress -/
  urgNow    : Nat := 0
  urgBusy   : Bool := false
  urgDropped : Bool := false
  urgOvr    : Bool := false
  urgResult : Nat := 0
  urgSum    : Nat := 0
  urgLeft   : Nat := 0
  cntDrop   : Nat := 0
  cntDis    : Nat := 0
  cntOvr    : Nat := 0
  auxRtd    : W32 := 0
  excOn     : BitVec 4 := 0
  excFault  : BitVec 4 := 0
  excBad    : Tab Nat := []
  failHi    : W32 := 0
  loopFault : Bool := false
  loopLevel : Bool := true
  loopMeas  : Nat := 0
  loopCmd   : Nat := 0x0DAC
  loopRun   : Nat := 0
  lead      : Tab Accum := []
  under     : Tab Accum := []
  /-- last code of each input on the lead, for the device's own sampling -/
  own       : Tab Nat := []
  ownOvr    : List Nat := []
  /-- timebase µs at which the next thermal sample of an input is due (R445) -/
  therm     : Tab Nat := []
  leadBusy  : Bool := false
  /-- plan samples taken before the new record of an input applies are discarded -/
  restart   : List Nat := []
  aux       : Tab AuxOut := []
  /-- the auxiliary turn: input, measurement in it, samples taken since the make, their sum, disturbed, over-range -/
  turn      : Option Nat := none
  second    : Bool := false
  /-- between a break and the make that follows it: device time of the make, and the record that holds at the make where a
  patch has changed it since (Table 12.3) -/
  makeAt    : Option Nat := none
  turnRec   : Option AuxInput := none
  /-- M of the measurement in progress (R432) -/
  samples   : Nat := 0
  taken     : Nat := 0
  auxSum    : Int := 0
  disturbed : Bool := false
  auxOvr    : Bool := false
  vLead     : Rat := 0
  /-- current the source delivered at the last intermediate sample, in nA, and EXC_I as that sample saw it -/
  measured  : Nat := 0
  excI      : Nat := 0
  auxOfs    : Tab Rat := []
  auxOfsNew : Tab Rat := []
  deriving DecidableEq, Repr

structure Hotspot where
  d1     : Rat := 0
  d2     : Rat := 0
  tj     : Int := 0
  broken : Bool := false
  deriving DecidableEq, Repr

structure Th where
  lim      : W32 := 0x0000968C
  shutdown : Bool := false
  fast     : Bool := false
  throttle : Bool := false
  warn     : Bool := false
  spots    : Tab Hotspot := []
  tjMax    : Option Int := none
  diodes   : Tab (Int × Bool) := []
  coolSince : Option Nat := none
  supWarn  : BitVec 7 := 0
  supLive  : BitVec 7 := 0
  railLow  : BitVec 7 := 0
  /-- VDD_IO lies below 1.2 V, so PRESENT_N is released (R496) -/
  ioOff    : Bool := false
  s        : Nat := 8
  minS     : Nat := 8
  cntDroop : Nat := 0
  cntWarn  : Nat := 0
  coreAt   : Nat := 0
  raisedAt : Nat := 0
  deriving DecidableEq, Repr

/-! ### Calibration and rehearsal (chapter 13) -/

structure Cal where
  auto     : Bool := true
  cfg      : W32 := 0x053C0008
  lastRej  : BitVec 6 := 0
  pendingQ : BitVec 6 := 0
  valid    : BitVec 6 := 0
  tapResid : Nat := 0
  tapInl   : Nat := 0
  skewResid : Nat := 0
  /-- half the repeat difference of each accepted skew, for CAL_Q_SKEW -/
  skewHalf : Tab Int := []
  cntRej   : Nat := 0
  taps     : Tab Int := []
  vbd      : Option Int := none
  conv     : Tab (Int × Int) := []
  edelay   : Tab Int := []
  skew     : Tab Int := []
  /-- accepted values waiting for a scene change (R465), each with the core clock cycle of its acceptance -/
  newTaps  : Option (Nat × Tab Int) := none
  newVbd   : Option (Nat × Int) := none
  newConv  : Tab (Nat × Int × Int) := []
  newEd    : Tab (Nat × Int) := []
  newSkew  : Tab (Nat × Int) := []
  entries  : Tab CalEntry := []
  /-- a code-density run in progress, and the positions of its first half -/
  tapRun   : Bool := false
  tapFirst : Option (List Int) := none
  /-- n_0 to n_31 of the last run -/
  tapCounts : List Nat := []
  tapAt    : Nat := 0
  tapTemp  : Int := 0
  /-- a breakdown search in progress, and the result of its first half -/
  bdRun    : Bool := false
  bdFirst  : Option (Option Int) := none
  convRun  : Bool := false
  convCodes : Tab Int := []
  convFirst : Tab ConvCodes := []
  skewRun  : Bool := false
  /-- work-light shots fired per segment in the running measurement -/
  wlShots  : Tab Nat := []
  /-- work-light current in µA (R458) -/
  wlCurrent : Nat := 0
  auxFirst : Tab Rat := []
  biasMv   : Int := 0
  biasAt   : Nat := 0
  deriving DecidableEq, Repr

/-- A kind of rehearsal slice: the instance that runs or comes next, and what its instances showed. -/
structure SliceKind where
  running : Option Nat := none
  /-- when the running slice began -/
  since   : Nat := 0
  /-- the slice placed and not begun: its instance and its group (R249) -/
  placed  : Option (Nat × Nat) := none
  next    : Nat := 0
  last    : Nat := 0
  doneAt  : Tab Nat := []
  fails   : Tab Nat := []
  starved : List Nat := []
  deriving DecidableEq, Repr

structure Rehearsal where
  ctrl     : W32 := 0x1F
  drDone   : Bool := false
  drPass   : Bool := false
  drStep   : Nat := 0
  obs      : Option RehearsalObs := none
  /-- steps of Table 13.3 that dress rehearsal has completed -/
  steps    : Nat := 0
  kinds    : Tab SliceKind := []
  /-- the work-light entries as the running slice found them (R472) -/
  saved    : Tab CalEntry := []
  /-- per channel, counted shots of the running work-light slice and those that stopped (Table 13.4) -/
  tally    : Tab (Nat × Nat) := []
  /-- the reading of a converter's slice that waits for its repeat -/
  convFirst : Tab ConvCodes := []
  cntSlice : Nat := 0
  cntPre   : Nat := 0
  cntFail  : Nat := 0
  hot      : Nat := 0
  /-- channels a work-light slice found failing, converters and excitation sources a slice found failing -/
  failChan : List Nat := []
  failConv : List Nat := []
  failExc  : List Nat := []
  deriving DecidableEq, Repr

/-! ### The whole block -/

/-- The state of the block. `now` is the device time of the last command in ticks of 250 ps; `tbOffset` (in 1/64 tick)
makes the timebase from it (R408); `free` counts the free values used (notes/assumptions/1.md). -/
structure State where
  pending  : List Instr := []
  now      : Nat := 0
  tbOffset : Int := 0
  free     : Nat := 0
  recent   : Recent := {}
  cb       : CallBoard := {}
  port     : Port := {}
  d2d      : D2d := {}
  otp      : Otp := {}
  gl       : GhostLight := {}
  door     : Door := {}
  pwr      : Power := {}
  img      : Loader := {}
  rx       : Rx := {}
  bat      : Bat := {}
  hist     : Hist := {}
  rej      : Rej := {}
  sm       : Stage := {}
  fs       : FollowSpot := {}
  saf      : Safety := {}
  wq       : Wings := {}
  pk       : Pk := {}
  ln       : Zitlane := {}
  hk       : Hk := {}
  th       : Th := {}
  cal      : Cal := {}
  rh       : Rehearsal := {}
  deriving DecidableEq, Repr

/-- The block right after reset: every field at the default named above, no command waiting. -/
def State.reset : State := {}

/-- Why a step faults: the block has no command that stops it, so there is no reason. -/
inductive Fault where
  /-- no command raises it (safe): the closed type of the interface needs a constructor -/
  | unreachable
  deriving DecidableEq, Repr

/-- Why a step is refused. -/
inductive Refusal where
  /-- raised by an arm of `exec` whose command has no meaning yet (safe) -/
  | notModelled (mnemonic : String)
  deriving DecidableEq, Repr

end Sys2Proof.Machine
end

