-- ==== Sys2Proof/Machine/Table.lean ====
section
/-! DEFINITION. The containers' operations: sparse tables, byte memory in canonical form, little-endian values, bit
fields of register words, and the rounding rules the manual uses. -/

namespace Sys2Proof.Machine

/-! ### Sparse tables -/

/-- The entry at key `k`, or the default `d`. -/
def Tab.get {α : Type} (t : Tab α) (d : α) (k : Nat) : α :=
  match t with
  | [] => d
  | (j, v) :: r => if j = k then v else Tab.get r d k

/-- The table with `v` at key `k`; keys stay in rising order. -/
def Tab.set {α : Type} (t : Tab α) (k : Nat) (v : α) : Tab α :=
  match t with
  | [] => [(k, v)]
  | (j, w) :: r =>
    if j = k then (k, v) :: r
    else if k < j then (k, v) :: (j, w) :: r
    else (j, w) :: Tab.set r k v

/-- The table with `f` applied at key `k`. -/
def Tab.upd {α : Type} (t : Tab α) (d : α) (k : Nat) (f : α → α) : Tab α :=
  Tab.set t k (f (Tab.get t d k))

/-- The entry at key `k`, if listed. -/
def Tab.find {α : Type} (t : Tab α) (k : Nat) : Option α :=
  match t with
  | [] => none
  | (j, v) :: r => if j = k then some v else Tab.find r k

/-- The table without key `k`. -/
def Tab.drop {α : Type} (t : Tab α) (k : Nat) : Tab α :=
  match t with
  | [] => []
  | (j, v) :: r => if j = k then Tab.drop r k else (j, v) :: Tab.drop r k

/-- `f` applied at every listed key. -/
def Tab.mapVals {α β : Type} (t : Tab α) (f : Nat → α → β) : Tab β :=
  t.map (fun kv => (kv.1, f kv.1 kv.2))

/-! ### Memory -/

/-- The byte at address `a`; an unlisted address reads as 0 (DESIGN CHOICE, notes/assumptions/4.md). -/
def Memory.read (m : Memory) (a : Nat) : Byte :=
  match m with
  | [] => 0
  | (j, v) :: r => if a < j then 0 else if j = a then v else Memory.read r a

/-- The memory with byte `v` at address `a`, in canonical form: writing 0 removes the entry. -/
def Memory.write (m : Memory) (a : Nat) (v : Byte) : Memory :=
  match m with
  | [] => if v = 0 then [] else [(a, v)]
  | (j, w) :: r =>
    if a < j then (if v = 0 then (j, w) :: r else (a, v) :: (j, w) :: r)
    else if j = a then (if v = 0 then r else (a, v) :: r)
    else (j, w) :: Memory.write r a v

/-- Every listed address lies above `lo`, in strictly rising order, and no listed byte is 0. -/
def Memory.wfFrom (lo : Nat) (m : Memory) : Bool :=
  match m with
  | [] => true
  | (j, v) :: r => decide (lo ≤ j) && decide (v ≠ 0) && Memory.wfFrom (j + 1) r

/-- The canonical form: addresses strictly rising, no entry equal to what an unlisted address reads as. -/
def Memory.wf (m : Memory) : Bool := Memory.wfFrom 0 m

/-- Bytes `bs` written from address `a` upward. -/
def Memory.writeList (m : Memory) (a : Nat) (bs : List Byte) : Memory :=
  match bs with
  | [] => m
  | b :: r => Memory.writeList (Memory.write m a b) (a + 1) r

/-- `n` bytes from address `a` upward. -/
def Memory.readList (m : Memory) (a n : Nat) : List Byte :=
  match n with
  | 0 => []
  | n + 1 => Memory.read m a :: Memory.readList m (a + 1) n

/-- The entries from address `a` on. -/
def Memory.from (m : Memory) (a : Nat) : Memory := m.dropWhile (fun c => decide (c.1 < a))

/-- `n` bytes from address `a` upward of entries that all lie at `a` or above. -/
def Memory.sweepFrom (m : Memory) (a n : Nat) : List Byte :=
  match n with
  | 0 => []
  | n + 1 =>
    match m with
    | [] => 0 :: Memory.sweepFrom [] (a + 1) n
    | (j, v) :: r => if j = a then v :: Memory.sweepFrom r (a + 1) n else 0 :: Memory.sweepFrom ((j, v) :: r) (a + 1) n

/-- The bytes of `readList` in one pass over the canonical list (`Memory.sweep_eq`). -/
def Memory.sweep (m : Memory) (a n : Nat) : List Byte := (m.from a).sweepFrom a n

/-! ### Bytes and bit fields -/

/-- A little-endian value (R33). -/
def leNat (bs : List Byte) : Nat :=
  match bs with
  | [] => 0
  | b :: r => b.toNat + 256 * leNat r

/-- A big-endian value (R40). -/
def beNat (bs : List Byte) : Nat := bs.foldl (fun a b => a * 256 + b.toNat) 0

/-- The `n` low bytes of `v`, least significant first. -/
def leBytes (n v : Nat) : List Byte :=
  match n with
  | 0 => []
  | n + 1 => BitVec.ofNat 8 v :: leBytes n (v / 256)

/-- The `n` low bytes of `v`, most significant first. -/
def beBytes (n v : Nat) : List Byte := (leBytes n v).reverse

/-- Two's complement reading of the `n` low bits of `v`. -/
def signed (n v : Nat) : Int :=
  let m := v % 2 ^ n
  if m < 2 ^ (n - 1) then (m : Int) else (m : Int) - 2 ^ n

/-- The `n` low bits of an integer in two's complement. -/
def unsigned (n : Nat) (i : Int) : Nat := (i % 2 ^ n).toNat

/-- Bits [hi:lo] of a register word. -/
def fld (w : W32) (hi lo : Nat) : Nat := (w.toNat >>> lo) % 2 ^ (hi - lo + 1)

/-- Bit `i` of a register word. -/
def flag (w : W32) (i : Nat) : Bool := w.getLsbD i

/-- A flag as the number 0 or 1. -/
def bn (b : Bool) : Nat := if b then 1 else 0

/-- A register word put together from fields, each given as (least bit, width, value). -/
def word (fs : List (Nat × Nat × Nat)) : W32 :=
  BitVec.ofNat 32 (fs.foldl (fun a f => a + (f.2.2 % 2 ^ f.2.1) * 2 ^ f.1) 0)

/-- The word whose bits in `m` come from `new` and whose other bits come from `old`. -/
def merge (m old new : W32) : W32 := (old &&& ~~~m) ||| (new &&& m)

/-- Ones in bits [hi:lo]. -/
def ones (hi lo : Nat) : W32 := BitVec.ofNat 32 ((2 ^ (hi - lo + 1) - 1) * 2 ^ lo)

/-- Byte `i` of a list; bytes beyond its end read 0. -/
def byteAt (bs : List Byte) (i : Nat) : Nat := (bs.getD i 0).toNat

/-- `n` bytes from offset `o`. -/
def slice (bs : List Byte) (o n : Nat) : List Byte := (bs.drop o).take n

/-- The little-endian field of `n` bytes at offset `o`. -/
def le (bs : List Byte) (o n : Nat) : Nat := leNat (slice bs o n)

/-- `bs` cut into pieces of `n` bytes, `k` of them. -/
def pieces (bs : List Byte) (n k : Nat) : List (List Byte) :=
  match k with
  | 0 => []
  | k + 1 => bs.take n :: pieces (bs.drop n) n k

/-- `bs` padded with zeros to a multiple of `n` bytes. -/
def padTo (bs : List Byte) (n : Nat) : List Byte :=
  bs ++ List.replicate ((n - bs.length % n) % n) 0

/-- 32-bit words as little-endian bytes. -/
def wordBytes (ws : List W32) : List Byte := ws.flatMap (fun w => leBytes 4 w.toNat)

/-! ### Arithmetic rules -/

/-- One more, saturating at the largest value of `n` bits. -/
def satAdd (n a b : Nat) : Nat := min (2 ^ n - 1) (a + b)

/-- `n` counted once more in a 32-bit saturating counter. -/
def inc32 (n : Nat) : Nat := satAdd 32 n 1

/-- Rounded half up to an integer. -/
def roundHalfUp (q : Rat) : Int := (q + 1 / 2).floor

/-- `num / den` rounded half up, on integers; 0 when `den` is 0. -/
def divRound (num : Int) (den : Nat) : Int := Int.fdiv (2 * num + den) (2 * den)

/-- `num / den` rounded up. -/
def ceilDiv (num den : Nat) : Nat := (num + den - 1) / den

/-- `x` clamped to `lo` to `hi`. -/
def clampInt (lo hi x : Int) : Int := max lo (min hi x)

/-- Integer square root, rounded down, one result bit a step from bit `b` (R180). -/
def isqrtBits (n : Nat) (b acc : Nat) : Nat :=
  match b with
  | 0 => acc
  | b + 1 =>
    let c := acc + 2 ^ b
    if c * c ≤ n then isqrtBits n b c else isqrtBits n b acc

/-- Integer square root, rounded down. -/
def isqrt (n : Nat) : Nat := isqrtBits n 64 0

/-- The five low bits of `i` reversed (R120). -/
def bitrev5 (i : Nat) : Nat :=
  (i % 2) * 16 + (i / 2 % 2) * 8 + (i / 4 % 2) * 4 + (i / 8 % 2) * 2 + (i / 16 % 2)

/-- Sum of a list of integers. -/
def sumInt (l : List Int) : Int := l.foldl (· + ·) 0

/-- The position of the first largest value of a non-empty list. -/
def argmax (l : List Int) : Nat :=
  (l.foldl (fun (a : Nat × Nat × Int) v =>
      if a.1 = 0 then (1, 0, v) else if v > a.2.2 then (a.1 + 1, a.1, v) else (a.1 + 1, a.2.1, a.2.2))
    (0, 0, 0)).2.1

/-- Insertion of `x` into a list ordered by `le`. -/
def insertBy {α : Type} (le : α → α → Bool) (x : α) : List α → List α
  | [] => [x]
  | y :: r => if le x y then x :: y :: r else y :: insertBy le x r

/-- The list ordered by `le`, keeping the order of ties. -/
def sortBy {α : Type} (le : α → α → Bool) : List α → List α
  | [] => []
  | x :: r => insertBy le x (sortBy le r)

/-- The list without repeats, each entry at its first position (R27). -/
def firsts (seen : List Nat) : List Nat → List Nat
  | [] => []
  | x :: r => if x ∈ seen then firsts seen r else x :: firsts (x :: seen) r

end Sys2Proof.Machine
end

