-- ==== Sys2Proof/Machine/Crypto.lean ====
section
/-! DEFINITION. The check codes and the cryptographic functions the manual names: CRC-8 (R392), CRC-16 (R510),
CRC-32C (R39), the IEEE 802.3 CRC-32 (R363), SHA-256, HMAC-SHA-256 and ECDSA on P-256 (R40, R41, R500). The manual
names the last three by their standards; they are written from FIPS 180-4, RFC 2104 and SEC 1
(PRESUMED, notes/assumptions/5.md). -/

namespace Sys2Proof.Machine

/-! ### CRCs -/

/-- One step of a most-significant-bit-first CRC of width `n`, `k` bits long. -/
def crcMsbBits (n poly : Nat) (k c : Nat) : Nat :=
  match k with
  | 0 => c
  | k + 1 =>
    let d := (2 * c) % 2 ^ n
    crcMsbBits n poly k (if c / 2 ^ (n - 1) % 2 = 1 then d ^^^ poly else d)

/-- A CRC without reflection over bytes. -/
def crcMsb (n poly init : Nat) (bs : List Byte) : Nat :=
  bs.foldl (fun c b => crcMsbBits n poly 8 (c ^^^ (b.toNat * 2 ^ (n - 8)))) init

/-- One step of a reflected CRC, `k` bits long; `poly` is given reflected. -/
def crcLsbBits (poly : Nat) (k c : Nat) : Nat :=
  match k with
  | 0 => c
  | k + 1 => crcLsbBits poly k (if c % 2 = 1 then (c / 2) ^^^ poly else c / 2)

/-- A reflected 32-bit CRC with initial value and final XOR 0xFFFF_FFFF. -/
def crcLsb (poly : Nat) (bs : List Byte) : Nat :=
  (bs.foldl (fun c b => crcLsbBits poly 8 (c ^^^ b.toNat)) 0xFFFFFFFF) ^^^ 0xFFFFFFFF

/-- HCRC (R392, R510). -/
def crc8 (bs : List Byte) : Nat := crcMsb 8 0x07 0x00 bs

/-- DCRC of the house port (R510). -/
def crc16 (bs : List Byte) : Nat := crcMsb 16 0x1021 0xFFFF bs

/-- CRC-32C, polynomial 0x1EDC_6F41 (R39). -/
def crc32c (bs : List Byte) : Nat := crcLsb 0x82F63B78 bs

/-- CRC-32, polynomial 0x04C1_1DB7 (R363). -/
def crc32 (bs : List Byte) : Nat := crcLsb 0xEDB88320 bs

/-! ### SHA-256 and HMAC -/

/-- The largest number whose `k`-th power is at most `n`, one result bit a step from bit `b`. -/
def rootBits (k n : Nat) (b acc : Nat) : Nat :=
  match b with
  | 0 => acc
  | b + 1 => rootBits k n b (if (acc + 2 ^ b) ^ k ≤ n then acc + 2 ^ b else acc)

/-- The first 32 bits of the fractional part of the `k`-th root of `p`, which is what the standard's constants are. -/
def rootWord (k p : Nat) : W32 := BitVec.ofNat 32 (rootBits k (p * 2 ^ (32 * k)) 38 0)

/-- The first 64 primes. -/
def shaPrimes : List Nat :=
  [2, 3, 5, 7, 11, 13, 17, 19, 23, 29, 31, 37, 41, 43, 47, 53, 59, 61, 67, 71, 73, 79, 83, 89, 97, 101, 103, 107, 109]
  ++ [113, 127, 131, 137, 139, 149, 151, 157, 163, 167, 173, 179, 181, 191, 193, 197, 199, 211, 223, 227, 229, 233]
  ++ [239, 241, 251, 257, 263, 269, 271, 277, 281, 283, 293, 307, 311]

/-- The round constants: cube roots of the primes. -/
def shaK : List W32 := shaPrimes.map (rootWord 3)

/-- The initial hash value: square roots of the first eight primes. -/
def shaInit : List W32 := (shaPrimes.take 8).map (rootWord 2)

/-- The exclusive or of `w` rotated right by each of `rs`. -/
def turns (w : W32) (rs : List Nat) : W32 := rs.foldl (fun x r => x ^^^ w.rotateRight r) 0

/-- The message schedule, newest word first: `k` words more. -/
def shaExtend (k : Nat) (w : List W32) : List W32 :=
  match k with
  | 0 => w
  | k + 1 =>
    let far := w.getD 14 0
    let near := w.getD 1 0
    shaExtend k ((w.getD 15 0 + w.getD 6 0 + (turns far [7, 18] ^^^ far >>> 3) + (turns near [17, 19] ^^^ near >>> 10)) :: w)

/-- One round on the eight working words, with its constant and its schedule word added together. -/
def shaRound (kw : W32) : List W32 → List W32
  | [a, b, c, d, e, f, g, h] =>
    let chosen := (e &&& (f ^^^ g)) ^^^ g
    let most := (a &&& (b ||| c)) ||| (b &&& c)
    let t := kw + h + chosen + turns e [6, 11, 25]
    [t + most + turns a [2, 13, 22], a, b, c, d + t, e, f, g]
  | other => other

/-- One 64-byte block. -/
def shaBlock (hash : List W32) (block : List Byte) : List W32 :=
  let first := ((pieces block 4 16).map (fun p => (BitVec.ofNat 32 (beNat p) : W32))).reverse
  let keyed := List.zipWith (· + ·) shaK (shaExtend 48 first).reverse
  List.zipWith (· + ·) hash (keyed.foldl (fun v kw => shaRound kw v) hash)

/-- The padding of a message of `n` bytes. -/
def shaTail (n : Nat) : List Byte := 0x80 :: (List.replicate ((119 - n % 64) % 64) 0 ++ beBytes 8 (8 * n))

/-- SHA-256 of a byte string, as 32 bytes. -/
def sha256 (bs : List Byte) : List Byte :=
  let m := bs ++ shaTail bs.length
  ((pieces m 64 (m.length / 64)).foldl shaBlock shaInit).flatMap (fun w => beBytes 4 w.toNat)

/-- HMAC-SHA-256 under a 256-bit key (R500). -/
def hmac (key msg : List Byte) : List Byte :=
  let k := key ++ List.replicate (64 - key.length) 0
  sha256 (k.map (· ^^^ 0x5c) ++ sha256 (k.map (· ^^^ 0x36) ++ msg))

/-! ### ECDSA on P-256 -/

def p256P : Nat := 0xffffffff00000001000000000000000000000000ffffffffffffffffffffffff
def p256N : Nat := 0xffffffff00000000ffffffffffffffffbce6faada7179e84f3b9cac2fc632551
def p256B : Nat := 0x5ac635d8aa3a93e7b3ebbd55769886bc651d06b0cc53b0f63bce3c3e27d2604b
def p256Gx : Nat := 0x6b17d1f2e12c4247f8bce6e563a440f277037d812deb33a0f4a13945d898c296
def p256Gy : Nat := 0x4fe342e2fe1a7f9b8ee7eb4a7c0f9e162bce33576b315ececbb6406837bf51f5

/-- `b ^ e mod m` over the `k` low bits of `e`. -/
def powMod (m : Nat) (k b e acc : Nat) : Nat :=
  match k with
  | 0 => acc
  | k + 1 => powMod m k (b * b % m) (e / 2) (if e % 2 = 1 then acc * b % m else acc)

/-- The inverse modulo a prime. -/
def invMod (m a : Nat) : Nat := powMod m 256 (a % m) (m - 2) 1

/-- A point of the curve in projective coordinates (X : Y : Z) with x = X/Z², y = Y/Z³; Z = 0 is the point at infinity. -/
structure JPoint where
  x : Nat
  y : Nat
  z : Nat

/-- Difference modulo the field prime. -/
def subP (a b : Nat) : Nat := (a + p256P - b) % p256P

def jDouble (p : JPoint) : JPoint :=
  if p.z = 0 ∨ p.y = 0 then ⟨1, 1, 0⟩ else
  let zz := p.z * p.z % p256P
  let s := 4 * p.x * (p.y * p.y % p256P) % p256P
  let m := 3 * subP p.x zz * ((p.x + zz) % p256P) % p256P
  let x3 := subP (m * m % p256P) (2 * s % p256P)
  let y4 := p.y * p.y % p256P * (p.y * p.y % p256P) % p256P
  ⟨x3, subP (m * subP s x3 % p256P) (8 * y4 % p256P), 2 * p.y * p.z % p256P⟩

def jAdd (p q : JPoint) : JPoint :=
  if p.z = 0 then q else if q.z = 0 then p else
  let z1 := p.z * p.z % p256P
  let z2 := q.z * q.z % p256P
  let u1 := p.x * z2 % p256P
  let u2 := q.x * z1 % p256P
  let s1 := p.y * (z2 * q.z % p256P) % p256P
  let s2 := q.y * (z1 * p.z % p256P) % p256P
  if u1 = u2 then (if s1 = s2 then jDouble p else ⟨1, 1, 0⟩) else
  let h := subP u2 u1
  let r := subP s2 s1
  let hh := h * h % p256P
  let hhh := hh * h % p256P
  let v := u1 * hh % p256P
  let x3 := subP (subP (r * r % p256P) hhh) (2 * v % p256P)
  ⟨x3, subP (r * subP v x3 % p256P) (s1 * hhh % p256P), p.z * q.z % p256P * h % p256P⟩

/-- `e · p` over the `k` low bits of `e`. -/
def jMul (k : Nat) (p : JPoint) (e : Nat) (acc : JPoint) : JPoint :=
  match k with
  | 0 => acc
  | k + 1 => jMul k (jDouble p) (e / 2) (if e % 2 = 1 then jAdd acc p else acc)

/-- The public key lies on the curve (R41). -/
def onCurve (x y : Nat) : Bool :=
  decide (x < p256P) && decide (y < p256P) &&
  decide (y * y % p256P = (x * x % p256P * x + 3 * (p256P - x) + p256B) % p256P)

/-- The signature (r, s) of a digest verifies under the key (x, y) (R40, R41). -/
def ecdsaVerify (x y r s : Nat) (digest : List Byte) : Bool :=
  decide (0 < r) && decide (r < p256N) && decide (0 < s) && decide (s < p256N) &&
  (let w := invMod p256N s
   let u1 := beNat digest * w % p256N
   let u2 := r * w % p256N
   let q := jAdd (jMul 256 ⟨p256Gx, p256Gy, 1⟩ u1 ⟨1, 1, 0⟩) (jMul 256 ⟨x, y, 1⟩ u2 ⟨1, 1, 0⟩)
   let zi := invMod p256P q.z
   decide (q.z ≠ 0) && decide (q.x * (zi * zi % p256P) % p256P % p256N = r))

end Sys2Proof.Machine
end

