-- ==== Sys2Proof/Machine/Inflate.lean ====
section
/-! DEFINITION. Expansion of a DEFLATE stream (R60, R371, R372) under the result codes of Table 10.5. The manual names
the format by RFC 1951; the decoder is written from it (PRESUMED, notes/assumptions/5.md). -/

namespace Sys2Proof.Machine

/-- The bits of a byte string, least significant bit of each byte first. -/
def bitsOf (bs : List Byte) : List Bool :=
  bs.flatMap (fun b => (List.range 8).map (fun i => b.getLsbD i))

/-- The value of the first `n` bits, least significant first, and the rest; a stream that ends before them gives code 5
of Table 10.5. -/
def takeBits (n : Nat) (bits : List Bool) : Except Nat (Nat × List Bool) :=
  match n with
  | 0 => .ok (0, bits)
  | n + 1 =>
    match bits with
    | [] => .error 5
    | b :: r => (takeBits n r).map (fun q => (bn b + 2 * q.1, q.2))

/-- A canonical Huffman code: how many codes of each length 1 to 15, and the symbols in code order. -/
structure Huffman where
  counts  : List Nat
  symbols : List Nat

/-- The code built from the list of code lengths. -/
def mkHuffman (lens : List Nat) : Huffman :=
  let idx := (List.range lens.length).zip lens
  { counts := (List.range 15).map (fun l => (lens.filter (· = l + 1)).length)
    symbols := (List.range 15).flatMap (fun l => (idx.filter (fun p => p.2 = l + 1)).map (·.1)) }

/-- The lengths make a code that is not over-subscribed. -/
def Huffman.sound (h : Huffman) : Bool :=
  decide (0 ≤ h.counts.foldl (fun (left : Int) c => if left < 0 then left else 2 * left - c) 1)

/-- The lengths make a complete code, or a code of at most one symbol. -/
def Huffman.complete (h : Huffman) : Bool :=
  decide (h.counts.foldl (fun (left : Int) c => 2 * left - c) 1 = 0) || decide (h.symbols.length ≤ 1)

/-- The next symbol. Bits that are no code give code 2 of Table 10.5, a stream that ends within a code gives 5. -/
def decodeSym (counts symbols : List Nat) (code first index : Nat) (bits : List Bool) : Except Nat (Nat × List Bool) :=
  match counts with
  | [] => .error 2
  | c :: cs =>
    match bits with
    | [] => .error 5
    | b :: r =>
      let code := code + bn b
      if code < first + c then .ok (symbols.getD (index + (code - first)) 0, r)
      else decodeSym cs symbols (2 * code) (2 * (first + c)) (index + c) r

def Huffman.next (h : Huffman) (bits : List Bool) : Except Nat (Nat × List Bool) :=
  decodeSym h.counts h.symbols 0 0 0 bits

/-- Base and extra bits of length symbols 257 to 285. -/
def lengthTable : List (Nat × Nat) :=
  [(3,0),(4,0),(5,0),(6,0),(7,0),(8,0),(9,0),(10,0),(11,1),(13,1),(15,1),(17,1),(19,2),(23,2),(27,2),(31,2),
   (35,3),(43,3),(51,3),(59,3),(67,4),(83,4),(99,4),(115,4),(131,5),(163,5),(195,5),(227,5),(258,0)]

/-- Base and extra bits of distance symbols 0 to 29. -/
def distTable : List (Nat × Nat) :=
  [(1,0),(2,0),(3,0),(4,0),(5,1),(7,1),(9,2),(13,2),(17,3),(25,3),(33,4),(49,4),(65,5),(97,5),(129,6),(193,6),
   (257,7),(385,7),(513,8),(769,8),(1025,9),(1537,9),(2049,10),(3073,10),(4097,11),(6145,11),(8193,12),(12289,12),
   (16385,13),(24577,13)]

/-- What an expansion has produced: output newest byte first, its length, and the bits left. -/
structure Inflated where
  out  : List Byte
  size : Nat
  bits : List Bool

/-- `n` bytes copied from `dist` bytes back. -/
def copyBack (n dist : Nat) (out : List Byte) : List Byte :=
  match n with
  | 0 => out
  | n + 1 => copyBack n dist (out.getD (dist - 1) 0 :: out)

/-- The symbols of one compressed block, with distances up to `far`; the error is a code of Table 10.5. -/
def inflateCodes (fuel far limit : Nat) (lit dst : Huffman) (s : Inflated) : Except Nat Inflated :=
  match fuel with
  | 0 => .error 5
  | fuel + 1 => do
    let (sym, r) ← lit.next s.bits
    if sym < 256 then
      if s.size + 1 > limit then .error 4
      else inflateCodes fuel far limit lit dst { out := BitVec.ofNat 8 sym :: s.out, size := s.size + 1, bits := r }
    else if sym = 256 then .ok { s with bits := r }
    else if sym > 285 then .error 2
    else
      let lt := lengthTable.getD (sym - 257) (3, 0)
      let (le, r) ← takeBits lt.2 r
      let (ds, r) ← dst.next r
      if ds > 29 then .error 2
      else
        let dt := distTable.getD ds (1, 0)
        let (de, r) ← takeBits dt.2 r
        let len := lt.1 + le
        let dist := dt.1 + de
        if dist > s.size ∨ dist > far then .error 3
        else if s.size + len > limit then .error 4
        else inflateCodes fuel far limit lit dst { out := copyBack len dist s.out, size := s.size + len, bits := r }

/-- `n` code lengths of a dynamic block, newest first. -/
def readLens (fuel n : Nat) (h : Huffman) (lens : List Nat) (bits : List Bool) : Except Nat (List Nat × List Bool) :=
  match fuel with
  | 0 => .error 2
  | fuel + 1 =>
    if lens.length = n then .ok (lens, bits)
    else if lens.length > n then .error 2
    else do
      let (sym, r) ← h.next bits
      if sym < 16 then readLens fuel n h (sym :: lens) r
      else if sym = 16 then
        match lens with
        | [] => .error 2
        | p :: _ => do
          let (e, r) ← takeBits 2 r
          readLens fuel n h (List.replicate (3 + e) p ++ lens) r
      else if sym = 17 then do
        let (e, r) ← takeBits 3 r
        readLens fuel n h (List.replicate (3 + e) 0 ++ lens) r
      else do
        let (e, r) ← takeBits 7 r
        readLens fuel n h (List.replicate (11 + e) 0 ++ lens) r

/-- The order in which code lengths of the code-length code come. -/
def lenOrder : List Nat := [16, 17, 18, 0, 8, 7, 9, 6, 10, 5, 11, 4, 12, 3, 13, 2, 14, 1, 15]

/-- `n` three-bit code lengths. -/
def readClens (n : Nat) (bits : List Bool) : Except Nat (List Nat × List Bool) :=
  match n with
  | 0 => .ok ([], bits)
  | n + 1 => do
    let (v, r) ← takeBits 3 bits
    let (vs, r) ← readClens n r
    .ok (v :: vs, r)

/-- The two codes of a dynamic block: HLIT gives 257 to 286 literal and length codes, HDIST 1 to 32 distance codes. -/
def readDynamic (bits : List Bool) : Except Nat (Huffman × Huffman × List Bool) := do
  let (hl, r) ← takeBits 5 bits
  let (hd, r) ← takeBits 5 r
  let (hc, r) ← takeBits 4 r
  let (cl, r) ← readClens (hc + 4) r
  let ch := mkHuffman ((List.range 19).map (fun s => cl.getD (lenOrder.idxOf s) 0))
  if hl > 29 ∨ ch.complete = false then .error 2
  else do
    let (lens, r) ← readLens 400 (hl + 257 + hd + 1) ch [] r
    let ls := lens.reverse
    let lit := mkHuffman (ls.take (hl + 257))
    let dst := mkHuffman (ls.drop (hl + 257))
    if ls.getD 256 0 = 0 ∨ lit.complete = false ∨ dst.complete = false ∨ lit.sound = false ∨ dst.sound = false then
      .error 2
    else .ok (lit, dst, r)

/-- The fixed codes. -/
def fixedLit : Huffman :=
  mkHuffman (List.replicate 144 8 ++ List.replicate 112 9 ++ List.replicate 24 7 ++ List.replicate 8 8)
def fixedDist : Huffman := mkHuffman (List.replicate 30 5)

/-- The bytes of a stored block. -/
def takeBytes (n : Nat) (bits : List Bool) (out : List Byte) : Except Nat (List Byte × List Bool) :=
  match n with
  | 0 => .ok (out, bits)
  | n + 1 => do
    let (v, r) ← takeBits 8 bits
    takeBytes n r (BitVec.ofNat 8 v :: out)

/-- The head of a stored block: the bits to the next byte boundary are passed over, and LEN is read with its check. -/
def storedLength (bits : List Bool) : Except Nat (Nat × List Bool) := do
  let (n, r) ← takeBits 16 (bits.drop (bits.length % 8))
  let (nn, r) ← takeBits 16 r
  if n + nn ≠ 65535 then .error 2 else .ok (n, r)

/-- The body of a Huffman block of type `ty`, 1 fixed or 2 dynamic. -/
def huffmanBlock (ty total far limit : Nat) (s : Inflated) : Except Nat Inflated :=
  if ty = 1 then inflateCodes total far limit fixedLit fixedDist s
  else if ty = 2 then do
    let (lit, dst, r) ← readDynamic s.bits
    inflateCodes total far limit lit dst { s with bits := r }
  else .error 2

/-- The blocks of a stream up to the one with BFINAL 1. `total` is the number of bits of the payload. -/
def inflateBlocks (fuel limit total : Nat) (s : Inflated) : Except Nat Inflated :=
  match fuel with
  | 0 => .error 5
  | fuel + 1 => do
    let (final, r) ← takeBits 1 s.bits
    let (ty, r) ← takeBits 2 r
    let u ←
      if ty = 0 then do
        let (n, r) ← storedLength r
        if s.size + n > limit then .error 4
        else do
          let (out, r) ← takeBytes n r s.out
          .ok { out := out, size := s.size + n, bits := r }
      else huffmanBlock ty total 32768 limit { s with bits := r }
    if final = 1 then .ok u else inflateBlocks fuel limit total u

/-- The whole expansion of a payload to `len` bytes with IEEE CRC-32 `crc` (R372): the bytes, or the code of
Table 10.5. -/
def inflate (payload : List Byte) (len crc : Nat) : Except Nat (List Byte) :=
  let bits := bitsOf payload
  match inflateBlocks (bits.length + 1) len bits.length { out := [], size := 0, bits := bits } with
  | .error e => .error e
  | .ok s =>
    if 8 ≤ s.bits.length ∨ s.bits.any (fun b => b) then .error 5
    else if s.size ≠ len then .error 4
    else
      let out := s.out.reverse
      if crc32 out ≠ crc then .error 6 else .ok out

/-! ### Payloads of packed groups (R364) -/

/-- The blocks of a MODE 1 or 2 payload: Huffman blocks with BFINAL 0 and distances up to 4,096, then the empty stored
block that ends it on a byte boundary. `some` says that a Huffman block has come. -/
def groupBlocks (fuel limit total : Nat) (some : Bool) (s : Inflated) : Except Nat Inflated :=
  match fuel with
  | 0 => .error 5
  | fuel + 1 => do
    let (final, r) ← takeBits 1 s.bits
    let (ty, r) ← takeBits 2 r
    if final = 1 then .error 2
    else if ty = 0 then do
      let (n, r) ← storedLength r
      if n = 0 ∧ r = [] ∧ some = true then .ok { s with bits := r } else .error 2
    else do
      let u ← huffmanBlock ty total 4096 limit { s with bits := r }
      groupBlocks fuel limit total true u

/-- The payload decodes to `body` after the bytes of `past`, newest first. -/
def payloadFits (past body payload : List Byte) : Bool :=
  let bits := bitsOf payload
  let limit := past.length + body.length
  match groupBlocks (bits.length + 1) limit bits.length false { out := past, size := past.length, bits := bits } with
  | .error _ => false
  | .ok s => s.size == limit && s.out.take body.length == body.reverse

end Sys2Proof.Machine
end

