-- ==== Sys2Proof/Config.lean ====
section
/-! DEFINITION. The values the manual leaves open. Each is an opaque constant applied to the plain counter
`State.free`; nothing in Lean can evaluate it, so a statement about it holds whatever it is. -/

namespace Sys2Proof.Config

/-- The n-th free value. Its users take it modulo, or clamped to, the range the manual gives
(DESIGN CHOICE, notes/assumptions/1.md). -/
opaque freeNat : Nat → Nat

/-- The temperature in 1/16 °C that a diode's code stands for: Table 12.1 says only that it is calibrated to temperature
(DESIGN CHOICE, notes/assumptions/41.md). -/
opaque diodeTemp : Nat → Int

end Sys2Proof.Config
end

