-- ==== Sys2Proof/Machine/Flags.lean ====
section
/-! DEFINITION. The call board's events and the access-violation record: the block's flags (R517 to R520). -/

namespace Sys2Proof.Machine

/-! ### Event numbers (Table 15.5) -/

def evAccess : Nat := 0
def evHousePort : Nat := 1
def evImageDone : Nat := 2
def evImageError : Nat := 3
def evModeRefused : Nat := 4
def evResetRecord : Nat := 5
def evLinkDegraded : Nat := 6
def evCurtain : Nat := 7
def evCueRefused : Nat := 8
def evSuspended : Nat := 9
def evTrigger : Nat := 10
def evHpQueue : Nat := 11
def evWingsLoss : Nat := 12
def evPacker : Nat := 13
def evPhaseUnlock : Nat := 14
def evBattenFault : Nat := 15
def evEmissionCut : Nat := 16
def evWavelength : Nat := 17
def evFollowSpot : Nat := 18
def evTopology : Nat := 19
def evTimebase : Nat := 20
def evDisagree : Nat := 21
def evAuxFault : Nat := 22
def evLoopFault : Nat := 23
def evThermal : Nat := 24
def evSupply : Nat := 25
def evCalibration : Nat := 26
def evRehearsal : Nat := 27
def evLane : Nat := 28

/-- Bit `i` of a register word. -/
def bit32 (i : Nat) : W32 := 1#32 <<< i

/-- Event `i` sets its bit in CB_EVENT (R517). -/
def setEvent (i : Nat) (s : State) : State :=
  { s with
    cb := { s.cb with event := s.cb.event ||| bit32 i }
    recent := { s.recent with events := s.recent.events ||| bit32 i } }

/-- Event `i` when `b` holds. -/
def eventIf (b : Bool) (i : Nat) (s : State) : State := if b then setEvent i s else s

/-- CB_PENDING is CB_EVENT AND CB_MASK (R517). -/
def CallBoard.pendingWord (c : CallBoard) : W32 := c.event &&& c.mask

/-- The lowest set bit of `w` from bit `i` upward. -/
def lowestFrom (w : W32) (n i : Nat) : Nat :=
  match n with
  | 0 => i
  | n + 1 => if flag w i then i else lowestFrom w n (i + 1)

/-- The lowest set bit of a word; 32 when it is 0. -/
def lowestBit (w : W32) : Nat := lowestFrom w 32 0

/-- R519: what CB_FIRST becomes when CB_PENDING goes from `before` to the board's own value. A board that a reset within
the command has emptied starts from 0. -/
def CallBoard.follow (before : W32) (c : CallBoard) : CallBoard :=
  if c.pendingWord = 0 then { c with firstValid := false }
  else if before = 0 ∨ !c.firstValid then { c with firstValid := true, first := lowestBit c.pendingWord }
  else c

/-- HP_IRQ_N is driven low while CB_PENDING is non-zero (R518). -/
def irqLow (s : State) : Bool := s.cb.pendingWord != 0

/-- The PATH code of CB_VIOL_INFO. -/
def Path.code : Path → Nat
  | .housePort => 0
  | .hl0 => 1
  | .hl1 => 2
  | .tap => 3

/-- KIND codes of CB_VIOL_INFO. -/
def kindRws : Nat := 0
def kindRange : Nat := 1
def kindBusy : Nat := 2
def kindReadOnly : Nat := 3
def kindRule : Nat := 4

/-- R520: the violation record, its count and the access-violation event. -/
def violation (p : Path) (addr kind : Nat) (s : State) : State :=
  setEvent evAccess
    { s with cb := { s.cb with
        violAddr := BitVec.ofNat 32 addr, violPath := Path.code p, violKind := kind,
        violCount := satAdd 16 s.cb.violCount 1 } }

end Sys2Proof.Machine
end

