-- ==== Sys2Proof/Machine/Ops.lean ====
section
/-! DEFINITION. The named operations the meanings share: time, free values, the image in force, the lifecycle, the
curtain with its causes, the emitter switches, and the form of a command's effect. -/

namespace Sys2Proof.Machine

/-! ### Time (R20, R408) -/

/-- Ticks of 250 ps in a microsecond, a millisecond and a second. -/
def usTicks : Nat := 4000
def msTicks : Nat := 4000000
def secTicks : Nat := 4000000000

/-- The core clock cycle of device tick `t`: 1 GHz (Table 1.4). Cycles begin at the ticks that 4 divides, and a droop's
stretch lengthens none of them (DESIGN CHOICE, notes/assumptions/14.md). -/
def coreCycle (t : Nat) : Nat := t / 4

/-- Key of an RC counter of queue `q` whose register stands at `off`; the register shows one queue at a time (R374). -/
def queueKey (q off : Nat) : Nat := 0x1000000 * (q + 1) + off

/-- Every RC counter by the address of its register; 0xF0041 stands for CRC_ERR_B beside CRC_ERR_A. -/
def counters (s : State) : Tab Nat :=
  [(0x10040, s.sm.cntAccept), (0x10044, s.sm.cntReject), (0x10048, s.sm.cntRefused), (0x1004C, s.sm.cntLate), 
   (0x10050, s.sm.cntAbortLost), (0x10054, s.sm.cntTrigSupp), (0x20014, s.rx.cntStop), (0x20018, s.rx.cntNoret), 
   (0x2001C, s.rx.cntCut), (0x20020, s.rx.cntVoid), (0x20024, s.rx.cntWref), (0x20028, s.rx.cntPre), 
   (0x30028, s.bat.unlocks), (0x40010, s.hist.cntPoints), (0x40014, s.hist.cntEmpty), (0x40018, s.hist.cntCoarse), 
   (0x4001C, s.hist.cntEsc), (0x40020, s.hist.cntRerun), (0x40024, s.hist.cntOver), (0x50010, s.rej.cntStamps), 
   (0x50014, s.rej.cntLost), (0x50018, s.rej.cntVeto), (0x5001C, s.rej.cntSecond), (0x50020, s.rej.cntBlank), 
   (0x60020, s.fs.cntFe), (0x60024, s.fs.cntSat), (0x60028, s.fs.cntXfer), (0x6002C, s.fs.cntMiss), 
   (0x80004, s.wq.cntLost), (0x90004, s.pk.unpOk), (0x90008, s.pk.unpFail), (0xA0304, s.ln.cntCbErr), 
   (0xB0010, s.hk.cntDrop), (0xB0014, s.hk.cntDis), (0xB0018, s.hk.cntOvr), (0xC0108, s.th.cntDroop), 
   (0xC010C, s.th.cntWarn), (0xD0030, s.cal.cntRej), (0xE0010, s.rh.cntSlice), (0xE0014, s.rh.cntPre), 
   (0xE0018, s.rh.cntFail), (0xF0030, s.gl.sinChanges), (0xF0040, s.d2d.a.crcErr), (0xF0041, s.d2d.b.crcErr), 
   (0x01014, s.cb.violCount), (0x01024, s.cb.hpErr)]
  ++ (s.pk.lanes.filter (fun p => decide (p.1 < 4))).flatMap (fun p =>
    ([p.2.cntIn, p.2.cntOut, p.2.cntGroups, p.2.cntReset, p.2.cntVerify, p.2.cntCtx].zip (List.range 6)).map
      (fun x => (0x90100 + 32 * p.1 + 4 * x.2, x.1)))
  ++ (s.ln.lanes.filter (fun p => decide (p.1 < 4))).flatMap (fun p =>
    ([p.2.cntFecCorr, p.2.cntFecUnc, p.2.cntFrameErr, p.2.cntReplay, p.2.cntRetrain, p.2.cntDiscard, p.2.cntRoute].zip
      (List.range 7)).map (fun x => (0xA0014 + 64 * p.1 + 4 * x.2, x.1)))
  ++ s.wq.queues.flatMap (fun p =>
    [(queueKey p.1 0x28, p.2.lost), (queueKey p.1 0x2C, p.2.flushed), (queueKey p.1 0x30, p.2.drop)])

/-- What a core clock cycle begins with. -/
def Recent.next (r : Recent) (cycle : Nat) (s : State) : Recent :=
  if r.cycle = cycle then r else { cycle := cycle, counts := counters s }

/-- The device time moves on to the time the command comes at (DESIGN CHOICE, notes/assumptions/2.md). -/
def begin (t : Nat) (s : State) : State :=
  { s with now := max s.now t, recent := s.recent.next (coreCycle (max s.now t)) s }

/-- What an RC counter `n`, read and cleared at key `a`, holds after that: what it has counted in the same core clock cycle
(R9). -/
def newer (s : State) (a n : Nat) : Nat := n - s.recent.counts.get 0 a

/-- The RC register at address `a`, which keeps a least or a greatest value, is given `v` in this core clock cycle. -/
def noteValue (a : Nat) (v : Int) (s : State) : State :=
  { s with recent := { s.recent with values := s.recent.values.upd [] a (fun l => v :: l) } }

/-- What such a register holds after a clear to `reset`: the values of the same core clock cycle survive it (R9). -/
def keptValue (s : State) (a : Nat) (f : Int → Int → Int) (reset : Int) : Int := (s.recent.values.get [] a).foldl f reset

/-- The timebase tick of device tick `now` (R408): `tbOffset` is in 1/64 tick. -/
def tbOf (s : State) (now : Nat) : Nat := (((64 * (now : Int)) + s.tbOffset) / 64).toNat

/-- The timebase in ticks. -/
def tbTick (s : State) : Nat := tbOf s s.now

/-- The timebase in whole microseconds. -/
def tbUs (s : State) : Nat := tbTick s / usTicks

/-- The calendar group that is running (R232). -/
def groupNow (s : State) : Nat := tbUs s / 16

/-! ### Free values (notes/assumptions/1.md) -/

/-- The next free value. -/
def freeValue (s : State) : Nat := Config.freeNat s.free

/-- The counter of free values moves on. -/
def tookFree (s : State) : State := { s with free := s.free + 1 }

/-- A value the manual leaves unrounded: its floor, or one more, and which of the two is free. A whole number stays. -/
def roundFree (s : State) (q : Rat) : Int :=
  if q.den = 1 then q.num else q.floor + (freeValue s % 2 : Nat)

/-! ### The image in force -/

def chEntry (s : State) (c : Nat) : Option ChEntry := s.img.active.bind (fun i => i.channels[c]?)
def batRec (s : State) (b : Nat) : Option BatRec := s.img.active.bind (fun i => i.battens[b]?)
def nodeRec (s : State) (n : Nat) : Option NodeRec := s.img.active.bind (fun i => i.nodes[n]?)
def queueRec (s : State) (q : Nat) : Option QueueRec :=
  s.img.active.bind (fun i => i.queues.find? (fun r => r.queue == q))

/-- The active safety parameter block. -/
def safetyBlock (s : State) : Option SafetyBlock := s.img.active.map Image.safety

/-! ### Lifecycle (Table 14.6) -/

/-- PWR_LC.STATE: 0 Open, 1 Locked, 2 Field-Opened, 3 Retired. Field-Opened is the ghost light's (R498). -/
def lcState (s : State) : Nat :=
  match s.otp.lifecycle with
  | .opened => 0
  | .locked => if s.gl.fieldOpened then 2 else 1
  | .retired => 3

/-! ### Power -/

/-- The logic runs: the block is neither in reset nor in Dark. -/
def live (s : State) : Bool := !s.pwr.inReset && decide (s.pwr.mode ≠ .dark)

def inShow (s : State) : Bool := !s.pwr.inReset && decide (s.pwr.mode = .show)
def inStandby (s : State) : Bool := !s.pwr.inReset && decide (s.pwr.mode = .standby)

/-- RWS fields take writes: Standby with the curtain down (Table 0.4). -/
def rwsOpen (s : State) : Bool := inStandby s && !s.saf.curtain

/-! ### Die-to-die links (R17) -/

def linkCount (s : State) : Nat := bn s.d2d.a.up + bn s.d2d.b.up

/-! ### Commissioning slots -/

/-- The highest-numbered slot whose confirm bit is set. -/
def latestConfirmed (s : State) : Option (Nat × CommSlot) :=
  s.otp.comm.foldl (fun a kv => if kv.2.confirmed then some kv else a) none

/-- The block CRC equals the CRC of the latest confirmed slot (R335). -/
def blockMatch (s : State) : Bool :=
  match safetyBlock s, latestConfirmed s with
  | some b, some (_, c) => b.crc == c.crc
  | _, _ => false

/-! ### The curtain (R301) -/

/-- Bit `c` of a cause mask. -/
def causeBit (c : Nat) : BitVec 20 := 1#20 <<< c

/-- Condition 8 of Table 9.1. -/
def condSirel (s : State) : Bool :=
  match safetyBlock s with
  | none => false
  | some b => b.peerId == 0 || (s.saf.sirel.up && s.saf.sirel.run)

/-- Conditions 1 to 4 and 6 to 10 of Table 9.1 (SAFE_STAT.READY), with the lifecycle states that Table 14.6 lets raise
the curtain. -/
def curtainReady (s : State) : Bool :=
  inShow s && s.img.active.isSome && s.img.auth && decide (lcState s = 1)
    && s.rh.drPass && blockMatch s && s.saf.guardDone
    && s.saf.main.permit && s.saf.fly.permit && decide (2 ≤ s.saf.good) && condSirel s
    && !s.th.supLive.getLsbD 1 && s.saf.outA.offOk && s.saf.outB.offOk

/-- Every condition of Table 9.1. -/
def curtainAllowed (s : State) : Bool := curtainReady s && decide (s.saf.causes = 0)

def getOut (s : State) (o : Nat) : SafeOutput := if o = 0 then s.saf.outA else s.saf.outB

/-- A safe output with both switches open; the off-state test must pass anew (condition 10). -/
def SafeOutput.opened (o : SafeOutput) : SafeOutput := { o with hs := false, ls := false, offOk := false }

/-- The speed of every spike is undefined until two sightings after the drop (R311). -/
def Evaluator.dropped (e : Evaluator) : Evaluator :=
  { e with spikes := e.spikes.mapVals (fun _ v => { v with sightings := 0, speed := none }) }

/-- The curtain drops: all four switches open together (R326), and the drop counts (Table 9.17). -/
def dropCurtain (s : State) : State :=
  if s.saf.curtain then
    setEvent evCurtain
      { s with saf := { s.saf with
          curtain := false, outA := s.saf.outA.opened, outB := s.saf.outB.opened,
          main := s.saf.main.dropped, fly := s.saf.fly.dropped,
          cntDemand := inc32 s.saf.cntDemand } }
  else s

/-- Cause `c` of Table 9.4 latches; its condition has been present in the running period. -/
def latchCause (c : Nat) (s : State) : State :=
  if s.saf.causes.getLsbD c then
    { s with saf := { s.saf with present := s.saf.present ||| causeBit c, absent := s.saf.absent.set c 0 } }
  else
    setEvent evCurtain
      { s with saf := { s.saf with
          cause := c, causes := s.saf.causes ||| causeBit c,
          present := s.saf.present ||| causeBit c, absent := s.saf.absent.set c 0 } }

/-! ### What a reset and Dark leave (R480, R488, R492) -/

/-- Everything but the ghost light, OTP, the state of the supply rails and the door's waiting time starts anew. -/
def wiped (s : State) : State :=
  { pending := s.pending, now := s.now, free := s.free, tbOffset := -64 * (s.now : Int), otp := s.otp
    gl := { s.gl with fieldOpened := false }
    door := { waitUntil := s.door.waitUntil }
    th := { supLive := s.th.supLive, railLow := s.th.railLow, ioOff := s.th.ioOff } }

/-- The ghost light's record of a reset source (R491): sources that assert while a reset is held join it. -/
def resetRecord (inReset : Bool) (cause : Nat) (g : GhostLight) : GhostLight :=
  let bit := 1#8 <<< (cause - 1)
  if inReset then { g with src := g.src ||| bit, cause := min cause g.cause }
  else { g with src := bit, cause := cause, resets := satAdd 8 g.resets 1 }

/-- A reset by source `cause`, held for `hold` ticks after the source (Table 14.4). RESET_N's own state is kept. -/
def resetDevice (cause hold : Nat) (s : State) : State :=
  let until0 := if s.pwr.inReset then s.pwr.holdUntil else 0
  let u := wiped s
  { u with
    gl := resetRecord s.pwr.inReset cause u.gl
    pwr := { u.pwr with
      inReset := true, holdUntil := max until0 (s.now + hold)
      rstnLow := s.pwr.rstnLow, rstnSince := s.pwr.rstnSince, heldNow := s.pwr.heldNow } }

/-- Ticks that a software or lane-commanded reset holds (Table 14.4). -/
def holdCommand : Nat := 10 * usTicks

/-- An accepted lane-commanded reset has begun by the time `t` (R494). -/
def resetDue (t : Nat) (s : State) : Bool := s.pwr.resetAt.any (fun r => decide (r ≤ max s.now t))

/-- The lane-commanded reset that waits takes place at its time. -/
def waitingReset (s : State) : State :=
  match s.pwr.resetAt with
  | some r => resetDevice 6 holdCommand { s with now := max s.now r }
  | none => s

/-- The state that a command finds: a reset that has come due before it has taken place. -/
def arrive (t : Nat) (s : State) : State := begin t (if resetDue t s then waitingReset s else s)

/-! ### The form of a command's effect -/

/-- What every command ends with: the curtain drops when a condition of Table 9.1 has stopped holding (R301), and
CB_FIRST follows CB_PENDING (R519). `before` is the state the command found. -/
def settle (before s : State) : State :=
  let u := if curtainAllowed s then s else dropCurtain s
  { u with cb := u.cb.follow before.cb.pendingWord }

/-- A command whose effect `f` needs the logic running. -/
def act (t : Nat) (s : State) (f : State → State) : Host.Outcome State Fault Refusal :=
  .next (settle s (if live (arrive t s) then f (arrive t s) else arrive t s))

/-- A command whose effect `f` takes place in every mode and in reset. -/
def actAlways (t : Nat) (s : State) (f : State → State) : Host.Outcome State Fault Refusal :=
  .next (settle s (f (arrive t s)))

/-- A command that accesses a register outside the stage door's: the TAP mailbox does not reach it (R506). -/
def onPath (p : Path) (f : State → State) (s : State) : State := if p = .tap then s else f s

/-! ### Emitter-supply switches (R142) -/

/-- Both switches are commanded open together. -/
def openSwitches (s : State) : State :=
  { s with bat := { s.bat with
      lsCmd := false, hsCmd := false, emCmd := false, closed := false, closing := none,
      cmdAt := if s.bat.lsCmd || s.bat.hsCmd then s.now else s.bat.cmdAt,
      disagree := if s.bat.lsCmd || s.bat.hsCmd then none else s.bat.disagree } }

end Sys2Proof.Machine
end

