-- ==== Sys2Proof/Machine/Operands.lean ====
section
/-! DEFINITION. The operand forms: cue records, frames and item layouts as bytes and back, and the CRCs that guard
what comes in from outside. -/

namespace Sys2Proof.Machine

/-! ### Cue records (Table 7.3) -/

/-- The cue record that 32 bytes hold. -/
def cueOfBytes (bs : List Byte) : CueRec :=
  { kind := le bs 0 1, cls := le bs 1 1, node := le bs 2 2, profile := le bs 4 1, flags := le bs 5 1,
    points := le bs 6 2, queue := le bs 8 2, hqueue := le bs 0xA 2, start := le bs 0xC 4, period := le bs 0x10 4,
    count := le bs 0x14 2, bound := le bs 0x16 2, trig := le bs 0x18 1, rerun := le bs 0x19 1, tag := le bs 0x1A 2,
    runtime := le bs 0x1C 4 }

/-- The 32 bytes of a cue record, with `rt` in its run-time fields. -/
def cueBytes (c : CueRec) (rt : Nat) : List Byte :=
  leBytes 1 c.kind ++ leBytes 1 c.cls ++ leBytes 2 c.node ++ leBytes 1 c.profile ++ leBytes 1 c.flags
    ++ leBytes 2 c.points ++ leBytes 2 c.queue ++ leBytes 2 c.hqueue ++ leBytes 4 c.start ++ leBytes 4 c.period
    ++ leBytes 2 c.count ++ leBytes 2 c.bound ++ leBytes 1 c.trig ++ leBytes 1 c.rerun ++ leBytes 2 c.tag
    ++ leBytes 4 rt

/-- The cue record of SM_SUBMIT0 to SM_SUBMIT7 (R267). -/
def cueOfWords (t : Tab W32) : CueRec :=
  cueOfBytes (wordBytes ((List.range 8).map (fun i => t.get 0 i)))

/-- FLAGS.ARMED of a cue record. -/
def cueArmed (c : CueRec) : Bool := c.flags % 2 == 1

/-- COUNT other than 1 makes a cue standing (R240). -/
def cueStanding (c : CueRec) : Bool := c.count != 1

/-! ### House-port frames (R509, R510) -/

/-- CRC-8 over CMD and the address, most significant byte first. -/
def headerCrc (cmd : Byte) (addr : Nat) : Nat := crc8 (cmd :: beBytes 4 addr)

/-- OP field of CMD. -/
def cmdOp (cmd : Byte) : Nat := cmd.toNat / 64

/-- Word count of CMD. -/
def cmdWords (cmd : Byte) : Nat := cmd.toNat % 64 + 1

/-- CRC-16 over the data words of a write. -/
def dataCrc (ws : List W32) : BitVec 16 := BitVec.ofNat 16 (crc16 (wordBytes ws))

/-- CRC-16 over STATUS and the data words of a response. -/
def respCrc (status : Nat) (ws : List W32) : BitVec 16 :=
  BitVec.ofNat 16 (crc16 (BitVec.ofNat 8 status :: wordBytes ws))

/-! ### Sirel frames (Table 9.9) -/

/-- A Sirel frame taken apart; `scode` says whether its CRC-32C holds. -/
structure SirelFrame where
  ver     : Nat
  type    : Nat
  seq     : Nat
  src     : Nat
  dst     : Nat
  texp    : Nat
  len     : Nat
  payload : List Byte
  scode   : Bool
  deriving DecidableEq, Repr

/-- The frame in `bs`. A length that the LEN field does not explain fails the SCODE. -/
def sirelOfBytes (bs : List Byte) : SirelFrame :=
  let len := le bs 0xE 2
  { ver := le bs 0 1, type := le bs 1 1, seq := le bs 2 2, src := le bs 4 4, dst := le bs 8 4, texp := le bs 0xC 2,
    len := len, payload := slice bs 0x10 len,
    scode := bs.length == 20 + len && le bs (0x10 + len) 4 == crc32c (bs.take (0x10 + len)) }

/-- The payload length of a frame type a device receives (Table 9.10). -/
def sirelLen (type : Nat) : Option Nat :=
  match type with
  | 0x02 => some 4
  | 0x10 => some 8
  | 0x12 => some 12
  | _ => none

/-- VER, TYPE and LEN valid for a frame from the controller, and its identities and TEXP in range. -/
def SirelFrame.sound (f : SirelFrame) : Bool :=
  f.ver == 1 && sirelLen f.type == some f.len

/-- A Sirel frame to send. -/
def sirelBytes (type seq src dst texp : Nat) (payload : List Byte) : List Byte :=
  let body := leBytes 1 1 ++ leBytes 1 type ++ leBytes 2 seq ++ leBytes 4 src ++ leBytes 4 dst ++ leBytes 2 texp
    ++ leBytes 2 payload.length ++ payload
  body ++ leBytes 4 (crc32c body)

/-! ### Completion and trigger records (Tables 7.8, 7.11) -/

/-- The 32 bytes of a completion record. -/
def completionBytes (handle tag status reason worst flags players fault points returns noreturns refused time : Nat) :
    List Byte :=
  leBytes 2 handle ++ leBytes 2 tag ++ leBytes 1 status ++ leBytes 1 reason ++ leBytes 1 worst ++ leBytes 1 flags
    ++ leBytes 2 players ++ leBytes 2 fault ++ leBytes 4 points ++ leBytes 4 returns ++ leBytes 4 noreturns
    ++ leBytes 2 refused ++ leBytes 2 0 ++ leBytes 4 time

/-- The 16 bytes of a trigger record. -/
def triggerBytes (time unit flags started stopped member : Nat) : List Byte :=
  leBytes 6 time ++ leBytes 1 unit ++ leBytes 1 flags ++ leBytes 2 started ++ leBytes 2 stopped ++ leBytes 2 member
    ++ leBytes 2 0

end Sys2Proof.Machine
end

