-- ==== Sys2Proof/Machine/WingsOps.lean ====
section
/-! DEFINITION. The wings: cells, items, commits, overwrite, release, flush, mark and rewind, and reads (R342 to R360). -/

namespace Sys2Proof.Machine

/-- Cells in the pool (R342). -/
def poolCells : Nat := 131072

def seqMod : Nat := 2 ^ 32

/-- `a` is at or after `b`, modulo 2^32 (R345). -/
def seqGe (a b : Nat) : Bool := (a + seqMod - b % seqMod) % seqMod < 2 ^ 31

def getQueue (s : State) (q : Nat) : Queue := s.wq.queues.get {} q

def setQueue (q : Nat) (v : Queue) (s : State) : State :=
  { s with wq := { s.wq with queues := s.wq.queues.set q v } }

/-- Cells taken by the open items of a queue. -/
def Queue.openCells (v : Queue) : Nat := (v.opens.map (fun o => o.cells.length)).sum

/-- Cells of the held items. -/
def Queue.heldCells (v : Queue) : Nat := (v.items.map (fun i => i.cells.length)).sum

/-- R347: cells of held items and of open items. -/
def Queue.occupancy (v : Queue) : Nat := v.heldCells + v.openCells

/-- The `n`-th cell not listed in `used`, which is sorted. -/
def nthFree (used : List Nat) (n : Nat) : Nat := used.foldl (fun c u => if u ≤ c then c + 1 else c) n

/-- The cells `cs` leave the free pool. -/
def takeCells (used cs : List Nat) : List Nat := cs.foldl (fun u c => insertBy (fun a b => decide (a ≤ b)) c u) used

/-- The cells `cs` return to the free pool. -/
def freeCells (cs : List Nat) (s : State) : State :=
  { s with wq := { s.wq with used := s.wq.used.filter (fun c => !cs.contains c) } }

/-- Free cells of the pool (WQ_POOL.FREE). -/
def poolFree (s : State) : Nat := poolCells - s.wq.used.length

/-- A loss at quota or beyond MAX_ITEM: both counters and the event (R343, R353, R354). -/
def countLost (q : Nat) (s : State) : State :=
  setEvent evWingsLoss
    { s with wq := { s.wq with
        cntLost := inc32 s.wq.cntLost,
        queues := s.wq.queues.upd {} q (fun v => { v with lost := inc32 v.lost }) } }

/-- The consumer of a queue. -/
def consumerOf (s : State) (q : Nat) : Option Nat := (queueRec s q).map QueueRec.consumer

/-- A queue that a lane consumes. -/
def laneQueue (s : State) (q : Nat) : Bool := (consumerOf s q).any (fun c => decide (c ∈ [0, 1, 3]))

/-- The queue's oldest held item that is not pinned. -/
def Queue.oldestFree (v : Queue) : Option Item := v.items.find? (fun i => v.pinned != some i.seq)

/-- The oldest held item from `x` on, as REL names it (R346); TAIL when none is held. -/
def Queue.oldestFrom (v : Queue) (x : Nat) : Nat := ((v.items.find? (fun i => seqGe i.seq x)).map Item.seq).getD v.tail

/-- R353, R355: item `it` is overwritten: its cells are freed, REL, and RD where it lay at or below the item, move past
it, and a mark on it is lost. An item below REL is one that a flush left pinned (R359); REL does not go back to it. -/
def Queue.overwrite (v : Queue) (it : Item) : Queue :=
  let rest := v.items.filter (fun i => i.seq != it.seq)
  let past := (it.seq + 1) % seqMod
  { v with
    items := rest
    rel := { v with items := rest }.oldestFrom v.rel
    rd := if seqGe it.seq v.rd then past else v.rd
    markValid := v.markValid && v.mark != it.seq
    markLost := v.markLost || (v.markValid && v.mark == it.seq) }

/-- One cell for an item of queue `q`: a free cell of the pool within QUOTA, after an overwrite where the queue stands
at its quota; none when nothing can be overwritten. `own` counts the cells the item holds already. The producer takes
the cells an overwrite freed (`ready`, R353), in their order; which other free cell it takes is a free value
(notes/assumptions/8.md). -/
def takeCell (q quota own : Nat) (ready : List Nat) (s : State) : Option (Nat × List Nat) × State :=
  let room := fun (u : State) => decide ((getQueue u q).occupancy + own < quota)
  let gone := if room s then none else (getQueue s q).oldestFree
  let u := match gone with
    | none => s
    | some it => countLost q (freeCells it.cells (setQueue q ((getQueue s q).overwrite it) s))
  let take := fun (c : Nat) (u : State) => ({ u with wq := { u.wq with used := takeCells u.wq.used [c] } } : State)
  if room u then
    match ready ++ (gone.map Item.cells).getD [] with
    | c :: r => (some (c, r), take c u)
    | [] =>
      let c := nthFree u.wq.used (freeValue u % max 1 (poolFree u))
      (some (c, []), tookFree (take c u))
  else (none, u)

/-- `n` cells, one by one; on a failure the cells taken so far are freed. -/
def takeItemCells (q quota n : Nat) (ready got : List Nat) (s : State) : Option (List Nat) × State :=
  match n with
  | 0 => (some got, s)
  | n + 1 =>
    match takeCell q quota got.length ready s with
    | (some c, u) => takeItemCells q quota n c.2 (got ++ [c.1]) u
    | (none, u) => (none, freeCells got u)

/-- An item's bytes into its cells, the last cell padded with zeros (R343). -/
def writeCells (m : Memory) (cells : List Nat) (bs : List Byte) : Memory :=
  match cells with
  | [] => m
  | c :: r => writeCells (m.writeList (64 * c) (padTo (bs.take 64) 64)) r (bs.drop 64)

/-- The bytes of an item. -/
def itemBytes (s : State) (it : Item) : List Byte :=
  (it.cells.flatMap (fun c => s.wq.pool.sweep (64 * c) 64)).take it.bytes

/-- Release from REL: items whose read is complete, unpinned, below RD and below a valid mark (R351). -/
def Queue.releasable (v : Queue) (it : Item) : Bool :=
  !seqGe it.seq v.rd && v.pinned != some it.seq && !(v.markValid && seqGe it.seq v.mark)

/-- The leading items that automatic release frees. -/
def Queue.autoPart (v : Queue) : List Item := if v.autoRel then v.items.takeWhile v.releasable else []

/-- The items `rel` (the oldest held ones) are released. -/
def releaseItems (q : Nat) (gone : List Item) (s : State) : State :=
  let v := getQueue s q
  let rest := v.items.drop gone.length
  let past := match gone.getLast? with
    | none => v.rel
    | some i => { v with items := rest }.oldestFrom ((i.seq + 1) % seqMod)
  freeCells (gone.flatMap Item.cells) (setQueue q { v with items := rest, rel := past } s)

/-- Automatic release where AUTO_REL is set; a safety-evaluator queue always releases (R352). -/
def autoRelease (q : Nat) (s : State) : State :=
  let v := getQueue s q
  let safe := (queueRec s q).any (fun r => r.consumer == 4)
  releaseItems q (({ v with autoRel := v.autoRel || safe } : Queue).autoPart) s

/-- R344, R345: an item of `bs` commits to queue `q` as one step. `got` are the cells its producer has taken already.
The flag says whether it was committed. -/
def commitFrom (q kind : Nat) (bs : List Byte) (got : List Nat) (s : State) : Bool × State :=
  match queueRec s q with
  | none => (false, freeCells got s)
  | some r =>
    let n := max 1 (ceilDiv bs.length 64)
    match takeItemCells q r.quota (min n r.maxItem - got.length) [] (got.take n) (freeCells (got.drop n) s) with
    | (none, u) => (false, countLost q u)
    | (some cells, u) =>
      -- a cell beyond MAX_ITEM discards the item, and no held item is overwritten for that cell (R343)
      if n > r.maxItem then (false, countLost q (freeCells cells u))
      else
        let v := getQueue u q
        let it : Item := { seq := v.tail, kind := kind, bytes := bs.length, time := tbUs u % 2 ^ 32, cells := cells }
        let w := setQueue q { v with items := v.items ++ [it], tail := (v.tail + 1) % seqMod } u
        let x := { w with wq := { w.wq with pool := writeCells w.wq.pool cells bs } }
        if r.consumer = 2 then (true, setEvent evHpQueue x)
        else if r.consumer = 4 then
          -- the evaluator takes the item as it commits: its read completes and it is released (R349, R352)
          (true, autoRelease q (setQueue q { getQueue x q with rd := (getQueue x q).tail } x))
        else (true, x)

/-- An item that no producer held open. -/
def commitItem (q kind : Nat) (bs : List Byte) (s : State) : Bool × State := commitFrom q kind bs [] s

/-! ### Open items (R344, R360) -/

/-- Producer `owner` opens an item of queue `q` and has begun `n` of its cells. Where it cannot take them, the item is
discarded and counted, and what follows of it is dropped. -/
def openItem (q owner n : Nat) (s : State) : State :=
  match queueRec s q with
  | none => s
  | some r =>
    let hold := fun (o : OpenItem) (u : State) => setQueue q { getQueue u q with opens := (getQueue u q).opens ++ [o] } u
    match takeItemCells q r.quota (min n r.maxItem) [] [] s with
    | (none, u) => hold { owner := owner, cells := [], dead := true } (countLost q u)
    | (some cells, u) => hold { owner := owner, cells := cells, dead := false } u

/-- The item that `owner` has open in queue `q` is open no longer; its cells are still taken. -/
def forgetOpen (q owner : Nat) (s : State) : State :=
  setQueue q { getQueue s q with opens := (getQueue s q).opens.filter (fun o => o.owner != owner) } s

/-- The commit of a producer that may have opened its item: a discarded item drops it, and it takes no number. -/
def commitOpen (q owner kind : Nat) (bs : List Byte) (s : State) : Bool × State :=
  match (getQueue s q).opens.find? (fun o => o.owner == owner) with
  | none => commitItem q kind bs s
  | some o => if o.dead then (false, forgetOpen q owner s) else commitFrom q kind bs o.cells (forgetOpen q owner s)

/-- A producer that commits nothing after all closes what it has open. -/
def closeOpen (q owner : Nat) (s : State) : State :=
  match (getQueue s q).opens.find? (fun o => o.owner == owner) with
  | none => s
  | some o => freeCells o.cells (forgetOpen q owner s)

/-- A record to a queue that the image may not have: then WQ_CNT_LOST counts it (R264). -/
def commitDevice (q : Option Nat) (kind : Nat) (bs : List Byte) (s : State) : State :=
  match q with
  | some n => (commitItem n kind bs s).2
  | none => { s with wq := { s.wq with cntLost := inc32 s.wq.cntLost } }

/-- A queue that SM_QSEL and SM_QSEL2 may name (R264). -/
def deviceQueue (s : State) (q : Nat) : Bool :=
  (queueRec s q).any (fun r => r.producer == 0xFFFF && r.consumer != 4)

/-- The queue a field names, if it may be named (R264). -/
def selectedQueue (s : State) (q : Nat) : Option Nat := if deviceQueue s q then some q else none

/-! ### Flush (R359, R360) -/

/-- Every held item is freed but one pinned on a lane, which frees when its group completes. -/
def flushQueue (q : Nat) (s : State) : State :=
  let v := getQueue s q
  let stays := v.items.filter (fun i => v.pinned == some i.seq && (queueRec s q).any (fun r => r.consumer ∈ [0, 1, 3]))
  let gone := v.items.filter (fun i => !stays.any (fun j => j.seq == i.seq))
  let cells := gone.flatMap Item.cells ++ v.opens.flatMap OpenItem.cells
  let w : Queue :=
    { v with
      items := stays, opens := v.opens.map (fun o => { o with cells := [], dead := true }),
      rel := v.tail, rd := v.tail, markValid := false, markLost := false,
      pinned := if stays = [] then none else v.pinned,
      flushed := satAdd 32 v.flushed v.items.length,
      drop := satAdd 32 v.drop (v.opens.filter (fun o => !o.dead)).length,
      reset := true }
  let u := freeCells cells (setQueue q w s)
  if u.wq.view.any (fun p => p.1 == q) then { u with wq := { u.wq with view := none, viewBytes := [] } } else u

/-- Every queue empties and starts anew (R66, R348, R360): the wings as after reset, with the counters kept. The points
whose records were open are gone with the old image, so no producer goes on with one. -/
def emptyQueues (s : State) : State :=
  { s with
    wq := { s.wq with
      used := [], view := none, viewBytes := [], resBusy := false,
      queues := s.wq.queues.mapVals (fun _ v =>
        ({ flushed := satAdd 32 v.flushed v.items.length
           drop := satAdd 32 v.drop (v.opens.filter (fun o => !o.dead)).length
           lost := v.lost
           autoRel := v.autoRel } : Queue)) },
    pk := { s.pk with
      contexts := [], lanes := s.pk.lanes.mapVals (fun _ p => { p with group := none, context := none, past := [] }) } }

/-! ### Mark and rewind (R356, R357) -/

def Queue.setMark (v : Queue) : Queue := { v with mark := v.rd, markValid := true, markLost := false }

def Queue.clearMark (v : Queue) : Queue := { v with markValid := false, markLost := false }

/-- REWIND: the queue after it, its RESULT and its LOSTN. -/
def Queue.rewind (v : Queue) : Queue × Nat × Nat :=
  if v.markValid then ({ v with rd := v.mark, reset := true }, 0, 0)
  else if v.markLost then
    ({ v with rd := v.rel, markLost := false, reset := true }, 2, min 0xFFFFF ((v.rel + seqMod - v.mark % seqMod) % seqMod))
  else (v, 3, 0)

/-! ### Reads (R349, R350) -/

/-- The item at RD, or the oldest after it where an overwrite took that one (R353). -/
def Queue.next (v : Queue) : Option Item := v.items.find? (fun i => seqGe i.seq v.rd)

/-- A read starts: the item is pinned and RD advances by one. -/
def startRead (q : Nat) (it : Item) (s : State) : State :=
  let v := getQueue s q
  setQueue q { v with pinned := some it.seq, rd := (it.seq + 1) % seqMod } s

/-- A read completes: the item is unpinned, marked as read, and released where release is automatic. -/
def completeRead (q : Nat) (s : State) : State :=
  let v := getQueue s q
  match v.pinned with
  | none => s
  | some n =>
    let w := { v with
      pinned := none
      items := v.items.map (fun i => if i.seq = n then { i with read := true } else i) }
    -- an item that a flush left behind is freed when its group completes (R359)
    if seqGe n w.rel then autoRelease q (setQueue q w s)
    else freeCells ((w.items.filter (fun i => i.seq == n)).flatMap Item.cells)
      (setQueue q { w with items := w.items.filter (fun i => i.seq != n) } s)

/-- A read is abandoned: RD goes back to the item and its next group carries RESET (R350). -/
def abandonRead (q : Nat) (s : State) : State :=
  let v := getQueue s q
  match v.pinned with
  | none => s
  | some n =>
    if seqGe n v.rel then setQueue q { v with pinned := none, rd := n, reset := true } s
    else freeCells ((v.items.filter (fun i => i.seq == n)).flatMap Item.cells)
      (setQueue q { v with pinned := none, items := v.items.filter (fun i => i.seq != n), reset := true } s)

end Sys2Proof.Machine
end

