-- ==== Sys2Proof/Machine/ImageParse.lean ====
section
/-! DEFINITION. Reading a blocking image from its bytes: the layout of R33 to R58, and the load checks of Table 2.10
that need nothing but the image, the OTP and the active image. An error is (ERR_CODE, ERR_SECT). -/

namespace Sys2Proof.Machine

/-- A load check: it passes, or ends the load with its code and section. -/
def need (b : Bool) (code sect : Nat) : Except (Nat × Nat) Unit := if b then .ok () else .error (code, sect)

def allZero (bs : List Byte) : Bool := bs.all (fun b => b == 0)

def inRange (lo hi x : Nat) : Bool := decide (lo ≤ x) && decide (x ≤ hi)
def inRangeInt (lo hi x : Int) : Bool := decide (lo ≤ x) && decide (x ≤ hi)

/-! ### Header and directory (Tables 2.1, 2.2) -/

structure DirEntry where
  id     : Nat
  sver   : Nat
  rsvd   : Nat
  offset : Nat
  length : Nat
  crc    : Nat
  deriving DecidableEq, Repr

/-- Bytes of a directory entry in format `f` (R36). -/
def dirSize (f : Nat) : Nat := if f = 2 then 16 else 12

def dirEntry (bs : List Byte) : DirEntry :=
  { id := le bs 0 1, sver := le bs 1 1, rsvd := le bs 2 2, offset := le bs 4 4, length := le bs 8 4, crc := le bs 12 4 }

def directory (img : List Byte) (f n : Nat) : List DirEntry :=
  (pieces (img.drop 0x40) (dirSize f) n).map dirEntry

def DirEntry.bytes (d : DirEntry) (img : List Byte) : List Byte := slice img d.offset d.length

/-- Sections a full image of format `f` requires (Table 2.3). -/
def requiredSections (patch : Bool) (f : Nat) : List Nat :=
  if patch then [0x0F]
  else [1, 2, 3, 4, 5, 6, 7, 8, 9, 0xA, 0xB] ++ (if f = 2 then [0xC] else []) ++ [0xD, 0xF]

/-- Sections Table 2.3 permits. -/
def permittedSections (patch : Bool) : List Nat :=
  if patch then [4, 5, 6, 7, 8, 9, 0xC, 0xF] else [1, 2, 3, 4, 5, 6, 7, 8, 9, 0xA, 0xB, 0xC, 0xD, 0xF]

/-- Check 7, entry by entry: order, alignment, no overlap, inside IMAGE_LEN, gap bytes zero (R33). -/
def checkEntries (img : List Byte) (ilen : Nat) (prev : Option Nat) (stop : Nat) : List DirEntry → Except (Nat × Nat) Nat
  | [] => .ok stop
  | d :: r => do
    need (prev.all (fun x => decide (x < d.id)) && d.offset % 16 == 0 && decide (stop ≤ d.offset)
      && decide (d.offset + d.length ≤ ilen)) 0x0A d.id
    need (allZero (slice img stop (d.offset - stop))) 0x0A 0
    checkEntries img ilen (some d.id) (d.offset + d.length) r

def checkDirectory (img : List Byte) (patch : Bool) (f ilen : Nat) (ds : List DirEntry) : Except (Nat × Nat) Unit := do
  let stop ← checkEntries img ilen none (0x40 + dirSize f * ds.length) ds
  match (requiredSections patch f).find? (fun i => !ds.any (fun d => d.id == i)) with
  | some i => .error (0x0A, i)
  | none => do
    let l := ds.getLast?
    need (l.any (fun d => d.id == 0xF)) 0x0A ((l.map DirEntry.id).getD 0)
    need (l.any (fun d => d.length == 132) && stop == ilen) 0x0A 0xF

/-! ### Sections (check 14): each parser gives the records, or nothing where a rule is broken -/

def parseNode (b : List Byte) : NodeRec := { kind := le b 0 1, index := le b 2 2, first := le b 4 4 }

/-- Largest INDEX of a player kind (Table 2.5). -/
def maxIndex (k : Nat) : Nat :=
  match k with
  | 1 => 1535
  | 2 => 15
  | 3 => 63
  | 4 => 7
  | 5 => 31
  | 6 => 0
  | _ => 1

def nodeOk (mc : Nat) (b : List Byte) : Bool :=
  let n := parseNode b
  le b 1 1 == 0 && decide (n.kind ≤ 7)
    && (if n.kind = 0 then inRange 1 65534 n.index && decide (n.first + n.index ≤ mc)
        else decide (n.index ≤ maxIndex n.kind) && n.first == 0)

/-- Each resource has at most one player node (R44). -/
def distinctPlayers (ns : List NodeRec) : Bool :=
  let ks := (ns.filter (fun n => n.kind != 0)).map (fun n => n.kind * 4096 + n.index)
  (firsts [] ks).length == ks.length

def parseNodes (b : List Byte) : Option (List NodeRec × List Nat) :=
  let nc := le b 0 4
  let mc := le b 4 4
  let stop := 8 + 8 * nc + 2 * mc
  if inRange 1 65535 nc && decide (mc ≤ 1048576) && b.length == (stop + 3) / 4 * 4 && allZero (b.drop stop) then
    let raw := pieces (b.drop 8) 8 nc
    let ns := raw.map parseNode
    let ms := (pieces (b.drop (8 + 8 * nc)) 2 mc).map leNat
    if raw.all (nodeOk mc) && ms.all (fun m => decide (m < nc)) && ns.head?.any (fun n => n.kind == 0)
      && distinctPlayers ns then some (ns, ms) else none
  else none

def parseChannels (b : List Byte) : Option (List ChEntry) :=
  if b.length = 1552 * 4 then
    let raw := pieces b 4 1552
    let ok := fun (i : Nat) (e : List Byte) =>
      (le e 0 1 == 0xFF || (decide (i < 1536) && decide (le e 0 1 ≤ 63))) && decide (le e 1 1 ≤ 3) && le e 2 2 == 0
    if (raw.zipIdx.all (fun p => ok p.2 p.1)) then
      some (raw.map (fun e => { batten := le e 0 1, enable := le e 1 1 % 2 == 1, fly := le e 1 1 / 2 % 2 == 1 }))
    else none
  else none

def parseBatten (b : List Byte) : Option BatRec :=
  let r : BatRec :=
    { enable := le b 0 1 == 1, ref := le b 1 1, width := le b 2 1, floor := le b 3 1, pwrCoef := le b 4 2,
      delay := signed 16 (le b 6 2), wlTc := signed 16 (le b 8 2), knee := signed 16 (le b 0xA 2),
      govSet := le b 0xC 1 }
  if decide (le b 0 1 ≤ 1) && decide (r.ref ≤ 15) && inRange 8 128 r.width && inRange 10 100 r.floor
    && decide (0x4000 ≤ r.pwrCoef) && inRangeInt (-640) 2400 r.knee && decide (r.govSet ≤ 3)
    && allZero (slice b 0xD 3) then some r else none

def parseBattens (b : List Byte) : Option (List BatRec × List GovSet) :=
  if b.length = 64 * 16 + 4 * 16 then do
    let bs ← (pieces b 16 64).mapM parseBatten
    let gs ← (pieces (b.drop 1024) 16 4).mapM (fun g =>
      if le g 12 4 = 0 then some ({ short := le g 0 4, middle := le g 4 4, long := le g 8 4 } : GovSet) else none)
    some (bs, gs)
  else none

def parseProfile (b : List Byte) : Option ActProfile :=
  let p : ActProfile :=
    { shots1 := le b 0 1, phaseReps := le b 1 1, maxCand := le b 2 1, fset := le b 3 1, coincK := le b 4 1,
      coincWin := le b 5 1, ringHold := le b 6 1, apHold := le b 7 1, gateStart := le b 8 2, gateLen := le b 0xA 2,
      preshowOfs := signed 16 (le b 0xC 2), preshowLen := le b 0xE 2, candThr := le b 0x10 2 }
  if decide (p.shots1 ∈ [16, 32, 48, 64]) && decide (1 ≤ p.phaseReps) && inRange 1 4 p.maxCand
    && decide (p.fset ≤ 15) && inRange 1 16 p.coincK && inRange 4 32 p.coincWin && decide (p.gateStart ≤ 16383)
    && inRange 1 (16384 - p.gateStart) p.gateLen && inRangeInt (-256) 0 p.preshowOfs
    && (if p.preshowOfs = 0 then p.preshowLen == 0 else inRange 1 (-p.preshowOfs).toNat p.preshowLen)
    && allZero (slice b 0x12 14) then some p else none

def parseProfiles (b : List Byte) : Option (List ActProfile) :=
  let n := le b 0 4
  if inRange 1 64 n && b.length == 4 + 32 * n then (pieces (b.drop 4) 32 n).mapM parseProfile else none

/-- `n` coefficient sets, each with its own TAPS (R49, Table 5.5). -/
def parseSets (n : Nat) (b : List Byte) : Option (List FilterSet) :=
  match n with
  | 0 => if b = [] then some [] else none
  | n + 1 =>
    let t := le b 2 2
    if decide (8 ≤ b.length) && decide (le b 0 1 ≤ 15) && le b 1 1 == 0 && inRange 1 384 t && le b 4 4 == 0
      && decide (8 + 4 * t ≤ b.length) then do
      let ws := (pieces (b.drop 8) 4 t).map leNat
      let rest ← parseSets n (b.drop (8 + 4 * t))
      if ws.all (fun w => decide (w < 2 ^ 20)) && !rest.any (fun f => f.setId == le b 0 1) then
        some ({ setId := le b 0 1, coefs := ws.map (signed 20) } :: rest)
      else none
    else none

def parseFsets (b : List Byte) : Option (List FilterSet) :=
  if inRange 1 16 (le b 0 4) then parseSets (le b 0 4) (b.drop 4) else none

def parseRej (b : List Byte) : Option RejParams :=
  let r : RejParams :=
    { ambWeight := le b 0 2, nfRange := le b 2 2, nfDepth := le b 4 1, nfTol := le b 5 1, codeEn := le b 6 1 == 1,
      ftaTrains := le b 7 1, ftaGate := le b 8 2, ftaMin := le b 0xA 2, ftaResid := le b 0xC 2, ftaBlank := le b 0xE 2,
      codeSeed := BitVec.ofNat 32 (le b 0x10 4), slotPhase := le b 0x14 2 }
  if b.length == 64 && inRange 2 8 r.nfDepth && decide (le b 6 1 ≤ 1) && decide (r.ftaTrains ≤ 8)
    && inRange 1 64 r.ftaGate && inRange 16 1024 r.ftaMin && inRange 1 512 r.ftaResid && decide (r.ftaBlank ≤ 64)
    && r.codeSeed != 0
    && allZero (slice b 0x16 42) then some r else none

/-- Loop periods of a scene (R284). -/
def sceneLen (p : SceneProfile) : Nat := 200000 / p.rate

def parseSceneProfile (b : List Byte) : Option SceneProfile :=
  let p : SceneProfile :=
    { shape := le b 0 1, rate := le b 1 1, azStart := le b 2 2, azEnd := le b 4 2, flyback := le b 6 2,
      stare := le b 8 2, comp := le b 0xA 2 }
  if decide (p.shape ≤ 2) && inRange 10 100 p.rate && decide (p.comp ≤ 3)
    && (p.shape != 0 || (decide (5 ≤ p.flyback) && decide (ceilDiv p.flyback 5 + 2 ≤ sceneLen p)))
    && (p.shape != 2 || (decide (5 ≤ p.stare) && decide (ceilDiv p.stare 5 ≤ sceneLen p)))
    && allZero (slice b 0xC 20) then some p else none

def parseScene (b : List Byte) : Option SceneProgram :=
  let n := le b 0 4
  let m := le b (4 + 32 * n) 4
  if inRange 1 16 n && inRange 1 256 m && b.length == 8 + 32 * n + 4 * m then do
    let ps ← (pieces (b.drop 4) 32 n).mapM parseSceneProfile
    let ss ← (pieces (b.drop (8 + 32 * n)) 4 m).mapM (fun s =>
      if decide (le s 0 1 < n) && decide (1 ≤ le s 1 1) && le s 2 2 == 0 then
        some ({ profile := le s 0 1, reps := le s 1 1 } : SceneStep) else none)
    some { profiles := ps, steps := ss }
  else none

/-- Classes each cue kind permits (Table 7.1): S is 0, L is 1, B is 2. -/
def classPermitted (kind cls : Nat) : Bool :=
  match kind with
  | 1 => decide (cls ≤ 2)
  | 3 => cls == 0
  | _ => cls == 1 || cls == 2

/-- Ranges of Table 7.3 and R226 that need nothing but the record: reason 0x01 of Table 7.4. -/
def cueInRange (c : CueRec) : Bool :=
  decide (c.kind ≤ 4) && decide (c.cls ≤ 2) && decide (c.flags ≤ 1) && inRange 1 4096 c.points
    && decide (c.rerun ≤ 16) && c.runtime == 0 && decide (c.trig ≤ 63)
    && (c.kind == 4 || decide (c.profile ≤ 63))
    && (c.cls != 0 || inRange 48 1000 c.bound) && (c.cls != 1 || inRange 48 200 c.bound)
    && (c.kind != 0 || c.period == 0)
    && (c.count != 0 || c.period != 0 || c.kind == 0)
    && (c.period == 0 || decide ((if c.cls = 0 then 1000 else 64) ≤ c.period))
    && (!cueArmed c || ((c.cls == 1 || c.cls == 2) && c.start == 0))

/-- R224: what a class S template must be, but for its queue and the equality of the periods. -/
def safetyTemplate (c : CueRec) : Bool :=
  (c.kind == 1 || c.kind == 3) && c.count == 0 && inRange 1000 16000 c.period && decide (c.start < c.period)

def parseTemplates (b : List Byte) : Option (List CueRec) :=
  let n := le b 0 4
  if decide (n ≤ 1024) && b.length == 4 + 32 * n then
    let cs := (pieces (b.drop 4) 32 n).map cueOfBytes
    let s := cs.filter (fun c => c.cls == 0)
    if cs.all (fun c => cueInRange c && classPermitted c.kind c.cls) && s.all safetyTemplate
      && s.all (fun c => s.head?.any (fun d => d.period == c.period)) then some cs else none
  else none

/-- Two-bit codes from bit 0 upward. -/
def codesOf (n v : Nat) : List Nat :=
  match n with
  | 0 => []
  | n + 1 => v % 4 :: codesOf n (v / 4)

/-- Pattern records. The bits after a pattern's last code, up to the end of its word, are not checked (DESIGN CHOICE,
notes/assumptions/18.md). -/
def parsePatterns (n : Nat) (b : List Byte) : Option (List Pattern × List Byte) :=
  match n with
  | 0 => some ([], b)
  | n + 1 =>
    let k := le b 4 2
    let size := 8 + (2 * k + 31) / 32 * 4
    if le b 1 1 == 0 && inRange 1 1552 k && le b 6 2 == 0 && decide (size ≤ b.length) then do
      let (ps, r) ← parsePatterns n (b.drop size)
      some ({ patId := le b 0 1, node := le b 2 2, codes := codesOf k (leNat (slice b 8 (size - 8))) } :: ps, r)
    else none

def parseMasks (n : Nat) (b : List Byte) : Option (List MaskRec × List Byte) :=
  match n with
  | 0 => some ([], b)
  | n + 1 =>
    let k := le b 2 2
    let size := 4 + 4 * k
    if decide (le b 1 1 ≤ 1) && inRange 1 1024 k && decide (size ≤ b.length) then do
      let (ms, r) ← parseMasks n (b.drop size)
      some ({ maskId := le b 0 1, type := le b 1 1, lo := (pieces (b.drop 4) 2 k).map leNat,
              hi := (pieces (b.drop (4 + 2 * k)) 2 k).map leNat } :: ms, r)
    else none

/-- The triggers section. A pattern's N need not equal its node's expansion count, and of several records with one identifier
the first is used (DESIGN CHOICE, notes/assumptions/18.md). -/
def parseTriggers (f : Nat) (b : List Byte) : Option TriggerSect :=
  let pc := le b 0 4
  let mc := le b 4 4
  if decide (8 ≤ b.length) && decide (pc ≤ 64) && decide (mc ≤ if f = 2 then 32 else 0) then do
    let (ps, r) ← parsePatterns pc (b.drop 8)
    let (ms, r2) ← parseMasks mc r
    if r2 = [] then some { patterns := ps, masks := ms } else none
  else none

def parseQueue (b : List Byte) : Option QueueRec :=
  let q : QueueRec :=
    { queue := le b 0 2, maxItem := le b 2 1, consumer := le b 3 1, quota := le b 4 4, pack := le b 8 1,
      context := le b 9 1, producer := le b 0xA 2, slane := le b 0xC 1 }
  if decide (q.queue ≤ 4095) && decide (1 ≤ q.maxItem) && decide (q.consumer ≤ 4) && decide (q.quota ≤ poolCells)
    && decide (q.pack ≤ 3) && (!(q.pack == 1 || q.pack == 3) || decide (q.context ≤ 63))
    && (if q.consumer = 3 then decide (q.slane ≤ 1) else q.slane == 0) && allZero (slice b 0xD 3) then some q else none

def parseQueues (b : List Byte) : Option (List QueueRec) :=
  let n := le b 0 4
  if inRange 1 4096 n && b.length == 4 + 16 * n then do
    let qs ← (pieces (b.drop 4) 16 n).mapM parseQueue
    if (firsts [] (qs.map QueueRec.queue)).length = n then some qs else none
  else none

def parseLane (b : List Byte) : Option LanePlan :=
  let p : LanePlan :=
    { enable := le b 0 1 == 1, rates := le b 1 1, verMin := le b 2 1, creditLim := le b 4 2,
      vcCredits := (slice b 6 6).map BitVec.toNat }
  if decide (le b 0 1 ≤ 1) && decide (p.rates ≤ 7) && (!p.enable || p.rates != 0)
    && decide (p.verMin ∈ [0x10, 0x11, 0x12]) && le b 3 1 == 0 && inRange 1 10000 p.creditLim
    && p.vcCredits.all (fun c => decide (1 ≤ c)) && le b 0xC 4 == 0 then some p else none

def parseLanes (b : List Byte) : Option (List LanePlan) :=
  if b.length = 64 then (pieces b 16 4).mapM parseLane else none

/-- Largest INDEX of a loop quantity (Table 12.6). -/
def loopIndexMax (qty : Nat) : Nat :=
  match qty with
  | 1 => 31
  | 2 => 7
  | 3 => 7
  | 4 => 3
  | 5 => 63
  | _ => 0

def parseHk (b : List Byte) : Option HkPlan :=
  if b.length = 32 * 8 + 8 * 16 + 8 then do
    let ins ← (pieces b 8 32).mapM (fun r =>
      if decide (le r 0 1 ≤ 2) && inRange 1 8 (le r 1 1) && decide (1 ≤ le r 2 2) && le r 6 2 == 0 then
        some ({ conv := le r 0 1, accShift := le r 1 1, period := le r 2 2, disagree := le r 4 2 } : HkInput) else none)
    let aux ← (pieces (b.drop 256) 16 8).zipIdx.mapM (fun (r, n) =>
      let a : AuxInput := { exc := le r 0 1, excI := le r 1 1, wiring := le r 2 1, notch := le r 3 1, range := le r 4 1 }
      if ((a.exc == 0xFF && a.excI == 0) || (decide (a.exc ≤ 3) && inRange 1 20 a.excI))
        && decide (a.wiring ≤ 2) && (a.wiring == 0 || n % 2 == 0) && decide (a.notch ≤ 3) && decide (a.range ≤ 3)
        && allZero (slice r 5 11) then some a else none)
    let r := b.drop 384
    let l : LoopRec := { qty := le r 0 2 / 2048, index := le r 0 2 % 2048, low := le r 2 2, high := le r 4 2 }
    if decide (l.qty ≤ 5) && decide (l.index ≤ loopIndexMax l.qty)
      && (if l.qty = 0 then l.low == 0 && l.high == 0 else l.low != l.high) && le r 6 2 == 0 then
      some { inputs := ins, aux := aux, loop := l }
    else none
  else none

/-- The default housekeeping plan of a format 1 image without section 0x0C (R38, R422). -/
def defaultHk : HkPlan :=
  { inputs := List.replicate 32 { conv := 0, accShift := 4, period := 1000, disagree := 0 }, aux := [],
    loop := { qty := 0, index := 0, low := 0, high := 0 } }

/-! ### The safety parameter block (R58, R333) -/

def parseSin (b : List Byte) : Option SinCfg :=
  let c : SinCfg := { role := le b 0 1, mode := le b 1 1, disc := le b 2 1, filt := le b 3 1 }
  if decide (c.role ≤ 3) && decide (c.mode ≤ 1) && inRange 1 50 c.disc && inRange 1 40 c.filt then some c else none

def usedChannels (bs : List Byte) : List Nat := ((pieces bs 2 4).map leNat).filter (fun c => c != 0xFFFF)

def parseSpike (b : List Byte) : Option SpikeRec :=
  let s : SpikeRec :=
    { spikeId := le b 0 1, funcs := le b 1 1, dir := le b 2 1, lostMax := le b 3 1, near := le b 4 2, far := le b 6 2,
      ampMin := le b 8 2, flyMin := le b 0xA 2, posLo := (le b 0xC 4 : Nat), posHi := (le b 0x10 4 : Nat),
      slsMax := (le b 0x14 4 : Nat), sdiTol := (le b 0x18 4 : Nat), look := (le b 0x1C 2 : Nat),
      mainCh := usedChannels (slice b 0x20 8), flyCh := usedChannels (slice b 0x28 8) }
  if decide (s.spikeId ≤ 63) && decide (s.funcs ≤ 7)
    && (if s.funcs / 4 = 1 then s.dir == 1 || s.dir == 2 else s.dir == 0) && inRange 1 8 s.lostMax
    && inRange 1 16383 s.near && inRange s.near 16383 s.far && inRange 4 1024 s.flyMin
    && decide (s.posLo < 2 ^ 24) && decide (s.posLo < s.posHi) && decide (s.posHi < 2 ^ 24)
    && inRangeInt 1 (2 ^ 24 - 1) s.slsMax && decide (s.sdiTol < 2 ^ 24) && decide (s.look ≤ 1000) && le b 0x1E 2 == 0
  then some s else none

def parseEntry (bg : Bool) (b : List Byte) : Option FieldEntry :=
  let e : FieldEntry := { channel := le b 0 2, near := le b 2 2, far := le b 4 2, bgFar := le b 6 2 }
  if decide (e.channel ≤ 1535) && inRange 1 16383 e.near && inRange e.near 16383 e.far
    && (if bg then decide (e.far < e.bgFar) else e.bgFar == 0) then some e else none

def parseFields (n : Nat) (b : List Byte) : Option (List FieldRec × List Byte) :=
  match n with
  | 0 => some ([], b)
  | n + 1 =>
    let k := le b 8 2
    if decide (24 + 8 * k ≤ b.length) && decide (le b 0 1 ≤ 31) && inRange 1 8 (le b 1 1) && decide (le b 2 1 ≤ 1)
      && inRange 1 64 (le b 3 1) && decide (le b 4 2 ≤ le b 6 2) && inRange 2 256 k
      && (decide (le b 0xA 1 ≤ 63) || le b 0xA 1 == 0xFF) && le b 0xB 1 == 0 && le b 0x14 4 == 0 then do
      let es ← (pieces (b.drop 24) 8 k).mapM (parseEntry (le b 2 1 == 1))
      let (fs, r) ← parseFields n (b.drop (24 + 8 * k))
      some ({ fieldId := le b 0 1, persist := le b 1 1, bg := le b 2 1 == 1, flyHits := le b 3 1, azLo := le b 4 2,
              azHi := le b 6 2, spikeSel := le b 0xA 1, actLo := (le b 0xC 4 : Nat), actHi := (le b 0x10 4 : Nat),
              entries := es } :: fs, r)
    else none

def parseSafety (b : List Byte) : Option SafetyBlock :=
  let n := le b 0 4
  let c := slice b 4 n
  let ns := le c 2 1
  let nf := le c 3 1
  if inRange 64 16384 n && b.length == n + 8 && decide (128 + 48 * ns ≤ n) && le c 0 2 == 1 && decide (ns ≤ 64)
    && decide (nf ≤ 32) && decide (1 ≤ ns + nf) && le c 4 4 != 0 && inRange 1 500 (le c 0xC 2)
    && inRange 20 1000 (le c 0xE 2) && decide (le c 0x10 1 ≤ 1) && inRange 1 4 (le c 0x11 1)
    && decide (1 ≤ le c 0x12 2) && allZero (slice c 0x24 28) then do
    let sin ← (pieces (c.drop 0x14) 4 4).mapM parseSin
    let refs ← (pieces (c.drop 64) 4 16).mapM (fun r =>
      if le r 2 2 ≤ 255 then some ({ lpOfs := signed 16 (le r 0 2), refNom := le r 2 2 } : RefRec) else none)
    let spikes ← (pieces (c.drop 128) 48 ns).mapM parseSpike
    let (fields, rest) ← parseFields nf (c.drop (128 + 48 * ns))
    if rest = [] && (firsts [] (spikes.map SpikeRec.spikeId)).length == ns
      && (firsts [] (fields.map FieldRec.fieldId)).length == nf && sin.any (fun i => i.role == 1) then
      some { devId := le c 4 4, peerId := le c 8 4, timeExp := le c 0xC 2, tpInterval := le c 0xE 2,
             restart := le c 0x10 1, xchkN := le c 0x11 1, xtol := (le c 0x12 2 : Nat), sin := sin, refs := refs,
             spikes := spikes, fields := fields, crc := le b (4 + n) 4 }
    else none
  else none

/-! ### The node tree (R25 to R27, R44) -/

/-- The members of ensemble node `n`. -/
def membersOf (nodes : List NodeRec) (members : List Nat) (n : Nat) : List Nat :=
  match nodes[n]? with
  | some r => if r.kind = 0 then (members.drop r.first).take r.index else []
  | none => []

/-- The players `n` expands to, depth first in member order, repeats included; `fuel` bounds the depth. -/
def expandRaw (nodes : List NodeRec) (members : List Nat) (fuel n : Nat) : List Nat :=
  match fuel with
  | 0 => []
  | fuel + 1 =>
    match nodes[n]? with
    | none => []
    | some r =>
      if r.kind = 0 then (membersOf nodes members n).flatMap (expandRaw nodes members fuel) else [n]

/-- R27: the players of a node, each at its first position. -/
def expand (img : Image) (n : Nat) : List Nat :=
  firsts [] (expandRaw img.nodes img.members img.nodes.length n)

/-- No path of ensembles from `n` is as long as `fuel`: with one node per level, no ensemble reaches itself. -/
def shallow (nodes : List NodeRec) (members : List Nat) (fuel n : Nat) : Bool :=
  match fuel with
  | 0 => false
  | fuel + 1 => (membersOf nodes members n).all (shallow nodes members fuel)

/-- R26, R44: the node table has no cycle. -/
def acyclic (nodes : List NodeRec) (members : List Nat) : Bool :=
  (List.range nodes.length).all (shallow nodes members nodes.length)

/-! ### Cross-references, quotas and disjointness (checks 14, 16 and 18) -/

/-- The queue a template names, and a safety queue for class S (R52, R224). -/
def templateRefs (img : Image) (c : CueRec) : Bool :=
  decide (c.node < img.nodes.length)
    && img.queues.any (fun q => q.queue == c.queue && (c.cls != 0 || q.consumer == 4))
    && (c.hqueue == 0xFFFF || img.queues.any (fun q => q.queue == c.hqueue))
    && (c.kind == 4 || decide (c.profile < img.profiles.length))

def channelEnabled (img : Image) (c : Nat) : Bool :=
  decide (c < 1536) && img.channels[c]?.any (fun e => e.enable && e.batten != 0xFF)

/-- FLY flag of a channel. -/
def channelFly (img : Image) (c : Nat) : Bool := img.channels[c]?.any ChEntry.fly

/-- Cross-references of the sections, lowest section first; none when all resolve. The section named is the one that holds
the reference, 0x04 for an act profile's coefficient set also where a patch carries only 0x05 (DESIGN CHOICE,
notes/assumptions/18.md). -/
def badReference (img : Image) : Option Nat :=
  if !img.profiles.all (fun p => img.fsets.any (fun f => f.setId == p.fset)) then some 4
  else if !img.templates.all (templateRefs img) then some 8
  else if !img.triggers.patterns.all (fun p => decide (p.node < img.nodes.length)) then some 9
  else if !img.queues.all (fun q => q.producer == 0xFFFF || decide (q.producer < img.nodes.length)) then some 0xA
  else if !(img.safety.spikes.all (fun s =>
        s.mainCh.all (fun c => decide (c < 1536) && !channelFly img c)
          && s.flyCh.all (fun c => decide (c < 1536) && channelFly img c))
      && img.safety.fields.all (fun f =>
        f.entries.all (fun e => channelEnabled img e.channel)
          && (f.spikeSel == 0xFF || img.safety.spikes.any (fun s => s.spikeId == f.spikeSel)))) then some 0xD
  else none

/-- R55. -/
def quotasOk (qs : List QueueRec) : Bool :=
  let ctx := (qs.filter (fun q => q.pack == 1 || q.pack == 3)).map QueueRec.context
  decide ((qs.map QueueRec.quota).sum ≤ poolCells) && qs.all (fun q => decide (q.maxItem ≤ q.quota))
    && (firsts [] ctx).length == ctx.length

/-- R46: a reference channel is the flyman's. -/
def refFly (img : Image) (r : Nat) : Bool := img.channels[1536 + r]?.any (fun e => e.enable && e.fly)

/-- R46. -/
def disjointOk (img : Image) : Bool :=
  (List.range 1536).all (fun c =>
    !channelEnabled img c ||
      (match img.channels[c]?.bind (fun e => img.battens[e.batten]?) with
       | some b => channelFly img c == refFly img b.ref
       | none => true))

/-- R307. -/
def bothSides (img : Image) : Bool :=
  img.safety.spikes.all (fun s => s.mainCh != [] && s.flyCh != [])
    && img.safety.fields.all (fun f =>
      f.entries.any (fun e => channelFly img e.channel) && f.entries.any (fun e => !channelFly img e.channel))

/-! ### The checks in order (Table 2.10, checks 2 to 18) -/

/-- R60: the staged length fits the wrapper. -/
def wrapperFits (staged payload : Nat) : Bool := (staged + 3) / 4 == (20 + payload + 3) / 4

/-- Check 2: the image's bytes, expanded where a wrapper stands before them, with the uncompressed length to judge
IMAGE_LEN by. `area` is the size of the expansion area (R61); `after` are the bytes of the staging area that complete the
staged length's last word (R60). The wrapper's four reserved bytes are not checked (DESIGN CHOICE,
notes/assumptions/18.md). The error carries the unpacker's code. -/
def unwrapImage (area : Nat) (bs after : List Byte) : Except Nat (List Byte × Nat × Bool) :=
  if le bs 0 4 = 0x5A4C4247 ∧ 4 ≤ bs.length then
    let len := le bs 4 4
    let pay := le bs 8 4
    if !(decide (16 ≤ bs.length) && decide (len ≤ area) && wrapperFits bs.length pay) then .error 1
    else
      match inflate (slice (bs ++ after) 16 pay) len (le (bs ++ after) (16 + pay) 4) with
      | .ok out => .ok (out, len, true)
      | .error c => .error c
  else .ok (bs, bs.length, false)

/-- What OTP says of the key of a signature section (checks 9 and 10, R41, R42): the slot that authenticates it. A key that
matches its hash and is not a point of the curve fails with the signature's code (DESIGN CHOICE,
notes/assumptions/18.md). -/
def checkKey (lc : Nat) (keys : Tab KeySlot) (covered sig : List Byte) : Except (Nat × Nat) (Option Nat) := do
  let slot := le sig 0 1
  if slot = 0xFF then
    need (lc == 0) 0x08 0x0F
    return none
  else
    let k := keys.get {} slot
    need (decide (slot ≤ 3) && k.hash == some (beNat (sha256 (slice sig 4 64))) && !k.revoked && !k.spent) 0x08 0x0F
    let x := beNat (slice sig 4 32)
    let y := beNat (slice sig 0x24 32)
    need (onCurve x y && ecdsaVerify x y (beNat (slice sig 0x44 32)) (beNat (slice sig 0x64 32)) (sha256 covered)) 0x09 0x0F
    return some slot

/-- A loaded image: whole, or a patch. -/
inductive Loaded where
  | full (img : Image)
  | patch (p : Patch)
  deriving DecidableEq, Repr

/-- A section read by its parser; a broken rule is check 14 with the section's ID. -/
def readSection {α : Type} (img : List Byte) (ds : List DirEntry) (id : Nat) (f : List Byte → Option α) :
    Except (Nat × Nat) (Option α) :=
  match ds.find? (fun d => d.id == id) with
  | none => .ok none
  | some d =>
    match f (d.bytes img) with
    | some v => .ok (some v)
    | none => .error (0x0C, id)

/-- A section that must be there. -/
def mustRead {α : Type} (img : List Byte) (ds : List DirEntry) (id : Nat) (f : List Byte → Option α) :
    Except (Nat × Nat) α := do
  match ← readSection img ds id f with
  | some v => .ok v
  | none => .error (0x0A, id)

/-- Reserved fields of the header, the directory and the signature section; SERIAL and BASE_SERIAL (check 14). -/
def reservedOk (img : List Byte) (patch : Bool) (ds : List DirEntry) (sig : List Byte) : Except (Nat × Nat) Unit := do
  need (le img 7 1 == 0 && le img 0xE 2 == 0 && allZero (slice img 0x28 24) && le img 0x18 4 != 0
    && (patch || le img 0x1C 4 == 0)) 0x0C 0
  match ds.find? (fun d => d.rsvd != 0) with
  | some d => .error (0x0C, d.id)
  | none => need (allZero (slice sig 1 3)) 0x0C 0x0F

/-- Checks 14 to 18 of a full image. Where several sections fail check 14, ERR_SECT names the header, the directory and the
signature first, then the lowest section, and a cross-reference last (DESIGN CHOICE, notes/assumptions/18.md). -/
def readFull (img : List Byte) (f : Nat) (ds : List DirEntry) : Except (Nat × Nat) Image := do
  let (nodes, members) ← mustRead img ds 1 parseNodes
  let channels ← mustRead img ds 2 parseChannels
  let (battens, gov) ← mustRead img ds 3 parseBattens
  let profiles ← mustRead img ds 4 parseProfiles
  let fsets ← mustRead img ds 5 parseFsets
  let rej ← mustRead img ds 6 parseRej
  let scene ← mustRead img ds 7 parseScene
  let templates ← mustRead img ds 8 parseTemplates
  let triggers ← mustRead img ds 9 (parseTriggers f)
  let queues ← mustRead img ds 0xA parseQueues
  let lanes ← mustRead img ds 0xB parseLanes
  let hk ← readSection img ds 0xC parseHk
  let safety ← mustRead img ds 0xD parseSafety
  let r : Image :=
    { format := f, serial := le img 0x18 4, workSize := le img 0x14 4, toolVer := le img 0x20 4, nodes := nodes,
      members := members, channels := channels, battens := battens, gov := gov, profiles := profiles, fsets := fsets,
      rej := rej, scene := scene, templates := templates, triggers := triggers, queues := queues, lanes := lanes,
      hk := hk.getD defaultHk, safety := safety }
  match badReference r with
  | some id => .error (0x0C, id)
  | none => do
    need (acyclic nodes members) 0x0D 1
    need (quotasOk queues) 0x0E 0xA
    need (decide (r.workSize ≤ 1572864)) 0x0F 0
    need (disjointOk r) 0x13 2
    need (bothSides r) 0x13 0xD
    return r

/-- A patch's sections in place of the active ones (R64). -/
def patched (img : Image) (p : Patch) : Image :=
  { img with
    profiles := p.profiles.getD img.profiles, fsets := p.fsets.getD img.fsets, rej := p.rej.getD img.rej,
    scene := p.scene.getD img.scene, templates := p.templates.getD img.templates,
    triggers := p.triggers.getD img.triggers, hk := p.hk.getD img.hk }

/-- Checks 14 to 18 of a patch image against the active one. -/
def readPatch (img : List Byte) (f : Nat) (act : Image) (ds : List DirEntry) : Except (Nat × Nat) Patch := do
  let profiles ← readSection img ds 4 parseProfiles
  let fsets ← readSection img ds 5 parseFsets
  let rej ← readSection img ds 6 parseRej
  let scene ← readSection img ds 7 parseScene
  let templates ← readSection img ds 8 parseTemplates
  let triggers ← readSection img ds 9 (parseTriggers f)
  let hk ← readSection img ds 0xC parseHk
  let p : Patch := { profiles := profiles, fsets := fsets, rej := rej, scene := scene, templates := templates,
                     triggers := triggers, hk := hk }
  match badReference (patched act p) with
  | some id => .error (0x0C, id)
  | none => do
    need (decide (le img 0x14 4 ≤ 1572864)) 0x0F 0
    return p

/-- The safety block's own CRC (R58). A section too short for its length field has none to judge: check 14 refuses it
(R37). -/
def blockCrcOk (b : List Byte) : Bool :=
  let n := le b 0 4
  decide (b.length < n + 8) || crc32c (b.take (4 + n)) == le b (4 + n) 4

/-- Checks 3 to 18 on the uncompressed bytes. `len` is what IMAGE_LEN must equal. -/
def checkImage (s : State) (patch : Bool) (bs : List Byte) (len : Nat) : Except (Nat × Nat) (Loaded × Option Nat) := do
  need (decide (4 ≤ bs.length) && le bs 0 4 == 0x4B4C4247) 0x02 0
  let f := le bs 4 1
  let n := le bs 6 1
  let ilen := le bs 0x10 4
  let img := bs.take ilen
  need (inRange 1 2 f && le bs 5 1 == bn patch) 0x03 0
  let ds := directory bs f n
  match ds.find? (fun d => d.sver != 1) with
  | some d => .error (0x03, d.id)
  | none => pure ()
  need (le bs 8 2 == 0x1536 && le bs 0xA 2 == 0x0D15 && (le bs 0xC 2 == 0 || le bs 0xC 2 == 0x4200)) 0x04 0
  need (decide (ilen ≤ if patch then 65536 else 2097152) && ilen == len) 0x05 0
  checkDirectory img patch f ilen ds
  let sigAt := (ds.getLast?.map DirEntry.offset).getD 0
  let sig := slice img sigAt 132
  let covered := img.take sigAt
  need (crc32c (covered.take 0x24 ++ [0, 0, 0, 0] ++ covered.drop 0x28) == le img 0x24 4) 0x07 0
  let slot ← checkKey (lcState s) s.otp.keys covered sig
  match ds.find? (fun d => !(permittedSections patch).contains d.id) with
  | some d => .error (0x10, d.id)
  | none => pure ()
  let act := s.img.active
  need (!patch || act.any (fun a => a.serial == le img 0x1C 4 && a.format == f)) 0x11 0
  match ds.find? (fun d => f == 2 && d.id != 0xF && crc32c (d.bytes img) != d.crc) with
  | some d => .error (0x0B, d.id)
  | none => pure ()
  match ds.find? (fun d => d.id == 0xD && !blockCrcOk (d.bytes img)) with
  | some d => .error (0x0B, d.id)
  | none => pure ()
  reservedOk img patch ds sig
  if patch then
    match act with
    | none => .error (0x11, 0)
    | some a => do
      let p ← readPatch img f a ds
      return (.patch p, slot)
  else do
    let i ← readFull img f ds
    return (.full i, slot)

end Sys2Proof.Machine
end

