-- ==== Sys2Proof/Machine/LaneOps.lean ====
section
/-! DEFINITION. Zitlane lanes: sending messages as frames under credits and the replay buffer, the trained state, the
lane that carries a queue, and the topology of a system (R377 to R403). Lanes 0 to 3 are HL0, HL1, SL0, SL1. -/

namespace Sys2Proof.Machine

def getLane (s : State) (l : Nat) : Lane := s.ln.lanes.get {} l

def setLane (l : Nat) (v : Lane) (s : State) : State := { s with ln := { s.ln with lanes := s.ln.lanes.set l v } }

def updLane (l : Nat) (f : Lane → Lane) (s : State) : State := setLane l (f (getLane s l)) s

/-- R385: a lane is trained in ACTIVE and in RETRAIN. -/
def LaneState.trained (x : LaneState) : Bool := decide (x = .active) || decide (x = .retrain)

def laneTrained (s : State) (l : Nat) : Bool := (getLane s l).state.trained

/-- LN_STAT's code of a training state (Table 11.2). -/
def LaneState.code : LaneState → Nat
  | .off => 0
  | .detect => 1
  | .base => 2
  | .exchange => 3
  | .rate => 4
  | .delay => 5
  | .active => 6
  | .retrain => 7
  | .halt => 8

/-- The plan of lane `l`: the active image's, else the default of R379. -/
def planOf (s : State) (l : Nat) : LanePlan :=
  match s.img.active with
  | some i => i.lanes.getD l { enable := false, rates := 7, verMin := 0x10, creditLim := 10000,
                               vcCredits := List.replicate 6 16 }
  | none => { enable := decide (l < 2), rates := 7, verMin := 0x10, creditLim := 10000,
              vcCredits := List.replicate 6 16 }

/-! ### Frames (R393, R394, R397) -/

/-- The payload of a message cut into frames of at most `n` bytes, with their SEG codes. -/
def cutFrames (fuel n vc type : Nat) (first : Bool) (bs : List Byte) : List LaneMsg :=
  match fuel with
  | 0 => []
  | fuel + 1 =>
    if bs.length ≤ n then [{ vc := vc, type := type, seg := if first then 0 else 3, payload := bs }]
    else { vc := vc, type := type, seg := if first then 1 else 2, payload := bs.take n }
      :: cutFrames fuel n vc type false (bs.drop n)

/-- The longest frame on a VC: 1,024 bytes, and 128 times the partner's offer (R397). -/
def frameLimit (v : Lane) (vc : Nat) : Nat :=
  let offer := (v.caps.map (fun c => c.credits.getD vc 0)).getD 0
  max 1 (min 1024 (128 * offer))

/-- Credits a frame costs (R397). -/
def frameCost (m : LaneMsg) : Nat := ceilDiv m.payload.length 128

/-- A frame may start: its VC's counter covers it and the replay buffer has room (R397, R399). -/
def Lane.maySend (v : Lane) (m : LaneMsg) : Bool :=
  decide (frameCost m ≤ v.credits.getD m.vc 0) && decide (v.replay.length < 128)
    && decide ((v.replay.map (fun f => f.msg.payload.length)).sum + m.payload.length ≤ 65536)

/-- The first waiting frame of VC `vc`. -/
def Lane.headOf (v : Lane) (vc : Nat) : Option LaneMsg := v.waiting.find? (fun m => m.vc == vc)

/-- R396: the frame that goes next: VC2, VC1, VC0 by strict priority, then VC3 to VC5 in the order they became ready. -/
def Lane.pick (v : Lane) : Option LaneMsg :=
  match ([2, 1, 0].filterMap v.headOf).find? v.maySend with
  | some m => some m
  | none => v.waiting.find? (fun m => decide (3 ≤ m.vc) && v.headOf m.vc == some m && v.maySend m)

/-- The first occurrence of `m` leaves the list. -/
def removeFirst {α : Type} [DecidableEq α] (m : α) : List α → List α
  | [] => []
  | x :: r => if x = m then r else x :: removeFirst m r

/-- A frame leaves: it takes its credits and its FSEQ and enters the replay buffer. -/
def Lane.sendFrame (now : Nat) (m : LaneMsg) (v : Lane) : Lane :=
  { v with
    waiting := removeFirst m v.waiting
    credits := v.credits.set m.vc (v.credits.getD m.vc 0 - frameCost m)
    replay := v.replay ++ [{ fseq := v.fseq, msg := m, sentAt := now }]
    unpaid := v.unpaid ++ [(m.vc, frameCost m, now)]
    fseq := (v.fseq + 1) % 256 }

/-- Frames leave as long as one may. -/
def Lane.pump (fuel now : Nat) (v : Lane) : Lane :=
  match fuel with
  | 0 => v
  | fuel + 1 =>
    if v.state = .active then
      match v.pick with
      | some m => Lane.pump fuel now (v.sendFrame now m)
      | none => v
    else v

def pumpLane (l : Nat) (s : State) : State := updLane l (fun v => v.pump v.waiting.length s.now) s

/-- A message is queued on a trained lane and goes as far as credits allow. An untrained lane takes none. -/
def sendMsg (l vc type : Nat) (payload : List Byte) (s : State) : State :=
  if laneTrained s l then
    pumpLane l (updLane l (fun v =>
      { v with waiting := v.waiting ++ cutFrames (payload.length + 1) (frameLimit v vc) vc type true payload }) s)
  else s

/-- The eight bytes of a route header (R395). -/
def routeBytes (r : Route) : List Byte :=
  leBytes 2 (r.dest % 1024) ++ leBytes 2 (r.src % 1024) ++ leBytes 1 r.epoch ++ leBytes 1 (r.innerVc % 8 + 8 * r.innerType)
    ++ leBytes 1 r.hops ++ [0]

/-- A routed message: the SEG of each frame is the inner message's, and each frame repeats the route header (R395). -/
def sendRouted (l : Nat) (r : Route) (payload : List Byte) (s : State) : State :=
  if laneTrained s l then
    pumpLane l (updLane l (fun v =>
      let fs := cutFrames (payload.length + 1) (max 1 (frameLimit v 5 - 8)) 5 1 true payload
      { v with waiting := v.waiting ++ fs.map (fun m => { m with payload := routeBytes r ++ m.payload }) }) s)
  else s

/-! ### What comes in (R392 to R397) -/

/-- Type bytes of the control blocks a lane sends (Table 11.5). -/
def blockTrain : Nat := 0x3C
def blockCredit : Nat := 0x66
def blockSync : Nat := 0x96
def blockDreq : Nat := 0x99
def blockDrsp : Nat := 0x9C

/-- Bits [55:0] of a control block with `v` in bits [55:8] and its HCRC below (R392). -/
def withHcrc (v : Nat) : Nat := 256 * v + crc8 (beBytes 6 v)

/-- Bits [55:0] of a CREDIT block (Table 11.7). -/
def creditBits (vc count afseq : Nat) (ack nak : Bool) : Nat :=
  withHcrc (2 ^ 45 * (vc % 8) + 2 ^ 37 * (count % 256) + 2 ^ 29 * (afseq % 256) + 2 ^ 28 * bn ack + 2 ^ 27 * bn nak)

/-- One more discarded block, frame or message (LN_CNT_FRAME_ERR). -/
def frameError (l : Nat) (s : State) : State := updLane l (fun v => { v with cntFrameErr := inc32 v.cntFrameErr }) s

/-- The payload bytes of a frame on VC `vc` that the own offer allows the partner (R397), less the route header that
each frame of VC5 repeats. -/
def inLimit (v : Lane) (vc : Nat) : Nat :=
  max 1 (min 1024 (128 * v.plan.vcCredits.getD vc 0) - (if vc = 5 then 8 else 0))

/-- Frames that a message of `n` bytes takes on VC `vc` (R394). -/
def framesOf (v : Lane) (vc n : Nat) : Nat := max 1 (ceilDiv n (inLimit v vc))

/-- Credits of the last of them (R397). -/
def lastCost (v : Lane) (vc n : Nat) : Nat :=
  let rest := n - (framesOf v vc n - 1) * inLimit v vc
  ceilDiv ((if vc = 5 then 8 else 0) + rest) 128

/-- Key of a message whose segments follow one another: its VC, or on VC5 the pair of SRC and inner VC (R394). -/
def messageKey (vc src inner : Nat) : Nat := if vc = 5 then 8 * (src % 1024) + inner % 8 + 8 else vc

/-- `n` frames on VC `vc` have come in order, the last with `cost` credits: their buffers are freed, so the credits go back
frame by frame with the acknowledgement; the last CREDIT block is the last frame's (R393, R397, R399). -/
def Lane.tookFrames (vc n cost : Nat) (v : Lane) : Lane :=
  let seq := (v.rxSeq + n) % 256
  { v with rxSeq := seq, block := some (blockCredit, creditBits vc cost ((seq + 255) % 256) true false) }

/-- A message of `n` bytes on VC `vc` has come whole. A message of its key that is still open is discarded and counted
(R394). -/
def takeKeyed (l vc key n : Nat) (s : State) : State :=
  updLane l (fun v =>
    { v.tookFrames vc (framesOf v vc n) (lastCost v vc n) with
      opens := v.opens.filter (fun k => k != key)
      cntFrameErr := satAdd 32 v.cntFrameErr (bn (v.opens.contains key)) }) s

/-- A message on one of VC0 to VC4. -/
def takeMessage (l vc n : Nat) (s : State) : State := takeKeyed l vc vc n s

/-- A routed message with `n` bytes of inner payload. -/
def takeRouted (l : Nat) (r : Route) (n : Nat) (s : State) : State := takeKeyed l 5 (messageKey 5 r.src r.innerVc) n s

/-- A frame that fails its checks: discarded, counted, and answered with NAK and the last good FSEQ (R393, R399). -/
def refuseFrame (l : Nat) (s : State) : State :=
  updLane l (fun v => { v with block := some (blockCredit, creditBits 0 0 ((v.rxSeq + 255) % 256) false true) }) (frameError l s)

/-- R394: a frame with a segment of a message. A FIRST while the message is open discards the open one and opens a new one; a
segment without its FIRST is discarded; a LAST ends the message. What is discarded counts once. The frame itself is good, and
is acknowledged with its credits. -/
def takeSegment (l : Nat) (x : Segment) (s : State) : State :=
  let v := getLane s l
  let key := messageKey x.vc x.src x.inner
  let isOpen := v.opens.contains key
  let rest := v.opens.filter (fun k => k != key)
  let u := setLane l { v.tookFrames x.vc 1 (ceilDiv x.len 128) with
    opens := if x.seg = 1 then rest ++ [key] else if x.seg = 3 then rest else v.opens } s
  if isOpen = (x.seg == 1) then frameError l u else u

/-! ### The lanes of a link (R377, R378) -/

/-- The trained house lane with logical number 0, else the trained one with number 1 (VC0, VC1 and VC5). -/
def houseLane (s : State) : Option Nat :=
  match [0, 1].find? (fun l => laneTrained s l && (getLane s l).logical == 0) with
  | some l => some l
  | none => [0, 1].find? (laneTrained s)

/-- A message to the house: on logical lane 0 while it is trained, else on logical lane 1 (R378). -/
def sendHouse (vc type : Nat) (payload : List Byte) (s : State) : State :=
  match houseLane s with
  | some l => sendMsg l vc type payload s
  | none => s

/-- The house lane that carries logical lane `n`, or the trained one (R378). -/
def houseLogical (s : State) (n : Nat) : Option Nat :=
  match [0, 1].find? (fun l => laneTrained s l && (getLane s l).logical == n) with
  | some l => some l
  | none => [0, 1].find? (laneTrained s)

/-- The physical lane that delivers a queue (R378). -/
def deliveringLane (s : State) (r : QueueRec) : Option Nat :=
  if r.consumer = 3 then
    if laneTrained s (2 + r.slane) then some (2 + r.slane)
    else [2, 3].find? (laneTrained s)
  else if r.consumer ≤ 1 then houseLogical s (r.queue % 2)
  else none

/-- The resource (Table 7.6) that admission books for a queue's delivery; none when the consumer is no lane. -/
def deliveryResource (s : State) (r : QueueRec) : Option Nat :=
  if r.consumer = 3 then some (25 + 2 + r.slane)
  else if r.consumer ≤ 1 then some (25 + (houseLogical s (r.queue % 2)).getD (r.queue % 2))
  else none

/-- CAP of lane `l` by its trained rate (Table 7.6); rates 1, 2, 3 are 53.125, 26.5625 and 10.3125 Gb/s. -/
def laneCap (s : State) (l : Nat) : Nat :=
  if laneTrained s l then
    match (getLane s l).rate with
    | 1 => 1472
    | 2 => 736
    | 3 => 288
    | _ => 0
  else 0

/-- The version of the link on lane `l` (R389). -/
def linkVersion (s : State) (l : Nat) : Nat := (getLane s l).ver

/-- The packer's limit on lane `l` (R391): the lower of the link version and HOST_VER, and HOST_VER counts only for
what goes on to the house. -/
def packVersion (s : State) (l : Nat) : Nat :=
  if l < 2 then min (getLane s l).ver s.ln.hostVer else (getLane s l).ver

/-! ### Leaving the trained state (R385, R350) -/

/-- The packer of lane `l` abandons the group it was handing on. -/
def abandonGroup (l : Nat) (s : State) : State :=
  match (s.pk.lanes.get {} l).group with
  | none => s
  | some (q, _, _) =>
    abandonRead q { s with pk := { s.pk with lanes := s.pk.lanes.upd {} l (fun p => { p with group := none }) } }

/-- A lane takes state `x`. Leaving the trained states discards the replay buffer (R385) and abandons the reads on the
lane; entering or leaving ACTIVE and entering HALT set the lane event (Table 15.5). -/
def enterLane (l : Nat) (x : LaneState) (s : State) : State :=
  let v := getLane s l
  let drop := v.state.trained && !x.trained
  let w : Lane := { v with
    state := x, since := s.now
    -- BASE and EXCHANGE run at 10.3125 Gb/s (R380); a change of rate loses the lock
    rate := if x = .base then 3 else v.rate
    lock := v.lock && decide (x ∈ [LaneState.exchange, .delay, .active, .retrain])
    opens := if drop then [] else v.opens
    asked := v.asked && !drop
    replay := if drop then [] else v.replay
    waiting := if drop then [] else v.waiting
    unpaid := if drop then [] else v.unpaid
    cntDiscard := if drop then satAdd 32 v.cntDiscard v.replay.length else v.cntDiscard
    trips := 0
    -- the guest takes the status of its root ensemble, which no message carries: a free value (R416)
    guest := if !x.trained then 4 else if v.state.trained then v.guest else freeValue s % 5
    childSize := if drop then 0 else v.childSize
    owed := if drop then 0 else v.owed
    lateDec := if drop then 0 else v.lateDec
    deadEnds := if drop then [] else v.deadEnds }
  let u := tookFree (setLane l w s)
  let z := if drop then abandonGroup l u else u
  eventIf (decide (v.state ≠ x) && (decide (v.state = .active) || decide (x = .active) || decide (x = .halt))) evLane z

/-- A lane halts with a reason (Table 11.9's HALT code). -/
def haltLane (l reason : Nat) (s : State) : State :=
  updLane l (fun v => { v with haltCode := reason }) (enterLane l .halt s)

/-- A lane without a link: nothing of an earlier one stands (R382, R383, R417). -/
def Lane.forget (v : Lane) : Lane :=
  { v with rxInv := false, reversed := false, caps := none, rate := 0, rates := [], ver := 0, haltCode := 0 }

/-- R417: a lane back in OFF keeps its counters and nothing of the link. -/
def laneOff (l : Nat) (s : State) : State := updLane l Lane.forget (enterLane l .off s)

/-! ### Topology (R402, R403) -/

/-- Subtree size of this device, itself included. -/
def subtree (s : State) : Nat :=
  1 + (if laneTrained s 2 then (getLane s 2).childSize else 0) + (if laneTrained s 3 then (getLane s 3).childSize else 0)

/-- R402: the house link is untrained, or trained to a partner of ROLE 0. -/
def isRoot (s : State) : Bool :=
  match houseLane s with
  | none => true
  | some l => (getLane s l).caps.any (fun c => c.role == 0)

/-- The address the device gives to the child on stage lane `k` (0 or 1). -/
def childAddress (s : State) (k : Nat) : Nat :=
  s.ln.addr + 1 + (if k = 1 ∧ laneTrained s 2 then (getLane s 2).childSize else 0)

/-- A device that has an address gives each child that has reported itself its ADDR message, or halts the lane by the limits
of R403. The devices of a cycle have no address and give none. -/
def addressChild (k : Nat) (s : State) : State :=
  let l := 2 + k
  if s.ln.addressed && laneTrained s l && decide (0 < (getLane s l).childSize) then
    if s.ln.depth + 1 > 31 then haltLane l 5 s
    else if childAddress s k > 1023 then haltLane l 6 s
    else
      sendMsg l 0 0x09 (leBytes 2 (childAddress s k) ++ leBytes 1 s.ln.epoch ++ leBytes 1 s.ln.hostVer
          ++ leBytes 1 (s.ln.depth + 1) ++ leBytes 3 0)
        (updLane l (fun v => { v with childAddr := childAddress s k }) s)
  else s

/-- One entry of TOPO: the device's own and its children's are known; what lies deeper is not stated to it, so the entry
of a deeper device is a free value. -/
def topoEntry (s : State) (a : Nat) : List Byte :=
  let free := leBytes 6 (Config.freeNat (s.free + a))
  if a = s.ln.addr then leBytes 2 a ++ leBytes 2 0 ++ leBytes 1 0 ++ leBytes 1 0x12 ++ leBytes 2 0
  else if laneTrained s 2 ∧ a = childAddress s 0 then
    leBytes 2 a ++ leBytes 2 s.ln.addr ++ leBytes 1 0 ++ leBytes 1 (getLane s 2).ver ++ leBytes 2 0
  else if laneTrained s 3 ∧ a = childAddress s 1 then
    leBytes 2 a ++ leBytes 2 s.ln.addr ++ leBytes 1 1 ++ leBytes 1 (getLane s 3).ver ++ leBytes 2 0
  else leBytes 2 a ++ free.take 4 ++ leBytes 2 0

/-- The root's part in a change of addresses (R403). -/
def rootTopology (s : State) : State :=
  let u := { s with ln := { s.ln with epoch := (s.ln.epoch + 1) % 256 } }
  let v := match houseLane u with
    | some l => sendMsg l 0 0x0A (leBytes 4 u.ln.epoch ++ (List.range (subtree u)).flatMap (topoEntry u)) u
    | none => u
  setEvent evTopology { v with free := v.free + subtree u }

/-- The subtree's size has changed: TOPO_UP to the parent, or at the root a new epoch. -/
def reportTree (s : State) : State :=
  if isRoot s then rootTopology s
  else match houseLane s with
    | some l => sendMsg l 0 0x08 (leBytes 2 (subtree s) ++ leBytes 2 0) s
    | none => s

/-- The children are addressed. A lane that halts for it shrinks the subtree, which is reported, and the others move up. -/
def addressTree (n : Nat) (s : State) : State :=
  let u := addressChild 1 (addressChild 0 s)
  match n with
  | 0 => u
  | n + 1 => if subtree u = subtree s then u else addressTree n (reportTree u)

/-- R403: what follows a change of a subtree's size: TOPO_UP to the parent, new child addresses, and at the root a new
epoch. -/
def topologyChanged (s : State) : State :=
  let root := isRoot s
  let ver := match houseLane s with
    | none => 0x12
    | some l => if root then (getLane s l).ver else s.ln.hostVer
  let u := { s with ln := { s.ln with
    root := root, hostVer := ver
    addressed := root || (s.ln.addressed && !s.ln.root)
    addr := if root then 0 else s.ln.addr
    depth := if root then 0 else s.ln.depth } }
  addressTree 2 (reportTree u)

/-- The house link has come or gone: the root follows R402. A device that is not the root reports to its parent; the
children hear of an address, version or depth that has changed. -/
def houseChanged (s : State) : State :=
  let root := isRoot s
  let ver := match houseLane s with
    | none => 0x12
    | some l => if root then (getLane s l).ver else s.ln.hostVer
  let u := { s with ln := { s.ln with
    root := root, hostVer := ver
    addressed := root || (s.ln.addressed && !s.ln.root)
    addr := if root then 0 else s.ln.addr
    depth := if root then 0 else s.ln.depth } }
  let v := if root then (if s.ln.addr = 0 then u else rootTopology u)
    else match houseLane u with
      | some l => sendMsg l 0 0x08 (leBytes 2 (subtree u) ++ leBytes 2 0) u
      | none => u
  if v.ln.addr = s.ln.addr ∧ v.ln.hostVer = s.ln.hostVer ∧ v.ln.depth = s.ln.depth then v
  else addressTree 2 v

/-- What follows for the system when lanes have been trained or lost since `before`. -/
def linkMoved (before s : State) : State :=
  let moved := fun (l : Nat) => laneTrained before l != laneTrained s l
  if moved 2 || moved 3 then topologyChanged s
  else if houseLane before = houseLane s then s else houseChanged s

end Sys2Proof.Machine
end

