-- ==== Sys2Proof/Machine/CueOps.lean ====
section
/-! DEFINITION. Cues: node status, capacity and promise conditions, the cue table, and the ending of a cue with its
completion record (R30, R230 to R253). -/

namespace Sys2Proof.Machine

/-! ### Channels, battens and their status (R30, R83, R131) -/

/-- The mask in force on channel `c` (0 to 1,535 ranging, 1,536 to 1,551 reference). -/
def maskOf (s : State) (c : Nat) : BitVec 16 := s.rx.mask.get 0 c ||| s.rx.hot.get 0 c

/-- Bits set in a 16-bit mask. -/
def popCount (m : BitVec 16) : Nat := ((List.range 16).filter (fun i => m.getLsbD i)).length

/-- Unmasked SPADs of a channel. -/
def unmasked (s : State) (c : Nat) : Nat := 16 - popCount (maskOf s c)

/-- RX_CH_STAT.K_UNREACH (R83, R101). -/
def kUnreach (s : State) (c : Nat) : Bool :=
  if c < 1536 then s.img.active.any (fun i => i.profiles.any (fun p => decide (unmasked s c < p.coincK)))
  else decide (unmasked s c < fld s.rx.refCfg 4 0)

/-- The batten that lights ranging channel `c`. -/
def battenOf (s : State) (c : Nat) : Option Nat :=
  (chEntry s c).bind (fun e => if e.enable && e.batten != 0xFF then some e.batten else none)

def getBatten (s : State) (b : Nat) : Batten := s.bat.ch.get {} b

def setBatten (b : Nat) (v : Batten) (s : State) : State := { s with bat := { s.bat with ch := s.bat.ch.set b v } }

/-- A fault of Table 4.2 is latched on the batten. -/
def Batten.faulted (v : Batten) : Bool := v.opened || v.overCur || v.short

/-- The batten's ENABLE bit in the active batten map. -/
def battenEnabled (s : State) (b : Nat) : Bool := (batRec s b).any BatRec.enable

def getHist (s : State) (c : Nat) : HistChan := s.hist.chan.get {} c

def setHist (c : Nat) (v : HistChan) (s : State) : State := { s with hist := { s.hist with chan := s.hist.chan.set c v } }

/-- Every point of a channel, in progress and forming. -/
def HistChan.all (v : HistChan) : List Point := v.cur ++ v.forming

/-- A player reads Degraded while exactly one die-to-die link is up (Table 1.8). -/
def linkLevel (s : State) : Nat := if linkCount s = 1 then 1 else 0

/-- Promise condition `code` on unit `u` (a lane for code 4, a resource for code 5, else 0). -/
def condKey (code u : Nat) : Nat := 100 * code + u

def condInForce (s : State) (code u : Nat) : Bool := (s.sm.conds.get {} (condKey code u)).inForce

/-- A condition of device scope is in force (Table 7.7). -/
def deviceCond (s : State) : Bool := condInForce s 1 0 || condInForce s 2 0 || condInForce s 3 0

/-- The delivering lane of a point queue, as a unit of condition 4. -/
def queueLane (s : State) (q : Nat) : Option Nat := (queueRec s q).bind (deliveringLane s)

/-- The delivery resource of a queue. -/
def queueResource (s : State) (q : Nat) : Option Nat := (queueRec s q).bind (deliveryResource s)

/-- A queue's delivery lies in the scope of condition 4 or 5. -/
def queueSuspended (s : State) (q : Nat) : Bool :=
  (queueLane s q).any (fun l => condInForce s 4 l) || (queueResource s q).any (fun r => condInForce s 5 r)

/-- The node of player `n`'s cues in flight deliver to a queue under condition 4 or 5. -/
def deliverySuspended (s : State) (kind index : Nat) : Bool :=
  s.sm.cues.any (fun p => (p.2.state == 2 || p.2.state == 3)
    && (queueSuspended s p.2.cue.queue || queueSuspended s p.2.cue.hqueue)
    && p.2.players.any (fun n => (nodeRec s n).any (fun r => r.kind == kind && r.index == index)))

/-- The promise is suspended for ranging channel `c` (Table 1.8): a condition of Table 7.7 is in force whose scope may hold
its points. Any filter engine of the pool may serve them (DEDUCED, notes/assumptions/48.md). -/
def channelSuspended (s : State) (c : Nat) : Bool :=
  deviceCond s || condInForce s 5 (c / 96) || condInForce s 5 24 || (List.range 8).any (fun e => condInForce s 5 (16 + e))
    || deliverySuspended s 1 c

/-- The level of a player that works: Suspended while condition 1, 2 or 3, or `hit`, is in force, else by its links. -/
def workingLevel (s : State) (hit : Bool) : Nat := if deviceCond s || hit then 2 else linkLevel s

/-- Status of ranging channel `c`. A channel that is not enabled or bound reads Absent before anything else
(notes/assumptions/48.md). -/
def channelLevel (s : State) (c : Nat) : Nat :=
  match battenOf s c with
  | none => 4
  | some b =>
    if !battenEnabled s b then 4
    else if (getBatten s b).faulted || kUnreach s c || s.rh.failChan.contains c then 3
    else if channelSuspended s c then 2
    else if maskOf s c != 0 || !s.bat.phLock || (getHist s c).all.any Point.coarse then 1
    else linkLevel s

def referenceLevel (s : State) (r : Nat) : Nat :=
  if !(chEntry s (1536 + r)).any ChEntry.enable then 4
  else if kUnreach s (1536 + r) || s.rh.failChan.contains (1536 + r) then 3
  else workingLevel s (deliverySuspended s 2 r)

def battenLevel (s : State) (b : Nat) : Nat :=
  if !battenEnabled s b then 4
  else if (getBatten s b).faulted then 3
  else if deviceCond s || deliverySuspended s 3 b then 2
  else if (getBatten s b).wlOob then 1
  else linkLevel s

/-- Converters that sample housekeeping input `n`. -/
def inputConverters (s : State) (n : Nat) : List Nat :=
  let plan := (s.img.active.map Image.hk).getD defaultHk
  match (plan.inputs[n]?).map HkInput.conv with
  | some 0 => [29]
  | some 1 => [30]
  | some 2 => [29, 30]
  | _ => [29]

/-- A diode input (12 to 19) whose diode reads implausible. -/
def inputBroken (s : State) (n : Nat) : Bool := decide (12 ≤ n) && (s.th.diodes.find (n - 12)).any Prod.snd

/-- A housekeeping input reads Failed when its diode is implausible, and Degraded while a converter that samples it is one
that a slice found failing (R471): both DEDUCED, notes/assumptions/48.md. -/
def inputLevel (s : State) (n : Nat) : Nat :=
  let rs := inputConverters s n
  if inputBroken s n then 3
  else if deviceCond s || rs.any (fun r => condInForce s 5 r) || deliverySuspended s 5 n then 2
  else if rs.any (fun r => s.rh.failConv.contains (r - 29)) then 1
  else linkLevel s

/-- The excitation source of auxiliary input `n` is one that a slice found failing (R471). -/
def sourceFailed (s : State) (n : Nat) : Bool :=
  ((s.img.active.map Image.hk).bind (fun h => h.aux[n]?)).any (fun a => s.rh.failExc.contains a.exc)

/-- Status of player node `r` (R30, Table 1.8). -/
def playerLevel (s : State) (r : NodeRec) : Nat :=
  match r.kind with
  | 1 => channelLevel s r.index
  | 2 => referenceLevel s r.index
  | 3 => battenLevel s r.index
  | 4 => if sourceFailed s r.index || (s.hk.aux.get {} r.index).broken then 3 else workingLevel s (deliverySuspended s 4 r.index)
  | 5 => inputLevel s r.index
  | 6 => if s.fs.fault = 0 then workingLevel s (deliverySuspended s 6 0) else 3
  | 7 => (getLane s (2 + r.index)).guest
  | _ => 0

/-- Status of a player by its node number; a node of no kind reads Absent. -/
def nodeLevel (s : State) (n : Nat) : Nat := ((nodeRec s n).map (playerLevel s)).getD 4

/-- R30: the status of an ensemble is the worst among its members. -/
def treeLevel (s : State) (n : Nat) : Nat :=
  match s.img.active with
  | none => 4
  | some i => (expand i n).foldl (fun a p => max a (nodeLevel s p)) 0

/-! ### Capacity (R233, R235, R243) -/

/-- Nominal capacity of a resource (Table 7.6). -/
def nominalCap (r : Nat) : Nat :=
  if r < 16 then 640 else if r < 24 then 16000 else if r = 24 then 1024 else if r < 29 then 0 else 16

/-- Published capacity (R243); 0 outside Show (R268). -/
def capOf (s : State) (r : Nat) : Nat :=
  if !inShow s then 0
  else if 16 ≤ r ∧ r < 24 ∧ s.hist.feStop.getLsbD (r - 16) then 0
  else if 25 ≤ r ∧ r < 29 then laneCap s (r - 25)
  else if 29 ≤ r then 16
  else (s.sm.caps.get { cap := nominalCap r } r).cap

/-- Nominal capacity, for a lane by its trained rate. -/
def nominalOf (s : State) (r : Nat) : Nat := if 25 ≤ r ∧ r < 29 then laneCap s (r - 25) else nominalCap r

/-- Conversions that the device's own sampling takes of a converter's group in the mean: the readback and the fast thermal
samples on the lead, and the plan (R422; the mean is DEDUCED, notes/assumptions/37.md). -/
def ownConversions (img : Option HkPlan) (v : Nat) : Nat :=
  let plan := img.getD defaultHk
  let due := ((List.range 30).zip plan.inputs).filter (fun q =>
    decide (0 < q.2.period) && (if v = 0 then q.2.conv == 0 || q.2.conv == 2 else q.2.conv == 1 || q.2.conv == 2))
  -- 16 µs hold 16 × (2 / 10 + 19 / 50) readback and thermal samples
  let fixed : Rat := if v = 0 then 16 * (2 / 10 + 19 / 50 : Rat) else 0
  ((due.map (fun q => (16 : Rat) / q.2.period)).foldl (· + ·) fixed).ceil.toNat

/-- Instants `a + k × p` that fall in group `g`. -/
def fallsIn (g a p : Nat) : Nat :=
  let before := fun (x : Nat) => if x ≤ a then 0 else ceilDiv (x - a) (max 1 p)
  before (16 * g + 16) - before (16 * g)

/-- The device's own samples that fall due on converter `v` in group `g`: the plan's, and on the lead the readback every
10 µs and the thermal samples at their fast rate (R422). -/
def ownDueIn (s : State) (v g : Nat) : Nat :=
  let plan := (s.img.active.map Image.hk).getD defaultHk
  let acc := fun (i : Nat) => if v = 0 then (s.hk.lead.get {} i).due else (s.hk.under.get {} i).due
  let start := fun (d : Nat) => if d = 0 then tbUs s else d
  let own := ((List.range 30).zip plan.inputs).map (fun q =>
    if 0 < q.2.period ∧ (q.2.conv = v ∨ q.2.conv = 2) then fallsIn g (start (acc q.1)) q.2.period else 0)
  let heat := fun (i : Nat) => fallsIn g (start (s.hk.therm.get 0 i) % 50) 50
  let lead := if v = 0 then
      fallsIn g (start (s.hk.therm.get 0 30)) 10 + fallsIn g (start (s.hk.therm.get 0 31)) 10
        + (((List.range 20).filter (fun i => i != 11)).map heat).sum
    else 0
  own.sum + lead

/-- The own samples that converter `v` takes in group `g`: those due in it and those displaced from the four groups before,
as far as sixteen slots go (R421, R423). -/
def ownTaken (s : State) (v g : Nat) : Nat :=
  let due := (List.range (min 5 (g + 1))).map (fun k => ownDueIn s v (g + 1 - min 5 (g + 1) + k))
  min 16 (due.foldl (fun back n => (back - 16) + n) 0)

/-- The device's own samples that are booked into group `g` of the calendar on resource `r`, before any booking (R422). -/
def ownLoad (s : State) (g r : Nat) : Nat :=
  if inShow s && (r == 29 || r == 30) then ownTaken s (r - 29) g else 0

/-- Load of resource `r` that the bookings that `p` picks put into group `g`. -/
def bookedLoad (s : State) (p : Booking → Bool) (g r : Nat) : Nat :=
  ((s.sm.books.filter (fun b => p b && b.group == g && b.res == r)).map Booking.amount).sum

/-- Booked load of resource `r` in group `g`. -/
def loadOf (s : State) (g r : Nat) : Nat := ownLoad s g r + bookedLoad s (fun _ => true) g r

/-- The load that the promise stands for: all but the rehearsal slices, which only fill what is left (R249, R448). -/
def promisedLoad (s : State) (g r : Nat) : Nat := ownLoad s g r + bookedLoad s (fun b => decide (b.handle < 65536)) g r

/-- R235. -/
def admissionLimit (s : State) (cls r : Nat) : Nat := 7 * (if cls = 0 then nominalOf s r else capOf s r) / 8

/-- The first open group: the running group and the next are closed (R232). -/
def firstOpen (s : State) : Nat := groupNow s + 2

/-- Groups of the horizon (R232). -/
def horizonGroups : Nat := 4096

/-- The highest load of a resource in any open group (SM_CAP.PEAK). -/
def peakLoad (s : State) (r : Nat) : Nat :=
  ((s.sm.books.filter (fun b => b.res == r && decide (firstOpen s ≤ b.group)
      && decide (b.group < groupNow s + horizonGroups))).map (fun b => loadOf s b.group r)).foldl max
    (if r = 29 ∨ r = 30 then
        ((List.range (horizonGroups - 2)).map (fun k => ownLoad s (firstOpen s + k) r)).foldl max 0 else 0)

/-! ### Promise conditions (R245 to R247) -/

/-- Keys of the promise conditions in force. -/
def condsNow (s : State) : List Nat := (s.sm.conds.filter (fun p => p.2.inForce)).map Prod.fst

/-- The scope of the condition with key `k` holds a point (Table 7.7): the device, its delivering lanes, or a unit that its
stages use. -/
def Scope.holds (s : State) (x : Scope) (k : Nat) : Bool :=
  let u := k % 100
  match k / 100 with
  | 4 => x.queues.any (fun q => queueLane s q == some u)
  | 5 => u == x.channel / 96 || u == 24 || x.engine.any (fun e => u == 16 + e) || x.queues.any (fun q => queueResource s q == some u)
  | _ => true

/-- The lower of two codes, 0 standing for none. -/
def lowerCode (a b : Nat) : Nat := if a = 0 then b else if b = 0 then a else min a b

def findCue (s : State) (h : Nat) : Option CueEntry :=
  (s.sm.cues.find (h % 4096)).bind (fun e => if e.gen == h / 4096 && e.state != 0 then some e else none)

def updCue (h : Nat) (f : CueEntry → CueEntry) (s : State) : State :=
  match findCue s h with
  | some e => { s with sm := { s.sm with cues := s.sm.cues.set (h % 4096) (f e) } }
  | none => s

/-- Handle of the entry at index `i` (R230). -/
def handleOf (i : Nat) (e : CueEntry) : Nat := i + 4096 * e.gen

/-- Handles of every entry that is not Free. -/
def handles (s : State) : List Nat := (s.sm.cues.filter (fun p => p.2.state != 0)).map (fun p => handleOf p.1 p.2)

/-- A point whose last shot has fired notes the condition with key `k`, which has come into force (R246). -/
def notePoints (k : Nat) (s : State) : State :=
  { s with hist := { s.hist with chan := s.hist.chan.mapVals (fun _ v =>
      let f := fun (p : Point) => if p.fired.isSome || p.oneFired.isSome then { p with conds := p.conds ++ [k] } else p
      { v with cur := v.cur.map f, forming := v.forming.map f }) } }

/-- The lowest code among conditions whose scope holds a point; 0 when there is none. -/
def lateCode (s : State) (x : Scope) (ks : List Nat) : Nat :=
  (ks.filter (x.holds s)).foldl (fun a k => lowerCode a (k / 100)) 0

/-- A committed point record that waits for a lane takes LATE with `code`, or the lower of two codes (R186, R246). -/
def lateItem (code : Nat) (it : Item) (s : State) : State :=
  match it.cells with
  | [] => s
  | c :: _ =>
    let w := le (s.wq.pool.sweep (64 * c) 4) 0 4
    let was := w / 2 ^ 22 % 16
    let bits := w - 2 ^ 21 * (w / 2 ^ 21 % 2) - 2 ^ 22 * was + 2 ^ 21 + 2 ^ 22 * lowerCode was code
    let u := { s with
      wq := { s.wq with pool := s.wq.pool.writeList (64 * c) (leBytes 4 bits) }
      sm := { s.sm with cntLate := satAdd 32 s.sm.cntLate (bn (was == 0)) } }
    match it.scope with
    | none => u
    | some x => updCue x.handle (fun e => { e with late := true }) u

/-- Point records that wait for their first byte on a lane meet the condition with key `k` (R239, R246). -/
def noteQueued (k : Nat) (s : State) : State :=
  s.wq.queues.foldl (fun u q =>
    (q.2.items.filter (fun it => !it.read && q.2.pinned != some it.seq && it.scope.any (fun x => x.holds s k))).foldl
      (fun v it => lateItem (k / 100) it v) u) s

/-- The worst status each running cue's players have reached (WORST of Table 7.8). -/
def noteWorst (s : State) : State :=
  { s with sm := { s.sm with cues := s.sm.cues.mapVals (fun _ e =>
      if e.state = 2 ∨ e.state = 3 then
        { e with worst := (e.players.map (nodeLevel s)).foldl max e.worst } else e) } }

/-- Condition `code` on unit `u` is seen present or absent. It comes into force at once with its event (R247), and ends
when it has held again for 1 ms, at PROMISE_CONDITION_CLEAR. -/
def setCond (code u : Nat) (present : Bool) (s : State) : State :=
  let c := s.sm.conds.get {} (condKey code u)
  let put := fun (v : Condition) (x : State) => { x with sm := { x.sm with conds := x.sm.conds.set (condKey code u) v } }
  if present then
    if c.inForce then put { inForce := true, okSince := none } s
    else
      let k := condKey code u
      noteWorst (noteQueued k (notePoints k (setEvent evSuspended (put { inForce := true, okSince := none } s))))
  else if c.inForce ∧ c.okSince = none then put { c with okSince := some s.now } s
  else s

/-- A condition that has held again for 1 ms without a break ends (R245). -/
def clearCond (code : Nat) (s : State) : State :=
  { s with sm := { s.sm with conds := s.sm.conds.mapVals (fun k c =>
      if k / 100 = code ∧ c.okSince.any (fun t => decide (t + msTicks ≤ s.now)) then { inForce := false, okSince := none }
      else c) } }

/-- Condition 2: CAP × s / 8 below the booked load of the running or next group on a core-clocked resource. -/
def coreShort (s : State) : Bool :=
  inShow s && (List.range 25).any (fun r =>
    decide (capOf s r * s.th.s < 8 * promisedLoad s (groupNow s) r)
      || decide (capOf s r * s.th.s < 8 * promisedLoad s (groupNow s + 1) r))

/-- Condition 5 on resource `r`: CAP below the booked load in an open group. The device's own samples alone never exceed a
converter's. -/
def unitShort (s : State) (r : Nat) : Bool :=
  inShow s && s.sm.books.any (fun b => b.res == r && decide (firstOpen s ≤ b.group)
    && decide (b.group < groupNow s + horizonGroups) && decide (capOf s r < promisedLoad s b.group r))

/-- The conditions that follow from the calendar and the capacities are judged anew. -/
def refreshConds (s : State) : State :=
  (List.range 31).foldl (fun u r => setCond 5 r (unitShort s r) u) (setCond 2 0 (coreShort s) s)

/-! ### Ending a cue (R250 to R253) -/

/-- Some point of the cue is in progress or forming. -/
def pointsLive (s : State) (h : Nat) : Bool :=
  s.hist.chan.any (fun p => p.2.all.any (fun q => q.handle == h))

/-- An issued shot will launch: it needs no point, or its point begins or is in its act (R112, R163, R242). -/
def willLaunch (s : State) (p : Place) : Bool :=
  p.kind == 4
    || (if p.act = 1 ∧ p.idx = 0 then
          !p.reserve || s.hist.chan.any (fun q => q.2.rerunNext.contains (p.handle, p.occ) && battenOf s q.1 == some p.batten)
        else s.hist.chan.any (fun q => q.2.cur.any (fun x =>
          x.handle == p.handle && x.batten == p.batten && x.rerun == p.reserve && x.state == p.act
            && (p.act == 1 || !x.windows.isEmpty))))

/-- The shots of the running slot still launch after their cue has ended: they are withheld from the next slot boundary on
(R252). Such a shot keeps its place under handle 0, which is never issued (R230). -/
def keepIssued (h : Nat) (s : State) : State :=
  { s with bat := { s.bat with due := s.bat.due.map (fun q =>
      if q.1.handle = h ∧ willLaunch s q.1 = true then ({ q.1 with handle := 0 }, q.2) else q) } }

/-- The calendar forgets the cue: its places and its bookings, and what has been issued for it. -/
def releaseCue (h : Nat) (s : State) : State :=
  { s with
    bat := { s.bat with due := s.bat.due.filter (fun q => q.1.handle != h) }
    sm := { s.sm with
      books := s.sm.books.filter (fun b => b.handle != h)
      slots := (s.sm.slots.map (fun p => (p.1, p.2.filter (fun x => x.handle != h)))).filter (fun p => p.2 != []) } }

/-- Points of the cue whose last shot has not fired are discarded and their banks released. -/
def discardUnfired (h : Nat) (s : State) : State :=
  { s with hist := { s.hist with chan := s.hist.chan.mapVals (fun _ v =>
      let gone := v.cur.filter (fun p => p.handle == h && p.fired.isNone)
      { v with
        cur := v.cur.filter (fun p => p.handle != h || p.fired.isSome)
        held := v.held.filter (fun b => !gone.any (fun p => p.bank == some b))
        rerunNext := v.rerunNext.filter (fun x => x.1 != h) }) } }

/-- The queue that SM_QSEL.CPL_QUEUE names, if it may be named. -/
def completionQueue (s : State) : Option Nat := selectedQueue s (fld s.sm.qsel 11 0)

/-- The bytes of a cue's completion record (Table 7.8). PLAYERS is the size of the whole expansion with the guests' counts,
also where a player had no point before the end (DESIGN CHOICE, notes/assumptions/22.md). -/
def completionOf (s : State) (h : Nat) (e : CueEntry) : List Byte :=
  let st := e.status.getD (0, 0, 0)
  completionBytes h e.cue.tag st.1 st.2.1 e.worst (bn e.late + 2 * bn e.abortMet + 4 * bn e.spent)
    ((e.players.length + e.guestPlayers) % 2 ^ 16) st.2.2 e.points e.returns e.noreturns (min e.refused 65535) (tbUs s % 2 ^ 32)

/-- A guest part that runs. -/
def GuestPart.runs (g : GuestPart) : Bool := g.accepted == some true && !g.ended

/-- The completion record commits and the entry is freed; it waits for the CUE_END of every guest part, whose points may
still commit (R231, R250, R406). -/
def completeCue (h : Nat) (s : State) : State :=
  match findCue s h with
  | none => s
  | some e0 =>
    if e0.guests.any GuestPart.runs then s
    else
      let e := { e0 with worst := (e0.players.map (nodeLevel s)).foldl max e0.worst }
      let bytes := completionOf s h e
      let u := commitDevice (completionQueue s) 2 bytes s
      let v := match e.source with
        | .lane _ => sendHouse 1 0x06 bytes u
        | .calendar _ => sendHouse 1 0x06 bytes u
        | _ => u
      releaseCue h (updCue h (fun x => { x with state := 0 }) v)

/-- ABORT of handle `k` to the guest behind lane `l`, which answers it. -/
def abortGuest (l k : Nat) (s : State) : State :=
  if laneTrained s l then
    updLane l (fun v => { v with owed := v.owed + 1 }) (sendMsg l 1 0x04 (leBytes 2 k ++ leBytes 2 0) s)
  else s

/-- ABORT messages to the guest parts that run (R406). -/
def abortGuests (gs : List GuestPart) (s : State) : State :=
  gs.foldl (fun u g =>
    if g.runs then abortGuest g.lane g.handle u else u) s

/-- The guest parts of a cue that has no entry any more: those that run are aborted and their CUE_END asks for nothing, and
those that have not decided are aborted when they accept (R404, R405). -/
def disownGuests (gs : List GuestPart) (s : State) : State :=
  gs.foldl (fun u g =>
    if !laneTrained u g.lane then u
    else if g.runs then updLane g.lane (fun v => { v with deadEnds := v.deadEnds ++ [g.handle] }) (abortGuest g.lane g.handle u)
    else if g.accepted.isNone then updLane g.lane (fun v => { v with lateDec := v.lateDec + 1 }) u
    else u) s

/-- A cue ends with a status, reason and FAULT_ID: what has not launched is withheld, what has fired its last shot forms
and commits (R250, R252). -/
def endCue (h status reason fault : Nat) (s : State) : State :=
  match findCue s h with
  | none => s
  | some e =>
    if e.state = 4 then
      -- it awaits the rest of its points or its guests' CUE_END (R231): an end that has a status stands
      if e.status.isSome then s
      else abortGuests e.guests (updCue h (fun x => { x with status := some (status, reason, fault), reason := reason }) s)
    else
      let u := discardUnfired h (releaseCue h (keepIssued h (abortGuests e.guests s)))
      let v := updCue h (fun x => { x with state := 4, status := some (status, reason, fault), reason := reason }) u
      if pointsLive v h then v else completeCue h v

/-- Every cue that `p` picks ends. A split cue that is still being decided is no cue in flight yet: its decision looks at
what has become of its players (`finishSplit`). -/
def endCues (p : CueEntry → Bool) (status reason fault : Nat) (s : State) : State :=
  (handles s).foldl (fun u h =>
    match findCue u h with
    | some e => if p e && !s.sm.deciding.any (fun d => d.1 == h) then endCue h status reason fault u else u
    | none => u) s

/-- Every cue ends, the Ending ones with their own status. -/
def endAllCues (status reason fault : Nat) (s : State) : State := endCues (fun _ => true) status reason fault s

/-- The ranging channels among a cue's players. -/
def cueChannels (s : State) (e : CueEntry) : List Nat :=
  e.players.filterMap (fun n => (nodeRec s n).bind (fun r => if r.kind = 1 then some r.index else none))

/-- The batten players of a cue. -/
def cueBattens (s : State) (e : CueEntry) : List Nat :=
  e.players.filterMap (fun n => (nodeRec s n).bind (fun r => if r.kind = 3 then some r.index else none))

/-- The cue fires batten `b` (R132). -/
def needsBatten (s : State) (b : Nat) (e : CueEntry) : Bool :=
  (cueBattens s e).contains b || (decide (e.cue.kind ≤ 3) && (cueChannels s e).any (fun c => battenOf s c == some b))

/-- The cue needs emission (R135): it ranges, or fires battens. -/
def needsEmission (s : State) (e : CueEntry) : Bool := decide (e.cue.kind ≤ 3) || cueBattens s e != []

/-- Every occurrence the cue will have has been admitted or refused. -/
def allOccurred (e : CueEntry) : Bool :=
  if e.cue.kind = 0 then e.cue.count != 0 && decide (e.cue.count ≤ e.occ)
  else if e.cue.period = 0 then decide (1 ≤ e.occ)
  else e.cue.count != 0 && decide (e.cue.count ≤ e.occ)

/-- No point of an admitted occurrence is left. -/
def noneLeft (e : CueEntry) : Bool := e.left.all (fun p => p.2 == 0)

/-- The cue has begun: it is Running, or all of it runs at guests, whose shots it does not see (R231, R406). -/
def CueEntry.begun (e : CueEntry) : Bool := e.state == 3 || (e.state == 2 && e.players.isEmpty)

/-- After a point has committed or been dropped: the cue completes when nothing more can commit. -/
def cueProgress (h : Nat) (s : State) : State :=
  match findCue s h with
  | none => s
  | some e =>
    if e.state = 4 then (if pointsLive s h then s else completeCue h s)
    else if e.begun && allOccurred e && noneLeft e && !pointsLive s h then completeCue h s
    else s

/-- R252, R253: an abort by request, a stop or an image change. The result code of SM_ABORT_RES comes with it. A split cue
whose guests have not decided yet gives up its bookings now, and ends with their decisions (R405). -/
def abortCue (h reason : Nat) (s : State) : Nat × State :=
  match findCue s h with
  | none => (2, s)
  | some e =>
    if s.sm.deciding.any (fun d => d.1 == h) then
      (0, releaseCue h (updCue h (fun x => { x with status := some (1, reason, 0), reason := reason }) s))
    else if e.state = 4 then
      -- the abort meets the cue while it ends: the record carries Aborted with ABORT_MET
      (0, updCue h (fun x => { x with status := some (1, reason, 0), reason := reason, abortMet := true }) s)
    else (0, endCue h 1 reason 0 s)

end Sys2Proof.Machine
end

