-- ==== Sys2Proof/Machine/EmitOps.lean ====
section
/-! DEFINITION. Emission: shot slots and the firing code, the emitter-supply switches and their faults, batten faults,
drive levels and the energy governor (R110 to R143). -/

namespace Sys2Proof.Machine

/-! ### Shot slots (R110, R212) -/

/-- BAT_SLOT_CFG.SLOT_THIRDS. -/
def slotThirds (s : State) : Nat := fld s.bat.slotCfg 15 0

/-- Timebase tick of slot boundary `n` (R110). -/
def boundaryTick (s : State) (n : Nat) : Nat := s.bat.origin + n * slotThirds s / 3

/-- The slot origin for a SLOT_PHASE (R212). -/
def slotOrigin (s : State) (phase : Nat) : Nat := phase * slotThirds s / 196608

/-- The first slot whose boundary lies at or after timebase tick `x`. -/
def slotAtOrAfter (s : State) (x : Nat) : Nat := ceilDiv (3 * (x - s.bat.origin)) (max 1 (slotThirds s))

/-- The calendar group that holds timebase tick `x` (R232). -/
def groupOfTick (x : Nat) : Nat := x / (16 * usTicks)

/-- The calendar group in which slot `n` opens. -/
def slotGroup (s : State) (n : Nat) : Nat := groupOfTick (boundaryTick s n)

/-! ### The firing code (R115, R116) -/

/-- One step of the 32-bit Galois register. -/
def codeStep (x : W32) : W32 := if x.getLsbD 0 then (x >>> 1) ^^^ 0x80200003#32 else x >>> 1

def codeEnabled (s : State) : Bool := s.img.active.any (fun i => i.rej.codeEn)

/-- Jitter of batten `b` in the slot that code state `x` opens. -/
def jitter (s : State) (x : W32) (b : Nat) : Nat :=
  if codeEnabled s then (x.rotateRight (7 * b % 32) &&& 0x3F#32).toNat else 0

/-- CODE_SEED of the active image. -/
def codeSeed (s : State) : W32 := (s.img.active.map (fun i => i.rej.codeSeed)).getD 0

/-- The seed loads (R115). -/
def loadCode (s : State) : State := { s with bat := { s.bat with codeState := codeSeed s, codeSlot := 0, codeLoad := false } }

/-- The code register steps at a slot boundary, after any load that waits. -/
def stepCode (s : State) : State :=
  let u := if s.bat.codeLoad then loadCode s else s
  { u with bat := { u.bat with
      codeState := codeStep u.bat.codeState, codeShown := codeStep u.bat.codeState, codeSlot := u.bat.codeSlot + 1 } }

/-- Code state in the slot that the next boundary opens. -/
def nextCode (s : State) : W32 := codeStep (if s.bat.codeLoad then codeSeed s else s.bat.codeState)

def codeSteps (n : Nat) (x : W32) : W32 :=
  match n with
  | 0 => x
  | n + 1 => codeSteps n (codeStep x)

/-- Jitter of batten `b` in slot `n`, which is still to come. -/
def slotJitter (s : State) (n b : Nat) : Nat :=
  if codeEnabled s then jitter s (codeSteps (n - s.bat.slot) (nextCode s)) b else 0

/-- Timebase tick at which batten `b` fires in slot `n` (R113). -/
def fireTick (s : State) (n b : Nat) : Nat := boundaryTick s n + slotJitter s n b

/-- The calendar group in which batten `b` fires in slot `n` (R234). The jitter is at most 63 ticks, so it is asked for
only where it may reach the next group. -/
def fireGroup (s : State) (n b : Nat) : Nat :=
  let g := slotGroup s n
  if groupOfTick (boundaryTick s n + 63) = g then g else groupOfTick (fireTick s n b)

/-! ### Cues that a cut or a fault ends (R132, R135) -/

/-- The entry is admitted and has not begun to end. -/
def CueEntry.admitted (e : CueEntry) : Bool := decide (e.state = 2) || decide (e.state = 3)

/-- Every admitted cue that needs emission ends Failed, reason 0x10. -/
def cutCues (fault : Nat) (s : State) : State :=
  endCues (fun e => e.admitted && needsEmission s e) 2 0x10 fault s

/-- Every admitted cue that needs batten `b` ends Failed, reason 0x11, and its completion names the batten. -/
def failBatten (b : Nat) (s : State) : State :=
  endCues (fun e => e.admitted && needsBatten s b e) 2 0x11 b s

/-- The player is a ranging or reference channel that reads Failed other than by its batten (R83, R101, R471). -/
def failedChannel (s : State) (r : NodeRec) : Bool :=
  match r.kind with
  | 1 => (battenOf s r.index).any (battenEnabled s) && (kUnreach s r.index || s.rh.failChan.contains r.index)
  | 2 => referenceLevel s r.index == 3
  | _ => false

/-- Every admitted cue with a channel that has failed in service ends Failed, reason 0x13 (Tables 1.8 and 7.9; DEDUCED,
notes/assumptions/48.md). -/
def failPlayers (s : State) : State :=
  endCues (fun e => e.admitted && e.players.any (fun n => (nodeRec s n).any (failedChannel s))) 2 0x13 0 s

/-- R143: SW_FAULT sets, both switches open, what has not launched is withheld and the cues that need emission end. -/
def switchFault (s : State) : State :=
  cutCues 0xFFFF (setEvent evEmissionCut (openSwitches { s with bat := { s.bat with swFault := true, due := [] } }))

/-! ### Battens -/

/-- The batten may fire: enabled in the map and free of faults. -/
def battenFires (s : State) (b : Nat) : Bool := battenEnabled s b && !(getBatten s b).faulted

/-- A batten fault is found: it latches, sets the event and waits for the next slot boundary (R131, R132). -/
def battenFault (b : Nat) (f : Batten → Batten) (s : State) : State :=
  setEvent evBattenFault (setBatten b { f (getBatten s b) with faultWait := true } s)

/-- The faults found since the last boundary take effect (R132): for Short with the cut, else naming the batten. -/
def applyFaults (s : State) : State :=
  ((s.bat.ch.filter (fun p => p.2.faultWait)).map Prod.fst).foldl
    (fun u b =>
      let v := setBatten b { getBatten u b with faultWait := false } u
      if (getBatten v b).short then failBatten b (cutCues b v) else failBatten b v) s

/-! ### The energy governor (R133 to R137) -/

/-- Sum of a ring with `n` buckets, newest first. -/
def ringSum (r : List Nat) (n : Nat) : Nat := (r.take n).sum

/-- A bucket boundary passes. -/
def ringNext (r : List Nat) (n : Nat) : List Nat := 0 :: r.take (n - 1)

/-- An integral enters the current bucket. -/
def ringAdd (r : List Nat) (x : Nat) : List Nat :=
  match r with
  | [] => [x]
  | a :: t => (a + x) :: t

/-- Window sum `w` of a batten, in mV·ns (Table 4.3). -/
def Batten.windowSum (v : Batten) (w : Nat) : Nat :=
  match w with
  | 0 => ringSum v.ringS 32
  | 1 => ringSum v.ringM 100
  | 2 => ringSum v.ringL 100
  | _ => 0

/-- The limit of window `w` of batten `b`, in mV·ns: 16 times its limit-set entry (R134). -/
def govLimit (s : State) (b w : Nat) : Option Nat :=
  s.img.active.bind (fun i => (i.battens[b]?).bind (fun r => (i.gov[r.govSet]?).map (fun g =>
    16 * (match w with | 0 => g.short | 1 => g.middle | _ => g.long))))

/-- Window `w` of batten `b` has reached its limit. -/
def overLimit (s : State) (b w : Nat) : Bool :=
  (govLimit s b w).any (fun l => decide (l ≤ (getBatten s b).windowSum w))

/-- R135, R136: a trip by batten `b`; `ws` are the windows at their limits, shortest first. -/
def govTrip (b : Nat) (ws : List Nat) (s : State) : State :=
  let u := openSwitches { s with bat := { s.bat with
    govTrip := true, tripBat := b, tripWin := ws.headD 0, tripMulti := decide (1 < ws.length), tripAt := s.now, due := [] } }
  cutCues b (setEvent evEmissionCut u)

/-- R136: batten `b` has limits reached in the update that tripped the governor: MULTI, and the lowest batten is recorded. -/
def govJoin (b : Nat) (ws : List Nat) (s : State) : State :=
  let lower := decide (b < s.bat.tripBat)
  { s with bat := { s.bat with
      tripMulti := true, tripBat := if lower then b else s.bat.tripBat
      tripWin := if lower then ws.headD 0 else s.bat.tripWin } }

/-! ### Drive level (R125 to R128) -/

/-- The source's temperature in 1/16 °C: an auxiliary input's TEMP or the device hotspot; 150 °C when it is broken or
implausible (R126), and while the source has given no value yet (DESIGN CHOICE, notes/assumptions/20.md). -/
def sourceTemp (s : State) (src : Nat) : Int :=
  if src < 8 then
    let a := s.hk.aux.get {} src
    if a.tValid && !a.setBroken then a.temp else 2400
  else if s.th.spots = [] then 2400
  else (s.th.spots.map (fun p => p.2.tj)).foldl max (-32768)

/-- BAT_TSRC of the group that holds batten `b`. -/
def battenSource (s : State) (b : Nat) : Nat := fld s.bat.tsrc (4 * (b / 8) + 3) (4 * (b / 8))

/-- R125: the next level and whether it is derated. -/
def driveLevel (s : State) (r : BatRec) (t : Int) : Nat × Bool :=
  let floorF : Int := 1024 * r.floor / 100
  let span : Int := 16 * fld s.bat.driveCfg 23 16
  let f := if t ≤ r.knee then 1024 else max floorF (1024 - Int.fdiv ((1024 - floorF) * (t - r.knee)) span)
  ((min 255 (Int.fdiv (fld s.bat.driveCfg 7 0 * f * 32) r.pwrCoef)).toNat, decide (f < 1024))

/-- R128: the predicted drift in 0.001 nm and WL_OOB after it. -/
def wavelengthOob (s : State) (r : BatRec) (t : Int) (was : Bool) : Bool :=
  let drift := (r.wlTc * (t - 400)).natAbs
  let lim := fld s.bat.driveCfg 31 24
  if was then decide (16 * 90 * lim < drift) else decide (16 * 100 * lim < drift)

/-- The level, derating and wavelength state of batten `b` are computed anew. -/
def updateDrive (b : Nat) (s : State) : State :=
  match batRec s b with
  | none => s
  | some r =>
    let t := sourceTemp s (battenSource s b)
    let v := getBatten s b
    let d := driveLevel s r t
    let oob := wavelengthOob s r t v.wlOob
    eventIf (oob && !v.wlOob) evWavelength
      (setBatten b { v with nextLevel := d.1, nextDer := d.2, wlOob := oob } s)

/-- Every batten of group `g`. -/
def updateGroup (g : Nat) (s : State) : State := (List.range 8).foldl (fun u i => updateDrive (8 * g + i) u) s

/-! ### The fine-phase line (R119, R122, R123) -/

/-- Device tick at which the fire edge of a shot that starts at `start` leaves the line: a work-light edge 32 ticks after
the start (R113, R458). -/
def edgeTick (workLight : Bool) (start : Nat) : Nat := start + if workLight then 32 else 0

/-- The edge left in the 16 ticks before now (R122). -/
def edgeLate (s : State) (workLight : Bool) (start : Nat) : Bool :=
  decide (edgeTick workLight start ≤ s.now) && decide (s.now ≤ edgeTick workLight start + 16)

/-- PH_LOCK is now `lock`: a work-light shot whose edge has not left takes its phase, and its coarse mark, from it (R122). -/
def Shot.relock (now : Nat) (lock : Bool) (x : Shot) : Shot :=
  if x.workLight && decide (now < edgeTick true x.start) then
    { x with coarse := !lock, phase := if lock then bitrev5 (x.idx % 32) else 0 }
  else x

/-- An act-two shot of the point, whose result has been taken, had its edge in the 16 ticks before now (R122). -/
def Point.relock (s : State) (p : Point) : Point := { p with coarse := p.coarse || p.lastTwo.any (edgeLate s false) }

/-- PH_LOCK falls: shots whose edges left in the 16 ticks before are coarse, those already accumulated too, and the unlock
counts. The shots still to come are marked when they fire. -/
def phaseUnlock (s : State) : State :=
  if !s.bat.phLock then s
  else
    let chans : Tab Channel := s.rx.chan.mapVals (fun _ v =>
      { v with
        shot := v.shot.map (fun x =>
          let y := x.relock s.now false
          { y with coarse := y.coarse || (x.launched && edgeLate s x.workLight x.start) })
        results := v.results.map (fun x => { x with coarse := x.coarse || (x.launched && edgeLate s x.workLight x.start) }) })
    noteWorst (setEvent evPhaseUnlock { s with
      bat := { s.bat with phLock := false, unlocks := inc32 s.bat.unlocks }
      rx := { s.rx with chan := chans }
      hist := { s.hist with chan := s.hist.chan.mapVals (fun _ v =>
        { v with cur := v.cur.map (Point.relock s), forming := v.forming.map (Point.relock s) }) } })

end Sys2Proof.Machine
end

