-- ==== Sys2Proof/Machine/RxOps.lean ====
section
/-! DEFINITION. Receive channels: when a channel listens, what qualifies, how a shot ends, and the shot result word
(R76 to R102). -/

namespace Sys2Proof.Machine

def getChan (s : State) (c : Nat) : Channel := s.rx.chan.get {} c

def setChan (c : Nat) (v : Channel) (s : State) : State := { s with rx := { s.rx with chan := s.rx.chan.set c v } }

/-- The device tick of timebase tick `x`, near now. -/
def deviceOf (s : State) (x : Nat) : Nat := (s.now + x) - tbTick s

/-! ### The listening rules of a shot -/

/-- Counter value of the running tick. -/
def Shot.counter (x : Shot) (now : Nat) : Int := (now : Int) - x.start

/-- The segment that holds counter value `v`. -/
def segmentOf (segs : List (Nat × Nat)) (v : Int) : Option Nat :=
  segs.findIdx? (fun g => decide ((g.1 : Int) ≤ v) && decide (v < g.1 + g.2))

/-- The counter value lies in a blanking interval (R209). -/
def Shot.blankedAt (x : Shot) (v : Int) : Bool :=
  x.blanks.any (fun b => decide (b.1 ≤ v) && decide (v ≤ b.2))

/-- Last tick of the last segment. -/
def Shot.lastTick (x : Shot) : Nat := (x.segs.map (fun g => g.1 + g.2 - 1)).foldl max 0

/-- Two segments touch (R89). -/
def Shot.touches (x : Shot) (g : Nat) : Bool :=
  match g with
  | 0 => false
  | g + 1 => (x.segs[g]?).any (fun a => (x.segs[g + 1]?).any (fun b => decide (a.1 + a.2 = b.1)))

/-- A reference channel (R74). -/
def isReference (c : Nat) : Bool := decide (1536 ≤ c)

/-- The shot's events count at counter value `v` on channel `c` (Table 3.1, R91, R209). -/
def Shot.counts (x : Shot) (c : Nat) (v : Int) : Bool :=
  match x.interval with
  | none => false
  | some .preshow => decide (x.preOfs ≤ v) && decide (v < x.preOfs + x.preLen) && !x.blankedAt v
  | some .tick0 => decide (v = 0) && !x.blankedAt v
  | some (.segment _) =>
    !x.blankedAt v && ((decide (v = 0) && !isReference c)
      || ((segmentOf x.segs v).isSome && decide ((x.hold : Int) ≤ v)))

/-! ### The end of a shot (R92 to R100) -/

def outStop : Nat := 0
def outNoReturn : Nat := 1
def outCut : Nat := 2
def outVoid : Nat := 3

/-- The shot result word (Table 3.3). A Void shot reports nothing else; a reference channel reports only the stop. -/
def resultWord (c : Nat) (x : Shot) (outcome seg stop : Nat) : W32 :=
  if outcome = outVoid then word [(24, 3, outcome)]
  else if isReference c then word [(24, 3, outcome), (0, 14, stop)]
  else word [(28, 4, x.preCnt), (27, 1, bn x.wref), (24, 3, outcome), (22, 2, seg), (0, 14, stop)]

def wordOutcome (w : W32) : Nat := fld w 26 24
def wordStop (w : W32) : Nat := fld w 13 0
def wordSeg (w : W32) : Nat := fld w 23 22
def wordWref (w : W32) : Bool := flag w 27
def wordPreshow (w : W32) : Nat := fld w 31 28

/-- R106, R107: the counters count the shots that RX_CNT_SEL selects. -/
def countWord (c : Nat) (w : W32) (s : State) : State :=
  if flag s.rx.cntSel 31 || decide (fld s.rx.cntSel 10 0 = c) then
    let o := wordOutcome w
    { s with rx := { s.rx with
        cntStop := satAdd 32 s.rx.cntStop (bn (o == outStop))
        cntNoret := satAdd 32 s.rx.cntNoret (bn (o == outNoReturn))
        cntCut := satAdd 32 s.rx.cntCut (bn (o == outCut))
        cntVoid := satAdd 32 s.rx.cntVoid (bn (o == outVoid))
        cntWref := satAdd 32 s.rx.cntWref (bn (wordWref w))
        cntPre := satAdd 32 s.rx.cntPre (wordPreshow w) } }
  else s

/-- The safety-cue period in µs: the PERIOD of the class S templates (R224); 0 when there is none. -/
def safetyP (s : State) : Nat :=
  ((s.img.active.bind (fun i => i.templates.find? (fun c => c.cls == 0))).map CueRec.period).getD 0

/-- The safety-cue period that holds device tick `x` (R308). -/
def periodOf (s : State) (x : Nat) : Nat := tbOf s x / usTicks / max 1 (safetyP s)

/-- The safety boundary that ends the period of device tick `x` has passed. -/
def tooLate (s : State) (x : Nat) : Bool := decide (periodOf s x + 1 < s.saf.boundary)

def countLate (s : State) : State := { s with saf := { s.saf with cntLate := inc32 s.saf.cntLate } }

/-- A FLY shot result word goes to the flyman over the die-to-die links (R304), with its own position sample. -/
def flyTake (c : Nat) (r : ShotResult) (s : State) : State :=
  if r.safetyCls && (chEntry s c).any ChEntry.fly && decide (0 < linkCount s) then
    if tooLate s r.start then countLate s
    else { s with saf := { s.saf with flyData := s.saf.flyData ++
      [{ channel := c, batten := r.batten, start := r.start, idx := r.idx, word := r.word, azimuth := s.fs.pos }] } }
  else s

/-- CUT_SEEN of the channel is set in this core clock cycle (R9). -/
def noteCut (c : Nat) (b : Bool) (s : State) : State :=
  { s with recent := { s.recent with cut := if b then c :: s.recent.cut else s.recent.cut } }

/-- The shot of channel `c` ends; its word goes to the histogram engine of its row. -/
def finishShot (c : Nat) (x : Shot) (outcome seg stop : Nat) (s : State) : State :=
  let w := resultWord c x outcome seg stop
  let r : ShotResult :=
    { word := w, batten := x.batten, handle := x.handle, act := x.act, idx := x.idx, phase := x.phase,
      coarse := x.coarse, launched := x.launched, workLight := x.workLight, safetyCls := x.safetyCls,
      start := x.start, blanked := x.blanks }
  let v := getChan s c
  flyTake c r (countWord c w (noteCut c (decide (outcome = outCut)) (setChan c
    { v with
      shot := none, results := v.results ++ [r], cutSeen := v.cutSeen || decide (outcome = outCut)
      early := if s.now < x.start then (x.batten, x.startTb) :: v.early.filter (fun e => decide (tbTick s < e.2)) else v.early } s)))

/-- The shot that channel `c` runs ends Void. -/
def voidShot (c : Nat) (s : State) : State :=
  match (getChan s c).shot with
  | some x => finishShot c x outVoid 0 0 s
  | none => s

/-- Every shot in progress ends Void (R99). -/
def voidShots (s : State) : State := s.rx.chan.foldl (fun u p => voidShot p.1 u) s

/-- A shot still listening when the next begins ends Cut (R97); one whose last segment has ended just then does not (R93). -/
def cutShot (c : Nat) (s : State) : State :=
  match (getChan s c).shot with
  | some x => finishShot c x (if (x.lastTick : Int) < x.counter s.now then outNoReturn else outCut) 0 0 s
  | none => s

/-- The shot cannot listen: no lock, or too few SPADs (R99). -/
def voidNow (s : State) (c : Nat) (x : Shot) : Bool :=
  !s.pwr.tpll || (getChan s c).gateLost || decide (unmasked s c < x.k)

/-- The shot has ended before its start tick, in its pre-show window. -/
def endedEarly (s : State) (c : Nat) (x : Shot) : Bool := (getChan s c).early.contains (x.batten, x.startTb)

/-- The channel begins shot `x` at its start tick. A shot whose pre-show window ran goes on; one that ended in that window
has delivered its word and does not listen again (R97, R99, R100); else the channel's earlier shot is cut first. Without
BIAS_OK at the start the shot is Void (R99). -/
def startShot (c : Nat) (x : Shot) (s : State) : State :=
  if endedEarly s c x then s else
  let same := (getChan s c).shot.filter (fun y => decide (y.startTb = x.startTb) && decide (y.batten = x.batten)
    && decide (y.handle = x.handle) && decide (y.act = x.act) && decide (y.idx = x.idx))
  let u := if same.isSome then s else cutShot c s
  let pre := match same with
    | some y => y.preCnt
    | none => 0
  let y : Shot := { x with
    preCnt := pre, detector := [], interval := some (if isReference c then .segment 0 else .tick0) }
  let v := setChan c { getChan u c with shot := some y, apHold := x.apHold } u
  if !s.rx.biasOk || voidNow u c x then finishShot c y outVoid 0 0 v else v

/-! ### SPADs and coincidences (R76, R80, R81) -/

/-- Blind time of a SPAD in 1/1,024 tick. The AP_HOLD of an avalanche outside any shot is that of the channel's latest shot,
and 0 before the first (DESIGN CHOICE, notes/assumptions/7.md). -/
def blindTime (s : State) (c : Nat) : Nat :=
  2048 * (fld s.rx.cfg 6 0 + if isReference c then 0 else (getChan s c).apHold)

/-- Spans within 62.5 ps of the window may qualify or not: a free value decides (R81, notes/assumptions/7.md). -/
def spanQualifies (s : State) (span win : Nat) : Bool :=
  if win + 256 ≤ span then false
  else if span + 256 ≤ win then true
  else freeValue s % 2 == 1

/-- The `k` latest events of distinct SPADs, newest first. -/
def latestEvents (d : List (Nat × Nat)) (k : Nat) : List (Nat × Nat) := (sortBy (fun a b => decide (b.2 ≤ a.2)) d).take k

/-- The detector takes an event of SPAD `n` at time `at`. -/
def takeEvent (d : List (Nat × Nat)) (n time : Nat) : List (Nat × Nat) := (n, time) :: d.filter (fun e => e.1 != n)

/-- The span of the k latest events; none when fewer are held. -/
def eventSpan (d : List (Nat × Nat)) (k : Nat) : Option Nat :=
  let l := latestEvents d k
  if l.length < k then none
  else some (((l.map Prod.snd).foldl max 0) - ((l.getLast?.map Prod.snd).getD 0))

/-- The detector's events complete a qualified coincidence. -/
def qualifies (s : State) (x : Shot) (d : List (Nat × Nat)) : Bool :=
  decide (x.k ≤ 1) || (eventSpan d x.k).any (fun sp => spanQualifies s sp (512 * x.win))

/-- What a qualified coincidence does at counter value `v` (R92, R94, R95). -/
def coincidence (c : Nat) (x : Shot) (v : Int) (s : State) : State :=
  let put := fun (y : Shot) => setChan c { getChan s c with shot := some y } s
  if v < 0 then put { x with preCnt := min 15 (x.preCnt + 1), detector := [] }
  else
    let inGate := (segmentOf x.segs v).isSome && decide ((x.hold : Int) ≤ v) && !x.blankedAt v
    let y := if v = 0 && !isReference c then { x with wref := true, detector := [] } else x
    if inGate then finishShot c y outStop ((segmentOf x.segs v).getD 0) v.toNat s else put y

/-- A SPAD avalanche on channel `c`: the SPAD goes blind, and a counted event may complete a coincidence. -/
def spadEvent (c n sub : Nat) (s : State) : State :=
  let time := 1024 * s.now + sub % 1024
  let v := getChan s c
  if (maskOf s c).getLsbD n || decide (time < v.blind.get 0 n) then s
  else
    let u := setChan c { v with blind := v.blind.set n (time + blindTime s c) } s
    match v.shot with
    | none => u
    | some x =>
      let cv := x.counter s.now
      if x.counts c cv then
        let d := takeEvent x.detector n time
        if qualifies u x d then tookFree (coincidence c { x with detector := d } cv u)
        else tookFree (setChan c { getChan u c with shot := some { x with detector := d } } u)
      else u

end Sys2Proof.Machine
end

