-- ==== Sys2Proof/Machine/CalOps.lean ====
section
/-! DEFINITION. Calibration: the values in use, the calibration entries, and the judgement of a measurement and its
repeat (R451 to R466). Quantities are numbered as CAL_STAT numbers them. -/

namespace Sys2Proof.Machine

/-! ### Values in use (R156, Table 13.1) -/

/-- Tap position Q(p). -/
def tapPos (s : State) (p : Nat) : Int := s.cal.taps.get (32 * p) p

/-- Emission delay of batten `b`: measured, else the batten record's DELAY. -/
def emissionDelay (s : State) (b : Nat) : Int :=
  match s.cal.edelay.find b with
  | some e => e
  | none => ((batRec s b).map BatRec.delay).getD 0

/-- Skew of channel `c`. -/
def skewOf (s : State) (c : Nat) : Int := s.cal.skew.get 0 c

/-- VBD0: breakdown at 25 °C in use, mV. -/
def vbdInUse (s : State) : Int := s.cal.vbd.getD s.otp.vbd

/-- c0 and c100 of converter `v` in use. -/
def convInUse (s : State) (v : Nat) : Int × Int := s.cal.conv.get (0, 16383) v

/-- The corrected code of a sample (R462). -/
def correctedCode (s : State) (v : Nat) (code : Nat) : Nat :=
  let c := convInUse s v
  let span := c.2 - c.1
  (clampInt 0 16383 (divRound (((code : Int) - c.1) * 16383) span.toNat)).toNat

/-! ### Judgement (R451, R465) -/

/-- Quantity `q` is rejected: the value in use stays. -/
def rejectCal (q : Nat) (s : State) : State :=
  setEvent evCalibration { s with cal := { s.cal with
    lastRej := s.cal.lastRej ||| (1#6 <<< q), cntRej := inc32 s.cal.cntRej } }

/-- PENDING of the quantities with a value that waits (bits 0 to 4), and of the auxiliary offsets (bit 5) as it stands. -/
def Cal.pendingBits (c : Cal) : BitVec 6 :=
  BitVec.ofNat 6 (bn c.newTaps.isSome + 2 * bn (!c.newEd.isEmpty) + 4 * bn (!c.newSkew.isEmpty) + 8 * bn c.newVbd.isSome
    + 16 * bn (!c.newConv.isEmpty)) ||| (c.pendingQ &&& 0x20#6)

/-- A table with the values of the waiting ones whose acceptance `p` picks. -/
def takeWaiting {α : Type} (p : Nat → Bool) (waiting : Tab (Nat × α)) (t : Tab α) : Tab α :=
  (waiting.filter (fun x => p x.2.1)).foldl (fun u x => u.set x.1 x.2.2) t

/-- The waiting values that `p` leaves. -/
def leaveWaiting {α : Type} (p : Nat → Bool) (waiting : Tab (Nat × α)) : Tab (Nat × α) := waiting.filter (fun x => !p x.2.1)

/-- The accepted values that wait apply, those whose core clock cycle of acceptance `p` picks (R465): taps, emission delays,
skews, breakdown and converters. -/
def applyCal (p : Nat → Bool) (s : State) : State :=
  let c := s.cal
  let d : Cal := { c with
    taps := ((c.newTaps.filter (fun x => p x.1)).map Prod.snd).getD c.taps, newTaps := c.newTaps.filter (fun x => !p x.1)
    vbd := ((c.newVbd.filter (fun x => p x.1)).map Prod.snd).or c.vbd, newVbd := c.newVbd.filter (fun x => !p x.1)
    conv := takeWaiting p c.newConv c.conv, newConv := leaveWaiting p c.newConv
    edelay := takeWaiting p c.newEd c.edelay, newEd := leaveWaiting p c.newEd
    skew := takeWaiting p c.newSkew c.skew, newSkew := leaveWaiting p c.newSkew }
  { s with cal := { d with pendingQ := d.pendingBits } }

/-- Every accepted value that waits applies: no scene runs (R465). -/
def applyAll (s : State) : State := applyCal (fun _ => true) s

/-- The device calibrates now: outside Show always, in Show with AUTO set (R466). -/
def calibrating (s : State) : Bool := s.cal.auto || !inShow s

/-- Quantity `q` is accepted: it waits for a scene change, and applies at once while no scene runs (R465). -/
def acceptCal (q : Nat) (s : State) : State :=
  let u := { s with cal := { s.cal with
    lastRej := s.cal.lastRej &&& ~~~(1#6 <<< q), valid := s.cal.valid ||| (1#6 <<< q)
    pendingQ := s.cal.pendingQ ||| (1#6 <<< q) } }
  if s.fs.sceneRun then u else applyAll u

/-- The mean of two measurements, rounded half up. -/
def meanOf (a b : Int) : Int := divRound (a + b) 2

/-- The difference of two values is at most `tol`. -/
def within (a b : Int) (tol : Nat) : Bool := decide ((a - b).natAbs ≤ tol)

/-- Plausibility of 32 tap positions (Table 13.1). -/
def tapsPlausible (q : List Int) : Bool :=
  (List.range 32).all (fun p =>
    within (q.getD p 0) (32 * p) 16 &&
    let step := (if p = 31 then 1024 else q.getD (p + 1) 0) - q.getD p 0
    decide (8 ≤ step) && decide (step ≤ 56))

/-- Tap positions from the counts of a run (R457). -/
def tapsOfCounts (n : List Nat) : List Int :=
  (List.range 32).map (fun p => if p = 0 then 0 else divRound ((n.take p).sum) 1024)

/-- A code-density set and its repeat are judged; CAL_Q_TAP takes the residuals of an accepted set. -/
def judgeTaps (a b : List Int) (s : State) : State :=
  if tapsPlausible a && tapsPlausible b && (List.range 32).all (fun p => within (a.getD p 0) (b.getD p 0) 2) then
    let q := (List.range 32).map (fun p => meanOf (a.getD p 0) (b.getD p 0))
    let resid := (List.range 32).foldl (fun m p => max m (8 * (a.getD p 0 - b.getD p 0).natAbs)) 0
    let inl := (List.range 32).foldl (fun m p => max m (q.getD p 0 - 32 * p).natAbs) 0
    acceptCal 0 { s with cal := { s.cal with
      newTaps := some (coreCycle s.now, (List.range 32).map (fun p => (p, q.getD p 0))), tapResid := resid, tapInl := inl
      tapAt := s.now, tapTemp := (s.th.spots.get {} 0).tj } }
  else rejectCal 0 s

/-- Emission delay of batten `b` from two arrivals (R454, R459). -/
def judgeDelay (b : Nat) (a1 a2 : Int) (fillOk : Bool) (s : State) : State :=
  match batRec s b with
  | none => s
  | some r =>
    let f := fun (a : Int) => a - s.otp.pipe.get 0 r.ref - skewOf s (1536 + r.ref)
    let e1 := f a1
    let e2 := f a2
    if fillOk && within e1 r.delay 1024 && within e2 r.delay 1024 && within e1 e2 4 then
      acceptCal 1 { s with cal := { s.cal with newEd := s.cal.newEd.set b (coreCycle s.now, meanOf e1 e2) } }
    else rejectCal 1 s

/-- RMS of the accepted half differences in 1/16 LSB, for CAL_Q_SKEW. -/
def skewResidual (h : Tab Int) : Nat :=
  if h = [] then 0 else isqrt (64 * (h.map (fun p => p.2.natAbs * p.2.natAbs)).sum / h.length)

/-- Skew of channel `c` from two work-light arrivals. `skewHalf` keeps Sa − Sb of every accepted channel. -/
def judgeSkew (c : Nat) (w1 w2 : Int) (fillOk : Bool) (s : State) : State :=
  let g := s.otp.gDelay.get 0 c
  let s1 := w1 - g
  let s2 := w2 - g
  if fillOk && within s1 0 4096 && within s2 0 4096 && within s1 s2 16 then
    let halves := s.cal.skewHalf.set c (s1 - s2)
    acceptCal 2 { s with cal := { s.cal with
      newSkew := s.cal.newSkew.set c (coreCycle s.now, meanOf s1 s2), skewHalf := halves, skewResid := skewResidual halves } }
  else rejectCal 2 s

/-- SPADs of the 1,552 channels that no mask bit takes out. -/
def unmaskedSpads (s : State) : Nat :=
  let cs := (firsts [] (s.rx.mask.map Prod.fst ++ s.rx.hot.map Prod.fst)).filter (fun c => decide (c < 1552))
  24832 - (cs.map (fun c => popCount (maskOf s c))).sum

/-- R460: `fired` counts the SPADs that fired at each 50 mV step from 1.5 V below the factory value on; the breakdown, in mV, is
the first of the 61 steps at which half of the unmasked ones did. -/
def searchFound (s : State) (fired : List Nat) : Option Int :=
  (((List.range 61).zip fired).find? (fun q => decide (unmaskedSpads s ≤ 2 * q.2))).map
    (fun q => s.otp.vbd - 1500 + 50 * (q.1 : Int))

/-- Breakdown: what a search found, at the temperature of hotspot 2, referred to 25 °C by TC (R460). -/
def referBreakdown (s : State) (mv tj2 : Int) : Int := mv - divRound (s.otp.tc * (tj2 - 400)) 16

/-- A breakdown search and its repeat, both referred to 25 °C. -/
def judgeBreakdown (a b : Option Int) (s : State) : State :=
  match a, b with
  | some x, some y =>
    if within x s.otp.vbd 1500 && within y s.otp.vbd 1500 && within x y 50 then
      acceptCal 3 { s with cal := { s.cal with newVbd := some (coreCycle s.now, meanOf x y) } }
    else rejectCal 3 s
  | _, _ => rejectCal 3 s

/-- A code corrected by the measurement's own offset and full scale. -/
def selfCorrected (k : ConvCodes) (code : Int) : Int :=
  clampInt 0 16383 (divRound ((code - k.c0) * 16383) (k.c100 - k.c0).toNat)

/-- Plausibility of one converter reading. -/
def convPlausible (k : ConvCodes) : Bool :=
  within k.c0 0 64 && within (k.c100 - k.c0) 16383 328
    && within (selfCorrected k k.c25) 4096 8 && within (selfCorrected k k.c75) 12287 8

/-- Converter `v`: a reading and its repeat. -/
def judgeConv (v : Nat) (a b : ConvCodes) (s : State) : State :=
  if convPlausible a && convPlausible b && within a.c0 b.c0 2 && within a.c100 b.c100 4 then
    acceptCal 4 { s with cal := { s.cal with
      newConv := s.cal.newConv.set v (coreCycle s.now, meanOf a.c0 b.c0, meanOf a.c100 b.c100) } }
  else rejectCal 4 s

/-- A converter passes its calibration (dress rehearsal, R468). -/
def convAccepted (a b : ConvCodes) : Bool :=
  convPlausible a && convPlausible b && within a.c0 b.c0 2 && within a.c100 b.c100 4

/-- Auxiliary offset of range `r`, two readings in volts; `full` is the range. An accepted offset applies at the next
make (R465). -/
def judgeAux (r : Nat) (full a b : Rat) (s : State) : State :=
  if decide (abs a ≤ full / 200) && decide (abs b ≤ full / 200) && decide (abs (a - b) ≤ full / 5000) then
    { s with
      cal := { s.cal with
        lastRej := s.cal.lastRej &&& ~~~(0x20#6), valid := s.cal.valid ||| 0x20#6, pendingQ := s.cal.pendingQ ||| 0x20#6 }
      hk := { s.hk with auxOfsNew := s.hk.auxOfsNew.set r ((a + b) / 2) } }
  else rejectCal 5 s

/-! ### Entries (R455, R456) -/

def calReps (s : State) : Nat := fld s.cal.cfg 6 0

/-- Table 13.2 STATE: 0 and 1 fill the coarse pass, 4 that of the repeat. -/
def CalEntry.coarsePass (e : CalEntry) : Bool := e.state ∈ [0, 1, 4]

/-- The most frequent stop, the lowest on a tie. -/
def modeOf (l : List Nat) : Option Nat :=
  (sortBy (fun a b => decide (a ≤ b)) l).foldl
    (fun (m : Option Nat) v =>
      match m with
      | none => some v
      | some w => if l.count w < l.count v then some v else m) none

/-- A counted shot enters the entry: stop (none for no stop) and fine phase. -/
def CalEntry.take (reps : Nat) (e : CalEntry) (stop : Option Nat) (p : Nat) : CalEntry :=
  if e.coarsePass then
    let st := if e.state = 4 then 4 else 1
    let c := e.coarse ++ [stop]
    if c.length < 32 then { e with state := st, coarse := c }
    else
      match modeOf (c.filterMap id) with
      | none => { e with state := st, coarse := c }
      | some m =>
        { e with
          state := if st = 4 then 5 else 2, w0 := m - 4, coarse := c, shots := 0, fill := 0, perPhase := [], bins := [] }
  else if e.state = 2 ∨ e.state = 5 then
    if e.perPhase.get 0 p < reps then
      let e1 := { e with shots := satAdd 16 e.shots 1, perPhase := e.perPhase.upd 0 p (· + 1) }
      match stop with
      | some v =>
        if e.w0 ≤ v ∧ v < e.w0 + 8 then
          { e1 with fill := satAdd 16 e1.fill 1, bins := e1.bins.upd 0 (32 * (v - e.w0) + 31 - p) (satAdd 16 · 1) }
        else e1
      | none => e1
    else e
  else e

/-- 32 coarse shots without a stop end the measurement (R456 step 1). -/
def CalEntry.blind (e : CalEntry) : Bool :=
  e.coarsePass && decide (32 ≤ e.coarse.length) && (e.coarse.filterMap id).isEmpty

/-- Every phase holds REPS shots. -/
def CalEntry.full (reps : Nat) (e : CalEntry) : Bool :=
  (e.state = 2 ∨ e.state = 5) && (List.range 32).all (fun p => decide (reps ≤ e.perPhase.get 0 p))

/-- pos(b) of R159 with the tap positions `q`. -/
def binPos (q : List Int) (w0 b : Nat) : Int := 1024 * ((w0 + b / 32 : Nat) : Int) - q.getD (31 - b % 32) 0 + 512

/-- The tap positions in use, as a list. -/
def tapsInUse (s : State) : List Int := (List.range 32).map (tapPos s)

/-- R456 step 5; none when no bin holds a count. -/
def CalEntry.arrivalOf (q : List Int) (e : CalEntry) : Option Int :=
  let den := (e.bins.map Prod.snd).sum
  if den = 0 then none
  else some (divRound (sumInt (e.bins.map (fun p => binPos q e.w0 p.1 * p.2))) den)

def updEntry (k : Nat) (f : CalEntry → CalEntry) (s : State) : State :=
  { s with cal := { s.cal with entries := s.cal.entries.upd {} k f } }

/-- The least share of counted shots whose stop falls in the window (Table 13.1): 9/10 for a batten, 1/8 for a channel. -/
def fillEnough (k fill shots : Nat) : Bool :=
  if k < 64 then decide (9 * shots ≤ 10 * fill) else decide (shots ≤ 8 * fill)

/-- The entry's measurement is judged and a new one can begin (R459). -/
def judgeEntry (k : Nat) (a1 a2 : Option Int) (fillOk : Bool) (s : State) : State :=
  let u := updEntry k (fun e => { e with state := 3 }) s
  let v := match a1, a2 with
    | some x, some y => if k < 64 then judgeDelay k x y fillOk u else judgeSkew (k - 64) x y fillOk u
    | _, _ => rejectCal (if k < 64 then 1 else 2) u
  if k < 64 then
    { v with bat := { v.bat with ch := v.bat.ch.upd {} k (fun b =>
        { b with edAt := some v.now, edTemp := sourceTemp v (battenSource v k) }) } }
  else v

/-- CAL_ENTRY_COMPLETE: what an entry that has completed a part does next. -/
def completeEntry (k : Nat) (s : State) : State :=
  let e := s.cal.entries.get {} k
  if e.blind then judgeEntry k none none false s
  else if e.full (calReps s) then
    match e.arrivalOf (tapsInUse s) with
    | none => judgeEntry k none none false s
    | some a =>
      if e.state = 2 then
        updEntry k (fun x => { x with
          state := 4, arrival := a, arrFill := (x.fill, x.shots), coarse := [], perPhase := [], bins := [], shots := 0, fill := 0 }) s
      else
        judgeEntry k (some e.arrival) (some a)
          (fillEnough k e.arrFill.1 e.arrFill.2 && fillEnough k e.fill e.shots) s
  else s

/-- R458: the coarse pass of a work-light entry has shown how many shots stop. With fewer than 10 % the current rises, with more
than 30 % it falls; by how much is stated nowhere, so it is a free value. Full scale of input 22 is 200 mA. -/
def adjustCurrent (e : CalEntry) (s : State) : State :=
  let n := 10 * (e.coarse.filterMap id).length
  let i := s.cal.wlCurrent
  if n < e.coarse.length ∧ i < 200000 then
    tookFree { s with cal := { s.cal with wlCurrent := i + 1 + freeValue s % (200000 - i) } }
  else if 3 * e.coarse.length < n ∧ 0 < i then tookFree { s with cal := { s.cal with wlCurrent := freeValue s % i } }
  else s

/-- A shot result enters entry `k`; Void shots and coarse shots are not counted. -/
def calAccumulate (k : Nat) (r : ShotResult) (s : State) : State :=
  if wordOutcome r.word = outVoid || r.coarse then s
  else
    let e := s.cal.entries.get {} k
    if e.blind || e.full (calReps s) then s
    else
      let stop := if wordOutcome r.word = outStop then some (wordStop r.word) else none
      let u := updEntry k (fun x => x.take (calReps s) stop r.phase) s
      if 64 ≤ k ∧ e.coarsePass = true ∧ e.coarse.length = 31 then adjustCurrent (u.cal.entries.get {} k) u else u

/-- A new measurement begins (R459). -/
def restartEntry (k : Nat) (s : State) : State := updEntry k (fun _ => {}) s

/-! ### Excitation (R434) -/

/-- Excitation current of the monitor's limit: more than 2 % plus 2 µA away from EXC_I, in nA. -/
def currentFar (excI measured : Nat) : Bool :=
  let want := 100000 * excI
  decide (want / 50 + 2000 < max want measured - min want measured)

/-! ### Bias (R78, R460) -/

/-- The bias target in mV: VBD0 + TC × (T2 − 25 °C) + EXCESS; the division by 16 is exact in the target's own unit of
1/16 mV. -/
def biasTarget (s : State) : Int :=
  16 * vbdInUse s + s.otp.tc * ((s.th.spots.get {} 2).tj - 400) + 1600 * fld s.rx.cfg 23 16

/-- The target follows hotspot 2 while that reads sound. -/
def updateBias (s : State) : State :=
  if (s.th.spots.get {} 2).broken then { s with cal := { s.cal with biasAt := s.now } }
  else { s with cal := { s.cal with biasMv := biasTarget s, biasAt := s.now } }

end Sys2Proof.Machine
end

