-- ==== Sys2Proof/Machine/SpotOps.lean ====
section
/-! DEFINITION. The follow spot: the scene program and its setpoints, the compensator, hold and release, and the
follow-spot fault (R273 to R295). -/

namespace Sys2Proof.Machine

/-- Loop period of timebase tick `x` (R273). -/
def loopPeriodOf (x : Nat) : Nat := x / 20000

/-! ### Scenes (R284 to R287) -/

/-- Loop periods of a scene. -/
def FixedScene.len (f : FixedScene) : Nat := sceneLen f.prof

/-- The loop period after the scene. -/
def FixedScene.stop (f : FixedScene) : Nat := f.start + f.len

/-- Flyback periods of a sawtooth. -/
def flybackPeriods (p : SceneProfile) : Nat := ceilDiv p.flyback 5

/-- Loop periods of the sweep of a scene (Table 8.2, last column). -/
def FixedScene.sweep (f : FixedScene) : Nat := if f.prof.shape = 0 then f.len - flybackPeriods f.prof else f.len

/-- S for loop period `j` of the scene (Table 8.2). -/
def FixedScene.setpoint (f : FixedScene) (j : Nat) : Int :=
  let a0 : Int := f.prof.azStart
  let a1 : Int := f.prof.azEnd
  let l : Int := f.len
  match f.prof.shape with
  | 0 =>
    let fb : Int := flybackPeriods f.prof
    if (j : Int) < l - fb then a0 + Int.fdiv ((a1 - a0) * j) (l - fb - 1)
    else a1 + Int.fdiv ((a0 - a1) * (j - l + fb + 1)) fb
  | 1 => if f.reverse then a1 + Int.fdiv ((a0 - a1) * j) (l - 1) else a0 + Int.fdiv ((a1 - a0) * j) (l - 1)
  | _ =>
    let t := ceilDiv f.prof.stare 5
    let n := f.len / max 1 t
    let m := min (j / max 1 t) (n - 1)
    if n ≤ 1 then a0 else a0 + Int.fdiv ((a1 - a0) * m) (n - 1 : Nat)

/-- The scene of the program at step `i`, repeat `r`, from loop period `k`; `prev` is the scene before it. -/
def planScene (s : State) (i r k : Nat) (prev : Option FixedScene) : Option FixedScene :=
  s.img.active.bind (fun img => (img.scene.steps[i]?).bind (fun st => (img.scene.profiles[st.profile]?).map (fun p =>
    { start := k, prof := p, step := i, rep := r
      reverse := decide (p.shape = 1) && prev.any (fun x => decide (x.prof.shape = 1) && !x.reverse) })))

/-- The next scene of the program is fixed. -/
def fixOne (k : Nat) (prev : Option FixedScene) (s : State) : State :=
  match planScene s s.fs.planStep s.fs.planRep k prev with
  | none => s
  | some f =>
    let steps := (s.img.active.map (fun i => i.scene.steps)).getD []
    let reps := ((steps[s.fs.planStep]?).map SceneStep.reps).getD 1
    let last := decide (reps ≤ s.fs.planRep + 1)
    { s with fs := { s.fs with
        fixed := s.fs.fixed ++ [f]
        planRep := if last then 0 else s.fs.planRep + 1
        planStep := if last then (if s.fs.planStep + 1 < steps.length then s.fs.planStep + 1 else 0) else s.fs.planStep } }

/-- The last scene planned so far. -/
def lastPlanned (s : State) : Option FixedScene :=
  match s.fs.fixed.getLast? with
  | some f => some f
  | none => s.fs.cur

/-- R290: scenes whose start lies in a group that has entered the horizon are fixed. -/
def fixScenes (fuel : Nat) (s : State) : State :=
  match fuel with
  | 0 => s
  | fuel + 1 =>
    match lastPlanned s with
    | none => s
    | some f => if 5 * f.stop / 16 ≤ s.sm.entered then fixScenes fuel (fixOne f.stop (some f) s) else s

/-- Every scene that has been fixed and has not ended. -/
def knownScenes (s : State) : List FixedScene := s.fs.cur.toList ++ s.fs.fixed

/-! ### The compensator (R276 to R278) -/

/-- shr_round of R277. -/
def shrRound (x n : Int) : Int := if n ≤ 0 then x * 2 ^ (-n).toNat else Int.fdiv (x + 2 ^ (n - 1).toNat) (2 ^ n.toNat)

/-- Word `i` of coefficient set `n`. -/
def compWord (s : State) (n i : Nat) : W32 := s.fs.comp.get 0 (8 * n + i)

def compForm (s : State) (n : Nat) : Nat := fld (compWord s n 0) 17 16

/-- MB_i; FORM 1 takes MB3 as 0. -/
def mantB (s : State) (n i : Nat) : Int :=
  if i = 3 ∧ compForm s n ≠ 2 then 0 else signed 24 (compWord s n (1 + i)).toNat

/-- MA_i, i from 1 to 3; FORM 1 takes MA3 as 0. -/
def mantA (s : State) (n i : Nat) : Int :=
  if i = 3 ∧ compForm s n ≠ 2 then 0 else signed 24 (compWord s n (4 + i)).toNat

/-- The coefficient set in use (R280). -/
def setInUse (s : State) : Nat :=
  match s.fs.cur with
  | some f => if s.fs.sceneRun then f.prof.comp else s.fs.set
  | none => s.fs.set

/-- The history a loop takes when it leaves hold or a transfer (R278). -/
def freshHistory (s : State) : State :=
  { s with fs := { s.fs with eHist := [0, 0, 0], vHist := List.replicate 3 (((s.fs.out : Int) - 32768) * 256) } }

/-- The set has one of the two forms of R276. -/
def formDefined (s : State) (n : Nat) : Bool := compForm s n == 1 || compForm s n == 2

/-- v[k] before the drive limits. A set of FORM 0 or 3, which a scene may bring into use, computes nothing stated: v[k]
is a free value (notes/assumptions/23.md). -/
def compensate (s : State) (n : Nat) (e : Int) : Int :=
  if !formDefined s n then signed 32 (freeValue s) else
  let accB := sumInt ((List.range 4).map (fun i => mantB s n i * (e :: s.fs.eHist).getD i 0))
  let accA := sumInt ((List.range 3).map (fun i => mantA s n (i + 1) * s.fs.vHist.getD i 0))
  let eb : Int := fld (compWord s n 0) 5 0
  let ea : Int := fld (compWord s n 0) 13 8
  clampInt (-(2 ^ 31)) (2 ^ 31 - 1) (shrRound accB (38 - eb) - shrRound accA (46 - ea))

/-- One period of the compensator with setpoint `sp`. `missed` keeps the code that the converter outputs (R275). -/
def runLoop (sp : Int) (missed : Bool) (s : State) : State :=
  let e := sp - s.fs.pos
  let v := compensate s (setInUse s) e
  let d := 32768 + shrRound v 8
  let lo : Int := fld s.fs.drvLim 15 0
  let hi : Int := fld s.fs.drvLim 31 16
  let out := clampInt lo hi d
  let sat := decide (out ≠ d)
  let u := if formDefined s (setInUse s) then s else tookFree s
  { u with fs := { s.fs with
      eHist := (e :: s.fs.eHist).take 3
      vHist := ((if sat then (out - 32768) * 256 else v) :: s.fs.vHist).take 3
      sat := sat, cntSat := satAdd 32 s.fs.cntSat (bn sat)
      drv := out.toNat, out := if missed then s.fs.out else out.toNat } }

/-! ### Hold, release and stop (R279 to R284, R291) -/

/-- RUN, a released loop and Show (R284). -/
def sceneWanted (s : State) : Bool := s.fs.run && !s.fs.held && inShow s

/-- The program can start: the three conditions, and the scene of an earlier run is over. -/
def sceneReady (s : State) : Bool := sceneWanted s && !s.fs.sceneRun && !s.fs.stop

/-- Timebase µs of the first scene: a multiple of 80, at least 32 µs after tick `ready`, when the conditions first held. -/
def sceneStartUs (ready : Nat) : Nat := 80 * ceilDiv (ready + 32 * usTicks) (80 * usTicks)

/-- The program begins at step 0 with a first scene that starts at timebase µs `us`; the scenes inside the horizon are
fixed. -/
def planProgram (us : Nat) (s : State) : State :=
  fixScenes 5000 (fixOne (us / 5) none { s with fs := { s.fs with planStep := 0, planRep := 0, fixed := [], cur := none } })

/-- `readyAt` follows the three conditions while no program runs, also through the end of a stopped scene, and with it the
scenes that are fixed before the program starts. -/
def trackReady (s : State) : State :=
  if sceneWanted s then
    if s.fs.sceneRun && !s.fs.stop then s
    else
      let r := s.fs.readyAt.getD (tbTick s)
      let u := { s with fs := { s.fs with readyAt := some r } }
      if sceneReady s && s.fs.fixed.isEmpty then planProgram (sceneStartUs r) u else u
  else { s with fs := { s.fs with readyAt := none, fixed := if s.fs.sceneRun then s.fs.fixed else [] } }

/-- R291: the scene in progress ends at the next loop boundary. -/
def stopScene (s : State) : State := trackReady { s with fs := { s.fs with stop := s.fs.sceneRun } }

/-- The stop takes effect at a loop boundary; it is no scene change. With no scene running, what waits applies (R465). -/
def endScene (s : State) : State :=
  if s.fs.stop then
    applyAll <| trackReady { s with fs := { s.fs with stop := false, sceneRun := false, cur := none, fixed := [] } }
  else s

/-- R281: the loop leaves hold at a loop boundary. -/
def releaseLoop (s : State) : State :=
  if s.fs.release && s.fs.fault == 0 && (inShow s || inStandby s) then
    trackReady (freshHistory { s with fs := { s.fs with release := false, held := false, parkNext := false } })
  else { s with fs := { s.fs with release := false } }

/-- R282: a scan cue is Booked or Running. -/
def scanActive (s : State) : Bool := s.sm.cues.any (fun p => p.2.cue.kind == 0 && p.2.admitted)

/-- A field of the active block has an azimuth band other than the whole one (R320). -/
def gatedField (s : State) : Bool :=
  (safetyBlock s).any (fun b => b.fields.any (fun f => f.azLo != 0 || f.azHi != 65535))

/-- R294: a follow-spot fault with its cause. -/
def fsFault (cause : Nat) (s : State) : State :=
  let u := stopScene { s with fs := { s.fs with
    fault := cause, hold := true, held := true, release := false, parkNext := true, cntFe := inc32 s.fs.cntFe } }
  let v := noteWorst (setEvent evFollowSpot u)
  let w := endCues (fun e => e.cue.kind == 0) 2 0x13 0 v
  if gatedField w then latchCause 0x0F w else w

/-- R293: the following-error timer and the over-range run after a period with error `e`; `ran` says whether the loop
ran or transferred. -/
def superviseLoop (ran : Bool) (e : Int) (s : State) : State :=
  let beyond := decide ((fld s.fs.feCfg 15 0 : Int) < e.natAbs)
  let timer := if ran then (if beyond then s.fs.feTimer + 1 else 0) else s.fs.feTimer
  let edge := decide (s.fs.pos = 0) || decide (s.fs.pos = 65535)
  let run := if edge then s.fs.rangeRun + 1 else 0
  let u := { s with fs := { s.fs with feTimer := timer, rangeRun := run, feOver := if ran then beyond else false } }
  if u.fs.fault ≠ 0 then u
  else if ran && decide (fld s.fs.feCfg 31 16 ≤ timer) then fsFault 1 u
  else if 2 ≤ run then fsFault 2 u
  else u

/-! ### Azimuth codes (R292) -/

/-- The azimuth code of a shot that starts at timebase tick `x`. -/
def azimuthAt (s : State) (x : Nat) : Nat :=
  let tau : Int := (x : Int) - 20000 * ((s.fs.k : Int) - 1)
  (clampInt 0 65535 ((s.fs.pos : Int) + Int.fdiv (((s.fs.pos : Int) - s.fs.posPrev) * tau) 20000)).toNat

end Sys2Proof.Machine
end

