-- ==== Sys2Proof/Machine/RejOps.lean ====
section
/-! DEFINITION. Rejection: the ambient estimator, second-trip stops, candidate selection with the near-field screen, and
the foreign-train analyser (R162, R195 to R211). -/

namespace Sys2Proof.Machine

def rejParams (s : State) : Option RejParams := s.img.active.map Image.rej

/-- 2^32 as a rational. -/
def two32 : Rat := 4294967296

/-- A rate as an unsigned 0.32 fraction, rounded half up; above 1 − 2^−32 it is 0xFFFF_FFFF (R198). -/
def rateOf (r : Rat) : Nat := min 0xFFFFFFFF (roundHalfUp (r * two32)).toNat

/-! ### The ambient estimator (R195 to R197) -/

/-- Act-one bins of a profile (R160). -/
def binCount (p : ActProfile) : Nat := min 1024 (ceilDiv p.gateLen 8)

/-- The act-one bin of a stop. -/
def binOf (p : ActProfile) (stop : Nat) : Nat := (stop - p.gateStart) / 8

/-- rp of R195: `pre` pre-show coincidences over `n` listening shots. -/
def preshowRate (p : ActProfile) (pre n : Nat) : Option Rat :=
  if p.preshowOfs ≠ 0 ∧ 0 < n then some ((pre : Rat) / (n * p.preshowLen)) else none

/-- r1 from rp and rh. -/
def mixRates (w : Nat) (rp rh : Option Rat) (prev : Nat) : Nat :=
  match rp, rh with
  | none, none => prev
  | some a, none => rateOf a
  | none, some b => rateOf b
  | some a, some b => rateOf ((w : Rat) / 65536 * a + (1 - (w : Rat) / 65536) * b)

/-- a1p or a1: 2,048 × n1 × rate, rounded half up. -/
def ambientBin (n rate : Nat) : Int := roundHalfUp (2048 * (n : Rat) * ((rate : Rat) / two32))

/-- The bins excluded from rh: those that reach CAND_THR, with their neighbours. -/
def exclBins (p : ActProfile) (h1 : Tab Nat) (a1p : Int) : List Nat :=
  let nb := binCount p
  let hot := (List.range nb).filter (fun a => decide ((p.candThr : Int) ≤ 256 * (h1.get 0 a : Int) - a1p))
  (List.range nb).filter (fun a => hot.any (fun b => decide (a ≤ b + 1) && decide (b ≤ a + 1)))

/-- R204: the second-trip stops among `stops` (STOP, start, u): the largest set whose u lie within 8 ticks. -/
def secondTrip (p : ActProfile) (excl : List Nat) (least : Nat) (stops : List (Nat × Nat × Nat)) : List (Nat × Nat × Nat) :=
  let pool := stops.filter (fun x => x.2.2 != 0xFFFF && decide (binOf p x.1 < binCount p) && !excl.contains (binOf p x.1))
  let us := sortBy (fun a b => decide (a ≤ b)) (pool.map (fun x => x.2.2))
  let span := fun (u : Nat) => pool.filter (fun x => decide (u ≤ x.2.2) && decide (x.2.2 < u + 8))
  let best := us.foldl (fun m u => if m.length < (span u).length then span u else m) []
  if best.length < max 1 least then [] else best

/-- rh of R195. -/
def binRate (p : ActProfile) (excl : List Nat) (n1 wrefs : Nat) (h1 : Tab Nat) (second : List (Nat × Nat × Nat)) : Option Rat :=
  let step := (List.range (binCount p)).foldl
    (fun (a : Int × Int × Int) b =>
      -- listening shots left, sum of hs, sum of 8 x
      let h : Int := h1.get 0 b
      if excl.contains b then (a.1 - h, a.2.1, a.2.2)
      else (a.1 - h, a.2.1 + h - ((second.filter (fun x => binOf p x.1 == b)).length : Nat), a.2.2 + 8 * a.1))
    ((n1 : Int) - wrefs, 0, 0)
  if step.2.2 = 0 then none else some ((step.2.1 : Rat) / step.2.2)

/-! ### Candidate selection (R162, R199 to R201) -/

/-- A cluster: its first bin and its e values; `suspect` says that the screen found it inconsistent. -/
structure Cluster where
  first   : Nat
  es      : List Int
  suspect : Bool := false
  deriving DecidableEq, Repr

/-- Runs of adjacent bins with e at or above the threshold. -/
def clustersOf (thr : Int) (a : Nat) (e : List Int) (cur : Option Cluster) : List Cluster :=
  match e with
  | [] => cur.toList
  | v :: r =>
    if thr ≤ v then
      clustersOf thr (a + 1) r (some (match cur with
        | none => { first := a, es := [v] }
        | some c => { c with es := c.es ++ [v] }))
    else cur.toList ++ clustersOf thr (a + 1) r none

/-- Peak bin of a cluster: the largest e, the lowest bin on a tie. -/
def Cluster.peak (c : Cluster) : Nat := c.first + argmax c.es

def Cluster.sum (c : Cluster) : Int := sumInt c.es

/-- R199: the cluster lies below the near limit. -/
def Cluster.near (c : Cluster) (p : ActProfile) (r : RejParams) : Bool := decide (p.gateStart + 8 * c.peak < r.nfRange)

/-- R199: the cluster is inconsistent with the history, newest first. -/
def Cluster.inconsistent (c : Cluster) (r : RejParams) (wide : Nat) (history : List (List Nat)) : Bool :=
  let need := r.nfDepth - 1
  decide (history.length < need)
    || (history.take need).any (fun h => !h.any (fun q => decide (q ≤ c.peak + r.nfTol) && decide (c.peak ≤ q + r.nfTol)))
    || (wide != 0 && decide (wide < c.es.length))

/-- W0 of the window that a cluster gives. -/
def windowStart (p : ActProfile) (e : List Int) (peak : Nat) : Nat :=
  let uniq := (if peak = 0 then [0, 1] else [peak - 1, peak, peak + 1]).filter (fun a => decide (a < e.length))
  let num := sumInt (uniq.map (fun (a : Nat) => (a : Int) * max 0 (e.getD a 0)))
  let den := sumInt (uniq.map (fun (a : Nat) => max 0 (e.getD a 0)))
  let w := if den = 0 then p.gateStart + 8 * peak else p.gateStart + (Int.fdiv (8 * num) den).toNat
  min w (min (p.gateStart + max p.gateLen 8 - 8) 16376)

/-- Clusters in order until MAX_CAND windows are chosen; a window that shares a tick with an earlier one is skipped. -/
def chooseWindows (p : ActProfile) (e : List Int) (chosen : List (Nat × Cluster)) : List Cluster → List (Nat × Cluster)
  | [] => chosen
  | c :: r =>
    if p.maxCand ≤ chosen.length then chosen
    else
      let w := windowStart p e c.peak
      if chosen.any (fun x => decide (x.1 < w + 8) && decide (w < x.1 + 8)) then chooseWindows p e chosen r
      else chooseWindows p e (chosen ++ [(w, c)]) r

/-! ### The foreign-train analyser (R205 to R208) -/

/-- Ticks of an analyser gate. -/
def gateTicks (r : RejParams) : Nat := r.ftaGate * 1000000

/-- The gate `g` of the present FTA_GATE, without a stamp. -/
def emptyGate (r : RejParams) (g : Nat) : Gate := { start := g * gateTicks r, stop := (g + 1) * gateTicks r }

/-- The gate that takes a stamp of tick `time`: one that is held, or a gate that is not yet closed. -/
def gateFor (r : RejParams) (time : Nat) (x : Rej) : Option Gate :=
  match x.gates.find? (fun g => decide (g.start ≤ time) && decide (time < g.stop)) with
  | some g => some g
  | none =>
    let g := time / max 1 (gateTicks r)
    if g < x.nextGate then none else some (emptyGate r g)

/-- The held gates with `g` among them, by their ends. -/
def holdGate (g : Gate) (l : List Gate) : List Gate :=
  sortBy (fun a b => decide (a.stop ≤ b.stop)) (g :: l.filter (fun x => x.start != g.start || x.stop != g.stop))

/-- A stamp enters its gate, or is lost (R206). -/
def stampStop (time c : Nat) (s : State) : State :=
  match rejParams s with
  | none => s
  | some r =>
    match gateFor r time s.rej with
    | none => { s with rej := { s.rej with cntLost := inc32 s.rej.cntLost } }
    | some g =>
      if 4096 ≤ g.stamps.length then { s with rej := { s.rej with cntLost := inc32 s.rej.cntLost } }
      else
        { s with rej := { s.rej with
            gates := holdGate { g with stamps := g.stamps ++ [(time, c)] } s.rej.gates, cntStamps := inc32 s.rej.cntStamps } }

/-- The gates that have begun by tick `x` and are not closed, all of them held. -/
def openGates (r : RejParams) (x : Nat) (s : State) : List Gate :=
  let begun := x / max 1 (gateTicks r) + 1
  ((List.range (begun - s.rej.nextGate)).foldl (fun l i =>
    let g := emptyGate r (s.rej.nextGate + i)
    if l.any (fun h => h.start == g.start && h.stop == g.stop) then l else holdGate g l) s.rej.gates)

/-- A step of the timebase from tick `x` to tick `y`: the gates that had begun close in their turn, and the gate of `y`
follows them; a gate that the step passes over held no time and is not fitted (notes/assumptions/47.md). -/
def stepGates (x y : Nat) (s : State) : State :=
  match rejParams s with
  | none => s
  | some r => { s with rej := { s.rej with gates := openGates r x s, nextGate := y / max 1 (gateTicks r) } }

/-- The `n` lowest-numbered trains in use (R211). -/
def keepTrains (n : Nat) (ts : Tab Train) : Tab Train :=
  let used := ((List.range 8).filter (fun i => (ts.get {} i).state != 0)).take n
  ts.mapVals (fun i t => if used.contains i then t else {})

/-- k of the arrival nearest to `t`, rounded half up. -/
def arrivalIndex (t phase per : Rat) : Int := if per = 0 then 0 else roundHalfUp ((t - phase) / per)

/-- `t` lies within ±4 ticks of an arrival. -/
def nearArrival (t phase per : Rat) : Bool :=
  let d := t - (phase + per * arrivalIndex t phase per)
  decide (-4 ≤ d) && decide (d ≤ 4)

def ratSum (l : List Rat) : Rat := l.foldl (· + ·) 0

/-- fit of R207 over stamps `m` (time, channel): an accepted train, or none. -/
def fitTrain (r : RejParams) (phase per : Rat) (m : List (Nat × Nat)) : Option Train :=
  let n : Rat := m.length
  if m.length < r.ftaMin ∨ m.length < 3 then none
  else
    let ks := m.map (fun x => ((arrivalIndex x.1 phase per : Int) : Rat))
    let ts := m.map (fun x => ((x.1 : Nat) : Rat))
    let kb := ratSum ks / n
    let tb := ratSum ts / n
    let kk := ratSum (ks.map (fun k => (k - kb) * (k - kb)))
    if kk = 0 then none
    else
      let p := ratSum ((ks.zip ts).map (fun x => (x.1 - kb) * (x.2 - tb))) / kk
      let ph := tb - p * kb
      let rr := ratSum ((ks.zip ts).map (fun x => (x.2 - ph - p * x.1) * (x.2 - ph - p * x.1))) / (n - 2)
      if 65536 * rr ≤ (r.ftaResid * r.ftaResid : Nat) ∧ 256 ≤ p ∧ p ≤ 1048576 then
        some { state := 1, period := p, phase := ph, stamps := m.length
               resid := min 1023 (isqrt (65536 * rr).floor.toNat), fails := 0
               mask := sortBy (fun a b => decide (a ≤ b)) (firsts [] (m.map Prod.snd)) }
      else none

/-- The trains in use are fitted, ascending; their members leave the pool. -/
def fitKnown (r : RejParams) (n : Nat) (ts : Tab Train) (pool : List (Nat × Nat)) : Tab Train × List (Nat × Nat) :=
  match n with
  | 0 => (ts, pool)
  | n + 1 =>
    let i := 7 - n
    let t := ts.get {} i
    if t.state = 0 then fitKnown r n ts pool
    else
      let m := pool.filter (fun x => nearArrival x.1 t.phase t.period)
      let rest := pool.filter (fun x => !nearArrival x.1 t.phase t.period)
      let t2 : Train := match fitTrain r t.phase t.period m with
        | some u => u
        | none => if t.fails = 0 then { t with state := 2, fails := 1 } else {}
      fitKnown r n (ts.set i t2) rest

/-- Differences of consecutive stamps between 256 and 1,048,576 ticks, each with its earlier stamp. -/
def stampGaps (pool : List (Nat × Nat)) : List (Nat × Nat) :=
  ((pool.zip pool.tail).map (fun x => (x.1.1, x.2.1 - x.1.1))).filter (fun x => decide (256 ≤ x.2) && decide (x.2 ≤ 1048576))

/-- New trains are searched in the pool. -/
def fitNew (r : RejParams) (fuel : Nat) (ts : Tab Train) (pool : List (Nat × Nat)) : Tab Train :=
  match fuel with
  | 0 => ts
  | fuel + 1 =>
    let used := (List.range 8).filter (fun i => (ts.get {} i).state != 0)
    match (List.range 8).find? (fun i => (ts.get {} i).state == 0) with
    | none => ts
    | some free =>
      if r.ftaTrains ≤ used.length then ts
      else
        let gaps := stampGaps pool
        match modeOf (gaps.map (fun x => x.2 / 256)) with
        | none => ts
        | some pk =>
          if 2 * (gaps.filter (fun x => x.2 / 256 == pk)).length < r.ftaMin then ts
          else
            let sel := gaps.filter (fun x => decide (pk ≤ x.2 / 256 + 1) && decide (x.2 / 256 ≤ pk + 1))
            let p0 : Rat := ratSum (sel.map (fun x => ((x.2 : Nat) : Rat))) / sel.length
            let ph0 : Rat := ((sel.map Prod.fst).headD 0 : Nat)
            let m := pool.filter (fun x => nearArrival x.1 ph0 p0)
            match fitTrain r ph0 p0 m with
            | none => ts
            | some t => fitNew r fuel (ts.set free t) (pool.filter (fun x => !nearArrival x.1 ph0 p0))

/-- The first arrival at or after `x`. -/
def Train.nextAt (t : Train) (x : Nat) : Rat :=
  if t.period = 0 then t.phase else t.phase + t.period * (((x : Rat) - t.phase) / t.period).ceil

/-- R207: the trains after the fits of a gate that ends at tick `stop`; REJ_FT_PHASE counts from its end (R219). -/
def fitGate (r : RejParams) (ts : Tab Train) (stop : Nat) (stamps : List (Nat × Nat)) : Tab Train :=
  let sorted := sortBy (fun a b => decide (a.1 ≤ b.1)) stamps
  let known := fitKnown r 8 ts sorted
  (fitNew r 8 known.1 known.2).mapVals (fun _ t => { t with phase := t.nextAt stop })

/-! ### Blanking (R209) -/

/-- Intervals are joined. -/
def joinIntervals : List (Int × Int) → List (Int × Int)
  | [] => []
  | a :: r =>
    match joinIntervals r with
    | [] => [a]
    | b :: t => if b.1 ≤ a.2 + 1 then (a.1, max a.2 b.2) :: t else a :: b :: t

/-- The blanked counter values of an act-two shot of channel `c` that starts at timebase tick `x`, those of its pre-show
window among them. -/
def blanksFor (s : State) (c x : Nat) : List (Int × Int) :=
  match rejParams s with
  | none => []
  | some r =>
    if r.ftaBlank = 0 then []
    else
      let all := s.rej.trains.flatMap (fun p =>
        let t := p.2
        if t.state = 0 || !t.mask.contains c || t.period = 0 then []
        else
          let a0 := t.nextAt (x - 256 - r.ftaBlank - 1)
          (List.range 72).filterMap (fun k =>
            let v : Int := (a0 + t.period * (k : Rat) - x).floor
            if v + r.ftaBlank < -256 ∨ 16383 < v - r.ftaBlank then none
            else some (v - r.ftaBlank, v + r.ftaBlank)))
      joinIntervals (sortBy (fun a b => decide (a.1 ≤ b.1)) all)

end Sys2Proof.Machine
end

