-- ==== Sys2Proof/Machine/PointOps.lean ====
section
/-! DEFINITION. Points: accumulation in both acts, forming with and without a filter engine, the point and histogram
records, their commit, and what a committed point tells the trigger engine and the main evaluator (R154 to R189). -/

namespace Sys2Proof.Machine

/-! ### Points in progress -/

/-- Act-two shots of a point. -/
def Point.shots2 (p : Point) : Nat := 32 * p.prof.phaseReps

/-- The point of cue `h` whose acts run on channel `c`. -/
def curPoint (s : State) (c h : Nat) : Option Point := (getHist s c).cur.find? (fun p => p.handle == h)

def setPoint (c : Nat) (p : Point) (s : State) : State :=
  let v := getHist s c
  setHist c { v with cur := v.cur.map (fun q => if q.handle = p.handle then p else q) } s

def dropPoint (c h : Nat) (s : State) : State :=
  let v := getHist s c
  setHist c { v with cur := v.cur.filter (fun q => q.handle != h) } s

/-- Shots of act `act` that the calendar holds for the point of place `p`, the one that begins now among them. -/
def bookedShots (s : State) (p : Place) (act : Nat) : Nat :=
  let mine := fun (q : Place) => q.handle == p.handle && q.batten == p.batten && q.occ == p.occ && q.point == p.point
    && q.reserve == p.reserve && q.act == act
  bn (act == 1) + (s.bat.due.filter (fun q => mine q.1)).length + (s.sm.slots.map (fun q => (q.2.filter mine).length)).sum

/-- A profile with the numbers of shots that the calendar holds for the point: shots booked before a patch changed SHOTS1 or
PHASE_REPS are those that fire (DESIGN CHOICE, notes/assumptions/27.md). -/
def ActProfile.asBooked (f : ActProfile) (s : State) (p : Place) : ActProfile :=
  { f with shots1 := bookedShots s p 1, phaseReps := bookedShots s p 2 / 32 }

/-- A point begins on channel `c` for a cue: what R155 lists is captured now. -/
def newPoint (s : State) (c : Nat) (e : CueEntry) (pl : Place) : Option Point :=
  s.img.active.bind (fun i => (i.profiles[e.cue.profile]?).map (fun f => f.asBooked s pl) |>.map (fun prof =>
    { handle := pl.handle, profileIdx := e.cue.profile, prof := prof
      fset := (i.fsets.find? (fun f => f.setId == prof.fset)).getD { setId := prof.fset, coefs := [] }
      sets := (List.range 8).map (fun n => (((s.hist.engines.get {} n).sets.find? (fun f => f.setId == prof.fset)).getD
        { setId := prof.fset, coefs := [] }))
      taps := tapsInUse s, edelay := emissionDelay s ((battenOf s c).getD 0), skew := skewOf s c
      ptCfg := s.hist.ptUse, escCfg := s.hist.escUse, rejCfg := s.rej.cfgUse
      batten := (battenOf s c).getD 0, safetyCls := decide (e.cue.cls = 0), occ := pl.occ, rerun := pl.reserve }))

/-- A point begins; a rerun takes its one place in the wait, and HIST_CNT_RERUN counts it (R184, R193). -/
def beginPoint (c : Nat) (e : CueEntry) (pl : Place) (s : State) : State :=
  match newPoint s c e pl with
  | none => s
  | some p =>
    let v := getHist s c
    let u := { s with hist := { s.hist with cntRerun := satAdd 32 s.hist.cntRerun (bn pl.reserve) } }
    setHist c { v with
      cur := v.cur.filter (fun q => q.handle != pl.handle) ++ [p]
      rerunNext := if pl.reserve then removeFirst (pl.handle, pl.occ) v.rerunNext else v.rerunNext } u

/-! ### Trigger units that watch points (R256, R257, R260) -/

def trigA (s : State) (n : Nat) : W32 := s.sm.trigCfg.get 0 (2 * n)
def trigB (s : State) (n : Nat) : W32 := s.sm.trigCfg.get 0 (2 * n + 1)
def trigEnabled (s : State) (n : Nat) : Bool := flag (trigA s n) 31
def trigSrc (s : State) (n : Nat) : Nat := fld (trigA s n) 30 28
def trigId (s : State) (n : Nat) : Nat := fld (trigA s n) 23 16
def trigNode (s : State) (n : Nat) : Nat := fld (trigA s n) 15 0
def trigFreeze (s : State) (n : Nat) : Bool := flag (trigB s n) 2

def patternOf (s : State) (n : Nat) : Option Pattern :=
  s.img.active.bind (fun i => i.triggers.patterns.find? (fun p => p.patId == trigId s n))
def maskRecOf (s : State) (n : Nat) : Option MaskRec :=
  s.img.active.bind (fun i => i.triggers.masks.find? (fun m => m.maskId == trigId s n))

/-- The members of unit `n` (R256, R257): the nodes of its pattern's expansion, the first LEN of its mask's, or for a
histogram mask its one channel. -/
def trigNodes (s : State) (n : Nat) : List (Option NodeRec) :=
  let nodes := fun (node : Nat) => ((s.img.active.map (fun i => expand i node)).getD []).map (nodeRec s)
  if !trigEnabled s n then []
  else match trigSrc s n with
    | 0 => ((patternOf s n).map (fun p => nodes p.node)).getD []
    | 1 => match maskRecOf s n with
      | none => []
      | some m => if m.type = 0 then (nodes (trigNode s n)).take m.lo.length
        else [some { kind := 1, index := trigNode s n, first := 0 }]
    | _ => []

/-- The member is ranging channel `c`. -/
def isChannel (c : Nat) (r : Option NodeRec) : Bool := r.any (fun x => x.kind == 1 && x.index == c)

/-- Some unit samples points of channel `c`. -/
def watched (s : State) (c : Nat) : Bool := (List.range 64).any (fun n => (trigNodes s n).any (isChannel c))

/-- The histogram engines keep shot words of channel `c` (R260). -/
def keepsWords (s : State) (c : Nat) : Bool :=
  (List.range 64).any (fun n => trigEnabled s n && trigFreeze s n && (trigNodes s n).any (isChannel c))

/-- Unit `n` sees a point of channel `c`; a histogram mask samples every one (`all`), others the latest of a member. -/
def trigSee (all : Bool) (n c : Nat) (x : SeenPoint) (s : State) : State :=
  match (trigNodes s n).findIdx? (isChannel c) with
  | none => s
  | some i =>
    { s with sm := { s.sm with trig := s.sm.trig.upd {} n (fun u =>
        { u with seen := u.seen.filter (fun y => all || y.pos != i) ++ [{ x with pos := i }] }) } }

/-- Units of sources 0 and 1 TYPE 0 see committed points; TYPE 1 masks see every point formed. -/
def trigNote (committed : Bool) (c : Nat) (x : SeenPoint) (s : State) : State :=
  (List.range 64).foldl (fun u n =>
    let histMask := trigSrc u n == 1 && (maskRecOf u n).any (fun m => m.type == 1)
    if committed != histMask then trigSee histMask n c x u else u) s

/-! ### Histogram record (R169 to R171, R189) -/

/-- The point forms coarse-only: a coarse mark on an act-two shot that counts for it (R122, R172). -/
def Point.coarseOnly (p : Point) : Bool := p.coarse && !p.overrun && !p.noCand

/-- STATE byte of a frame header at forming. -/
def Point.stateByte (p : Point) : Nat :=
  p.state % 4 + 4 * (p.bank.getD 0) + 8 * bn p.coarseOnly + 16 * bn p.rerun

/-- n_w: act-two shots that could still stop in window `w` (R167). -/
def Point.exposed (p : Point) (w : Nat) : Nat :=
  p.shots2 - p.void2 - ((p.windows.take w).map (fun x => x.c1 + x.c2)).sum

/-- The 64-byte frame header (Table 5.4). -/
def frameHeader (c : Nat) (p : Point) : List Byte :=
  let wins := (List.range 4).flatMap (fun w =>
    match p.windows[w]? with
    | some x => leBytes 2 x.w0 ++ leBytes 2 (p.exposed w) ++ leBytes 2 x.c1 ++ leBytes 2 x.c2
    | none => leBytes 8 0)
  leBytes 2 c ++ leBytes 1 p.profileIdx ++ leBytes 1 p.stateByte ++ leBytes 1 p.windows.length ++ leBytes 1 p.prof.fset
    ++ leBytes 2 p.far ++ leBytes 2 p.shotsDone ++ leBytes 2 p.noret ++ leBytes 1 p.cut ++ leBytes 1 p.void
    ++ leBytes 2 p.wref ++ leBytes 4 p.preshow ++ leBytes 4 p.ambRate ++ leBytes 2 p.amb2 ++ leBytes 6 0 ++ wins

/-- The act-one region: two 12-bit bins in three bytes (R170). -/
def actOneRegion (p : Point) : List Byte :=
  (List.range 512).flatMap (fun j => leBytes 3 (p.h1.get 0 (2 * j) + 4096 * p.h1.get 0 (2 * j + 1)))

/-- A window of 256 fine bins (R171). -/
def windowBytes (x : Window) : List Byte := (List.range 256).flatMap (fun b => leBytes 2 (x.bins.get 0 b))

/-! ### The histogram store (R168, R215) -/

/-- Store offset of channel `c`'s frame, and of its act-two bank 1 (Table 5.2). -/
def frameAt (c : Nat) : Nat := 0x1000 * c
def bankOneAt (c : Nat) : Nat := 0x600000 + 0x800 * c

/-- An estimate as an unsigned 0.32 fraction; 0 when undefined. -/
def fraction32 (r : Option Rat) : Nat := (r.map rateOf).getD 0

/-- The 448 bytes of rejection state at frame offset 0xE40 (Table 6.2). The newest of the seven history entries is the one
written last, and entries are written in turn from 0. -/
def rejectionState (v : HistChan) (p : Option Point) : List Byte :=
  let n := v.nfHist.length
  let head := (v.nfCount + 6) % 7
  let entry := fun (j : Nat) => v.nfHist[(head + 7 - j) % 7]?
  let peaks := fun (l : List Nat) => (List.range 4).flatMap (fun k => leBytes 2 (l.getD k 0xFFFF))
  leBytes 4 (fraction32 (p.bind Point.rPre)) ++ leBytes 4 (fraction32 (p.bind Point.rBins)) ++ leBytes 4 v.rPrev
    ++ leBytes 1 n ++ leBytes 1 head ++ leBytes 1 v.nfProfile ++ leBytes 1 (min 255 ((p.map Point.stCnt).getD 0))
    ++ (List.range 7).flatMap (fun j => peaks ((entry j).getD []))
    ++ leBytes 128 (((p.map Point.excl).getD []).foldl (fun a b => if a / 2 ^ b % 2 = 0 then a + 2 ^ b else a) 0)
    ++ (List.range 64).flatMap (fun i => leBytes 2 ((p.map (fun q => q.u.get 0xFFFF i)).getD 0xFFFF))
    ++ leBytes 1 (min 255 ((p.map Point.veto).getD 0)) ++ leBytes 1 ((p.map Point.blanked).getD 0) ++ leBytes 118 0

/-- The point whose frame a channel holds: one whose acts run, or the last that ended them. -/
def framePoint (s : State) (c : Nat) : Option Point :=
  match (getHist s c).cur.getLast? with
  | some p => some p
  | none => (getHist s c).ended

/-- The windows of an act-two bank, 512 bytes each. -/
def bankBytes (s : State) (c n : Nat) : List Byte :=
  let p := ((getHist s c).all ++ (getHist s c).ended.toList).find? (fun q => q.bank == some n)
  (List.range 4).flatMap (fun w => ((p.bind (fun q => q.windows[w]?)).map windowBytes).getD (leBytes 512 0))

/-- A channel frame of 4 KiB (Table 5.3). -/
def frameBytes (s : State) (c : Nat) : List Byte :=
  let p := framePoint s c
  ((p.map (frameHeader c)).getD (leBytes 64 c)) ++ (p.map actOneRegion).getD (leBytes 1536 0) ++ bankBytes s c 0
    ++ rejectionState (getHist s c) p

/-- Entry `k` of the reference-channel accumulation, 576 bytes at 0x90_0000 + 0x240 × k (Tables 5.2 and 13.2). -/
def entryAt (k : Nat) : Nat := 0x900000 + 0x240 * k

def entryBytes (s : State) (k : Nat) : List Byte :=
  let e := s.cal.entries.get {} k
  leBytes 2 e.w0 ++ leBytes 2 e.shots ++ leBytes 2 e.fill ++ leBytes 2 e.state ++ leBytes 4 (unsigned 32 e.arrival)
    ++ leBytes 52 0 ++ (List.range 256).flatMap (fun b => leBytes 2 (e.bins.get 0 b))

/-- The code-density counts n_0 to n_31, at 0x9F_0000 (R455). -/
def densityAt : Nat := 0x9F0000

def densityBytes (s : State) : List Byte := (List.range 32).flatMap (fun i => leBytes 4 (s.cal.tapCounts.getD i 0))

/-! ### The filter (R173 to R181) -/

/-- A2 of R173: 256 × PHASE_REPS × r, rounded half up. -/
def actTwoAmbient (p : Point) : Nat :=
  (roundHalfUp (256 * (p.prof.phaseReps : Rat) * ((p.ambRate : Rat) / two32))).toNat

/-- Reference tap D. -/
def refTap (t : Nat) : Nat := (t - 1) / 2

/-- Exact product sum of a set with the samples from its first tap on. -/
def dotTaps (cs xs : List Int) : Int :=
  match cs, xs with
  | c :: cr, x :: xr => c * x + dotTaps cr xr
  | _, _ => 0

/-- The outputs from each position of the padded samples on. -/
def slide (cs : List Int) (n : Nat) (xs : List Int) : List Int :=
  match n with
  | 0 => []
  | n + 1 => clampInt (-(2 ^ 31)) (2 ^ 31 - 1) (Int.fdiv (dotTaps cs xs) (2 ^ 18)) :: slide cs n xs.tail

/-- y of a window (R173). -/
def filterWindow (cs : List Int) (a2 : Nat) (x : Window) : List Int :=
  let xs := (List.range 256).map (fun b => 256 * (x.bins.get 0 b : Int) - a2)
  slide cs 256 (List.replicate (refTap cs.length) 0 ++ xs)

/-- What a window yields. -/
structure Formed where
  tf      : Option Int
  amp     : Nat
  quality : Nat
  width   : Nat
  flags   : Nat
  peak    : Nat
  ys      : List Int
  deriving DecidableEq, Repr

def quality8 (s b : Int) : Nat := if s = 0 then 0 else min 255 ((8 * s).toNat / isqrt (256 * (s + b)).toNat)

def amplitude16 (s : Int) (n : Nat) : Nat := min 65535 ((65536 * s).toNat / (256 * n))

/-- A window through a filter engine (R178 to R180). -/
def formWindow (p : Point) (w : Nat) (x : Window) : Formed :=
  let cs := p.fset.coefs
  let y := filterWindow cs p.amb2 x
  let n := argmax y
  let h := fld p.ptCfg 6 0
  let lo := n - h
  let hi := min 255 (n + h)
  let span := (List.range (hi + 1 - lo)).map (· + lo)
  let yp := fun (b : Nat) => max 0 (y.getD b 0)
  let den := sumInt (span.map yp)
  let num := sumInt (span.map (fun b => binPos p.taps x.w0 b * yp b))
  let sm := sumInt (span.map (fun b => max 0 (256 * (x.bins.get 0 b : Int) - p.amb2)))
  let bg : Int := span.length * p.amb2
  let d := refTap cs.length
  let loose := decide (n < d) || decide (255 < n + (cs.length - 1 - d))
  { tf := if den = 0 then none else some (divRound num den.toNat)
    amp := amplitude16 sm (p.exposed w), quality := quality8 sm bg
    width := (span.filter (fun b => decide (y.getD n 0 ≤ 2 * y.getD b 0))).length
    flags := 2 * bn loose + 8 * bn (decide (n < h) || decide (255 < n + h)), peak := n, ys := y }

/-- A window of a coarse-only point (R182). -/
def formCoarse (p : Point) (w : Nat) (x : Window) : Formed :=
  let tk := fun (k : Nat) => ((List.range 32).map (fun j => x.bins.get 0 (32 * k + j))).sum
  let sk := (List.range 8).map (fun k => max 0 (256 * (tk k : Int) - 32 * p.amb2))
  let den := sumInt sk
  let num := sumInt ((List.range 8).map (fun k => (1024 * ((x.w0 + k : Nat) : Int) + 512) * sk.getD k 0))
  let top := sk.foldl max 0
  { tf := if den = 0 then none else some (divRound num den.toNat)
    amp := amplitude16 den (p.exposed w), quality := quality8 den (256 * p.amb2)
    width := (sk.filter (fun v => decide (top ≤ 2 * v))).length, flags := 1, peak := 0, ys := [] }

/-- R183: the window has escaped. -/
def escaped (p : Point) (x : Window) (f : Formed) : Bool :=
  let n := x.c1 + x.c2
  let diff := ((x.c1 : Int) - x.c2).natAbs
  (decide (fld p.escCfg 7 0 ≤ n) && decide (fld p.escCfg 11 8 * n < 16 * diff))
    || (!p.coarseOnly && f.tf.any (fun t => decide (t < 1024 * (x.w0 : Int) + 32) || decide (1024 * (x.w0 : Int) + 7168 < t)))

/-- A return entry (Table 5.7) with its TOF and AMPLITUDE; none when the window yields none. -/
def returnOf (p : Point) (x : Window) (f : Formed) : Option (Nat × Nat × List Byte) :=
  match f.tf with
  | none => none
  | some t =>
    if f.quality < fld p.ptCfg 31 24 || escaped p x f then none
    else
      let raw := t - p.edelay - p.skew
      let tof := (clampInt 0 0xFFFFFF raw).toNat
      let flags := f.flags + 4 * bn (decide ((tof : Int) ≠ raw)) + 16 * bn x.blank + 32 * bn x.screen
      some (tof, f.amp,
        leBytes 3 tof ++ leBytes 2 f.amp ++ leBytes 1 f.width ++ leBytes 1 f.quality ++ leBytes 1 flags)

/-- The windows of a point, formed. -/
def formAll (p : Point) : List (Window × Formed) :=
  ((List.range p.windows.length).zip p.windows).map (fun q =>
    (q.2, if p.coarseOnly then formCoarse p q.1 q.2 else formWindow p q.1 q.2))

/-- The histogram record (R189); the commit pads its last cell (R343). -/
def histogramRecord (c : Nat) (p : Point) (hrec : Nat) (fs : List (Window × Formed)) : List Byte :=
  let t := p.fset.coefs.length
  let d := refTap t
  let block := fun (f : Formed) =>
    leBytes 2 d ++ leBytes 2 (255 - (t - 1 - d)) ++ leBytes 2 t ++ leBytes 1 p.prof.fset ++ leBytes 1 0
      ++ leBytes 2 f.peak ++ leBytes 6 0 ++ f.ys.flatMap (fun y => leBytes 4 (unsigned 32 y))
  frameHeader c p ++ actOneRegion p ++ p.windows.flatMap windowBytes
    ++ (if hrec = 2 && !p.coarseOnly then fs.flatMap (fun q => block q.2) else [])

/-- Cells of a point's histogram record (R189, R343). -/
def recordCells (p : Point) : Nat :=
  ceilDiv (1600 + (if fld p.ptCfg 17 16 = 2 && !p.coarseOnly then 1552 else 512) * p.windows.length) 64

/-- Filter engine `n` takes up a point of channel `c`: its record opens (R344), with the engine as the producer, since an
engine forms one point at a time. How many of the record's cells are begun before the commit is a free value
(notes/assumptions/17.md). -/
def openRecord (n c h : Nat) (s : State) : State :=
  match (getHist s c).forming.find? (fun p => p.engine == some n), findCue s h with
  | some p, some e =>
    if fld p.ptCfg 17 16 = 0 ∨ e.cue.hqueue = 0xFFFF then s
    else openItem e.cue.hqueue n (freeValue s % (recordCells p + 1)) (tookFree s)
  | _, _ => s

/-- What filter engine `n` has open and does not commit is closed (R189). -/
def closeRecord (n : Nat) (s : State) : State := s.wq.queues.foldl (fun u q => closeOpen q.1 n u) s

/-- The histogram record of a point commits: what its engine has open in the queue, or an item of its own. -/
def commitRecord (q : Nat) (engine : Option Nat) (bs : List Byte) (s : State) : State :=
  match engine with
  | none => (commitItem q 1 bs s).2
  | some n => (commitOpen q n 1 bs s).2

/-! ### Commit (R186 to R188) -/

/-- The 8-byte point header (Table 5.6). -/
def pointHeader (c : Nat) (p : Point) (rets lateCode : Nat) (esc : Bool) : List Byte :=
  let flags := 2 ^ 16 * bn p.rerun + 2 ^ 17 * bn p.noCand + 2 ^ 18 * bn (p.cut != 0) + 2 ^ 19 * bn (p.void != 0)
    + 2 ^ 20 * bn (p.wref != 0) + 2 ^ 21 * bn (lateCode != 0) + 2 ^ 22 * lateCode + 2 ^ 26 * bn (p.far != 0)
    + 2 ^ 27 * bn p.overrun
  leBytes 8 (c % 2 ^ 11 + 2 ^ 11 * rets + 2 ^ 14 * bn p.coarseOnly + 2 ^ 15 * bn esc + flags
    + 2 ^ 32 * p.scene + 2 ^ 48 * p.azimuth)

/-- The empty return entry (R188). -/
def emptyEntry : List Byte := leBytes 7 0 ++ leBytes 1 0x80

/-- The bank of a point is released (R172). -/
def releaseBank (c : Nat) (p : Point) (s : State) : State :=
  let v := getHist s c
  setHist c { v with held := v.held.filter (fun b => p.bank != some b) } s

/-- The frame of a point that has left the engines reads idle (Table 5.4); the rest of it stays as it stood. -/
def idleFrame (c : Nat) (p : Point) (s : State) : State :=
  let v := getHist s c
  setHist c { v with ended := v.ended.map (fun q => if q.handle = p.handle && q.fired == p.fired then { q with state := 0 } else q) } s

/-- One point fewer is left of cue `h` on channel `c`. -/
def countPoint (c h : Nat) (s : State) : State :=
  updCue h (fun e => { e with left := e.left.upd 0 c (· - 1) }) s

/-- A committed class S point of a non-FLY channel reaches the main evaluator, or counts as late (R308). -/
def mainTake (c : Nat) (p : Point) (rets : List (Nat × Nat)) (s : State) : State :=
  if p.safetyCls && !(chEntry s c).any ChEntry.fly then
    if tooLate s (p.fired.getD s.now) then countLate s
    else { s with saf := { s.saf with mainData := s.saf.mainData ++
      [{ channel := c, azimuth := p.azimuth, returns := rets }] } }
  else s

/-- Nothing of occurrence `occ` of cue `h` is left but reserve: no place, no point, no rerun to come. -/
def occurrenceOver (s : State) (h occ : Nat) : Bool :=
  let mine := fun (p : Place) => p.handle == h && p.occ == occ && !p.reserve
  !s.sm.slots.any (fun q => q.2.any mine) && !s.bat.due.any (fun q => mine q.1)
    && s.hist.chan.all (fun q => q.2.all.all (fun p => p.handle != h || p.occ != occ) && !q.2.rerunNext.contains (h, occ))

/-- R242: the unused reserve of an occurrence is released when the occurrence ends. -/
def releaseReserve (h occ : Nat) (s : State) : State :=
  if (findCue s h).any (fun e => e.cue.rerun != 0) && occurrenceOver s h occ then
    { s with sm := { s.sm with
        books := s.sm.books.filter (fun b => b.handle != h || b.occ != occ || !b.spare || decide (b.group ≤ groupNow s))
        slots := (s.sm.slots.map (fun q => (q.1, q.2.filter (fun p => p.handle != h || p.occ != occ)))).filter
          (fun q => q.2 != []) } }
  else s

/-- KIND of a point record: in a safety-evaluator queue it is a safety datum (Table 10.1; DEDUCED,
notes/assumptions/17.md). -/
def pointKind (s : State) (q : Nat) : Nat := if consumerOf s q = some 4 then 5 else 0

/-- The item just committed to queue `q` keeps the scope of its promise until its delivery (R239, R246). -/
def tagItem (q : Nat) (x : Scope) (s : State) : State :=
  let v := getQueue s q
  setQueue q { v with items := v.items.dropLast ++ (v.items.getLast?.map (fun it => { it with scope := some x })).toList } s

/-- The point leaves the engines: it is counted, its records commit, its bank is released, and its cue goes on. A point that
is discarded for a rerun comes here only as its rerun, so HIST_CNT_COARSE and HIST_CNT_EMPTY do not count it (DESIGN CHOICE,
notes/assumptions/27.md). -/
def commitPoint (c : Nat) (p : Point) (fs : List (Window × Formed)) (esc : Bool) (s : State) : State :=
  let rets := if p.overrun then [] else fs.filterMap (fun q => returnOf p q.1 q.2)
  let scope : Scope :=
    { handle := p.handle, channel := c, engine := p.engine
      queues := ((findCue s p.handle).map (fun e => [e.cue.queue, e.cue.hqueue])).getD [] }
  let late := lateCode s scope (p.conds ++ condsNow s)
  let hrec := fld p.ptCfg 17 16
  let hist := if hrec = 0 || p.overrun then [] else histogramRecord c p hrec fs
  let empty := rets.isEmpty
  let wanted := !empty || flag p.ptCfg 8 || p.overrun || esc
  let cue := findCue s p.handle
  let s1 := { s with hist := { s.hist with
    cntEmpty := satAdd 32 s.hist.cntEmpty (bn (empty && !p.overrun))
    cntCoarse := satAdd 32 s.hist.cntCoarse (bn p.coarseOnly) } }
  let s2 := match cue with
    | some e => if hist.isEmpty || e.cue.hqueue == 0xFFFF then s1 else commitRecord e.cue.hqueue p.engine hist s1
    | none => s1
  let seen : SeenPoint :=
    { pos := 0, ret := !empty, tof := (rets.head?.map Prod.fst).getD 0, cue := p.handle, channel := c
      record := if watched s c then histogramRecord c p 2 fs else [], words := p.words }
  let s3 := if p.overrun then s2 else trigNote false c seen s2
  let s4 : Bool × State :=
    if !wanted then (false, s3)
    else match cue with
      | none => (false, s3)
      | some e =>
        let bytes := pointHeader c p rets.length late esc
          ++ (if empty then emptyEntry else rets.flatMap (fun r => r.2.2))
        let u := commitItem e.cue.queue (pointKind s3 e.cue.queue) bytes s3
        let v := if u.1 then { u.2 with
            hist := { u.2.hist with
              cntPoints := inc32 u.2.hist.cntPoints
              cntEsc := satAdd 32 u.2.hist.cntEsc (bn esc)
              cntOver := satAdd 32 u.2.hist.cntOver (bn p.overrun) }
            sm := { u.2.sm with cntLate := satAdd 32 u.2.sm.cntLate (bn (late != 0)) } } else u.2
        let w := if u.1 && laneQueue v e.cue.queue then tagItem e.cue.queue scope v else v
        (u.1, if u.1 then trigNote true c seen (mainTake c p (rets.map (fun r => (r.1, r.2.1))) w) else w)
  let s5 := updCue p.handle (fun e => { e with
    points := e.points + bn s4.1, returns := e.returns + rets.length
    noreturns := e.noreturns + bn (empty && !p.overrun), late := e.late || (s4.1 && late != 0) }) s4.2
  cueProgress p.handle (releaseReserve p.handle p.occ (countPoint c p.handle (idleFrame c p (releaseBank c p s5))))

/-! ### Reruns (R184, R242) -/

/-- Reserve point-lengths of occurrence `occ` of cue `h` on batten `b` that have not begun. -/
def reserveLeft (s : State) (h b occ : Nat) : Nat :=
  let first := fun (p : Place) =>
    p.reserve && p.handle == h && p.batten == b && p.occ == occ && p.act == 1 && p.idx == 0
  (s.sm.slots.map (fun q => (q.2.filter first).length)).sum + (s.bat.due.filter (fun q => first q.1)).length

/-- The point is discarded and waits for a reserve point-length; its engine closes the record it has open (`freeFilter`). -/
def rerunPoint (c : Nat) (p : Point) (s : State) : State :=
  let u := idleFrame c p (releaseBank c p s)
  let v := getHist u c
  setHist c { v with rerunNext := v.rerunNext ++ [(p.handle, p.occ)] } u

/-- A reserve point-length is left beside those that earlier points of the channel wait for (R184, R185, R242). -/
def mayRerun (s : State) (c : Nat) (p : Point) : Bool :=
  decide (((getHist s c).rerunNext.filter (fun x => x == (p.handle, p.occ))).length < reserveLeft s p.handle p.batten p.occ)

/-- The windows are formed: the point is rerun, or commits (R183 to R185). The point has left the channel already. -/
def formPoint (c : Nat) (p : Point) (s : State) : State :=
  let fs := formAll p
  let esc := fs.any (fun q => escaped p q.1 q.2)
  if esc && flag p.escCfg 12 && !p.rerun then
    if mayRerun s c p && (findCue s p.handle).any (fun e => e.state == 3) then rerunPoint c p s
    else commitPoint c p fs true (updCue p.handle (fun e => { e with spent := true }) s)
  else commitPoint c p fs esc s

/-! ### Act one (R160, R161, R195 to R205) -/

/-- u of an act-one shot (R203): its stop plus the interval to the batten's previous start. -/
def secondTripU (s : State) (b start stop slot : Nat) : Nat :=
  match (getBatten s b).starts.find? (fun x => decide (x.1 < start)) with
  | none => 0xFFFF
  | some x => if x.2 + 64 < slot ∨ 65534 < stop + (start - x.1) then 0xFFFF else stop + (start - x.1)

/-- The slot of the batten's shot that started at `start`. -/
def slotOfStart (s : State) (b start : Nat) : Nat :=
  (((getBatten s b).starts.find? (fun x => x.1 == start)).map Prod.snd).getD 0

/-- Counts that both acts share. -/
def Point.common (p : Point) (w : W32) : Point :=
  let o := wordOutcome w
  { p with
    shotsDone := p.shotsDone + 1
    cut := satAdd 8 p.cut (bn (o == outCut)), void := satAdd 8 p.void (bn (o == outVoid))
    wref := satAdd 16 p.wref (bn (wordWref w)), preshow := satAdd 32 p.preshow (wordPreshow w)
    nAll := p.nAll + bn (o != outVoid) }

/-- An act-one shot result enters the frame. -/
def Point.takeOne (s : State) (r : ShotResult) (p0 : Point) : Point :=
  let p := p0.common r.word
  let o := wordOutcome r.word
  let stop := wordStop r.word
  let u := secondTripU s r.batten r.start stop (slotOfStart s r.batten r.start)
  let p1 := { p with n1 := p.n1 + bn (o != outVoid), pre1 := p.pre1 + wordPreshow r.word, u := p.u.set r.idx u }
  if o ≠ outStop then p1
  else
    if stop = 0 then { p1 with zeroStops := p1.zeroStops + 1 }
    else
      let a := binOf p.prof stop
      let p2 := { p1 with stops1 := p1.stops1 ++ [(stop, tbOf s r.start, u)] }
      if 1024 ≤ a then { p2 with far := satAdd 16 p2.far 1 } else { p2 with h1 := p2.h1.upd 0 a (satAdd 12 · 1) }

/-- The end of act one: the estimator, the second-trip test, the screen and the selection (R162, R195 to R205). -/
def endActOne (c : Nat) (p : Point) (s : State) : State :=
  match rejParams s with
  | none => s
  | some r =>
    let v0 := getHist s c
    let fresh := v0.nfProfile != p.profileIdx
    let v := if fresh then { v0 with nfHist := [], nfCount := 0, nfProfile := p.profileIdx } else v0
    let rp := preshowRate p.prof p.pre1 p.n1
    let r0 := (rp.map rateOf).getD v.rPrev
    let excl := exclBins p.prof p.h1 (match rp with
      | some q => roundHalfUp (2048 * (p.n1 : Rat) * q)
      | none => ambientBin p.n1 r0)
    let second := if flag p.rejCfg 0 then secondTrip p.prof excl (fld p.rejCfg 31 24) p.stops1 else []
    let rh := binRate p.prof excl p.n1 p.zeroStops p.h1 second
    let r1 := mixRates r.ambWeight rp rh v.rPrev
    let a1 := ambientBin p.n1 r1
    let e := (List.range (binCount p.prof)).map (fun a => 256 * (p.h1.get 0 a : Int) - a1)
    let all := clustersOf p.prof.candThr 0 e none
    let mode := fld p.rejCfg 9 8
    let screened := !p.safetyCls && mode != 0
    let marked := all.map (fun k =>
      { k with suspect := screened && k.near p.prof r && k.inconsistent r (fld p.rejCfg 23 16) v.nfHist })
    let gone := if mode = 2 then marked.filter Cluster.suspect else []
    let kept := if mode = 2 then marked.filter (fun k => !k.suspect) else marked
    let order := sortBy (fun x y => decide (y.sum < x.sum) || (decide (x.sum = y.sum) && decide (x.first ≤ y.first))) kept
    let chosen := chooseWindows p.prof e [] order
    let wins := (sortBy (fun x y => decide (x.1 ≤ y.1)) chosen).map (fun x =>
      ({ w0 := x.1, screen := x.2.suspect && mode == 1 } : Window))
    let inChosen := fun (a : Nat) => chosen.any (fun x => decide (x.2.first ≤ a) && decide (a < x.2.first + x.2.es.length))
    let stamps := if r.ftaTrains = 0 then [] else p.stops1.filter (fun x =>
      !second.contains x && !(decide (binOf p.prof x.1 < binCount p.prof) && inChosen (binOf p.prof x.1)))
    let hist := ((all.filter (fun k => k.near p.prof r)).take 4).map Cluster.peak
    let q := { p with
      state := 2, shotsDone := 0, windows := wins, noCand := wins.isEmpty, ambRate := r1, excl := excl
      rPre := rp, rBins := rh, stCnt := second.length, veto := gone.length }
    let u := setPoint c q (setHist c { v with
      nfHist := if p.safetyCls then v.nfHist else (hist :: v.nfHist).take 7
      nfCount := v.nfCount + bn (!p.safetyCls) } s)
    let w := { u with rej := { u.rej with
      cntVeto := satAdd 32 u.rej.cntVeto gone.length, cntSecond := satAdd 32 u.rej.cntSecond second.length } }
    stamps.foldl (fun z x => stampStop (x.2.1 + x.1) c z) w

/-! ### Act two (R163 to R167, R172) -/

/-- Act two begins on channel `c`: the point takes the bank of the pointer, or is overrun (R172). -/
def beginActTwo (c : Nat) (p : Point) (s : State) : State :=
  if p.windows.isEmpty || p.bank.isSome || p.overrun then s
  else
    let v := getHist s c
    if v.held.contains v.nextBank then setPoint c { p with overrun := true } s
    else setPoint c { p with bank := some v.nextBank } (setHist c
      { v with held := v.held ++ [v.nextBank], nextBank := 1 - v.nextBank } s)

/-- A stop enters its window (R158, R165). -/
def Window.take (half p idx stop : Nat) (x : Window) : Window :=
  let b := 32 * (stop - x.w0) + 31 - p
  { x with
    bins := x.bins.upd 0 b (satAdd 16 · 1)
    c1 := if idx < half then satAdd 16 x.c1 1 else x.c1
    c2 := if idx < half then x.c2 else satAdd 16 x.c2 1 }

/-- A blanked tick lies inside the window (R210). -/
def Window.hit (x : Window) (blanks : List (Int × Int)) : Bool :=
  blanks.any (fun b => decide (b.1 ≤ x.w0 + 7) && decide ((x.w0 : Int) ≤ b.2))

/-- An act-two shot result enters the frame; a point with OVERRUN discards its histogram part. -/
def Point.takeTwo (r : ShotResult) (p0 : Point) : Point :=
  let p := p0.common r.word
  let o := wordOutcome r.word
  let p1 := { p with
    noret := satAdd 16 p.noret (bn (o == outNoReturn)), void2 := p.void2 + bn (o == outVoid)
    coarse := p.coarse || r.coarse, lastTwo := if r.launched then some r.start else p.lastTwo
    blanked := satAdd 8 p.blanked (bn (p.windows.any (fun x => x.hit r.blanked)))
    windows := p.windows.map (fun x => { x with blank := x.blank || x.hit r.blanked }) }
  if o ≠ outStop || p.overrun || wordStop r.word = 0 then p1
  else
    let stop := wordStop r.word
    { p1 with windows := p1.windows.map (fun x =>
        if x.w0 ≤ stop ∧ stop < x.w0 + 8 then x.take (16 * p.prof.phaseReps) r.phase r.idx stop else x) }

/-- The final rate of a point (R197), with A2. -/
def finalRate (s : State) (c : Nat) (p : Point) : Point :=
  let w := ((rejParams s).map RejParams.ambWeight).getD 0
  let rp := preshowRate p.prof p.preshow p.nAll
  let q := { p with ambRate := mixRates w rp p.rBins (getHist s c).rPrev, rPre := rp }
  { q with amb2 := min 65535 (actTwoAmbient q) }

/-- A point's acts have ended: R_PREV follows, and it waits for an engine, forms coarse, or commits without returns. -/
def endActTwo (c : Nat) (p : Point) (s : State) : State :=
  let q := { finalRate s c p with state := 3 }
  let u := dropPoint c p.handle (setHist c { getHist s c with rPrev := q.ambRate, ended := some q } s)
  if q.overrun || q.noCand then commitPoint c q [] false u
  else if q.coarseOnly then formPoint c q u
  else
    let v := getHist u c
    let w := setHist c { v with forming := v.forming ++ [q] } u
    let before := fun (a b : Nat × Nat × Nat) => decide (a.1 < b.1) || (decide (a.1 = b.1) && decide (a.2.1 ≤ b.2.1))
    let queue := insertBy before (w.now, c, p.handle) w.hist.waiting
    { w with hist := { w.hist with waiting := queue } }

/-! ### SHOT_RESULT_ACCUMULATE -/

/-- A shot result word of ranging channel `c` enters its point's frame. -/
def accumulate (c : Nat) (r : ShotResult) (s : State) : State :=
  match curPoint s c r.handle with
  | none => s
  | some p0 =>
    let p := if keepsWords s c then { p0 with words := (p0.words ++ [r.word]).drop (p0.words.length + 1 - 2048) } else p0
    if r.act = 1 ∧ p.state = 1 then
      let q := p.takeOne s r
      if q.prof.shots1 ≤ q.shotsDone then endActOne c q (setPoint c q s) else setPoint c q s
    else if r.act = 2 ∧ p.state = 2 then
      let q := p.takeTwo r
      let u := { s with rej := { s.rej with
        cntBlank := satAdd 32 s.rej.cntBlank (bn (p.windows.any (fun x => x.hit r.blanked))) } }
      if q.shots2 ≤ q.shotsDone then endActTwo c q u else setPoint c q u
    else s

end Sys2Proof.Machine
end

