-- ==== Sys2Proof/Machine/AdmitOps.lean ====
section
/-! DEFINITION. Admission: what a submission is judged by, the placing of shots, the booking of stages, displacement of
bulk shots, standing cues and split cues (R224 to R242, R405 to R407). -/

namespace Sys2Proof.Machine

/-! ### Players (R27, R222) -/

/-- Player kinds a cue kind acts on (Table 7.1). -/
def actsOn (kind : Nat) : List Nat :=
  match kind with
  | 3 => [1, 2]
  | 4 => [2, 3, 4, 5, 6]
  | _ => [1]

/-- R46: a ranging channel that is not enabled or not bound, and a reference channel that is not enabled, take part in no
cue. -/
def takesPart (s : State) (r : NodeRec) : Bool :=
  if r.kind = 1 then (battenOf s r.index).isSome
  else if r.kind = 2 then (chEntry s (1536 + r.index)).any ChEntry.enable
  else true

/-- Nodes of the expansion with a kind in `ks` that take part in a cue. -/
def playersOf (s : State) (n : Nat) (ks : List Nat) : List Nat :=
  match s.img.active with
  | none => []
  | some i => (expand i n).filter (fun m => (nodeRec s m).any (fun r => ks.contains r.kind && takesPart s r))

def guestsOf (s : State) (n : Nat) : List Nat :=
  (playersOf s n [7]).filterMap (fun m => (nodeRec s m).map (fun r => 2 + r.index))

def nodeIndexOf (s : State) (n k : Nat) : Option Nat :=
  (nodeRec s n).bind (fun r => if r.kind = k then some r.index else none)

/-- Ranging channels of a cue that batten `b` lights. -/
def litChannels (s : State) (e : CueEntry) (b : Nat) : List Nat :=
  (cueChannels s e).filter (fun c => battenOf s c == some b)

/-- The battens that fire for a cue, ascending. -/
def firingBattens (s : State) (e : CueEntry) : List Nat :=
  if e.cue.kind = 4 then sortBy (fun a b => decide (a ≤ b)) (cueBattens s e)
  else sortBy (fun a b => decide (a ≤ b)) (firsts [] ((cueChannels s e).filterMap (battenOf s)))

/-! ### Shots of an occurrence (R154, R242) -/

def profileOf (s : State) (c : CueRec) : Option ActProfile := s.img.active.bind (fun i => i.profiles[c.profile]?)

/-- Shots of one point: act and index, in order. -/
def pointShots (p : ActProfile) : List (Nat × Nat) :=
  (List.range p.shots1).map (fun i => (1, i)) ++ (List.range (32 * p.phaseReps)).map (fun i => (2, i))

/-- Point-lengths of the rerun reserve (R242). -/
def reservePoints (c : CueRec) : Nat := ceilDiv (c.points * c.rerun) 64

/-- Slots of one occurrence on one batten, with its reserve. -/
def occurrenceSlots (s : State) (c : CueRec) : Nat :=
  if c.kind = 4 then c.points
  else ((profileOf s c).map (fun p => (c.points + reservePoints c) * (pointShots p).length)).getD 0

def refOf (s : State) (b : Nat) : Option Nat := (batRec s b).map BatRec.ref

/-- Two battens may not fire together: the same one, or one reference channel (R102). -/
def clash (s : State) (a b : Nat) : Bool := a == b || refOf s a == refOf s b

/-- Batten `b`'s shots of one occurrence; those of battens that share its reference channel come one after another. -/
def sharedSlots (s : State) (bs : List Nat) (n b : Nat) : Nat :=
  n * (bs.filter (clash s b)).length

/-- A shot that starts `n` slots before another of its channels leaves it its time, with its last gate tick and the other's
PRESHOW_OFS (R98). -/
def spaced (s : State) (last : Nat) (pre : Int) (n : Nat) : Bool :=
  let d : Int := (n * slotThirds s / 3 : Nat) - (if codeEnabled s then 63 else 0)
  decide ((last : Int) ≤ d + pre - 1)

/-- Slots from one shot of a point to the next: a gate reaches at most eight (R87, R98, R110). -/
def shotStride (s : State) (c : CueRec) : Nat :=
  if c.kind = 4 then 1
  else ((profileOf s c).bind (fun q => ((List.range 8).map (· + 1)).find? (spaced s (q.gateStart + max q.gateLen 8 - 1) q.preshowOfs))).getD 9

/-- Slots that one occurrence takes at least: 8 places a slot (R112), one shot of a batten or of a reference channel a
slot (R102), and a channel's shots as far apart as R98 asks. -/
def leastSlots (s : State) (e : CueEntry) : Nat :=
  let bs := firingBattens s e
  let n := occurrenceSlots s e.cue
  (bs.map (sharedSlots s bs n)).foldl max (max (ceilDiv (n * bs.length) 8) (if bs.isEmpty then 0 else (n - 1) * shotStride s e.cue + 1))

/-- M of Table 12.4. -/
def notchSamples (notch : Nat) : Nat :=
  match notch with
  | 0 => 16
  | 1 => 160
  | 2 => 400
  | _ => 800

/-- One turn of an auxiliary input in µs (Table 12.3): make and settling, and its one or two measurements. -/
def auxTurnUs (a : AuxInput) : Nat :=
  let m := 375 + 125 * notchSamples a.notch
  25 + if a.wiring = 1 then 2 * m else m

/-- The auxiliary inputs of a plan that have a turn, with their records: not the second of a wired pair (R435). -/
def auxTurns (p : HkPlan) : List (Nat × AuxInput) :=
  ((List.range 8).zip p.aux).filter (fun q => !(q.1 % 2 == 1 && (p.aux[q.1 - 1]?).any (fun r => r.wiring != 0)))

/-- One round of the auxiliary inputs in µs: each gives one output. -/
def auxRoundUs (s : State) : Nat := ((auxTurns ((s.img.active.map Image.hk).getD defaultHk)).map (fun q => auxTurnUs q.2)).sum

/-- Duration of what a housekeeping player takes, apart from battens and conversions, in µs: POINTS stops at the slot rate, a
position sample every 5 µs, or an output a round. -/
def hkPlayerUs (s : State) (c : CueRec) (n : Nat) : Nat :=
  match (nodeRec s n).map NodeRec.kind with
  | some 2 => ceilDiv (c.points * slotThirds s) (3 * usTicks)
  | some 4 => c.points * auxRoundUs s
  | some 6 => 5 * c.points
  | _ => 0

/-- Duration of one occurrence in µs, rounded up (R226, R309): its shots, and of a housekeeping cue what each player takes,
for housekeeping inputs a conversion a µs on each converter (notes/assumptions/19.md). -/
def occurrenceUs (s : State) (e : CueEntry) : Nat :=
  let shots := ceilDiv (leastSlots s e * slotThirds s) (3 * usTicks)
  let convs := fun (r : Nat) =>
    e.cue.points * (e.players.filter (fun n => ((nodeIndexOf s n 5).map (fun i => (inputConverters s i).contains r)).getD false)).length
  if e.cue.kind = 4 then (e.players.map (hkPlayerUs s e.cue)).foldl max (max shots (max (convs 29) (convs 30))) else shots

/-- The shots of an occurrence on a batten, with the least slot of each. `at` is the tick from which point `i` may
fire. -/
def occurrencePlaces (s : State) (h : Nat) (e : CueEntry) (b occ : Nat) (start : Nat → Nat) : List (Place × Nat) :=
  let mk := fun (pt act idx : Nat) (res : Bool) =>
    ({ batten := b, handle := h, cls := e.cue.cls, kind := e.cue.kind, occ := occ, point := pt, act := act, idx := idx
       reserve := res } : Place)
  if e.cue.kind = 4 then
    (List.range e.cue.points).map (fun i => (mk i 0 i false, slotAtOrAfter s (start 0)))
  else
    match profileOf s e.cue with
    | none => []
    | some p =>
      (List.range (e.cue.points + reservePoints e.cue)).flatMap (fun i =>
        (pointShots p).map (fun x =>
          (mk i x.1 x.2 (decide (e.cue.points ≤ i)), slotAtOrAfter s (start (min i (e.cue.points - 1))))))

/-! ### Places (R112, R237, R239) -/

def placesAt (s : State) (n : Nat) : List Place := s.sm.slots.get [] n

def putPlace (n : Nat) (p : Place) (s : State) : State :=
  { s with sm := { s.sm with slots := s.sm.slots.upd [] n (fun l => l ++ [p]) } }

/-- Work-light segments of an engine's slice: 16 goes with engine 15 (Table 13.4). -/
def sliceSegments (i : Nat) : List Nat := if i = 15 then [15, 16] else [i]

/-- Channels that segment `n` lights (R458). -/
def segmentChannels (n : Nat) : List Nat :=
  if n < 16 then (List.range 96).map (· + 96 * n) else if n = 16 then (List.range 16).map (· + 1536) else []

/-- Battens that light channels of engine `i`. -/
def sliceBattens (s : State) (i : Nat) : List Nat := firsts [] ((segmentChannels i).filterMap (battenOf s))

/-- A work-light slice, placed or begun, holds batten `b` in group `g` (R249). -/
def sliceHolds (s : State) (g b : Nat) : Bool :=
  let v := s.rh.kinds.get {} 0
  v.placed.any (fun x => x.2 == g && (sliceBattens s x.1).contains b)
    || (decide (groupNow s = g) && v.running.any (fun i => (sliceBattens s i).contains b))

/-- A place that a booking of class S or L, or a slice, may take: one of a class B cue that has not fired yet in its
group (R239). -/
def movable (s : State) (q : Nat × Place) : Bool := q.2.cls == 2 && !s.sm.cueFired.contains (slotGroup s q.1, q.2.handle)

/-- A place that a booking of class `cls` must respect. -/
def firm (s : State) (cls : Nat) (q : Nat × Place) : Bool := cls == 2 || !movable s q

/-- Slot `n` has a free place for batten `b` of class `cls` (R102, R112). -/
def placeFree (s : State) (cls b n : Nat) : Bool :=
  let l := (placesAt s n).filter (fun p => firm s cls (n, p))
  decide (l.length < 8) && !l.any (fun p => clash s p.batten b) && !(cls == 2 && sliceHolds s (slotGroup s n) b)

/-! ### Channel time (R98) -/

/-- Last gate tick and PRESHOW_OFS of a shot, by its cue's profile; act two is taken to its latest window (R163). -/
def placeTiming (s : State) (p : Place) : Option (Nat × Int) :=
  if p.kind = 4 then none
  else (findCue s p.handle).bind (fun e => (profileOf s e.cue).map (fun q => (q.gateStart + max q.gateLen 8 - 1, q.preshowOfs)))

/-- A shot leaves a later one its time: D is the shortest interval of their starts (R98). -/
def leavesTime (s : State) (x y : Nat × Place) : Bool :=
  match placeTiming s x.2, placeTiming s y.2 with
  | some a, some c => spaced s a.1 c.2 (y.1 - x.1)
  | _, _ => true

/-- Channels that listen for a place's shot. -/
def placeLights (s : State) (p : Place) : List Nat :=
  if p.kind = 4 then [] else ((findCue s p.handle).map (fun e => litChannels s e p.batten)).getD []

/-- Two places have a channel in common. -/
def shareChannel (s : State) (x y : Place) : Bool :=
  x.batten == y.batten && ((x.handle == y.handle && x.kind != 4) || (placeLights s x).any (placeLights s y).contains)

/-- Two places of one channel lie too near each other. -/
def crowds (s : State) (x y : Nat × Place) : Bool :=
  shareChannel s x.2 y.2 && !(if x.1 < y.1 then leavesTime s x y else leavesTime s y x)

/-- The places near slot `n`: a gate reaches at most eight slots (R87, R110). -/
def nearPlaces (s : State) (n : Nat) : List (Nat × Place) :=
  (s.sm.slots.filter (fun q => q.1 != n && decide (q.1 ≤ n + 8) && decide (n ≤ q.1 + 8))).flatMap
    (fun q => q.2.map (fun p => (q.1, p)))

/-- Slot `n` leaves place `p` its channel time beside every place it must respect, its own cue's among them. -/
def timeFree (s : State) (p : Place) (n : Nat) : Bool :=
  (nearPlaces s n).all (fun q => !firm s p.cls q || !crowds s q (n, p))

/-- A slot that place `p` may take: a free place with its channel time (R98, R237). -/
def placeFits (s : State) (p : Place) (n : Nat) : Bool := placeFree s p.cls p.batten n && timeFree s p n

/-- The first slot from `n` that `ok` accepts, in a group before `stop` where there is one. -/
def nextSlot (s : State) (ok : Nat → Bool) (stop : Option Nat) (fuel n : Nat) : Option Nat :=
  match fuel with
  | 0 => none
  | fuel + 1 =>
    if stop.any (fun g => decide (g ≤ slotGroup s n)) then none
    else if ok n then some n
    else nextSlot s ok stop fuel (n + 1)

/-- Slots to look at: one listed slot takes a place from itself and from eight on either side at most, and a slice from
the slots of its group. -/
def slotFuel (s : State) : Nat := 17 * s.sm.slots.length + 100

/-! ### Displacement (R239) -/

/-- Order of admission of a cue. -/
def orderOf (s : State) (h : Nat) : Nat := ((findCue s h).map CueEntry.order).getD 0

/-- Bulk places that a booking `p` in slot `n` displaces: those that clash with it, those of its channels that lie too
near, and while the slot would hold more than 8, those of the cue admitted latest, highest batten first. -/
def displacedBy (s : State) (p : Place) (n : Nat) : List (Nat × Place) :=
  if p.cls = 2 then []
  else
    let l := placesAt s n
    let soft := l.filter (fun q => movable s (n, q))
    let hit := soft.filter (fun q => clash s q.batten p.batten)
    let rest := soft.filter (fun q => !clash s q.batten p.batten)
    let later := fun (x y : Place) =>
      decide (orderOf s y.handle < orderOf s x.handle)
        || (decide (orderOf s y.handle = orderOf s x.handle) && decide (y.batten ≤ x.batten))
    let extra := (sortBy later rest).take (l.length - soft.length + 1 + rest.length - 8)
    (hit ++ extra).map (fun q => (n, q)) ++ (nearPlaces s n).filter (fun q => movable s q && crowds s q (n, p))

/-- Cue `h` holds a place for batten `b`. -/
def Place.holds (h b : Nat) (p : Place) : Bool := p.handle == h && p.batten == b

/-- The places of one cue on one batten in slots `lo` to `hi`. -/
def placesFrom (s : State) (h b lo hi : Nat) : List (Nat × Place) :=
  (s.sm.slots.filter (fun q => decide (lo ≤ q.1) && decide (q.1 ≤ hi))).flatMap
    (fun q => (q.2.filter (Place.holds h b)).map (fun p => (q.1, p)))

/-- They are taken out of the calendar. -/
def removePlaces (h b lo hi : Nat) (s : State) : State :=
  { s with sm := { s.sm with slots := (s.sm.slots.map (fun q =>
      if lo ≤ q.1 ∧ q.1 ≤ hi then (q.1, q.2.filter (fun p => !p.holds h b)) else q)).filter (fun q => q.2 != []) } }

/-- The bulk place of cue `h` on batten `b` in slot `m` moves to the next free place in an open group (R232). The shots
of the cue on that batten in between keep their order: each moves to the next of the slots they hold. -/
def movePlace (m h b : Nat) (s : State) : State :=
  match (placesAt s m).find? (Place.holds h b) with
  | none => s
  | some p =>
    let u := removePlaces h b m m s
    let least := max (m + 1) (slotAtOrAfter s (16 * usTicks * firstOpen s))
    match nextSlot u (placeFits u p) none (slotFuel u) least with
    | none => u
    | some f =>
      let chain := placesFrom u h b (m + 1) f
      ((chain.map Prod.fst ++ [f]).zip (p :: chain.map Prod.snd)).foldl (fun v q => putPlace q.1 q.2 v)
        (removePlaces h b (m + 1) f u)

/-- Every displaced place moves. -/
def moveDisplaced (l : List (Nat × Place)) (s : State) : State :=
  l.foldl (fun u q => movePlace q.1 q.2.handle q.2.batten u) s

/-- Shots of one batten in the earliest free places. The slots taken come back in order. A refusal names channel time where
a place is free but for it. -/
def layShots (stop : Option Nat) (cursor : Nat) (got : List (Nat × Place)) (s : State) :
    List (Place × Nat) → Except (Nat × Nat) (State × List (Nat × Place))
  | [] => .ok (s, got)
  | (p, least) :: r =>
    let first := max cursor least
    let find := fun (ok : Nat → Bool) => nextSlot s ok stop (slotFuel s + 100000) first
    match find (placeFits s p) with
    | none => .error (if (find (placeFree s p.cls p.batten)).isSome then 0x07 else 0x06, p.batten)
    | some n => layShots stop (n + 1) (got ++ [(n, p)]) (moveDisplaced (displacedBy s p n) (putPlace n p s)) r

/-! ### Stages (R233 to R238) -/

def engineOf (c : Nat) : Nat := c / 96

/-- Room for `n` more units of resource `r` in group `g`. -/
def hasRoom (s : State) (cls g r n : Nat) : Bool :=
  decide (loadOf s g r + n ≤ admissionLimit s cls r)

/-- Whom a booking serves: the cue with its class and occurrence, and whether it is for the rerun reserve. -/
structure For where
  handle : Nat
  cls    : Nat
  occ    : Nat
  spare  : Bool
  deriving DecidableEq, Repr

/-- `n` units of resource `r` in group `g`. -/
def book (w : For) (g r n : Nat) (s : State) : State :=
  let same := fun (b : Booking) =>
    b.handle == w.handle && b.cls == w.cls && b.occ == w.occ && b.spare == w.spare && b.group == g && b.res == r
  if n = 0 then s
  else if s.sm.books.any same then
    { s with sm := { s.sm with books := s.sm.books.map (fun b => if same b then { b with amount := b.amount + n } else b) } }
  else { s with sm := { s.sm with books := s.sm.books ++
    [{ handle := w.handle, cls := w.cls, group := g, res := r, amount := n, occ := w.occ, spare := w.spare }] } }

/-- The first group from `g`, `n` of them, that `p` accepts. -/
def firstGroup (p : Nat → Bool) (n g : Nat) : Option Nat :=
  match n with
  | 0 => none
  | n + 1 => if p g then some g else firstGroup p n (g + 1)

/-- A class S booking is made all the same, in the earliest group (R236). -/
def groupOr (force : Bool) (g : Nat) (x : Option Nat) : Option Nat := if force then some (x.getD g) else x

/-- Cells of the histogram record of a profile (R189); 0 without HREC. -/
def histogramCells (s : State) (p : ActProfile) : Nat :=
  let hrec := fld s.hist.ptCfg 17 16
  if hrec = 0 then 0
  else ceilDiv (64 + 1536 + 512 * p.maxCand + (if hrec = 2 then (16 + 1024) * p.maxCand else 0)) 64

/-- Taps of a profile's coefficient set. -/
def tapsOf (s : State) (p : ActProfile) : Nat :=
  ((s.img.active.bind (fun i => i.fsets.find? (fun f => f.setId == p.fset))).map (fun f => f.coefs.length)).getD 0

/-- Filter cycles of a point (Table 7.6). -/
def filterCycles (s : State) (p : ActProfile) : Nat := p.maxCand * (32 + 4 * tapsOf s p)

/-- The lowest-numbered filter engine with room. -/
def filterRoom (s : State) (cls g n : Nat) : Option Nat :=
  (List.range 8).find? (fun e => hasRoom s cls g (16 + e) n)

/-- Units of 64 bytes of the point's items on each delivery resource. -/
def deliveryUnits (s : State) (c : CueRec) (p : ActProfile) : List (Nat × Nat) :=
  let pt := (queueResource s c.queue).toList.map (fun r => (r, 1))
  let hc := histogramCells s p
  let ht := if hc = 0 then [] else (queueResource s c.hqueue).toList.map (fun r => (r, hc))
  pt ++ ht

def roomAll (s : State) (cls g : Nat) (us : List (Nat × Nat)) : Bool :=
  us.all (fun u => hasRoom s cls g u.1 ((us.filter (fun v => v.1 == u.1)).map Prod.snd).sum)

/-- The resource among `us` that leaves an item no group from `g`, `n` of them: one without room in any of them, else one
without room in the first. -/
def lacking (s : State) (cls n g : Nat) (us : List (Nat × Nat)) : Nat :=
  let full := fun (x : Nat) (u : Nat × Nat) => !roomAll s cls x (us.filter (fun v => v.1 == u.1))
  (((us.find? (fun u => ((List.range n).map (· + g)).all (fun x => full x u))).or (us.find? (full g))).map Prod.fst).getD 0

/-- The last group before `stop`, where there is one. -/
def capGroup (stop : Option Nat) (g : Nat) : Nat := (stop.map (fun x => min g (x - 1))).getD g

/-- One point of channel `c` whose last shot lies at timebase µs `tl` is booked (R238), in groups before `stop`. `force`
books without a limit. -/
def bookPoint (w : For) (e : CueEntry) (p : ActProfile) (stop : Option Nat) (force : Bool) (tl c : Nat) (s : State) :
    Except (Nat × Nat) State :=
  let cls := w.cls
  let g := tl / 16
  let lane := deliveryUnits s e.cue p
  -- the last group of each stage by BOUND
  let gN := capGroup stop ((e.cue.bound + tl) / 16 - 1)
  let gF := if lane.isEmpty then gN else gN - 1
  let gE := gF - 1
  let cells := 1 + histogramCells s p
  let cyc := filterCycles s p
  if gE < g then .error (0x0D, 0)
  else
    match groupOr force g (firstGroup (fun x => hasRoom s cls x (engineOf c) 48) (gE + 1 - g) g) with
    | none => .error (0x08, engineOf c)
    | some ge =>
      let okF := fun x => (filterRoom s cls x cyc).isSome && hasRoom s cls x 24 cells
      match groupOr force (ge + 1) (firstGroup okF (gF - ge) (ge + 1)) with
      | none => if (filterRoom s cls (ge + 1) cyc).isSome then .error (0x0A, 24) else .error (0x09, 16)
      | some gf =>
        let u := book w gf 24 cells (book w gf (16 + (filterRoom s cls gf cyc).getD 0) cyc (book w ge (engineOf c) 48 s))
        if lane.isEmpty then .ok u
        else
          match groupOr force (gf + 1) (firstGroup (fun x => roomAll s cls x lane) (gN - gf) (gf + 1)) with
          | none => .error (0x0B, lacking s cls (gN - gf) (gf + 1) lane)
          | some gn => .ok (lane.foldl (fun v q => book w gn q.1 q.2 v) u)

/-- The shot result words of a batten's shots, in the groups in which they fire, before `stop`. -/
def bookWords (h : Nat) (e : CueEntry) (stop : Option Nat) (force : Bool) (chans : List Nat) (s : State) :
    List (Nat × Place) → Except (Nat × Nat) State
  | [] => .ok s
  | (n, p) :: r =>
    let g := fireGroup s n p.batten
    let w : For := { handle := h, cls := e.cue.cls, occ := p.occ, spare := p.reserve }
    let es := firsts [] (chans.map engineOf)
    let words := fun (x : Nat) => (chans.filter (fun c => engineOf c == x)).length
    if stop.any (fun x => decide (x ≤ g)) then .error (0x08, es.headD 0)
    else match es.find? (fun x => !force && !hasRoom s e.cue.cls g x (words x)) with
      | some x => .error (0x08, x)
      | none => bookWords h e stop force chans (es.foldl (fun u x => book w g x (words x) u) s) r

def bookPoints (h : Nat) (e : CueEntry) (p : ActProfile) (stop : Option Nat) (force : Bool) (s : State) :
    List (Nat × Nat × Bool) → Except (Nat × Nat) State
  | [] => .ok s
  | (tl, c, spare) :: r =>
    (bookPoint { handle := h, cls := e.cue.cls, occ := e.occ, spare := spare } e p stop force tl c s).bind
      (fun u => bookPoints h e p stop force u r)

/-! ### Housekeeping cues (R238, R430, R473) -/

/-- Conversions of one housekeeping input, as early as the converter has room. The µs of the last comes back: a group's
conversions follow one another, one a µs, those of cues last (R423). -/
def bookConversions (w : For) (r : Nat) (stop : Option Nat) (fuel g left last : Nat) (s : State) :
    Except (Nat × Nat) (State × Nat) :=
  match fuel with
  | 0 => .error (0x0C, r)
  | fuel + 1 =>
    if left = 0 then .ok (s, last)
    else if stop.any (fun x => decide (x ≤ g)) then .error (0x0C, r)
    else if hasRoom s w.cls g r 1 then bookConversions w r stop fuel g (left - 1) (16 * g + loadOf s g r) (book w g r 1 s)
    else bookConversions w r stop fuel (g + 1) left last s

/-- Batten `b` of the plan names reference channel `k`. -/
def namesReference (s : State) (k : Nat) (q : Nat × Place) : Bool := refOf s q.2.batten == some k

/-- When a player of a housekeeping cue has its last unit, apart from conversions (R473): a batten its last shot, the
follow spot its last position sample, one every 5 µs, a reference channel the last of POINTS shots of a batten that
names it, placed with the cue or at the earliest (notes/assumptions/19.md). -/
def hkLast (s : State) (e : CueEntry) (t : Nat) (got : List (Nat × Place)) (r : NodeRec) : Nat :=
  let last := fun (l : List (Nat × Place)) => (l.getLast?.map (fun q => fireTick s q.1 q.2.batten / usTicks))
  match r.kind with
  | 3 => (last (got.filter (fun q => q.2.batten == r.index))).getD t
  | 2 => (last ((got.filter (namesReference s r.index)).take e.cue.points)).getD
      (t + e.cue.points * slotThirds s / (3 * usTicks))
  | 6 => t + 5 * e.cue.points
  | _ => t

/-- The record of a housekeeping player whose last unit comes at µs `tl`: its cell, and its delivery, within BOUND. -/
def bookRecord (w : For) (e : CueEntry) (tl : Nat) (s : State) : Except (Nat × Nat) State :=
  let g := tl / 16
  let lane := (queueResource s e.cue.queue).toList
  let gN := (e.cue.bound + tl) / 16 - 1
  let gF := if lane.isEmpty then gN else gN - 1
  if gF < g + 1 then .error (0x0D, 0)
  else
    match firstGroup (fun x => hasRoom s w.cls x 24 1) (gF - g) (g + 1) with
    | none => .error (0x0A, 24)
    | some gf =>
      let u := book w gf 24 1 s
      match lane with
      | [] => .ok u
      | r :: _ =>
        match firstGroup (fun x => hasRoom u w.cls x r 1) (gN - gf) (gf + 1) with
        | none => .error (0x0B, r)
        | some gn => .ok (book w gn r 1 u)

/-- One player of a housekeeping cue: conversions for a housekeeping input, nothing for an auxiliary one (R430), then the
record. A class B cue books neither (R239). -/
def bookHkPlayer (h : Nat) (e : CueEntry) (t : Nat) (stop : Option Nat) (got : List (Nat × Place)) (s : State) (n : Nat) :
    Except (Nat × Nat) State :=
  let w : For := { handle := h, cls := e.cue.cls, occ := e.occ, spare := false }
  match nodeRec s n with
  | none => .ok s
  | some r =>
    if e.cue.cls = 2 ∨ r.kind = 4 then .ok s
    else if r.kind = 5 then
      ((inputConverters s r.index).foldl
        (fun (a : Except (Nat × Nat) (State × Nat)) v => a.bind (fun x =>
          (bookConversions w v stop (e.cue.points + 2 * horizonGroups) (t / 16) e.cue.points t x.1).map
            (fun y => (y.1, max x.2 y.2)))) (.ok (s, t))).bind (fun x => bookRecord w e x.2 x.1)
    else bookRecord w e (hkLast s e t got r) s

/-! ### One occurrence (R234 to R240) -/

/-- The tick from which point `i` of an occurrence may fire: its start, or for a scan its even share of the sweep. -/
def pointStart (c : CueRec) (t : Nat) (scene : Option FixedScene) (i : Nat) : Nat :=
  match scene with
  | some f => if c.kind = 0 then 20000 * f.start + i * (20000 * f.sweep) / c.points else usTicks * t
  | none => usTicks * t

/-- Timebase µs at which an occurrence that starts at `t` ends: a scan's with its scene (Table 7.1). -/
def occurrenceEnd (s : State) (e : CueEntry) (t : Nat) (scene : Option FixedScene) : Nat :=
  match scene with
  | some f => if e.cue.kind = 0 then 5 * f.stop else t + occurrenceUs s e
  | none => t + occurrenceUs s e

/-- The lane units of the guests of a split cue, in every group from the start to the end of the occurrence (R407). -/
def bookGuests (h : Nat) (e : CueEntry) (t : Nat) (scene : Option FixedScene) (s : State) : Except (Nat × Nat) State :=
  match houseLane s with
  | none => .ok s
  | some l =>
    let w : For := { handle := h, cls := e.cue.cls, occ := e.occ, spare := false }
    let peak := (e.guests.map GuestPart.peak).sum
    let gs := (List.range (ceilDiv (max (t + 1) (occurrenceEnd s e t scene)) 16 - t / 16)).map (· + t / 16)
    if peak = 0 then .ok s
    else if gs.all (fun g => hasRoom s e.cue.cls g (25 + l) peak) then .ok (gs.foldl (fun u g => book w g (25 + l) peak u) s)
    else .error (0x0B, 25 + l)

/-- All shots of one occurrence are placed, battens ascending (R237). -/
def placeAll (h : Nat) (e : CueEntry) (stop : Option Nat) (start : Nat → Nat) (s : State) (got : List (Nat × Place)) :
    List Nat → Except (Nat × Nat) (State × List (Nat × Place))
  | [] => .ok (s, got)
  | b :: r =>
    (layShots stop 0 [] s (occurrencePlaces s h e b e.occ start)).bind (fun x => placeAll h e stop start x.1 (got ++ x.2) r)

/-- Last shots of the points of an occurrence: timebase µs, channel, and whether the point is of the reserve, in the order
in which they fire. -/
def lastShots (s : State) (e : CueEntry) (p : ActProfile) (got : List (Nat × Place)) : List (Nat × Nat × Bool) :=
  let ends := got.filter (fun q => q.2.act == 2 && q.2.idx + 1 == 32 * p.phaseReps)
  (sortBy (fun a b => decide (a.1 ≤ b.1)) (ends.map (fun q => (fireTick s q.1 q.2.batten, q.2)))).flatMap (fun q =>
    (litChannels s e q.2.batten).map (fun c => (q.1 / usTicks, c, q.2.reserve)))

/-- Group `g` has room for a calendar slice of kind `k` on instance `i`: no class S or L booking holds the engine or a batten
of its channels; six conversions are left (Table 13.4, R249). -/
def sliceRoom (s : State) (k i g : Nat) : Bool :=
  match k with
  | 0 =>
    s.sm.books.all (fun b => b.group != g || b.res != i || b.cls == 2)
      && s.sm.slots.all (fun q => slotGroup s q.1 != g || q.2.all (fun p => movable s (q.1, p) || !(sliceBattens s i).contains p.batten))
  | 1 => decide (loadOf s g (29 + i) + 6 ≤ 16)
  | _ => true

/-- The slices placed and not begun that a booking of class S or L has met are placed again (R249). -/
def replaceSlices (s : State) : State :=
  { s with rh := { s.rh with kinds := s.rh.kinds.mapVals (fun k v =>
      { v with placed := v.placed.filter (fun x => sliceRoom s k x.1 x.2) }) } }

/-- The bookings of one occurrence of cue `h` that starts at timebase µs `t`. A first occurrence lies inside the horizon; a
class S one, and one of a standing cue, begins in its last group and may run past its end (R236, R240). -/
def planOccurrence (h : Nat) (t : Nat) (scene : Option FixedScene) (s : State) : Except (Nat × Nat) State :=
  match findCue s h with
  | none => .error (0x02, 0)
  | some e =>
    let force := decide (e.cue.cls = 0)
    let stop := if force ∨ e.occ ≠ 0 then none else some (groupNow s + horizonGroups)
    (placeAll h e stop (pointStart e.cue t scene) s [] (firingBattens s e)).bind (fun x =>
      let booked : Except (Nat × Nat) State :=
        if e.cue.kind = 4 then e.players.foldl (fun a n => a.bind (fun u => bookHkPlayer h e t stop x.2 u n)) (.ok x.1)
        else if e.cue.cls = 2 then .ok x.1
        else match profileOf s e.cue with
          | none => .error (0x02, 0)
          | some p =>
            ((firingBattens s e).foldl (fun (a : Except (Nat × Nat) State) b => a.bind (fun u =>
                bookWords h e none force (litChannels u e b) u (x.2.filter (fun q => q.2.batten == b)))) (.ok x.1)).bind
              (fun u => bookPoints h e p none force u (lastShots u e p x.2))
      (booked.bind (bookGuests h e t scene)).map (fun u => replaceSlices (updCue h (fun c =>
        let keys := if e.cue.kind = 4 then e.players.map (fun n => (4096 + n, 1))
          else (cueChannels s e).map (fun k => (k, e.cue.points))
        { c with
          left := keys.foldl (fun l k => l.upd 0 k.1 (· + k.2)) c.left, occ := c.occ + 1, reason := 0
          hkStarts := if c.cue.kind = 4 then c.hkStarts ++ c.players.map (fun n => (n, t)) else c.hkStarts }) u)))

/-- A later occurrence is refused (R240); the entry keeps the reason (Table 7.3). -/
def refuseOccurrence (h reason : Nat) (s : State) : State :=
  cueProgress h (setEvent evCueRefused (updCue h (fun e =>
      { e with occ := e.occ + 1, refused := e.refused + 1, reason := reason })
    { s with sm := { s.sm with cntRefused := inc32 s.sm.cntRefused } }))

/-- The next occurrence of a cue: its start in µs and its scene, once its group is `upto` or before. -/
def nextOccurrence (s : State) (e : CueEntry) (upto : Nat) : Option (Nat × Option FixedScene) :=
  if allOccurred e || !e.admitted then none
  else if e.cue.kind = 0 then
    match (knownScenes s).find? (fun f => decide (e.nextStart ≤ 5 * f.start)) with
    | some f => if 5 * f.start / 16 ≤ upto then some (5 * f.start, some f) else none
    | none => none
  else if e.nextStart / 16 ≤ upto then some (e.nextStart, none) else none

/-- The conditions of R248 hold off class L on the cue's path: a lane, its engines, the filter pool or the wings port. -/
def pathBlocked (s : State) (e : CueEntry) : Bool :=
  let qs := [e.cue.queue, e.cue.hqueue]
  deviceCond s
    || qs.any (fun q => (queueLane s q).any (fun l => condInForce s 4 l) || (queueResource s q).any (fun r => condInForce s 5 r))
    || (if e.cue.kind = 4 then
          (e.players.filterMap (fun n => nodeIndexOf s n 5)).any (fun i => (inputConverters s i).any (fun r => condInForce s 5 r))
        else (cueChannels s e).any (fun c => condInForce s 5 (engineOf c))
          || (List.range 8).any (fun x => condInForce s 5 (16 + x)))
    || condInForce s 5 24

/-- The occurrences of class S cue `h` that start in group `upto` or before are booked. -/
def admitSafety (fuel upto h : Nat) (s : State) : State :=
  match fuel with
  | 0 => s
  | fuel + 1 =>
    match (findCue s h).bind (fun e => if e.cue.cls = 0 then (nextOccurrence s e upto).map (fun x => (e, x)) else none) with
    | none => s
    | some (e, t, scene) =>
      let u := match planOccurrence h t scene s with
        | .ok x => x
        | .error x => refuseOccurrence h x.1 s
      admitSafety fuel upto h (updCue h (fun x => { x with nextStart := t + e.cue.period }) u)

/-- The last group in which anything is booked. -/
def lastGroup (s : State) : Nat :=
  max ((s.sm.books.map Booking.group).foldl max 0) ((s.sm.slots.map (fun q => slotGroup s q.1)).foldl max 0)

/-- The class S occurrences come first in every group (R223, R236), also in one that an occurrence of another class runs
on into past the horizon's end. -/
def safetyFirst (upto : Nat) (s : State) : State := (handles s).foldl (fun u h => admitSafety 4096 upto h u) s

/-- A later occurrence: planned, and planned again behind the class S occurrences of every group it reaches. -/
def planLater (fuel h t : Nat) (scene : Option FixedScene) (s : State) : Except (Nat × Nat) State :=
  match fuel with
  | 0 => .error (0x06, 0)
  | fuel + 1 =>
    (planOccurrence h t scene s).bind (fun u =>
      let v := safetyFirst (lastGroup u) s
      if (handles s).all (fun k => (findCue v k).map CueEntry.occ == (findCue s k).map CueEntry.occ) then .ok u
      else planLater fuel h t scene v)

/-- The occurrences of cue `h` that lie inside the horizon are admitted or refused, one after another. -/
def admitLater (fuel h : Nat) (s : State) : State :=
  match fuel with
  | 0 => s
  | fuel + 1 =>
    match findCue s h with
    | none => s
    | some e =>
      match nextOccurrence s e s.sm.entered with
      | none => s
      | some (t, scene) =>
        let after := if e.cue.kind = 0 then (scene.map (fun f => 5 * f.stop)).getD (t + 1) else t + e.cue.period
        let u :=
          if e.cue.cls = 1 && pathBlocked s e then refuseOccurrence h 0x10 s
          else match (if e.cue.cls = 0 then planOccurrence h t scene s else planLater 64 h t scene s) with
            | .ok x => x
            | .error x => refuseOccurrence h x.1 s
        admitLater fuel h (updCue h (fun x => { x with nextStart := after }) u)

/-! ### The judgement of a submission (R229) -/

/-- START as a full timebase µs: the register holds its low 32 bits. -/
def fullStart (s : State) (start : Nat) : Int :=
  let d := signed 32 ((start + 2 ^ 32 - tbUs s % 2 ^ 32) % 2 ^ 32)
  (tbUs s : Int) + d

/-- The failing batten of a player that reads Failed or Absent: a batten itself, or one that its channel hangs on; 0 for
any other player (DEDUCED, notes/assumptions/19.md). -/
def failingBatten (s : State) (n : Nat) : Nat :=
  match nodeRec s n with
  | none => 0
  | some r =>
    if r.kind = 3 then r.index
    else if r.kind = 1 then
      ((battenOf s r.index).filter (fun b => !battenEnabled s b || (getBatten s b).faulted)).getD 0
    else 0

/-- Stage 2 of R229: the lowest code that fails; 0 when none does. `h` is the handle the entry would take. -/
def judge (s : State) (e : CueEntry) : Nat × Nat :=
  let c := e.cue
  let exact := s.img.active.any (fun i =>
    decide (c.node < i.nodes.length) && (queueRec s c.queue).isSome
      && (c.hqueue == 0xFFFF || (queueRec s c.hqueue).isSome)
      && (c.kind == 4 || decide (c.profile < i.profiles.length)))
  let ranges := cueInRange c
    && (c.kind == 4 || fld s.hist.ptCfg 17 16 == 0 || c.hqueue != 0xFFFF)
    && (c.period == 0 || decide (occurrenceUs s e ≤ c.period))
    && (c.kind != 4 || decide (2 ≤ c.points) || !e.players.any (fun n => (nodeIndexOf s n 5).isSome))
  let st := fullStart s c.start
  let badStart := c.kind != 0 && c.start != 0 &&
    (decide (st < 16 * (firstOpen s : Int)) || decide (16 * ((groupNow s + horizonGroups : Nat) : Int) ≤ st))
  let noScene := c.kind == 0 && !cueArmed c &&
    !(knownScenes s).any (fun f => decide (16 * firstOpen s ≤ 5 * f.start) && decide (5 * f.start / 16 ≤ s.sm.entered))
  let down := e.players.find? (fun n => decide (3 ≤ nodeLevel s n))
  let guestDown := e.guests.any (fun g => decide (3 ≤ (getLane s g.lane).guest))
  let full := decide (4096 ≤ (s.sm.cues.filter (fun q => q.2.state != 0)).length)
  if !ranges then (0x01, 0)
  else if !exact || (e.players.isEmpty && e.guests.isEmpty) then (0x02, 0)
  else if !classPermitted c.kind c.cls || c.cls == 0 then (0x03, 0)
  else if full && e.state != 1 then (0x04, 0)
  else if down.isSome || guestDown || (c.kind == 0 && s.fs.fault != 0) then (0x05, (down.map (failingBatten s)).getD 0)
  else if badStart || noScene then (0x0E, 0)
  else if c.cls == 1 && pathBlocked s e then (0x10, 0)
  else if c.cls == 2 && flag s.sm.cfg 1 then (0x11, 0)
  else (0, 0)

/-- Code 0x0F: no Show, no image, or ADMIT clear. -/
def shutOut (s : State) : Bool := !inShow s || s.img.active.isNone || !flag s.sm.cfg 0

/-- R237: candidate starts, one group apart; a refusal reports what candidate 0 met. -/
def tryStarts (h : Nat) (s : State) (n c : Nat) (first : Option (Nat × Nat)) : Except (Nat × Nat) (State × Nat) :=
  match n with
  | 0 => .error (first.getD (0x06, 0))
  | n + 1 =>
    let t := 16 * (firstOpen s + c)
    match planOccurrence h t none s with
    | .ok u => .ok (u, t)
    | .error x => tryStarts h s n (c + 1) (some (first.getD x))

/-- The first occurrence of cue `h` is placed; its start comes back. -/
def placeFirst (h : Nat) (e : CueEntry) (s : State) : Except (Nat × Nat) (State × Nat) :=
  if e.cue.kind = 0 then
    match (knownScenes s).find? (fun f => decide (16 * firstOpen s ≤ 5 * f.start)) with
    | none => .error (0x0E, 0)
    | some f => (planOccurrence h (5 * f.start) (some f) s).map (fun u => (u, 5 * f.start))
  else if e.cue.start ≠ 0 ∧ !cueArmed e.cue then
    let t := (max (fullStart s e.cue.start) (16 * (firstOpen s : Int))).toNat
    (planOccurrence h t none s).map (fun u => (u, t))
  else tryStarts h s 64 0 none

/-! ### Entries (R230) -/

def usedIndexes (s : State) : List Nat := (s.sm.cues.filter (fun q => q.2.state != 0)).map Prod.fst

/-- The entry an accepted cue takes: which free one is a free value (notes/assumptions/8.md). -/
def newIndex (s : State) : Nat := nthFree (usedIndexes s) (freeValue s % max 1 (4096 - (usedIndexes s).length))

def newGen (s : State) (i : Nat) : Nat := (((s.sm.cues.find i).map CueEntry.gen).getD 0) % 15 + 1

/-- The entry of a submission, with its expansion. -/
def entryFor (s : State) (c : CueRec) (src : Source) : CueEntry :=
  { cue := c, source := src, state := 2, players := playersOf s c.node (actsOn c.kind)
    guests := (guestsOf s c.node).map (fun l => { lane := l }) }

/-- The entry is put into the table; its handle comes back. -/
def enterCue (e : CueEntry) (s : State) : Nat × State :=
  let i := newIndex s
  let g := newGen s i
  (i + 4096 * g, tookFree { s with sm := { s.sm with
    cues := s.sm.cues.set i { e with gen := g, order := s.sm.orders }, orders := s.sm.orders + 1 } })

/-- What follows the placing of the first occurrence: the start, and the occurrences already inside the horizon. -/
def afterFirst (h t : Nat) (s : State) : State :=
  let u := updCue h (fun e =>
    { e with
      start := t
      nextStart := if e.cue.kind = 0 then
          (((knownScenes s).find? (fun f => decide (5 * f.start = t))).map (fun f => 5 * f.stop)).getD (t + 1)
        else t + e.cue.period }) s
  refreshConds (admitLater 2000 h u)

/-! ### The answer (R228) -/

/-- SM_SUBMIT_RES as a word. -/
def submitResult (busy accept : Bool) (reason resource handle : Nat) : W32 :=
  word [(31, 1, bn busy), (30, 1, bn accept), (24, 6, reason), (16, 8, resource), (0, 16, handle)]

/-- PEAK of a DECISION: the largest booking of the cue on a house lane in any group (R407). -/
def lanePeak (s : State) (h : Nat) : Nat :=
  let mine := s.sm.books.filter (fun b => b.handle == h && (b.res == 25 || b.res == 26))
  (mine.map (fun b => ((mine.filter (fun x => x.group == b.group && x.res == b.res)).map Booking.amount).sum)).foldl max 0

/-- The decision is counted and given to the sender. -/
def answer (src : Source) (accept : Bool) (reason resource handle start : Nat) (s : State) : State :=
  let u := { s with sm := { s.sm with
    cntAccept := satAdd 32 s.sm.cntAccept (bn accept), cntReject := satAdd 32 s.sm.cntReject (bn !accept) } }
  let toHouse := sendHouse 1 0x02 (leBytes 4 (submitResult false accept reason resource handle).toNat ++ leBytes 4 start
    ++ leBytes 2 (lanePeak u handle) ++ leBytes 6 0) u
  match src with
  | .lane _ => toHouse
  | .calendar _ => toHouse
  | .trigger _ => u
  | _ =>
    { u with sm := { u.sm with
        resBusy := false, resAccept := accept, resReason := reason, resResource := resource
        resHandle := handle, subStart := BitVec.ofNat 32 start } }

/-- An armed cue refused at its trigger ends Refused (R241). -/
def refuse (src : Source) (x : Nat × Nat) (s : State) : State :=
  let u := match src with
    | .trigger h => endCue h 3 x.1 0 s
    | _ => s
  answer src false x.1 x.2 0 0 u

/-! ### The decision (R229, R237, R405) -/

/-- BOUND of a guest's part. -/
def guestBound (c : CueRec) : Nat := c.bound - 3

/-- CUE messages to the guests of a split cue, on VC1 as R405 and Table 11.8 say; R31 speaks of VC5 (DESIGN CHOICE,
notes/assumptions/36.md). -/
def sendGuests (e : CueEntry) (s : State) : State :=
  e.guests.foldl (fun u g => sendMsg g.lane 1 0x01 (cueBytes { e.cue with node := 0, bound := guestBound e.cue } 0) u) s

/-- The local part of cue `h` has been placed; `u` holds its bookings. A split cue waits for its guests. -/
def accepted (h t : Nat) (src : Source) (u : State) : State :=
  match findCue u h with
  | none => u
  | some e =>
    let v := updCue h (fun x => { x with state := 2, start := t }) u
    if e.guests.isEmpty then answer src true 0 0 h t (afterFirst h t v)
    else { sendGuests e v with sm := { (sendGuests e v).sm with deciding := some (h, src) } }

/-- The reason for a refusal while both die-to-die links are lost (R18) is stated nowhere: a free value. -/
def lostReason (s : State) : Nat := 1 + freeValue s % 17

/-- R391: a 1.0 house link carries no VC5 upstream, so no cue may reach a guest. -/
def oldHouse (s : State) : Bool := (houseLane s).any (fun l => decide ((getLane s l).ver < 0x11))

/-- The submission is that of an armed cue that has ended since its trigger (R252). -/
def withdrawn (x : Submission) (s : State) : Bool :=
  match x.source with
  | .trigger h => !(findCue s h).any (fun e => e.state == 1)
  | _ => false

/-- A submission is decided. An armed cue is admitted at its trigger, and takes its place in the order of admission then
(R236, R241). -/
def decide1 (x : Submission) (s : State) : State :=
  if withdrawn x s then s else
  let old := match x.source with
    | .trigger h => (findCue s h).map (fun e => (h, e))
    | _ => none
  let e := match old with
    | some p => { p.2 with players := playersOf s p.2.cue.node (actsOn p.2.cue.kind) }
    | none => entryFor s x.cue x.source
  if shutOut s then refuse x.source (0x0F, 0) s
  else if linkCount s = 0 then refuse x.source (lostReason s, 0) (tookFree s)
  else
    let j := judge s e
    if j.1 ≠ 0 then refuse x.source j s
    else if e.guests ≠ [] ∧ oldHouse s then refuse x.source (0x0B, 25 + (houseLane s).getD 0) s
    else if e.guests ≠ [] ∧ e.cue.cls ≠ 2 ∧ guestBound e.cue < 48 then refuse x.source (0x0D, 0) s
    else if cueArmed e.cue && old.isNone then
      let p := enterCue { e with state := 1 } s
      answer x.source true 0 0 p.1 0 p.2
    else
      let p := match old with
        | some q => (q.1, updCue q.1 (fun _ => { e with state := 2, order := s.sm.orders })
            { s with sm := { s.sm with orders := s.sm.orders + 1 } })
        | none => enterCue e s
      match placeFirst p.1 e p.2 with
      | .ok (u, t) => accepted p.1 t x.source u
      | .error r => refuse x.source r (tookFree s)

/-- ADMISSION_DECISION: the submission that came first is decided, unless a split cue still waits. -/
def decideNext (s : State) : State :=
  if s.sm.deciding.isSome then s
  else
    match s.sm.fifo with
    | [] => s
    | x :: r => decide1 x { s with sm := { s.sm with fifo := r } }

/-- A split cue is not admitted: with reason `x`, or as it was aborted meanwhile. Its guest parts are undone (R241, R405). -/
def undoSplit (h : Nat) (e : CueEntry) (src : Source) (x : Nat × Nat) (s : State) : State :=
  match src with
  | .trigger _ =>
    let u := updCue h (fun c => { c with guests := c.guests.filter (fun g => g.accepted.isSome) })
      (disownGuests (e.guests.filter (fun g => g.accepted.isNone)) s)
    match e.status with
    | some st => endCue h st.1 st.2.1 st.2.2 u
    | none => refuse src x u
  | _ => answer src false x.1 x.2 0 0 (updCue h (fun c => { c with state := 0 }) (releaseCue h (disownGuests e.guests s)))

/-- A split cue is admitted: one that was aborted meanwhile ends. -/
def joinSplit (h : Nat) (e : CueEntry) (src : Source) (s : State) : State :=
  let u := answer src true 0 0 h e.start (if e.status.isSome then s else afterFirst h e.start s)
  match e.status with
  | some st => endCue h st.1 st.2.1 st.2.2 u
  | none => u

/-- The guests' decisions are complete: the cue is accepted, or its parts are undone (R405, R407). -/
def finishSplit (s : State) : State :=
  match s.sm.deciding with
  | none => s
  | some (h, src) =>
    match findCue s h with
    | none => { s with sm := { s.sm with deciding := none } }
    | some e =>
      if e.guests.any (fun g => g.accepted.isNone) then s
      else
        let u := { s with sm := { s.sm with deciding := none } }
        let undo := fun (x : Nat × Nat) => undoSplit h e src x u
        let scene := (knownScenes u).find? (fun f => decide (5 * f.start = e.start))
        let down := e.players.find? (fun n => decide (3 ≤ nodeLevel u n))
        match e.guests.find? (fun g => g.accepted == some false) with
        | some g => undo (g.reason, 0xFF)
        | none =>
          if linkCount u = 0 then undo (lostReason u, 0)
          else if down.isSome || (e.cue.kind == 0 && u.fs.fault != 0) then undo (0x05, (down.map (failingBatten u)).getD 0)
          else
          match if e.status.isSome then .ok u else bookGuests h e e.start scene u with
          | .error x => undo x
          | .ok v => joinSplit h e src v

/-- A submission joins the queue of the stage manager (R227). -/
def submit (x : Submission) (s : State) : State := { s with sm := { s.sm with fifo := s.sm.fifo ++ [x] } }

/-! ### Class S (R224, R236) -/

/-- The class S cues start at entry to Show: an entry for each class S template, its occurrences from the first whole
safety-cue period on, also while both die-to-die links are lost (R18, R224; DESIGN CHOICE, notes/assumptions/19.md). A
template that needs a faulted batten is not admitted (R132; DEDUCED, notes/assumptions/20.md). -/
def startSafetyCues (s : State) : State :=
  match s.img.active with
  | none => s
  | some i =>
    (i.templates.filter (fun c => c.cls == 0)).foldl (fun u c =>
      let e := entryFor u c .template
      if u.bat.ch.any (fun q => q.2.faulted && needsBatten u q.1 e) then u
      else
        let p := enterCue e u
        let n := ceilDiv (16 * firstOpen u - c.start) c.period
        let first := n * c.period + c.start
        admitLater 100000 p.1 (updCue p.1 (fun x => { x with start := first, nextStart := first }) p.2)) s

/-- Handles in order of admission, class S first. -/
def inOrder (s : State) : List Nat :=
  let live := s.sm.cues.filter (fun q => q.2.admitted)
  let le := fun (a b : Nat × CueEntry) => decide (a.2.order ≤ b.2.order)
  ((sortBy le (live.filter (fun q => q.2.cue.cls == 0))) ++ (sortBy le (live.filter (fun q => q.2.cue.cls != 0)))).map
    (fun q => handleOf q.1 q.2)

/-- What lies before the running group is forgotten. -/
def pruneCalendar (s : State) : State :=
  { s with sm := { s.sm with
      books := s.sm.books.filter (fun b => decide (groupNow s ≤ b.group))
      slots := s.sm.slots.filter (fun q => decide (s.bat.slot ≤ q.1)) } }

/-! ### Rehearsal slices (R249, R469, R470) -/

/-- Instances of a kind (R470). -/
def sliceInstances (k : Nat) : Nat :=
  match k with
  | 0 => 16
  | 1 => 2
  | 2 => 4
  | 3 => 4
  | 4 => 2
  | _ => 0

def getKind (s : State) (k : Nat) : SliceKind := s.rh.kinds.get {} k

def updKind (k : Nat) (f : SliceKind → SliceKind) (s : State) : State :=
  { s with rh := { s.rh with kinds := s.rh.kinds.upd {} k f } }

def sliceEnabled (s : State) (k : Nat) : Bool := decide (k < 5) && flag s.rh.ctrl k

/-- Channels a work-light slice of engine `i` holds. -/
def sliceChannels (i : Nat) : List Nat := (sliceSegments i).flatMap segmentChannels

/-- The slice's capacity is free, for a calendar slice in group `g` (Table 13.4, R249). -/
def sliceFree (s : State) (k g i : Nat) : Bool :=
  match k with
  | 2 => !(s.hk.turn.any (fun n => ((s.img.active.map Image.hk).bind (fun h => h.aux[n]?)).any (fun a => a.exc == i)))
  | 3 => decide ((getLane s i).state ∈ [.off, .detect, .halt])
  | 4 => !((getOut s i).hs || (getOut s i).ls)
  | _ => sliceRoom s k i g

/-- The instance that comes next: the first from the cycle's place on whose capacity is free in group `g`. -/
def nextInstance (s : State) (k g : Nat) : Option Nat :=
  let n := sliceInstances k
  ((List.range n).map (fun j => ((getKind s k).next + j) % max 1 n)).find? (sliceFree s k g)

/-- Provisional class B shots that a work-light slice displaces from group `g` move on (R249). -/
def yieldBulk (i g : Nat) (s : State) : State :=
  let hit := fun (q : Nat × Place) => movable s q && (sliceBattens s i).contains q.2.batten
  moveDisplaced (((s.sm.slots.filter (fun q => slotGroup s q.1 == g)).flatMap (fun q => q.2.map (fun p => (q.1, p)))).filter hit) s

/-- A calendar slice of kind `k` is placed in the next group or the one after it, where it has none (R249). -/
def placeSlice (s : State) (k : Nat) : State :=
  let now := groupNow s
  let v := getKind s k
  if !sliceEnabled s k || !s.rh.drDone || v.running.isSome || v.placed.any (fun x => decide (now ≤ x.2)) then s
  else
    match [now + 1, now + 2].findSome? (fun g => (nextInstance s k g).map (fun i => (i, g))) with
    | none => updKind k (fun x => { x with placed := none }) s
    | some x =>
      let u := updKind k (fun y => { y with placed := some x }) s
      if k = 0 then yieldBulk x.1 x.2 u else u

/-- A group enters the horizon (R236, R240, R290). -/
def advanceCalendar (s : State) : State :=
  if inShow s && decide (s.sm.entered + 1 < groupNow s + horizonGroups) then
    let u := pruneCalendar { s with sm := { s.sm with entered := s.sm.entered + 1 } }
    let v := fixScenes 16 u
    refreshConds (placeSlice (placeSlice ((inOrder v).foldl (fun x h => admitLater 64 h x) v) 0) 1)
  else s

end Sys2Proof.Machine
end

