-- ==== Sys2Proof/Machine/SafetyOps.lean ====
section
/-! DEFINITION. Machine safety: the two evaluators, the safety boundary, causes and resets, safety inputs and safe
outputs (R302 to R328). -/

namespace Sys2Proof.Machine

/-! ### Causes (Table 9.4, R324) -/

/-- Causes of class Demand. -/
def demandCauses : List Nat := [0x01, 0x02, 0x03, 0x04, 0x05, 0x07, 0x08, 0x0B, 0x0D, 0x12]

/-- An input of the block with role `r` is open in its filtered state. -/
def inputOpen (s : State) (r : Nat) : Bool :=
  (safetyBlock s).any (fun b => (List.range 4).any (fun i =>
    (b.sin[i]?).any (fun c => c.role == r) && (s.saf.inputs.get {} i).state == some .opened))

/-- Some evaluated input shows a discrepancy that has lasted. -/
def inputFault (s : State) : Bool :=
  (safetyBlock s).any (fun b => (List.range 4).any (fun i =>
    (b.sin[i]?).any (fun c => c.role != 0) && (s.saf.inputs.get {} i).fault))

/-- Causes whose condition exists now, apart from what an evaluation finds. -/
def standing (s : State) : BitVec 20 :=
  let bit := fun (b : Bool) (c : Nat) => if b then causeBit c else 0
  bit (inputOpen s 1) 0x07 ||| bit (inputOpen s 2) 0x08 ||| bit (inputFault s) 0x09
    ||| bit (s.saf.sirel.up && !s.saf.sirel.run) 0x0D ||| bit (s.fs.fault != 0 && gatedField s) 0x0F
    ||| bit (decide (linkCount s = 0)) 0x10 ||| bit (s.th.railLow.getLsbD 1) 0x11 ||| bit (!inShow s) 0x12

/-- Each output that gave cause 0x0A has passed an off-state test since. -/
def outputsSound (s : State) : Bool :=
  (!s.saf.outA.fault || s.saf.outA.offOk) && (!s.saf.outB.fault || s.saf.outB.offOk)

/-- Cause `c` may clear: its condition was absent throughout the period. -/
def mayClear (s : State) (c : Nat) : Bool := !s.saf.present.getLsbD c && (c != 0x0A || outputsSound s)

/-- The causes in `cs` that may clear do so. -/
def clearCauses (cs : List Nat) (s : State) : State :=
  let gone := cs.filter (fun c => s.saf.causes.getLsbD c && mayClear s c)
  let m := gone.foldl (fun m c => m ||| causeBit c) 0
  let fault := fun (o : SafeOutput) => if gone.contains 0x0A then { o with fault := false } else o
  { s with saf := { s.saf with causes := s.saf.causes &&& ~~~m, outA := fault s.saf.outA, outB := fault s.saf.outB } }

/-- A valid reset at a boundary (R324). -/
def applyReset (s : State) : State :=
  if s.saf.resetReq then
    clearCauses ((List.range 19).map (· + 1)) { s with saf := { s.saf with resetReq := false } }
  else s

/-- RESTART 1: a Demand other than 0x08 clears after two consecutive periods without its condition. -/
def autoRestart (s : State) : State :=
  let u := { s with saf := { s.saf with absent := (List.range 20).foldl (fun t c =>
    t.set c (if s.saf.present.getLsbD c then 0 else t.get 0 c + 1)) s.saf.absent } }
  if (safetyBlock s).any (fun b => b.restart == 1) then
    clearCauses (demandCauses.filter (fun c => c != 0x08 && decide (2 ≤ u.saf.absent.get 0 c))) u
  else u

/-! ### Spikes (R310 to R313) -/

/-- The main evaluator's position of a spike (R310). -/
def mainPosition (s : State) (k : SpikeRec) : Option Int :=
  let one := fun (c : Nat) =>
    let good := fun (m : MainDatum) => m.returns.filter (fun r =>
      decide (1024 * k.near ≤ r.1) && decide (r.1 ≤ 1024 * k.far + 1023) && decide (k.ampMin ≤ r.2))
    ((s.saf.mainData.filter (fun m => m.channel == c && !(good m).isEmpty)).getLast?).bind (fun m =>
      ((good m).foldl (fun (a : Option (Nat × Nat)) r =>
        match a with
        | none => some r
        | some x => if x.2 < r.2 ∨ (x.2 = r.2 ∧ r.1 < x.1) then some r else a) none).map Prod.fst)
  let ps := k.mainCh.filterMap one
  if ps = [] then none else some (Int.fdiv (ps.sum : Nat) ps.length)

/-- Words of reference channel `r` in the period. -/
def refWords (s : State) (r : Nat) : List FlyDatum := s.saf.flyData.filter (fun d => d.channel == 1536 + r)

/-- R310: the reference channel's mean stop lies within REF_NOM ± 1. -/
def refPasses (s : State) (b : SafetyBlock) (r : Nat) : Bool :=
  let st := ((refWords s r).filter (fun d => wordOutcome d.word == outStop)).map (fun d => wordStop d.word)
  let nom := ((b.refs[r]?).map RefRec.refNom).getD 0
  st != [] && decide ((st.sum : Int) ≤ (nom + 1) * st.length) && decide (((nom : Int) - 1) * st.length ≤ st.sum)

/-- The stop of the reference channel on the same shot. -/
def refStop (s : State) (r : Nat) (d : FlyDatum) : Option Nat :=
  ((refWords s r).find? (fun x => x.batten == d.batten && x.start == d.start && wordOutcome x.word == outStop)).map
    (fun x => wordStop x.word)

/-- The usable words of a channel, each with its reference channel and reference stop. -/
def usable (s : State) (b : SafetyBlock) (c : Nat) : List (FlyDatum × Nat × Nat) :=
  (s.saf.flyData.filter (fun d => d.channel == c && wordOutcome d.word != outVoid)).filterMap (fun d =>
    (refOf s d.batten).bind (fun r => if refPasses s b r then (refStop s r d).map (fun v => (d, r, v)) else none))

/-- The flyman's position of a spike (R310); none when fewer than FLY_MIN stops are used. -/
def flyPosition (s : State) (b : SafetyBlock) (k : SpikeRec) : Option Int :=
  let all := (k.flyCh.flatMap (usable s b)).filter (fun x => wordOutcome x.1.word == outStop)
  let inBand := all.filter (fun x => decide (k.near ≤ wordStop x.1.word) && decide (wordStop x.1.word ≤ k.far))
  match modeOf (inBand.map (fun x => wordStop x.1.word)) with
  | none => none
  | some m =>
    let taken := all.filter (fun x => decide (m ≤ wordStop x.1.word + 1) && decide (wordStop x.1.word ≤ m + 1))
    if taken.length < k.flyMin then none
    else
      let q := taken.map (fun x =>
        let p : Int := bitrev5 (x.1.idx % 32)
        (1024 * (wordStop x.1.word : Int) - 32 * p + 512) - (1024 * (x.2.2 : Int) - 32 * p + 512)
          + ((b.refs[x.2.1]?).map RefRec.lpOfs).getD 0)
      some (Int.fdiv (sumInt q) taken.length)

/-- One evaluator's view of a spike after period `n` (R311, R312). A sighting counts toward the speed while the curtain is up;
`up` says that it has ever been, `inc` that SDI permits increasing positions. -/
def SpikeEval.next (v : SpikeEval) (p n : Nat) (curtain up inc : Bool) (pos : Option Int) : SpikeEval :=
  match pos with
  | none => { v with seen := false, unseen := v.unseen + 1 }
  | some x =>
    let sp := match v.lastSeen with
      | some m => if curtain ∧ 1 ≤ v.sightings ∧ m < n then some (Int.tdiv ((x - v.pos) * 1000) (((n - m) * p : Nat) : Int)) else none
      | none => none
    let ext := match v.ext with
      | some e => some (if inc then max e x else min e x)
      | none => if up then some x else none
    { pos := x, seen := true, lastSeen := some n, sightings := if curtain then v.sightings + 1 else 0, speed := sp, unseen := 0, ext := ext }

/-- The causes a spike raises in one evaluator (R312, R313). -/
def spikeDemands (k : SpikeRec) (v : SpikeEval) : List Nat :=
  let has := fun (i : Nat) => k.funcs / 2 ^ i % 2 == 1
  let lost := if !v.seen && decide (k.lostMax ≤ v.unseen) then [0x05] else []
  if !v.seen then lost
  else
    let outside := fun (x : Int) => decide (x < k.posLo) || decide (k.posHi < x)
    let sls := has 0 && v.speed.any (fun q => decide (k.slsMax < q.natAbs))
    let slp := has 1 && (outside v.pos || v.speed.any (fun q => outside (v.pos + q * k.look)))
    let sdi := has 2 && v.speed.isSome && v.ext.any (fun e =>
      if k.dir = 1 then decide (v.pos < e - k.sdiTol) else decide (e + k.sdiTol < v.pos))
    (if sls then [0x02] else []) ++ (if slp then [0x03] else []) ++ (if sdi then [0x04] else [])

/-! ### Fields (R315 to R319) -/

/-- The field is active for an evaluator. -/
def fieldActive (e : Evaluator) (f : FieldRec) : Bool :=
  f.spikeSel == 0xFF ||
    let v := e.spikes.get {} f.spikeSel
    !v.seen || (decide (f.actLo ≤ v.pos) && decide (v.pos ≤ f.actHi))

def inBand (f : FieldRec) (az : Nat) : Bool := decide (f.azLo ≤ az) && decide (az ≤ f.azHi)

/-- A main entry has a hit, is uncovered, or misses its background. -/
def mainViolated (s : State) (f : FieldRec) (x : FieldEntry) : Bool :=
  let ps := s.saf.mainData.filter (fun m => m.channel == x.channel && inBand f m.azimuth)
  let ret := fun (lo hi : Nat) => ps.any (fun m => m.returns.any (fun r =>
    decide (1024 * lo ≤ r.1) && decide (r.1 ≤ 1024 * hi + 1023)))
  ps.isEmpty || ret x.near x.far || (f.bg && !ret (x.far + 1) x.bgFar)

/-- A FLY entry has a hit, is uncovered, or misses its background. -/
def flyViolated (s : State) (b : SafetyBlock) (f : FieldRec) (x : FieldEntry) : Bool :=
  let ws := (usable s b x.channel).filter (fun y => inBand f y.1.azimuth)
  let n := fun (lo hi : Nat) => (ws.filter (fun y => wordOutcome y.1.word == outStop
    && decide (lo ≤ wordStop y.1.word) && decide (wordStop y.1.word ≤ hi))).length
  decide (ws.length < 16) || decide (f.flyHits ≤ n x.near x.far) || (f.bg && decide (n (x.far + 1) x.bgFar < f.flyHits))

/-- One evaluator's field counts after a period: field id, active, violated. -/
def evalFields (s : State) (b : SafetyBlock) (fly : Bool) (e : Evaluator) : List (FieldRec × Bool × Bool) :=
  b.fields.map (fun f =>
    let mine := f.entries.filter (fun x => (chEntry s x.channel).any ChEntry.fly == fly)
    let act := fieldActive e f
    (f, act, act && mine.any (fun x => if fly then flyViolated s b f x else mainViolated s f x)))

/-! ### One evaluator's period -/

/-- What an evaluation finds: the evaluator after it, the causes it raises, the spikes and fields concerned. -/
structure Verdict where
  eval   : Evaluator
  causes : List Nat
  spikes : List Nat
  viol   : List Nat
  active : List Nat
  deriving DecidableEq, Repr

/-- One evaluator evaluates period `n` of length `p` µs. -/
def evaluate (s : State) (b : SafetyBlock) (fly : Bool) (p n : Nat) (e : Evaluator) : Verdict :=
  let spikes := b.spikes.foldl (fun (t : Tab SpikeEval) k =>
    t.set k.spikeId ((t.get {} k.spikeId).next p n s.saf.curtain s.saf.everUp (k.dir != 2)
      (if fly then flyPosition s b k else mainPosition s k))) e.spikes
  let e1 := { e with spikes := spikes }
  let fs := evalFields s b fly e1
  let runs := fs.foldl (fun (t : Tab Nat) q =>
    t.set q.1.fieldId (if q.2.2 then t.get 0 q.1.fieldId + 1 else 0)) e.fieldRun
  let dem := b.spikes.map (fun k => (k.spikeId, spikeDemands k (spikes.get {} k.spikeId)))
  let hit := fs.any (fun q => q.2.2 && decide (q.1.persist ≤ runs.get 0 q.1.fieldId))
  { eval := { e1 with fieldRun := runs }
    causes := (if hit then [0x01] else []) ++ dem.flatMap Prod.snd
    spikes := (dem.filter (fun q => q.2 != [])).map Prod.fst
    viol := (fs.filter (fun q => q.2.2)).map (fun q => q.1.fieldId)
    active := (fs.filter (fun q => q.2.1)).map (fun q => q.1.fieldId) }

/-- R314: the cross-check of every spike that both evaluators see: the counts, whether one has reached XCHK_N, and whether a
comparison failed. -/
def crossCheck (b : SafetyBlock) (m f : Evaluator) (runs : Tab Nat) : Tab Nat × Bool × Bool :=
  b.spikes.foldl (fun (a : Tab Nat × Bool × Bool) k =>
    let x := m.spikes.get {} k.spikeId
    let y := f.spikes.get {} k.spikeId
    if x.seen && y.seen then
      if within x.pos y.pos b.xtol.toNat then (a.1.set k.spikeId 0, a.2.1, a.2.2)
      else
        let n := a.1.get 0 k.spikeId + 1
        (a.1.set k.spikeId n, a.2.1 || decide (b.xchkN ≤ n), true)
    else a) (runs, false, false)

def bits64 (l : List Nat) : BitVec 64 := l.foldl (fun m i => m ||| (1#64 <<< i)) 0
def bits32 (l : List Nat) : BitVec 32 := l.foldl (fun m i => m ||| (1#32 <<< i)) 0

/-- An evaluator after period `n` that did not end in Show: it gives no permit, and a spike was seen in that period if data that
came before Show was left give its position (R302, R341). -/
def idlePeriod (s : State) (b : SafetyBlock) (fly : Bool) (p n : Nat) (e : Evaluator) : Evaluator :=
  { e with
    permit := false
    spikes := b.spikes.foldl (fun (t : Tab SpikeEval) k =>
      match if fly then flyPosition s b k else mainPosition s k with
      | some x => t.set k.spikeId ((t.get {} k.spikeId).next p n s.saf.curtain s.saf.everUp (k.dir != 2) (some x))
      | none => t) (e.spikes.mapVals (fun _ v => { v with seen := false })) }

/-- Both evaluators evaluate the ended period `n` (R308); the causes raised come back. Spikes and fields are evaluated in
Show, where class S cues run. -/
def evaluateBoth (b : SafetyBlock) (n : Nat) (s : State) : List Nat × State :=
  if inShow s then
    let p := safetyP s
    let m := evaluate s b false p n s.saf.main
    let f := evaluate s b true p n s.saf.fly
    let x := crossCheck b m.eval f.eval s.saf.xchkRun
    let mainOk := m.causes == [] && !x.2.1
    let flyOk := f.causes == [] && !x.2.1
    (m.causes ++ f.causes ++ (if x.2.1 then [0x06] else []),
      { s with saf := { s.saf with
          main := { m.eval with permit := s.saf.main.permit && mainOk }, fly := { f.eval with permit := flyOk }
          verdict := mainOk
          spikeViol := bits64 (m.spikes ++ f.spikes), fieldViol := bits32 (m.viol ++ f.viol)
          fieldAct := bits32 (m.active ++ f.active)
          xchkRun := x.1, cntXchk := if x.2.2 then inc32 s.saf.cntXchk else s.saf.cntXchk } })
  else
    ([], { s with saf := { s.saf with
      main := idlePeriod s b false (safetyP s) n s.saf.main, fly := idlePeriod s b true (safetyP s) n s.saf.fly, verdict := false
      spikeViol := 0, fieldViol := 0, fieldAct := 0 } })

/-- The end of period `n` but for the STATUS frame: evaluation, block copies, resets, and the count of good periods. -/
def endPeriod (n : Nat) (mainCopy flyCopy : Bool) (s : State) : State :=
  match safetyBlock s with
  | none => s
  | some b =>
    let ev := evaluateBoth b n s
    let raised := ev.1 ++ (if mainCopy && flyCopy then [] else [0x13])
    let u := raised.foldl (fun x c => latchCause c x) ev.2
    let w := { u with saf := { u.saf with present := u.saf.present ||| standing u } }
    let calm := inShow w && demandCauses.all (fun c => !w.saf.present.getLsbD c)
    let x := autoRestart (applyReset w)
    { x with saf := { x.saf with
        good := if calm then x.saf.good + 1 else 0
        present := standing x, mainData := [], flyData := []
        period := inc32 x.saf.period, boundary := n + 2, boundaryAt := x.now, gotPermit := false } }

/-! ### Permits (R303) -/

/-- A permit is missing or mismatched: cause 0x0E. -/
def badPermit (s : State) : State :=
  latchCause 0x0E { s with saf := { s.saf with missing := s.saf.missing + 1 } }

/-- The flyman's own count of the running period, modulo 2^24. -/
def flyPeriod (s : State) : Nat := (s.saf.boundary - 1) % 2 ^ 24

/-! ### Safety inputs (R321 to R323) -/

/-- The state two channels show under a MODE. -/
def inputState (mode : Nat) (a b : Bool) : InState :=
  let x := if mode = 1 then !b else b
  if a == x then (if a then .closed else .opened) else .discrepant

/-- One input takes a sample. The flag says whether its release is a valid reset. -/
def SafeInput.sample (now : Nat) (cfg : SinCfg) (count : Bool) (a b : Bool) (v : SafeInput) : SafeInput × Bool :=
  let st := inputState cfg.mode a b
  let run := if v.raw = some st then v.persist + 1 else 0
  let counted := decide (cfg.filt ≤ run)
  let was := v.state
  let cur := if counted then some st else was
  let closes := cur == some .closed && was != some .closed
  let opens := cur == some .opened && was != some .opened
  let held := if was == some .closed then now - v.closedAt.getD now else v.closedFor
  let release := opens && v.closedAt.isSome && decide (msTicks * 100 ≤ held) && decide (held ≤ 5 * secTicks)
  let so := v.seenOpen || (count && cur == some .opened)
  ({ v with
      a := a, b := b, raw := some st, persist := run, state := cur
      discSince := if st = .discrepant then some (v.discSince.getD now) else none
      closedAt := if closes then some now else if cur = some .opened then none else v.closedAt
      closedFor := if was == some .closed then held else v.closedFor
      fault := v.fault && st == .discrepant
      seenOpen := so, seenClosed := v.seenClosed || (count && so && cur == some .closed) }, release)

/-- Every guard input has been seen open and then closed (R323). -/
def guardTested (b : SafetyBlock) (t : Tab SafeInput) : Bool :=
  (List.range 4).all (fun i => (b.sin[i]?).all (fun c => c.role != 1 || (t.get {} i).seenClosed))

/-- The guard start-up test restarts (R323). -/
def restartGuard (s : State) : State :=
  { s with saf := { s.saf with
      guardDone := false
      inputs := s.saf.inputs.mapVals (fun _ v => { v with seenOpen := false, seenClosed := false }) } }

/-- Input `i` takes its sample. -/
def sampleInput (b : SafetyBlock) (levels : List Bool) (s : State) (i : Nat) : State :=
  match b.sin[i]? with
  | none => s
  | some c =>
    let r := (s.saf.inputs.get {} i).sample s.now c s.rh.drPass (levels.getD (2 * i) false) (levels.getD (2 * i + 1) false)
    if c.role = 0 then
      { s with saf := { s.saf with inputs := s.saf.inputs.set i { r.1 with fault := false } } }
    else
      let u := { s with saf := { s.saf with inputs := s.saf.inputs.set i r.1 } }
      if c.role = 1 && r.1.state == some .opened then latchCause 0x07 u
      else if c.role = 2 && r.1.state == some .opened then latchCause 0x08 u
      else if c.role = 3 && r.2 then
        { u with saf := { u.saf with resetReq := true, sirel := { u.saf.sirel with released := u.saf.sirel.released || u.saf.sirel.commWait } } }
      else u

/-- VDD_SAFE is absent: it lies below its reset threshold (R446; DEDUCED, notes/assumptions/45.md). -/
def safeAbsent (s : State) : Bool := s.th.railLow.getLsbD 1

/-- The levels of the eight pins as the device reads them: all low while VDD_SAFE is absent (R495). -/
def readLevels (s : State) (levels : List Bool) : List Bool := levels.map (fun x => x && !safeAbsent s)

/-- PWR_GL_SIN.LEVEL of eight levels. -/
def levelBits (levels : List Bool) : BitVec 8 :=
  (List.range 8).foldl (fun w i => if levels.getD i false then w ||| (1#8 <<< i) else w) 0

/-- All four inputs, then the guard start-up test. -/
def sampleRead (levels : List Bool) (s : State) : State :=
  match safetyBlock s with
  | none =>
    { s with saf := { s.saf with inputs := (List.range 4).foldl (fun t i =>
        t.upd {} i (fun v => { v with a := levels.getD (2 * i) false, b := levels.getD (2 * i + 1) false })) s.saf.inputs } }
  | some b =>
    let u := (List.range 4).foldl (sampleInput b levels) s
    { u with saf := { u.saf with guardDone := u.saf.guardDone || (u.rh.drPass && guardTested b u.saf.inputs) } }

/-- SAFETY_INPUT_SAMPLE with the levels at the pins. -/
def sampleInputs (levels : List Bool) (s : State) : State :=
  let l := readLevels s levels
  sampleRead l { s with gl := { s.gl with sinLevel := levelBits l } }

/-! ### Safe outputs (R325 to R328) -/


def setOut (o : Nat) (v : SafeOutput) (s : State) : State :=
  if o = 0 then { s with saf := { s.saf with outA := v } } else { s with saf := { s.saf with outB := v } }

/-- A reading of output `o` fails: cause 0x0A, and the output must pass an off-state test anew. -/
def outputFault (o : Nat) (s : State) : State :=
  latchCause 0x0A (setOut o { getOut s o with fault := true, offOk := false } s)

/-- The curtain rises: both outputs closed, and SDI restarts (R313, R326). -/
def raiseCurtain (s : State) : State :=
  let fresh := fun (e : Evaluator) => { e with spikes := e.spikes.mapVals (fun _ v => { v with ext := none }) }
  setEvent evCurtain { s with saf := { s.saf with
    curtain := true, everUp := true, main := fresh s.saf.main, fly := fresh s.saf.fly
    outA := { s.saf.outA with hs := true, ls := true }, outB := { s.saf.outB with hs := true, ls := true } } }

/-- Step 2 of Table 9.7 passes for an output. -/
def raiseStep2 (p : PinRead) : Bool := !p.hs && !p.ls

/-- Step 4 of Table 9.7 passes for an output. -/
def raiseStep4 (p : PinRead) : Bool := p.hs && !p.ls

/-- The device time at which the next scheduled test of output `o` falls (R327). -/
def testDue (s : State) (b : SafetyBlock) (o : Nat) : Nat :=
  s.saf.showAt + b.tpInterval * msTicks * (2 * (getOut s o).tests + o) / 2

/-- The readings of a test pulse pass (Table 9.8). -/
def testPasses (o : SafeOutput) (at150 at250 : PinRead) : Bool :=
  if o.hs && o.ls then
    if o.lowNext then at150.ls && !at250.ls else !at150.hs && at250.hs
  else at150.hs && at150.ls && !at250.hs

end Sys2Proof.Machine
end

