-- ==== Sys2Proof/Machine/SirelOps.lean ====
section
/-! DEFINITION. The Sirel connection and commissioning (R330 to R336). -/

namespace Sys2Proof.Machine

/-- A frame goes out with the next SEQ on VC2 of every trained house lane (R331). -/
def sendSirelSeq (type dst seq : Nat) (payload : List Byte) (s : State) : State :=
  match safetyBlock s with
  | none => s
  | some b =>
    let bytes := sirelBytes type seq b.devId dst b.timeExp payload
    let u := { s with saf := { s.saf with sirel := { s.saf.sirel with sent := (bytes :: s.saf.sirel.sent).take 4 } } }
    sendMsg 1 2 0x01 bytes (sendMsg 0 2 0x01 bytes u)

def sendSirel (type dst : Nat) (payload : List Byte) (s : State) : State :=
  let u := sendSirelSeq type dst s.saf.sirel.txSeq payload s
  { u with saf := { u.saf with sirel := { u.saf.sirel with txSeq := (s.saf.sirel.txSeq + 1) % 65536 } } }

/-- Only a valid reset is missing (SAFE_STAT.WAIT_RESET). -/
def waitReset (s : State) : Bool :=
  curtainReady s && decide (s.saf.causes ≠ 0) && decide (s.saf.causes &&& standing s = 0)

/-- State code of an input in STATUS and SAFE_IN: 0 open, 1 closed, 2 fault, 3 unused (Table 9.5); 0 while no block is active
(Table 9.16). -/
def inputCode (s : State) (i : Nat) : Nat :=
  let v := s.saf.inputs.get {} i
  if ((safetyBlock s).bind (fun b => b.sin[i]?)).any (fun c => c.role == 0) then 3
  else if v.fault then 2
  else match v.state with
    | some .closed => 1
    | some .discrepant => 2
    | _ => 0

/-- The payload of a STATUS frame (Table 9.10). -/
def statusPayload (s : State) (b : SafetyBlock) : List Byte :=
  let latest := latestConfirmed s
  leBytes 1 (bn s.saf.curtain + 2 * bn (curtainReady s) + 4 * bn (waitReset s) + 8 * bn latest.isSome + 16 * bn s.saf.guardDone)
    ++ leBytes 1 s.saf.cause
    ++ leBytes 1 (inputCode s 0 + 4 * inputCode s 1 + 16 * inputCode s 2 + 64 * inputCode s 3)
    ++ leBytes 1 (bn (s.saf.outA.hs && s.saf.outA.ls) + 2 * bn (s.saf.outB.hs && s.saf.outB.ls) + 4 * bn s.saf.outA.fault
        + 8 * bn s.saf.outB.fault)
    ++ leBytes 4 s.saf.fieldViol.toNat ++ leBytes 8 s.saf.spikeViol.toNat ++ leBytes 4 s.saf.period ++ leBytes 4 b.crc
    ++ leBytes 1 ((latest.map Prod.fst).getD 0xFF) ++ leBytes 7 0

/-- R331: the STATUS frame of a safety boundary. -/
def sendStatus (s : State) : State :=
  match safetyBlock s with
  | some b => if b.peerId = 0 then s else sendSirel 0x01 b.peerId (statusPayload s b) s
  | none => s

/-- R332: the connection starts anew. -/
def startConnection (s : State) : State :=
  { s with saf := { s.saf with sirel := { s.saf.sirel with
      started := true, up := false, lastSeq := none, txSeq := 0, run := false, reset := true } } }

/-- A cause of the connection latches and the connection restarts. -/
def failConnection (cause : Nat) (s : State) : State := startConnection (latchCause cause s)

/-- What an activation of a full image does to the connection. -/
def connectImage (s : State) : State :=
  let u := { s with saf := { s.saf with sirel := { sent := s.saf.sirel.sent } } }
  if (safetyBlock u).any (fun b => b.peerId != 0) then startConnection u else u

/-! ### Commissioning -/

/-- A RESULT frame: the exchange ends. With PEER_ID 0 it carries SEQ 1 (R336). -/
def sendResult (result slot : Nat) (s : State) : State :=
  match safetyBlock s with
  | none => s
  | some b =>
    let payload := leBytes 1 result ++ leBytes 1 slot ++ leBytes 2 0 ++ leBytes 4 b.crc
    let u := if b.peerId = 0 then sendSirelSeq 0x13 s.saf.sirel.commPeer 1 payload s else sendSirel 0x13 b.peerId payload s
    { u with saf := { u.saf with sirel := { u.saf.sirel with commWait := false } } }

/-- A RESULT whose SLOT the manual does not state: a free value. -/
def sendResultNoSlot (result : Nat) (s : State) : State := tookFree (sendResult result (freeValue s % 256) s)

/-- Commissioning slots that hold anything (SAFE_COMM.USED). -/
def freeSlot (s : State) : Option Nat := (List.range 16).find? (fun i => (s.otp.comm.find i).isNone)

/-- The first row of Table 9.12 that a PREPARE fails; 0 when none. -/
def prepareCheck (s : State) (b : SafetyBlock) (crc serial : Nat) : Nat :=
  if !rwsOpen s then 1
  else if !s.img.auth || lcState s == 0 then 2
  else if crc ≠ b.crc then 3
  else if some serial ≠ s.img.active.map Image.serial then 4
  else if (freeSlot s).isNone then 5
  else 0

/-- Step 3 of R334. The nonce is a free value. -/
def prepare (b : SafetyBlock) (f : SirelFrame) (s : State) : State :=
  let crc := le f.payload 0 4
  let serial := le f.payload 4 4
  let u := { s with saf := { s.saf with sirel := { s.saf.sirel with commPeer := f.src, commSeq := f.seq, commWait := false } } }
  let r := prepareCheck s b crc serial
  if r ≠ 0 then sendResultNoSlot r u
  else
    let slot := (freeSlot s).getD 0
    let nonce := freeValue s % 2 ^ 32
    let v := tookFree { u with saf := { u.saf with sirel := { u.saf.sirel with
      commWait := true, commCrc := crc, commSer := serial, commSlot := slot, nonce := nonce, openedAt := s.now, released := false } } }
    let payload := leBytes 4 crc ++ leBytes 1 slot ++ leBytes 3 0 ++ leBytes 4 nonce
    if b.peerId = 0 then sendSirelSeq 0x11 f.src 0 payload v else sendSirel 0x11 b.peerId payload v

/-- Steps 5 to 7 of R334. -/
def confirm (f : SirelFrame) (readback : Bool) (s : State) : State :=
  let c := s.saf.sirel
  if !c.commWait then sendResultNoSlot 7 s
  else if f.payload ≠ leBytes 4 c.commCrc ++ leBytes 1 c.commSlot ++ leBytes 3 0 ++ leBytes 4 c.nonce then sendResult 6 c.commSlot s
  else if !c.released || decide (c.openedAt + 60 * secTicks < s.now) then sendResult 7 c.commSlot s
  else
    let u := { s with otp := { s.otp with
      comm := s.otp.comm.set c.commSlot { crc := c.commCrc, serial := c.commSer, confirmed := readback } } }
    sendResult (if readback then 0 else 8) c.commSlot u

/-! ### Frames from the controller (R332, R336) -/

/-- What an accepted frame does, by its type. -/
def sirelAct (b : SafetyBlock) (f : SirelFrame) (readback : Bool) (s : State) : State :=
  match f.type with
  | 0x02 =>
    let run := byteAt f.payload 0 % 2 == 1
    let reset := byteAt f.payload 0 / 2 % 2 == 1
    let rise := reset && !s.saf.sirel.reset
    let u := { s with saf := { s.saf with
      resetReq := s.saf.resetReq || rise, sirel := { s.saf.sirel with up := true, run := run, reset := reset } } }
    if run then u else latchCause 0x0D u
  | 0x10 => prepare b f s
  | 0x12 => confirm f readback s
  | _ => s

/-- A frame under a connection (R332). -/
def sirelPeer (b : SafetyBlock) (f : SirelFrame) (readback : Bool) (s : State) : State :=
  if s.saf.sirel.lastSeq = some f.seq then s
  else if !f.sound || f.src != b.peerId || f.dst != b.devId
      || s.saf.sirel.lastSeq.any (fun n => (n + 1) % 65536 != f.seq) then failConnection 0x0C s
  else
    sirelAct b f readback { s with saf := { s.saf with sirel := { s.saf.sirel with
      lastSeq := some f.seq, texp := f.texp, lastAt := s.now } } }

/-- A frame without a connection, PEER_ID 0 (R336). -/
def sirelAlone (b : SafetyBlock) (f : SirelFrame) (readback : Bool) (s : State) : State :=
  if !f.sound || f.dst != b.devId || f.src == 0 then s
  else if f.type = 0x10 then (if rwsOpen s then prepare b f s else s)
  else if f.type = 0x12 && s.saf.sirel.commWait && f.src == s.saf.sirel.commPeer
      && f.seq == (s.saf.sirel.commSeq + 1) % 65536 then confirm f readback s
  else s

/-- A Sirel frame arrives on VC2 of a house lane. -/
def sirelFrame (lane : Nat) (bytes : List Byte) (readback : Bool) (s : State) : State :=
  if 2 ≤ lane || !laneTrained s lane then s
  else
    let f := sirelOfBytes bytes
    match safetyBlock s with
    | none => s
    | some b =>
      if !f.scode then { s with saf := { s.saf with cntCrc := inc32 s.saf.cntCrc } }
      else if b.peerId = 0 then sirelAlone b f readback s
      else sirelPeer b f readback s

/-- A frame of a command whose bytes turn out to be a CONFIRM carries no readback: a free value stands for it. -/
def sirelFrameFree (lane : Nat) (bytes : List Byte) (s : State) : State :=
  tookFree (sirelFrame lane bytes (freeValue s % 2 == 1) s)

/-- No frame was accepted within TEXP of the last one (R332). -/
def sirelLapsed (s : State) : Bool :=
  let c := s.saf.sirel
  c.started && c.lastSeq.isSome && decide (c.lastAt + c.texp * msTicks < s.now)

/-- The 60 s window of R334 has passed. -/
def windowLapsed (s : State) : Bool := s.saf.sirel.commWait && decide (s.saf.sirel.openedAt + 60 * secTicks ≤ s.now)

end Sys2Proof.Machine
end

