-- ==== Sys2Proof/Machine/ModeOps.lean ====
section
/-! DEFINITION. Modes and resets: leaving Show, entering Dark, every reset, and entry to Show (R476 to R494). -/

namespace Sys2Proof.Machine

/-! ### Resets and Dark (R480, R488, R492) -/

/-- A power-on reset resets the ghost light as well (R488); the door then refuses for 10 s (R501). -/
def powerOn (s : State) : State :=
  let u := wiped s
  { u with
    gl := { onAt := s.now }
    door := { waitUntil := s.now + 10 * secTicks }
    pwr := { u.pwr with inReset := true, rstnLow := s.pwr.rstnLow, rstnSince := s.pwr.rstnSince } }

/-- Entry to Dark (R480). -/
def enterDark (s : State) : State :=
  let u := wiped s
  { u with gl := { u.gl with darkSince := s.now }, pwr := { u.pwr with mode := .dark } }

/-- Exit from Dark is a reset with cause 8 (R482). -/
def wake (s : State) : State := resetDevice 8 0 s

/-- Ticks that the flyman watchdog holds a reset (Table 14.4). -/
def holdWatchdog : Nat := msTicks

/-! ### Coefficient sets of a pending patch (R68, R177) -/

/-- A pending patch that has applied and waits for no engine is no longer pending, and its sets are the image's (R68). -/
def settlePatch (s : State) : State :=
  match s.img.pending with
  | none => s
  | some p =>
    if p.applied && decide (s.img.feWait = 0) then
      { s with img := { s.img with
          pending := none, active := s.img.active.map (fun i => { i with fsets := p.patch.fsets.getD i.fsets }) } }
    else s

/-- A list of sets with those of `new` written over or beside them. -/
def mergeSets (new old : List FilterSet) : List FilterSet :=
  new ++ old.filter (fun f => !new.any (fun g => g.setId == f.setId))

/-- The sets of the pending patch are written into engine `n` (R68). Sets that the patch does not carry stay, since the
profiles in force name them until the patch applies, and after a cancel. -/
def writeSets (n : Nat) (fs : List FilterSet) (s : State) : State :=
  { s with
    hist := { s.hist with engines := s.hist.engines.upd {} n (fun e => { e with sets := mergeSets fs e.sets }) }
    img := { s.img with feWait := s.img.feWait &&& ~~~(1#8 <<< n) } }

/-- Engine `n` reads stopped (R177). -/
def engineStopped (s : State) (n : Nat) : Bool := !inShow s || (s.hist.engines.get {} n).stopped

/-- An engine that has stopped takes the sets that wait for it. -/
def feedEngine (n : Nat) (s : State) : State :=
  if s.img.feWait.getLsbD n then
    match s.img.pending.bind (fun p => p.patch.fsets) with
    | some fs => settlePatch (writeSets n fs s)
    | none => s
  else s

/-- Every engine that has no point in progress takes the sets that wait for it. -/
def feedIdle (s : State) : State :=
  (List.range 8).foldl (fun u n => if ((u.hist.engines.get {} n).busy).isNone then feedEngine n u else u) s

/-! ### Leaving Show (R479) -/

/-- A split cue that still waits for its guests is refused: with reason 0x0F when Show ends. -/
def dropDeciding (reason : Nat) (s : State) : State :=
  match s.sm.deciding with
  | none => s
  | some (h, src) =>
    let u := { s with sm := { s.sm with deciding := none } }
    match findCue u h with
    | none => u
    | some e => undoSplit h e src (reason, 0) u

/-- The device leaves Show for Standby. -/
def exitShow (s : State) : State :=
  let u := endAllCues 1 3 0 (dropDeciding 0x0F (latchCause 0x12 s))
  let v := stopScene (openSwitches { u with pwr := { u.pwr with mode := .standby, showAt := none } })
  refreshConds (feedIdle { v with
    bat := { v.bat with due := [] }
    sm := { v.sm with books := [], slots := [] }
    rh := { v.rh with kinds := v.rh.kinds.mapVals (fun _ k => { k with placed := none }) }
    hist := { v.hist with engines := v.hist.engines.mapVals (fun _ e => { e with stopped := true }) } })

/-! ### Entry to Show (R478) -/

/-- The first condition of R478 that refuses Show; 0 when none. A stage door operation is complete when its command is,
so condition 5 never holds. -/
def refuseShow (s : State) : Nat :=
  if s.img.active.isNone then 1
  else if !s.rh.drPass then 2
  else if s.th.shutdown then 3
  else if lcState s = 2 then 4
  else 0

/-- A request for Show is judged. The entry falls at the first group that begins at least 32 µs later; a second request leaves
the entry that is scheduled where it is. -/
def judgeShow (s : State) : State :=
  let u := { s with pwr := { s.pwr with showPend := false } }
  let r := refuseShow u
  if r ≠ 0 then setEvent evModeRefused { u with pwr := { u.pwr with refuse := r } }
  else { u with pwr := { u.pwr with showAt := some (u.pwr.showAt.getD (16 * ceilDiv (tbUs u + 32) 16)) } }

/-- What the histogram engines and the rejection take up at entry to Show (R177, R198, R200). -/
def freshHist (v : HistChan) : HistChan := { v with rPrev := 0, nfHist := [], nfCount := 0, nextBank := 0 }

/-- Entry to Show, in one step. -/
def enterShow (s : State) : State :=
  let phase := (s.img.active.map (fun i => i.rej.slotPhase)).getD 0
  let engines := (List.range 8).foldl (fun (t : Tab Engine) n =>
    t.upd {} n (fun e => { e with stopped := s.hist.feStop.getLsbD n })) s.hist.engines
  let u := loadCode { s with
    pwr := { s.pwr with mode := .show, showAt := none }
    hist := { s.hist with chan := s.hist.chan.mapVals (fun _ v => freshHist v), engines := engines }
    rej := { s.rej with phaseUse := phase }
    bat := { s.bat with origin := slotOrigin s phase, due := [], offSlot := 0 }
    sm := { s.sm with entered := groupNow s + horizonGroups - 1, books := [], slots := [], cueFired := [] }
    saf := { s.saf with
      showAt := s.now, good := 0
      outA := { s.saf.outA with tests := 0 }, outB := { s.saf.outB with tests := 0 } } }
  let v := { u with bat := { u.bat with slot := slotAtOrAfter u (tbTick u) } }
  trackReady (startSafetyCues v)

/-! ### Reference (R483, R484) -/

/-- 900 to 1,100 edges. -/
def edgesGood (n : Nat) : Bool := decide (900 ≤ n) && decide (n ≤ 1100)

/-- Every release condition of R486 has held for its time. -/
def releaseReady (s : State) (h : ReleaseObs) : Bool :=
  s.pwr.inReset && decide (s.pwr.holdUntil ≤ s.now) && s.pwr.refValid
    && decide (2 * msTicks ≤ h.gl) && decide (2 * msTicks ≤ h.rails) && decide (2 * msTicks ≤ h.rstn)
    && decide (msTicks / 2 ≤ h.ref)

end Sys2Proof.Machine
end

