-- ==== Sys2Proof/Machine/LoaderOps.lean ====
section
/-! DEFINITION. The image loader: a load and its end, activation of a full image with the checks made at activation, the
pending patch, and the boot fetch (R59 to R69). -/

namespace Sys2Proof.Machine

/-! ### The unpacker's record (Table 10.7) -/

/-- The unpacker has finished an item: its source, type (0 image, 1 calendar) and code. -/
def unpackNote (src type code : Nat) (s : State) : State :=
  { s with pk := { s.pk with
      unpSrc := src, unpType := type, unpCode := code
      unpOk := satAdd 32 s.pk.unpOk (bn (code == 0)), unpFail := satAdd 32 s.pk.unpFail (bn (code != 0)) } }

/-! ### Checks at activation (R224, R309, R422) -/

/-- Class S templates of an image. -/
def safetyTemplates (i : Image) : List CueRec := i.templates.filter (fun c => c.cls == 0)

/-- The empty calendar of R224, with the image's own tables. `t0` is a safety boundary at the start of a group. -/
def fitBase (i : Image) (s : State) : State :=
  let u := { s with
    img := { s.img with active := some i }
    bat := { s.bat with origin := slotOrigin s i.rej.slotPhase }
    sm := { orders := s.sm.orders } }
  { u with sm := { u.sm with entered := groupNow u + horizonGroups - 1 } }

def fitStart (p : Nat) (s : State) : Nat := 16 * p * ceilDiv (16 * firstOpen s) (16 * max 1 p)

/-- One template's occurrence is booked in the empty calendar within the period. -/
def fitTemplate (t0 : Nat) (c : CueRec) (s : State) : Option State :=
  let e := enterCue (entryFor s c .template) s
  let h := e.1
  match findCue e.2 h with
  | none => none
  | some x =>
    let stop := some ((t0 + c.period) / 16)
    match placeAll h x (some (ceilDiv (t0 + c.period) 16)) (fun _ => usTicks * (t0 + c.start)) e.2 []
        (firingBattens e.2 x), profileOf e.2 c with
    | .ok r, some p =>
      if r.2.all (fun q => decide (boundaryTick s q.1 < usTicks * (t0 + c.period))) then
        let words := (firingBattens e.2 x).foldl (fun (a : Except (Nat × Nat) State) b => a.bind (fun u =>
          bookWords h x stop false (litChannels u x b) u (r.2.filter (fun q => q.2.batten == b)))) (.ok r.1)
        (words.bind (fun u => bookPoints h x p stop false u (lastShots u x p r.2))).toOption
      else none
    | _, _ => none

/-- R224: the class S templates fit together in one period. -/
def templatesFit (i : Image) (s : State) : Bool :=
  let u := fitBase i s
  let p := ((safetyTemplates i).head?.map CueRec.period).getD 0
  let v := { u with bat := { u.bat with slot := slotAtOrAfter u (usTicks * fitStart p u) } }
  ((safetyTemplates i).foldl (fun (a : Option State) c => a.bind (fitTemplate (fitStart p v) c)) (some v)).isSome

/-- Channels that the safety parameter block names. -/
def blockChannels (b : SafetyBlock) : List Nat :=
  b.spikes.flatMap (fun k => k.mainCh ++ k.flyCh) ++ b.fields.flatMap (fun f => f.entries.map FieldEntry.channel)

/-- FLY shot result words of one occurrence of a class S template: of FLY ranging channels, and of FLY reference channels
for every shot. -/
def flyWords (u : State) (c : CueRec) : Nat :=
  let e := entryFor u c .template
  let shots := occurrenceSlots u c
  let fly := fun (k : Nat) => (chEntry u k).any ChEntry.fly
  ((firingBattens u e).map (fun b =>
    shots * (((litChannels u e b).filter fly).length + bn ((refOf u b).any (fun r => fly (1536 + r)))))).sum

/-- R309. -/
def safetyChecks (i : Image) (s : State) : Bool :=
  let u := fitBase i s
  let ts := safetyTemplates i
  let p := (ts.head?.map CueRec.period).getD 0
  let reached := ts.flatMap (fun c => cueChannels u (entryFor u c .template))
  ts.all (fun c => decide (c.start + occurrenceUs u (entryFor u c .template) + c.bound ≤ p))
    && (blockChannels i.safety).all (fun c => reached.contains c)
    && decide (1000 * (ts.map (flyWords u)).sum ≤ 4096 * p)

/-- R422: each converter keeps at least 4 of its 16 conversions per group. -/
def converterFits (plan : HkPlan) : Bool := [0, 1].all (fun v => decide (ownConversions (some plan) v + 4 ≤ 16))

/-- The checks made when a full image becomes active: after check 18 of Table 2.10, in the order R224, R309, R422 (DESIGN
CHOICE, notes/assumptions/18.md). -/
def activationCheck (i : Image) (s : State) : Option (Nat × Nat) :=
  if !templatesFit i s then some (0x0C, 0x08)
  else if !safetyChecks i s then some (0x0C, 0x0D)
  else if !converterFits i.hk then some (0x0C, 0x0C)
  else none

/-! ### What a change of the plan restarts -/

/-- R425: inputs whose record differs restart at their next sample. A make that has fallen due keeps the record it found
(R433). -/
def restartInputs (old new : HkPlan) (s : State) : State :=
  let changed := (List.range 32).filter (fun n => old.inputs[n]? != new.inputs[n]?)
  let made := s.hk.makeAt.any (fun m => decide (m ≤ s.now))
  { s with hk := { s.hk with
      restart := firsts [] (s.hk.restart ++ changed)
      turnRec := if made then s.hk.turnRec.or (s.hk.turn.bind (fun n => old.aux[n]?)) else s.hk.turnRec } }

/-- R211: changed FTA_ parameters end the gate in progress without a fit and free the highest trains. A gate that has ended
waits for its close, and a fit for its completion, as before, with no more trains than the new number. -/
def restartAnalyser (old new : RejParams) (s : State) : State :=
  if (old.ftaTrains, old.ftaGate, old.ftaMin, old.ftaResid, old.ftaBlank)
      = (new.ftaTrains, new.ftaGate, new.ftaMin, new.ftaResid, new.ftaBlank) then s
  else
    { s with rej := { s.rej with
        gates := (openGates old (tbTick s) s).filter (fun g => decide (g.stop ≤ tbTick s))
        nextGate := tbTick s / max 1 (gateTicks new) + 1
        trains := keepTrains new.ftaTrains s.rej.trains, fits := s.rej.fits.map (keepTrains new.ftaTrains) } }

/-! ### Activation (R66) -/

/-- R264: a field that names a queue breaking the rule takes the lowest queue that meets it, with the access-violation
event; with no such queue the field stays. -/
def fixQueueField (get : State → Nat) (put : Nat → State → State) (s : State) : State :=
  if deviceQueue s (get s) then s
  else
    match (List.range 4096).find? (deviceQueue s) with
    | some q => setEvent evAccess (put q s)
    | none => setEvent evAccess s

def putField (w : W32) (hi lo v : Nat) : W32 := merge (ones hi lo) w (BitVec.ofNat 32 (v * 2 ^ lo))

def fixQueues (s : State) : State :=
  let a := fixQueueField (fun u => fld u.sm.qsel 11 0) (fun q u => { u with sm := { u.sm with qsel := putField u.sm.qsel 11 0 q } }) s
  let b := fixQueueField (fun u => fld u.sm.qsel 27 16) (fun q u => { u with sm := { u.sm with qsel := putField u.sm.qsel 27 16 q } }) a
  fixQueueField (fun u => fld u.sm.qsel2 11 0) (fun q u => { u with sm := { u.sm with qsel2 := putField u.sm.qsel2 11 0 q } }) b

/-- R379: each lane whose plan differs from the one in force returns to OFF. -/
def replanLanes (s : State) : State :=
  linkMoved s ([0, 1, 2, 3].foldl (fun u l =>
    if (getLane u l).plan = planOf u l then u
    else updLane l (fun v => { v with plan := planOf u l }) (laneOff l u)) s)

/-- The points of the old image are gone. -/
def dropPoints (s : State) : State :=
  { s with hist := { s.hist with
      waiting := []
      engines := s.hist.engines.mapVals (fun _ e => { e with busy := none })
      chan := s.hist.chan.mapVals (fun _ v => { v with cur := [], forming := [], held := [], rerunNext := [] }) } }

/-- The evaluators start on the new block; the safety boundaries follow the new period. -/
def freshSafety (s : State) : State :=
  let p := max 1 (safetyP s)
  { s with saf := { s.saf with
      main := {}, fly := {}, verdict := false, good := 0, missing := 0, gotPermit := true
      mainData := [], flyData := [], xchkRun := [], spikeViol := 0, fieldViol := 0, fieldAct := 0
      boundary := tbUs s / p + 1, boundaryAt := s.now
      guardDone := s.rh.drPass && (safetyBlock s).any (fun b => guardTested b s.saf.inputs) } }

/-- Every cue that only waited for points is complete without them. -/
def progressCues (s : State) : State := (handles s).foldl (fun u h => cueProgress h u) s

/-- A full image takes effect as one step. An enabled trigger unit's timer runs on (R258). -/
def activate (i : Image) (slot : Option Nat) (s : State) : State :=
  let old := s.img.active
  let a := emptyQueues (progressCues (endAllCues 1 2 0 (dropPoints s)))
  let engines := (List.range 8).foldl (fun (t : Tab Engine) n => t.upd {} n (fun e => { e with sets := i.fsets })) a.hist.engines
  let b := { a with
    img := { a.img with active := some i, auth := slot.isSome, keySlot := slot, pending := none, feWait := 0 }
    hist := { a.hist with engines := engines }
    sm := { a.sm with trig := a.sm.trig.mapVals (fun _ u => { since := u.since }) }
    fs := { a.fs with fixed := [], planStep := 0, planRep := 0 } }
  let c := match old with
    | some o => restartAnalyser o.rej i.rej (restartInputs o.hk i.hk b)
    | none => restartInputs defaultHk i.hk { b with rej := { b.rej with nextGate := tbTick b / max 1 (gateTicks i.rej) } }
  replanLanes (connectImage (freshSafety (fixQueues c)))

/-! ### Patches (R67 to R69) -/

/-- The sets by which a running engine serves the act profiles `new` until the patch's sets are written into it: a set that it
lacks stands for the one that the profile named before (R68). -/
def standIns (old new : List ActProfile) (have_ : List FilterSet) : List FilterSet :=
  (old.zip new).foldl (fun l q =>
    if l.any (fun f => f.setId == q.2.fset) then l
    else match l.find? (fun f => f.setId == q.1.fset) with
      | some f => l ++ [{ f with setId := q.2.fset }]
      | none => l) have_

/-- The patch-class sections of the pending patch apply together (R67). -/
def applyPatch (s : State) : State :=
  match s.img.pending, s.img.active with
  | some p, some old =>
    if p.applied then s
    else
      -- the coefficient sets are the image's when the last engine has them (R68)
      let new := { patched old p.patch with fsets := old.fsets }
      let u := { s with
        img := { s.img with active := some new, pending := some { p with applied := true } }
        hist := { s.hist with engines := s.hist.engines.mapVals (fun _ e =>
          { e with sets := standIns old.profiles new.profiles e.sets }) } }
      let v := if old.rej.codeSeed ≠ new.rej.codeSeed ∨ old.rej.codeEn ≠ new.rej.codeEn then
        { u with bat := { u.bat with codeLoad := true } } else u
      let w := restartAnalyser old.rej new.rej (restartInputs old.hk new.hk v)
      let x := if p.patch.scene.isSome then { w with fs := { w.fs with planStep := 0, planRep := 0 } } else w
      settlePatch (failPlayers (noteWorst x))
  | _, _ => s

/-- A patch that passed its checks becomes pending. -/
def acceptPatch (p : Patch) (s : State) : State :=
  let u := { s with img := { s.img with pending := some { patch := p, applied := false } } }
  let v := match p.fsets with
    | none => u
    | some fs =>
      (List.range 8).foldl (fun x n =>
        if engineStopped x n then writeSets n fs x
        else { x with img := { x.img with feWait := x.img.feWait ||| (1#8 <<< n) } }) u
  if s.fs.sceneRun && inShow s then settlePatch v else settlePatch (applyPatch v)

/-- CANCEL (R69): sets not yet written are discarded. In the core clock cycle of the scene change that applied the patch it
has no effect. -/
def cancelPatch (s : State) : State :=
  if s.img.sceneAt.any (fun x => coreCycle x == coreCycle s.now) then s
  else { s with img := { s.img with pending := none, feWait := 0 } }

/-! ### The end of a load (R63, R65) -/

/-- The load is over, with either result: the staged image is gone, and a request for Show that waited is judged. -/
def endLoad (s : State) : State :=
  let u := { s with img := { s.img with load := none, stagedLen := 0 } }
  if u.pwr.showPend then judgeShow u else u

/-- A load fails. -/
def failLoad (x : Nat × Nat) (s : State) : State :=
  endLoad (setEvent evImageError { s with img := { s.img with errCode := x.1, errSect := x.2 } })

/-- A copy in the boot flash is fetched (R59, R522). -/
def fetchCopy (copy : Nat) (s : State) : State :=
  { s with img := { s.img with kind := false, fetching := some copy } }

/-- After a failed boot copy: the secondary, then the house port where the strap says so. -/
def nextCopy (copy : Nat) (s : State) : State := if copy = 1 then fetchCopy 2 s else s

/-- Check 1 of Table 2.10. -/
def firstCheck (patch : Bool) (s : State) : Nat :=
  if patch then (if s.img.pending.isSome then 0x12 else 0) else if rwsOpen s then 0 else 0x01

/-- A load begins with check 1; the result comes when the checks end. -/
def startLoad (j : LoadJob) (s : State) : State :=
  { s with img := { s.img with load := some { j with first := firstCheck j.patch s } } }

/-- The image being checked expands, when it is compressed. -/
def expandLoad (j : LoadJob) (s : State) : Except (Nat × Nat) (List Byte × Nat) × State :=
  match unwrapImage (if j.patch then 65536 else 2097152) j.bytes j.after with
  | .error c => (.error (0x06, 0), unpackNote j.src 0 c s)
  | .ok (bs, len, packed) =>
    if packed then (.ok (bs, len), unpackNote j.src 0 0 { s with img := { s.img with expanded := bs } })
    else (.ok (bs, len), s)

/-- What a checked image does. A patch leaves AUTH as the full image set it, also an unsigned one in Open (DESIGN CHOICE,
notes/assumptions/18.md). -/
def acceptLoad (l : Loaded) (slot : Option Nat) (s : State) : Except (Nat × Nat) State :=
  match l with
  | .full i =>
    match activationCheck i s with
    | some x => .error x
    | none => .ok (activate i slot s)
  | .patch p =>
    if p.hk.any (fun h => !converterFits h) then .error (0x0C, 0x0C) else .ok (acceptPatch p s)

/-- IMAGE_CHECKS_END: the checks of Table 2.10 in order. A full image must find the device in Standby at GO, and still: an
entry to Show that was scheduled before GO goes ahead, and the load fails with 0x01 (DESIGN CHOICE,
notes/assumptions/18.md). -/
def judgeLoad (j : LoadJob) (s : State) : State :=
  let retry := fun (u : State) => if j.src = 3 then nextCopy j.copy u else u
  if j.first ≠ 0 then retry (failLoad (j.first, 0) s)
  else if !j.patch && !rwsOpen s then retry (failLoad (0x01, 0) s)
  else
    let x := expandLoad j s
    match x.1 with
    | .error e => retry (failLoad e x.2)
    | .ok (bs, len) =>
      match (checkImage x.2 j.patch bs len).bind (fun r => acceptLoad r.1 r.2 x.2) with
      | .error e => retry (failLoad e x.2)
      | .ok u => endLoad (setEvent evImageDone { u with img := { u.img with errCode := 0, errSect := 0 } })

/-- R59: after dress rehearsal the image is fetched from the source that BOOT_SRC selects. -/
def bootFetch (s : State) : State :=
  match s.cb.strap % 4 with
  | 0 => fetchCopy 1 s
  | 3 => fetchCopy 1 s
  | 2 => { s with img := { s.img with kind := false, waitLane := true } }
  | _ => s

end Sys2Proof.Machine
end

