-- ==== Sys2Proof/Machine/Power.lean ====
section
/-! DEFINITION. The meanings of the power, reset, reference, mode and wake commands (R20, R21, R446, R467 to R494). -/

namespace Sys2Proof.Machine

/-! ### Reset sources -/

/-- R488: VDD_GL arrives or falls below 1.50 V. -/
def execPowerOnReset (t : Nat) (s : State) : Host.Outcome State Fault Refusal := actAlways t s powerOn

/-- Bit of a rail in Table 12.7. -/
def Rail.bit : Rail → Nat
  | .vin12 => 0
  | .vddSafe => 1
  | .vddCore => 2
  | .vddSer => 3
  | .vddhSer => 4
  | .vddIo => 5
  | .vddGl => 6

def railMask (r : Rail) : BitVec 7 := 1#7 <<< Rail.bit r

/-- PRESENT_N is pulled low while VDD_IO is at 1.2 V or more, in every mode and in reset (R496). -/
def presentLow (s : State) : Bool := !s.th.ioOff

/-- VDD_IO lies at `mv` millivolts; the other rails leave PRESENT_N alone. -/
def ioLevel (r : Rail) (mv : Nat) (s : State) : State :=
  if r = .vddIo then { s with th := { s.th with ioOff := decide (mv < 1200) } } else s

/-- Table 12.7 in mV: warning below, warning above, reset below. -/
def railLimits : Rail → Nat × Nat × Nat
  | .vin12 => (9000, 16000, 8000)
  | .vddSafe => (19200, 30000, 16000)
  | .vddCore => (705, 830, 675)
  | .vddSer => (855, 945, 800)
  | .vddhSer => (1140, 1260, 1060)
  | .vddIo => (1710, 1890, 1550)
  | .vddGl => (1710, 1890, 1500)

/-- Nominal value of a rail in mV (R446). -/
def railNominal : Rail → Nat
  | .vin12 => 12000
  | .vddSafe => 24000
  | .vddCore => 760
  | .vddSer => 900
  | .vddhSer => 1200
  | .vddIo => 1800
  | .vddGl => 1800

/-- A level below the rail's reset threshold. -/
def belowReset (r : Rail) (mv : Nat) : Bool := decide (mv < (railLimits r).2.2)

/-- A level beyond a warning threshold. -/
def beyondWarning (r : Rail) (mv : Nat) : Bool := decide (mv < (railLimits r).1) || decide ((railLimits r).2.1 < mv)

/-- A level inside both warning thresholds by at least 1 % of the nominal value. -/
def wellInside (r : Rail) (mv : Nat) : Bool :=
  decide (100 * (railLimits r).1 + railNominal r ≤ 100 * mv) && decide (100 * mv + railNominal r ≤ 100 * (railLimits r).2.1)

/-- A rail other than VDD_CORE lies in warning: condition 1 of Table 7.7. -/
def supplyCond (s : State) : Bool := (s.th.supLive &&& ~~~(4#7)) != 0#7

/-- The reset action of Table 12.7. -/
def railResets (r : Rail) (s : State) : State :=
  match r with
  | .vddGl => powerOn s
  | .vddSafe =>
    let u := { s with th := { s.th with railLow := s.th.railLow ||| railMask r } }
    if live u then latchCause 0x11 u else u
  | _ => resetDevice 2 0 s

/-- A rail has lain below its reset threshold, and for 0.5 µs: the action of Table 12.7. -/
def supplyReset (r : Rail) (x : Sag) (s : State) : State :=
  let u := ioLevel r x.mv s
  if x.ticks < usTicks / 2 || !belowReset r x.mv then u else railResets r u

def execSupplyReset (t : Nat) (rail : Rail) (below : Sag) (s : State) : Host.Outcome State Fault Refusal :=
  actAlways t s (supplyReset rail below)

/-- R489: RESET_N has read low for `low` ticks; from 5 µs to 10 µs it may or may not count. -/
def resetNAssert (low : Nat) (s : State) : State :=
  let passes := decide (10 * usTicks ≤ low) || (decide (5 * usTicks ≤ low) && freeValue s % 2 == 1)
  let u := tookFree s
  if passes then
    resetDevice 3 0 { u with pwr := { u.pwr with
      rstnLow := true, rstnSince := if u.pwr.rstnLow then u.pwr.rstnSince else u.now } }
  else u

def execResetNAssert (t : Nat) (low : Nat) (s : State) : Host.Outcome State Fault Refusal := actAlways t s (resetNAssert low)

/-- R490: the ghost light's record of an assertion longer than 5 s. -/
def resetHeld (ms : Nat) (s : State) : State :=
  if s.pwr.inReset && s.pwr.rstnLow && decide (5000 < ms) then
    { s with
      gl := { s.gl with held := true, heldMs := min ms (2 ^ 32 - 1) }
      pwr := { s.pwr with heldNow := true } }
  else s

def execResetHeldTimeout (t : Nat) (ms : Nat) (s : State) : Host.Outcome State Fault Refusal := actAlways t s (resetHeld ms)

/-- R493: a write to PWR_RST_CTRL. -/
def softwareReset (p : Path) (v : W32) (s : State) : State :=
  if flag v 0 && fld v 31 16 == 0xA5C3 then resetDevice 5 holdCommand s else violation p 0x000F0018 kindRule s

def execSoftwareReset (t : Nat) (path : Path) (value : W32) (s : State) : Host.Outcome State Fault Refusal :=
  act t s (onPath path (softwareReset path value))

/-! ### Release and dress rehearsal -/

/-- R487 step 1, with the clocks and die-to-die links of dress rehearsal. A rail that is no condition of release may be in
warning then, which is condition 1 of Table 7.7. -/
def release (strap : Nat) (obs : RehearsalObs) (s : State) : State :=
  let u := { s with
    tbOffset := -64 * (s.now : Int)
    pwr := { s.pwr with
      inReset := false, mode := .standby, releasedAt := s.now, rstnLow := false, heldNow := false
      cpll := obs.clocksLock, tpll := obs.clocksLock, companion := obs.clocksLock }
    bat := { s.bat with hold := true, holdSince := s.now }
    cb := { s.cb with strap := strap % 4 }
    d2d := { s.d2d with
      a := { s.d2d.a with up := s.d2d.a.up || obs.linkA, lastValid := s.now }
      b := { s.d2d.b with up := s.d2d.b.up || obs.linkB, lastValid := s.now } }
    th := { s.th with ioOff := false }
    rh := { s.rh with obs := some obs } }
  let v := setCond 1 0 (supplyCond u) (eventIf s.pwr.heldNow evResetRecord (eventIf (obs.linkA != obs.linkB) evLinkDegraded u))
  if v.th.railLow.getLsbD 1 then latchCause 0x11 v else v

def execResetRelease (t : Nat) (strap : Nat) (held : ReleaseObs) (obs : RehearsalObs) (s : State) :
    Host.Outcome State Fault Refusal :=
  actAlways t s (fun u => if releaseReady u held then release strap obs u else u)

/-- The full scale of an auxiliary range in volts (R433). -/
def auxFull (range : Nat) : Rat := 5 / 2 / 4 ^ range

/-- Converter calibrations of dress rehearsal. -/
def rehearseConv (l : List (ConvCodes × ConvCodes)) (s : State) : State :=
  [0, 1].foldl (fun u v =>
    match l[v]? with
    | some p => judgeConv v p.1 p.2 u
    | none => rejectCal 4 u) s

/-- Auxiliary offsets of dress rehearsal. -/
def rehearseAux (l : List (Int × Int)) (s : State) : State :=
  ((List.range 4).zip l).foldl (fun u q =>
    judgeAux q.1 (auxFull q.1) (auxFull q.1 * q.2.1 / 1000000) (auxFull q.1 * q.2.2 / 1000000) u) s

/-- R461: hot by its count and the 8th and 9th counts of its macro-pixel. -/
def hotMask (counts : List Nat) : BitVec 16 :=
  let l := sortBy (fun a b => decide (a ≤ b)) counts
  let m := 2 * (l.getD 7 0 + l.getD 8 0)
  ((List.range 16).filter (fun i => decide (200 < counts.getD i 0) && decide (m < counts.getD i 0))).foldl
    (fun w i => w ||| (1#16 <<< i)) 0

/-- The hot-SPAD test. -/
def rehearseHot (l : List (Nat × List Nat)) (s : State) : State :=
  let hot := l.foldl (fun (t : Tab (BitVec 16)) q => t.set q.1 (hotMask q.2)) s.rx.hot
  { s with
    rx := { s.rx with hot := hot }
    rh := { s.rh with hot := (hot.map (fun q => popCount q.2)).sum } }

/-- The excitation checks of Table 13.4: a source that fails has failed one check (DESIGN CHOICE, notes/assumptions/25.md). -/
def excitationOk (x : ExcReading) : Bool := !currentFar x.excI x.nA && !x.limit

def rehearseExc (l : List ExcReading) (s : State) : State :=
  ((List.range 4).zip l).foldl (fun u q =>
    updKind 2 (fun v => { v with doneAt := v.doneAt.set q.1 u.now, fails := v.fails.set q.1 (bn (!excitationOk q.2)) }) u) s

/-- The calibration entry of a finished measurement. -/
def arrivalEntry (a : Arrival) : CalEntry := { state := 3, w0 := a.w0, shots := a.shots, fill := a.fill, bins := a.bins }

/-- The arrival by R456, with the taps accepted so far. -/
def arrivalValue (s : State) (a : Arrival) : Option Int := (arrivalEntry a).arrivalOf (tapsInUse s)

/-- Skews of dress rehearsal. -/
def rehearseSkew (l : List (Nat × Arrival × Arrival)) (s : State) : State :=
  l.foldl (fun u q =>
    match arrivalValue u q.2.1, arrivalValue u q.2.2 with
    | some x, some y =>
      judgeSkew q.1 x y (fillEnough 64 q.2.1.fill q.2.1.shots && fillEnough 64 q.2.2.fill q.2.2.shots) u
    | _, _ => rejectCal 2 u) s

/-- Near-end loop-back of every lane: a failing lane stays in OFF until the next reset. -/
def rehearseLanes (l : List Nat) (s : State) : State :=
  l.foldl (fun u n => updLane n (fun v => { v with fail := true }) (laneOff n u)) s

/-- RH_STAT.DR_STEP: the code of the first fatal failure in the order of Table 13.3. -/
def fatalStep (s : State) (o : RehearsalObs) : Nat :=
  let conv := o.conv.length == 2 && o.conv.all (fun p => convAccepted p.1 p.2)
  if !o.clocksLock then 1
  else if linkCount s = 0 then 2
  else if !o.flymanOk then 5
  else if !o.sramOk then 3
  else if !conv then 4
  else if !o.readbackOk then 6
  else 0

/-- Step 10: dress rehearsal is judged (R468), and the image fetch begins. -/
def judgeRehearsal (o : RehearsalObs) (s : State) : State :=
  let step := fatalStep s o
  bootFetch (refreshConds { s with rh := { s.rh with drDone := true, drPass := decide (step = 0), drStep := step } })

/-- Steps 5 to 10 of Table 13.3, numbered from 0: what each has found by its end takes effect then. -/
def rehearsalStep (n : Nat) (o : RehearsalObs) (s : State) : State :=
  let refer := fun (x : List Nat) => (searchFound s x).map (fun mv => referBreakdown s mv o.tj2)
  match n with
  | 0 => rehearseConv o.conv s
  | 1 => updateBias (judgeBreakdown (refer o.breakdown.1) (refer o.breakdown.2) (rehearseExc o.excitation (rehearseAux o.auxOffset s)))
  | 2 => rehearseHot o.hotCounts s
  | 3 => rehearseSkew o.skew s
  | _ => judgeRehearsal o (rehearseLanes o.loopback s)

/-- µs after reset release at which those steps end. -/
def rehearsalEnds (n : Nat) : Nat := [3800, 16000, 26000, 27000, 29000].getD n 29000

/-- Step `n` runs when it comes next and its time has come. -/
def rehearseNext (o : RehearsalObs) (s : State) (n : Nat) : State :=
  if s.rh.steps = n ∧ s.pwr.releasedAt + rehearsalEnds n * usTicks ≤ s.now then
    rehearsalStep n o { s with rh := { s.rh with steps := n + 1 } }
  else s

/-- DRESS_REHEARSAL_END: the steps of R467 that have ended by now. Before 29 ms it brings dress rehearsal on without ending it. -/
def endRehearsal (s : State) : State :=
  match s.rh.obs with
  | none => s
  | some o => [0, 1, 2, 3, 4].foldl (rehearseNext o) s

def execDressRehearsalEnd (t : Nat) (s : State) : Host.Outcome State Fault Refusal := act t s endRehearsal

/-! ### Reference and clocks -/

/-- R483: a count window of the reference selection in reset. SYSCLK is tried once; the crystal needs 25 good windows in
a row. -/
def referenceWindow (sysclk : Bool) (edges : Nat) (s : State) : State :=
  if !s.pwr.inReset || s.pwr.refValid then s
  else if sysclk then
    if s.pwr.sysTried then s
    else if edgesGood edges then
      { s with gl := { s.gl with refSys := true }, pwr := { s.pwr with sysTried := true, refValid := true } }
    else { s with gl := { s.gl with refSys := false }, pwr := { s.pwr with sysTried := true } }
  else if !s.pwr.sysTried then s
  else
    let n := if edgesGood edges then s.pwr.xtalGood + 1 else 0
    { s with pwr := { s.pwr with xtalGood := n, refValid := decide (25 ≤ n) } }

def execReferenceWindow (t : Nat) (sysclk : Bool) (edges : Nat) (s : State) : Host.Outcome State Fault Refusal :=
  actAlways t s (referenceWindow sysclk edges)

/-- R484: outside reset, also in Dark, where the flyman oscillator runs (Table 14.1). -/
def referenceLoss (edges : Nat) (s : State) : State :=
  if s.pwr.inReset || edgesGood edges then s else resetDevice 7 0 s

def execReferenceLoss (t : Nat) (edges : Nat) (s : State) : Host.Outcome State Fault Refusal :=
  actAlways t s (referenceLoss edges)

/-- R21: the clock check, on the cycles of both clocks counted over one interval: the companion clock nominally runs
five times as fast as the flyman oscillator. A disagreement of more than 8 % drops the curtain with cause 0x11. -/
def clockCheck (companion flyman : Nat) (s : State) : State :=
  if 8 * (5 * flyman) < 100 * ((companion : Int) - 5 * flyman).natAbs then latchCause 0x11 s else s

def execClockCheck (t : Nat) (companion flyman : Nat) (s : State) : Host.Outcome State Fault Refusal :=
  act t s (clockCheck companion flyman)

/-! ### Mode requests (Table 14.2) -/

/-- A request for Show: no effect in Show, refused, waiting on the check of a full image, or scheduled. -/
def requestShow (s : State) : State :=
  if inShow s then s
  else if s.img.load.any (fun j => !j.patch) then { s with pwr := { s.pwr with showPend := true } }
  else judgeShow s

def execModeReqShow (t : Nat) (path : Path) (s : State) : Host.Outcome State Fault Refusal :=
  act t s (onPath path requestShow)

def requestStandby (s : State) : State := if inShow s then exitShow s else s

def execModeReqStandby (t : Nat) (path : Path) (s : State) : Host.Outcome State Fault Refusal :=
  act t s (onPath path requestStandby)

def requestDark (s : State) : State := enterDark (if inShow s then exitShow s else s)

def execModeReqDark (t : Nat) (path : Path) (s : State) : Host.Outcome State Fault Refusal :=
  act t s (onPath path requestDark)

/-- The scheduled entry has come. -/
def showDue (s : State) : Bool := inStandby s && s.pwr.showAt.any (fun m => decide (m ≤ tbUs s))

/-- The entry is judged again when it comes: what has come up since the request refuses it (R443, Table 14.6; DEDUCED,
notes/assumptions/40.md). -/
def showEntry (s : State) : State :=
  let r := refuseShow s
  if r = 0 then enterShow s
  else setEvent evModeRefused { s with pwr := { s.pwr with refuse := r, showAt := none } }

def execEnterShow (t : Nat) (s : State) : Host.Outcome State Fault Refusal :=
  act t s (fun u => if showDue u then showEntry u else u)

/-! ### Dark -/

def inDark (s : State) : Bool := !s.pwr.inReset && decide (s.pwr.mode = .dark)

/-- R481: HP_CS_N was held low for `low` ticks. -/
def wakePort (low : Nat) (s : State) : State := if inDark s && flag s.gl.wake 0 && decide (usTicks ≤ low) then wake s else s

def execWakeHousePort (t : Nat) (low : Nat) (s : State) : Host.Outcome State Fault Refusal := actAlways t s (wakePort low)

/-- R481: a SIN level change has persisted for `persist` ticks. -/
def wakeInput (persist : Nat) (s : State) : State :=
  if inDark s && flag s.gl.wake 1 && decide (msTicks ≤ persist) then wake s else s

def execWakeSafetyInput (t : Nat) (persist : Nat) (s : State) : Host.Outcome State Fault Refusal :=
  actAlways t s (wakeInput persist)

/-- R481: WAKE_S seconds since the entry to Dark, by a clock within 2 %; 0 is off. -/
def wakeByTimer (s : State) : State :=
  let n := fld s.gl.wake 31 16
  if inDark s && flag s.gl.wake 2 && n != 0 && decide (s.gl.darkSince + 98 * n * secTicks / 100 ≤ s.now) then wake s else s

def execWakeTimer (t : Nat) (s : State) : Host.Outcome State Fault Refusal := actAlways t s wakeByTimer

/-- R504: the ghost light counts SIN level changes in Dark or in reset. Channel 2i is SINiA, 2i + 1 is SINiB. While VDD_SAFE is
absent every input reads low (R495). -/
def ghostChange (channel : Nat) (high : Bool) (s : State) : State :=
  if live s || s.gl.sinLevel.getLsbD channel == (high && !safeAbsent s) || decide (8 ≤ channel) then s
  else { s with gl := { s.gl with
    sinLevel := s.gl.sinLevel ^^^ (1#8 <<< channel), sinChanges := satAdd 24 s.gl.sinChanges 1 } }

def execGhostLightSinChange (t : Nat) (channel : Nat) (high : Bool) (s : State) : Host.Outcome State Fault Refusal :=
  actAlways t s (ghostChange channel high)

/-! ### HOLD (R138) -/

def holdDue (s : State) : Bool := s.bat.hold && decide (s.bat.holdSince + secTicks ≤ s.now)

def execHoldExpiry (t : Nat) (s : State) : Host.Outcome State Fault Refusal :=
  act t s (fun u => if holdDue u then { u with bat := { u.bat with hold := false } } else u)

end Sys2Proof.Machine
end

