-- ==== Sys2Proof/Machine/Door.lean ====
section
/-! DEFINITION. The stage door (R498 to R505) and the image loader's commands (R59 to R72, R522). -/

namespace Sys2Proof.Machine

/-! ### The stage door -/

/-- RESULT of an operation, with RESP and DATA cleared after it (R505). -/
def doorDone (r : Nat) (s : State) : State :=
  { s with door := { s.door with result := r, resp := [], data := [] } }

/-- What refuses every operation: zeroised, not in Standby with the curtain down, or the door waiting (R500 to R502). -/
def doorShut (s : State) : Nat :=
  if s.door.zeroised then 6 else if !rwsOpen s then 1 else if decide (s.now < s.door.waitUntil) then 7 else 0

/-- An operation runs unless the door is shut to it. -/
def doorRun (f : State → State) (s : State) : State :=
  let r := doorShut s
  if r ≠ 0 then doorDone r s else f s

/-- The challenge is valid for 60 s and for one attempt (R500). -/
def challengeValid (s : State) : Bool := s.door.chalAt.any (fun t => decide (s.now < t + 60 * secTicks))

/-- CHALLENGE, from Locked: the block of R500 with a fresh nonce, which is a free value. -/
def doorChallenge (scope : Nat) (s : State) : State :=
  if lcState s ≠ 1 then doorDone 1 s
  else
    let block := leBytes 8 s.otp.uid.toNat ++ leBytes 16 (freeValue s) ++ leBytes 1 (lcState s) ++ leBytes 1 (scope % 8)
      ++ leBytes 6 0
    doorDone 0 (tookFree { s with door := { s.door with chal := block, chalScope := scope % 8, chalAt := some s.now } })

/-- The nonce is spent with the attempt. -/
def spendChallenge (s : State) : State := { s with door := { s.door with chalAt := none } }

/-- R501: a failed attempt; from the eighth consecutive one on the door refuses for 60 s. -/
def doorFail (s : State) : State :=
  let n := satAdd 16 s.gl.fails 1
  doorDone 2 (spendChallenge { s with
    gl := { s.gl with fails := n }
    door := { s.door with waitUntil := s.now + (if 8 < n then 60 else 1) * secTicks } })

/-- R502: the secrets are cleared, closed to reads and read back as zero; then scan is enabled. -/
def zeroise (readback : Bool) (s : State) : State :=
  let u := { s with door := { s.door with chal := [], chalAt := none, closed := true, zeroised := readback } }
  if readback then doorDone 0 u
  else doorDone 5 { u with door := { u.door with scope := u.door.scope &&& 5 } }

/-- A match: Field-Opened with the requested scope, and zeroisation where it includes SCAN. -/
def doorOpen (readback : Bool) (s : State) : State :=
  let scope := s.door.chalScope
  let u := spendChallenge { s with
    gl := { s.gl with fieldOpened := true, fails := 0 }, door := { s.door with scope := scope } }
  if scope / 2 % 2 = 1 then zeroise readback u else doorDone 0 u

/-- An unlock attempt whose response matches when `good`. -/
def doorUnlock (good : Bool) (readback : Bool) (s : State) : State :=
  if lcState s ≠ 1 then doorDone 1 s
  else if !challengeValid s then doorDone 3 (spendChallenge s)
  else if good then doorOpen readback s
  else doorFail s

/-- Bytes 4w to 4w + 3 of RESP or DATA in word w. -/
def blockBytes (t : Tab W32) (n : Nat) : List Byte := wordBytes ((List.range n).map (fun i => t.get 0 i))

/-- The response is the HMAC of the challenge block under the device key. -/
def keyMatches (s : State) : Bool :=
  !s.door.closed && s.otp.devKey.any (fun k => hmac (beBytes 32 k) s.door.chal == blockBytes s.door.resp 8)

/-- The response is the 128-bit password, compared by its hash (R502 names a password-hash shadow). -/
def passwordMatches (s : State) : Bool :=
  !s.door.closed && s.otp.password.any (fun p => sha256 (beBytes 16 p) == sha256 (blockBytes s.door.resp 4))

/-- CLOSE (R499). -/
def doorClose (s : State) : State :=
  if lcState s = 2 then
    doorDone 0 { s with gl := { s.gl with fieldOpened := false }, door := { s.door with scope := 0 } }
  else doorDone 1 s

/-- Table 14.6, TAP: every instruction, or BYPASS, IDCODE and the stage door's mailbox only. -/
def tapOpen (s : State) : Bool := lcState s != 1

/-- Table 14.6, Scan: open in Open and Retired, and in Field-Opened after zeroisation with scope SCAN (R502). -/
def scanOpen (s : State) : Bool :=
  match lcState s with
  | 1 => false
  | 2 => s.door.zeroised && decide (s.door.scope / 2 % 2 = 1)
  | _ => true

/-- The OTP operations need Field-Opened with scope OTP (R503). -/
def otpScope (s : State) : Bool := lcState s == 2 && decide (s.door.scope / 4 % 2 = 1)

/-- PROG_SLOT: an unprogrammed slot takes the hash in PWR_DOOR_DATA; a failed readback spends it. -/
def doorProgSlot (slot : Nat) (readback : Bool) (s : State) : State :=
  let n := slot % 4
  let k := s.otp.keys.get {} n
  if !otpScope s || k.hash.isSome || k.spent then doorDone 1 s
  else
    let v := beNat (blockBytes s.door.data 8)
    doorDone (if readback then 0 else 4)
      { s with otp := { s.otp with keys := s.otp.keys.set n (if readback then { k with hash := some v } else { k with spent := true }) } }

/-- REVOKE: the revoke bit, and AUTH with it where the slot authenticated the active image. Bits that a failed readback has spent
read back wrong ever after (DEDUCED, notes/assumptions/40.md). -/
def doorRevoke (slot : Nat) (readback : Bool) (s : State) : State :=
  let n := slot % 4
  let k := s.otp.keys.get {} n
  if !otpScope s then doorDone 1 s
  else
    let ok := readback && !k.revokeSpent
    let w : KeySlot := if ok then { k with revoked := true } else { k with revokeSpent := true }
    let u := { s with otp := { s.otp with keys := s.otp.keys.set n w } }
    let v := if u.img.keySlot = some n then { u with img := { u.img with auth := false } } else u
    doorDone (if ok then 0 else 4) v

/-- RETIRE: the key and the password are erased, then Retired is written. A failed readback spends the bits and leaves
the state, for good. -/
def doorRetire (readback : Bool) (s : State) : State :=
  if !otpScope s then doorDone 1 s
  else
    let u := { s with otp := { s.otp with devKey := none, password := none } }
    if readback && !s.otp.retireSpent then
      doorDone 0 { u with otp := { u.otp with lifecycle := .retired }, gl := { u.gl with fieldOpened := false } }
    else doorDone 4 { u with otp := { u.otp with retireSpent := true } }

/-- GO with an OP that Table 14.8 does not name. -/
def doorOp (op scope slot : Nat) (readback : Bool) (s : State) : State :=
  match op with
  | 1 => doorRun (doorChallenge scope) s
  | 2 => doorRun (fun u => doorUnlock (keyMatches u) readback u) s
  | 3 => doorRun (fun u => doorUnlock (passwordMatches u) readback u) s
  | 4 => doorRun doorClose s
  | 5 => doorRun (doorProgSlot slot readback) s
  | 6 => doorRun (doorRevoke slot readback) s
  | 7 => doorRun (doorRetire readback) s
  | _ => doorDone 1 s

/-- The register keeps the operation with its operands. -/
def doorCtrl (op scope slot : Nat) (s : State) : State :=
  { s with door := { s.door with ctrl := word [(12, 4, op), (8, 2, slot), (1, 3, scope)] } }

/-- The TAP mailbox reaches the door too (R500); a stage lane does not. -/
def doorCommand (op scope slot : Nat) (readback : Bool) (s : State) : State :=
  doorOp op scope slot readback (doorCtrl op scope slot s)

def execDoorChallenge (t : Nat) (path : Path) (scope : Nat) (s : State) : Host.Outcome State Fault Refusal :=
  let _ := path
  act t s (doorCommand 1 scope (fld s.door.ctrl 9 8) true)

def execDoorUnlockKey (t : Nat) (path : Path) (readback : Bool) (s : State) : Host.Outcome State Fault Refusal :=
  let _ := path
  act t s (doorCommand 2 (fld s.door.ctrl 3 1) (fld s.door.ctrl 9 8) readback)

def execDoorUnlockPw (t : Nat) (path : Path) (readback : Bool) (s : State) : Host.Outcome State Fault Refusal :=
  let _ := path
  act t s (doorCommand 3 (fld s.door.ctrl 3 1) (fld s.door.ctrl 9 8) readback)

def execDoorClose (t : Nat) (path : Path) (s : State) : Host.Outcome State Fault Refusal :=
  let _ := path
  act t s (doorCommand 4 (fld s.door.ctrl 3 1) (fld s.door.ctrl 9 8) true)

def execDoorProgSlot (t : Nat) (path : Path) (slot : Nat) (readback : Bool) (s : State) : Host.Outcome State Fault Refusal :=
  let _ := path
  act t s (doorCommand 5 (fld s.door.ctrl 3 1) slot readback)

def execDoorRevoke (t : Nat) (path : Path) (slot : Nat) (readback : Bool) (s : State) : Host.Outcome State Fault Refusal :=
  let _ := path
  act t s (doorCommand 6 (fld s.door.ctrl 3 1) slot readback)

def execDoorRetire (t : Nat) (path : Path) (readback : Bool) (s : State) : Host.Outcome State Fault Refusal :=
  let _ := path
  act t s (doorCommand 7 (fld s.door.ctrl 3 1) (fld s.door.ctrl 9 8) readback)

/-- 60 s after it was issued a challenge is no longer valid (R500). -/
def expireChallenge (s : State) : State := if s.door.chalAt.isSome && !challengeValid s then spendChallenge s else s

def execChallengeExpiry (t : Nat) (s : State) : Host.Outcome State Fault Refusal := act t s expireChallenge

/-- The refusal period ends (R501): WAIT_S reads 0 from then on. -/
def endDoorWait (s : State) : State :=
  if s.door.waitUntil ≤ s.now then { s with door := { s.door with waitUntil := 0 } } else s

def execDoorWaitExpiry (t : Nat) (s : State) : Host.Outcome State Fault Refusal := act t s endDoorWait

/-! ### The load window (R62) -/

/-- Address of the load window and of PWR_IMG_CTRL. -/
def loadBase : Nat := 0x00100000
def imgCtrlAddr : Nat := 0x000F0100

/-- Staging-area offset of a window offset. -/
def stagingOffset (s : State) (offset : Nat) : Nat :=
  if s.img.kind then offset else offset + (if s.img.page then 0x100000 else 0)

/-- Bytes written into the staging area at its own offset. -/
def stageBytes (o : Nat) (bs : List Byte) (s : State) : State :=
  let len := if bs.isEmpty then s.img.stagedLen else max s.img.stagedLen (o + bs.length)
  if s.img.kind then { s with img := { s.img with patchArea := s.img.patchArea.writeList o bs, stagedLen := len } }
  else { s with img := { s.img with full := s.img.full.writeList o bs, stagedLen := len } }

/-- A 32-bit write at a window offset. The flag says whether it was taken. -/
def loadWindow (p : Path) (offset : Nat) (v : W32) (s : State) : Bool × State :=
  if s.img.load.isSome then (false, violation p (loadBase + offset) kindBusy s)
  else if s.img.kind && decide (65536 ≤ offset) then (false, violation p (loadBase + offset) kindRule s)
  else (true, stageBytes (stagingOffset s offset) (leBytes 4 v.toNat) s)

def execLoadWindowWrite (t : Nat) (path : Path) (offset : Nat) (value : W32) (s : State) : Host.Outcome State Fault Refusal :=
  act t s (onPath path (fun u => (loadWindow path (offset % 0x100000 / 4 * 4) value u).2))

/-! ### Loads (R63 to R69) -/

/-- The staged bytes of the selected kind. -/
def stagedBytes (s : State) : List Byte :=
  if s.img.kind then s.img.patchArea.sweep 0 s.img.stagedLen else s.img.full.sweep 0 s.img.stagedLen

/-- The bytes of the staging area that complete the last word of the staged length. -/
def stagedAfter (s : State) : List Byte :=
  let n := s.img.stagedLen
  (if s.img.kind then s.img.patchArea else s.img.full).sweep n (4 * ceilDiv n 4 - n)

/-- GO. The flag says whether it was taken. -/
def imageGo (p : Path) (s : State) : Bool × State :=
  if s.img.load.isSome then (false, violation p imgCtrlAddr kindBusy s)
  else
    (true, startLoad { patch := s.img.kind, bytes := stagedBytes s, after := stagedAfter s, src := Path.code p, copy := 3 }
      { s with img := { s.img with waitLane := false }, cb := { s.cb with bootCopy := 3 } })

def execImageGo (t : Nat) (path : Path) (s : State) : Host.Outcome State Fault Refusal := act t s (onPath path (fun u => (imageGo path u).2))

/-- ABORT: a load being checked ends with 0x14, and the staged image is discarded either way. An aborted boot copy brings no
other copy (DESIGN CHOICE, notes/assumptions/18.md). -/
def imageAbort (s : State) : State :=
  if s.img.load.isSome then failLoad (0x14, 0) s else { s with img := { s.img with stagedLen := 0 } }

def execImageAbort (t : Nat) (path : Path) (s : State) : Host.Outcome State Fault Refusal :=
  act t s (onPath path imageAbort)

def execPatchCancel (t : Nat) (path : Path) (s : State) : Host.Outcome State Fault Refusal :=
  act t s (onPath path cancelPatch)

/-- The checks of the load in progress end. -/
def endChecks (s : State) : State :=
  match s.img.load with
  | some j => judgeLoad j s
  | none => s

def execImageChecksEnd (t : Nat) (s : State) : Host.Outcome State Fault Refusal := act t s endChecks

/-! ### The boot flash (R522) -/

/-- The length that the header of a fetched copy gives; none when it begins with neither magic. -/
def fetchLength (bs : List Byte) : Option Nat :=
  if le bs 0 4 = 0x4B4C4247 then some (le bs 0x10 4)
  else if le bs 0 4 = 0x5A4C4247 then some (le bs 8 4 + 20)
  else none

/-- The fetch of a copy ends: `bytes` are what the flash gave from the copy's address on, by command 0x03 where `single` says so.
A copy that begins with neither magic was read by 0x03 too, and it gives no length: the 16 bytes read are loaded (DESIGN
CHOICE, notes/assumptions/18.md). -/
def fetchDone (copy : Nat) (single : Bool) (bytes : List Byte) (s : State) : State :=
  if s.img.fetching ≠ some copy ∨ s.img.load.isSome then s
  else
    let u := { s with
      img := { s.img with fetching := none, kind := false }
      cb := { s.cb with bootSingle := single || (fetchLength bytes).isNone, bootCopy := copy } }
    let n := (fetchLength bytes).getD 16
    if 2097152 < n then nextCopy copy (failLoad (0x05, 0) u)
    else
      let got := bytes.take n
      startLoad { patch := false, bytes := got, src := 3, copy := copy } (stageBytes 0 got { u with img := { u.img with stagedLen := 0 } })

def execBootFetchDone (t : Nat) (copy : Nat) (single : Bool) (bytes : List Byte) (s : State) : Host.Outcome State Fault Refusal :=
  act t s (fetchDone copy single bytes)

end Sys2Proof.Machine
end

