-- ==== Sys2Proof/Machine/HkOps.lean ====
section
/-! DEFINITION. Housekeeping cues: what a cue gathers for a player, and its record (R430, R473). -/

namespace Sys2Proof.Machine

/-- The cue gathers for player node `n` now: an admitted occurrence has begun and is not recorded yet. -/
def hkOpen (s : State) (n : Nat) (e : CueEntry) : Bool :=
  e.cue.kind == 4 && e.admitted && (e.hkStarts.find? (fun q => q.1 == n)).any (fun q => decide (q.2 ≤ tbUs s))

/-- Player nodes of kind `k` and index `i` that a housekeeping cue gathers for, with the cue. -/
def hkTargets (s : State) (k i : Nat) : List (Nat × Nat) :=
  (handles s).flatMap (fun h =>
    match findCue s h with
    | none => []
    | some e => (e.players.filter (fun n => hkOpen s n e && nodeIndexOf s n k == some i)).map (fun n => (h, n)))

def hkSum (s : State) (h n : Nat) : HkSum := ((findCue s h).map (fun e => e.hk.get {} n)).getD {}

/-- The cue's sums for the player change; the first of them makes a Booked cue Running. -/
def hkUpd (h n : Nat) (f : HkSum → HkSum) (s : State) : State :=
  updCue h (fun e => { e with state := if e.state = 2 then 3 else e.state, hk := e.hk.upd {} n f }) s

/-- One more unit is counted, with its time. -/
def HkSum.stamp (us : Nat) (x : HkSum) : HkSum :=
  { x with count := x.count + 1, tFirst := if x.count = 0 then us % 2 ^ 32 else x.tFirst, tLast := us % 2 ^ 32 }

/-- floor(k × sum / n) as a 32-bit field; the mean of nothing is stated nowhere, so it is a free value. -/
def meanScaled (s : State) (k sum : Int) (n : Nat) : Nat :=
  if n = 0 then freeValue s % 2 ^ 32 else unsigned 32 (Int.fdiv (k * sum) n)

/-- The three words of the record that depend on the player's kind: at 0x08, 0x0C and 0x18 (Tables 12.2, 13.5). -/
def hkWords (s : State) (kind : Nat) (e : CueEntry) (x : HkSum) : Nat × Nat × Nat :=
  match kind with
  | 2 => ((x.sumA).toNat, x.other, meanScaled s 256 x.sumB x.sumA.toNat)
  | 3 =>
    let arr := if e.cue.points < 288 then 0
      else match x.entry.arrivalOf (tapsInUse s) with
        | some a => unsigned 32 a
        | none => freeValue s % 2 ^ 32
    (meanScaled s 64 x.sumA x.other, meanScaled s 1 x.sumB x.other, arr)
  | 4 => (meanScaled s 1 x.sumA x.count % 2 ^ 24, 0, 0)
  | 5 => (meanScaled s 4 x.sumA x.count, if x.other = 0 then 0 else meanScaled s 4 x.sumB x.other, 0)
  | _ => (x.lo + 2 ^ 16 * x.hi, meanScaled s 256 x.sumA x.count, x.other)

/-- The 32 bytes of a housekeeping result record. -/
def hkRecord (s : State) (h n kind : Nat) (e : CueEntry) (x : HkSum) : List Byte :=
  let w := hkWords s kind e x
  leBytes 2 n ++ leBytes 1 kind ++ leBytes 1 x.flags ++ leBytes 2 h ++ leBytes 2 x.count ++ leBytes 4 w.1
    ++ leBytes 4 w.2.1 ++ leBytes 4 x.tFirst ++ leBytes 4 x.tLast ++ leBytes 4 w.2.2 ++ leBytes 4 0

/-- The player's record of the occurrence commits to the cue's queue. -/
def hkCommit (h n kind : Nat) (s : State) : State :=
  match findCue s h with
  | none => s
  | some e =>
    let u := (commitItem e.cue.queue 6 (hkRecord s h n kind e (e.hk.get {} n)) (tookFree s)).2
    let v := updCue h (fun x => { x with
      hk := x.hk.set n {}, left := x.left.upd 0 (4096 + n) (· - 1)
      hkStarts := match x.hkStarts.find? (fun q => q.1 == n) with
        | some q => removeFirst q x.hkStarts
        | none => x.hkStarts }) u
    cueProgress h v

/-- A housekeeping input of node `n` that both converters sample. -/
def sharedInput (s : State) (n : Nat) : Bool :=
  (nodeRec s n).any (fun r => r.kind == 5 &&
    ((((s.img.active.map Image.hk).getD defaultHk).inputs[r.index]?).map HkInput.conv) == some 2)

/-- The player has gathered POINTS units; a batten player has its reference channel's results as well (`hi` counts
them), and a shared input its understudy's conversions (`other` counts them). -/
def hkFull (kind points : Nat) (shared : Bool) (x : HkSum) : Bool :=
  decide (points ≤ x.count) && (kind != 3 || decide (points ≤ x.hi)) && (!shared || decide (points ≤ x.other))

/-- The record commits once the player has gathered POINTS units. -/
def hkIfFull (h n kind : Nat) (s : State) : State :=
  match findCue s h with
  | none => s
  | some e => if hkFull kind e.cue.points (sharedInput s n) (e.hk.get {} n) then hkCommit h n kind s else s

end Sys2Proof.Machine
end

