-- ==== Sys2Proof/Machine/Battens.lean ====
section
/-! DEFINITION. The meanings of the emission commands: switches, slots, shots, the fine-phase line, current sense, the
governor and drive levels (R110 to R143, R549). -/

namespace Sys2Proof.Machine

/-! ### Emitter-supply switches (R140 to R143) -/

/-- A code of inputs 30 and 31 lies below 25 % or above 75 % of full scale. -/
def below25 (code : Nat) : Bool := decide (4 * code < 16383)
def above75 (code : Nat) : Bool := decide (3 * 16383 < 4 * code)

/-- The closing sequence may start (R141). -/
def closeReady (s : State) : Bool :=
  inShow s && !s.bat.hold && !s.bat.govTrip && !s.bat.swFault && !s.bat.short && decide (0 < linkCount s)
    && !s.bat.lsCmd && !s.bat.hsCmd && s.bat.closing.isNone

/-- Step 1: the low-side switch closes, or the sequence fails. `k` is what the inputs read for the later steps, where no
sample of them is taken in between (notes/assumptions/12.md). -/
def closeStart (in30 in31 : Nat) (k : Closing) (s : State) : State :=
  if below25 in30 && above75 in31 then
    { s with bat := { s.bat with lsCmd := true, cmdAt := s.now, disagree := none, closing := some k } }
  else switchFault s

/-- Step 2, 100 µs after step 1: the high-side switch closes, or the sequence fails. -/
def closeHigh (x : Nat) (s : State) : State :=
  match s.bat.closing with
  | none => s
  | some k =>
    if s.bat.hsCmd || decide (x < k.since + 100 * usTicks) then s
    else if below25 k.low31 && below25 k.low30 then
      { s with bat := { s.bat with hsCmd := true, cmdAt := k.since + 100 * usTicks } }
    else switchFault s

/-- Step 4, 200 µs after step 1: the sequence has passed and waits for the next slot boundary, or it fails. -/
def closeTop (x : Nat) (s : State) : State :=
  match s.bat.closing with
  | none => s
  | some k =>
    if !s.bat.hsCmd || decide (x < k.since + 200 * usTicks) then s
    else if above75 k.top30 then { s with bat := { s.bat with closed := true, closing := none } }
    else switchFault s

/-- The steps of the closing sequence that have come by tick `x`. -/
def closeSteps (x : Nat) (s : State) : State := closeTop x (closeHigh x s)

def execEmitterCloseStart (t : Nat) (in30a in31a in30b in31b in30c : Nat) (s : State) : Host.Outcome State Fault Refusal :=
  act t s (fun u => if closeReady u then
    closeStart in30a in31a { since := u.now, low30 := in30b, low31 := in31b, top30 := in30c } u else u)

/-- The readback agrees with the command (R143). -/
def readbackAgrees (s : State) (in30 in31 : Nat) : Bool :=
  if s.bat.hsCmd then above75 in30 && below25 in31 else below25 in30 && above75 in31

/-- A closing sequence takes the sample for its next step. -/
def Closing.sample (high : Bool) (in30 in31 : Nat) (k : Closing) : Closing :=
  if high then { k with top30 := in30 } else { k with low30 := in30, low31 := in31 }

/-- HS_RB, LS_RB and since when the readback disagrees; during the closing sequence its own steps judge the inputs. -/
def takeReadback (in30 in31 : Nat) (s : State) : State :=
  let since := if s.bat.closing.isSome || readbackAgrees s in30 in31 then none else some (s.bat.disagree.getD s.now)
  { s with bat := { s.bat with
      hsRb := above75 in30, lsRb := below25 in31, disagree := since
      closing := s.bat.closing.map (Closing.sample s.bat.hsCmd in30 in31) } }

/-- R140: a readback sample of inputs 30 and 31. -/
def readbackSample (in30 in31 : Nat) (s : State) : State :=
  closeSteps s.now (takeReadback in30 in31 (closeSteps (s.now - 1) s))

def execEmitterReadbackSample (t : Nat) (in30 in31 : Nat) (s : State) : Host.Outcome State Fault Refusal :=
  act t s (readbackSample in30 in31)

/-- A disagreement has lasted for more than 100 µs. -/
def disagreeDue (s : State) : Bool :=
  s.bat.disagree.any (fun x => decide (x + 100 * usTicks < s.now) && decide (s.bat.cmdAt + 100 * usTicks < s.now))

def execSwitchFault (t : Nat) (s : State) : Host.Outcome State Fault Refusal :=
  act t s (fun s0 =>
    let u := closeSteps s0.now s0
    if disagreeDue u then switchFault u else u)

/-! ### Slot boundaries (R112, R115, R132) -/

/-- The next slot boundary has come. -/
def slotDue (s : State) : Bool := inShow s && decide (boundaryTick s s.bat.slot ≤ tbTick s)

/-- The shots of a slot's descriptor: places of battens that may fire, each with its start (R113). -/
def descriptor (s : State) (n : Nat) : List (Place × Nat) :=
  ((placesAt s n).filter (fun p => battenFires s p.batten && (findCue s p.handle).any CueEntry.admitted)).map
    (fun p => (p, boundaryTick s n + jitter s s.bat.codeState p.batten))

/-- The cues that have a shot in slot `n`: they are cues of its group (R269), and a class B cue's shots of that group move no
more (R239). -/
def cueShots (s : State) (n : Nat) : List (Nat × Nat) :=
  (firsts [] ((placesAt s n).map Place.handle)).map (fun h => (slotGroup s n, h))

/-- A slot boundary: faults take effect, the code steps, a passed closing sequence lets battens fire, and the slot's
descriptor is issued. -/
def slotBoundary (s : State) : State :=
  let n := s.bat.slot
  let u := stepCode (applyFaults (closeSteps s.now s))
  let v := if u.bat.closed then { u with bat := { u.bat with closed := false, emCmd := true } } else u
  let old := v.sm.cueFired.filter (fun x => decide (groupNow v ≤ x.1))
  { v with
    bat := { v.bat with due := v.bat.due ++ descriptor v n, slot := n + 1 }
    sm := { v.sm with
      slots := v.sm.slots.drop n
      cueFired := old ++ (cueShots v n).filter (fun x => !old.contains x) } }

def execSlotBoundary (t : Nat) (s : State) : Host.Outcome State Fault Refusal :=
  act t s (fun u => if slotDue u then slotBoundary u else u)

/-! ### Shots (R113, R120 to R123, R127, R154 to R167, R549) -/

/-- The places of an act run for the current points of their cue on a channel: the point of the place's kind, in state
`state`. -/
def placePoint (s : State) (p : Place) (state c : Nat) : Option Point :=
  (curPoint s c p.handle).filter (fun q => q.rerun == p.reserve && q.state == state)

/-- Channels that the place's batten lights for its cue. -/
def placeLit (s : State) (p : Place) : List Nat :=
  match findCue s p.handle with
  | none => []
  | some e => litChannels s e p.batten

/-- Channels that listen for a place's shot. A reserve's point-length serves the channels that wait for a rerun of its
occurrence when it begins (R242). -/
def placeChannels (s : State) (p : Place) : List Nat :=
  if p.act = 1 ∧ p.idx = 0 then
    (placeLit s p).filter (fun c => !p.reserve || (getHist s c).rerunNext.contains (p.handle, p.occ))
  else if p.act = 1 then (placeLit s p).filter (fun c => (placePoint s p 1 c).isSome)
  else if p.act = 2 then (placeLit s p).filter (fun c => (placePoint s p 2 c).any (fun q => !q.windows.isEmpty))
  else []

/-- Channels whose point of the place's kind has no candidate and waits for the end of act two (R163, R167). -/
def emptyChannels (s : State) (p : Place) : List Nat :=
  (placeLit s p).filter (fun c => (placePoint s p 2 c).any (fun q => q.windows.isEmpty))

/-- The shot is the last of the point `q`. -/
def Point.lastAt (q : Point) (p : Place) : Bool := p.act == 2 && p.idx + 1 == q.shots2

/-- Every event of the listening rules that a shot on channel `c` follows. -/
def channelShot (s : State) (p : Place) (prof : ActProfile) (phase : Nat) (coarse launched : Bool) (start c : Nat) : Option Shot :=
  let cls := decide (p.cls = 0)
  let base := fun (segs : List (Nat × Nat)) (blanks : List (Int × Int)) =>
    ({ batten := p.batten, handle := p.handle, act := p.act, idx := p.idx, phase := phase, coarse := coarse
       launched := launched, workLight := false, safetyCls := cls, start := deviceOf s start, startTb := start
       preOfs := prof.preshowOfs, preLen := prof.preshowLen, k := prof.coincK, win := prof.coincWin
       hold := prof.ringHold, apHold := prof.apHold, segs := segs, blanks := blanks, interval := none, detector := []
       preCnt := 0, wref := false } : Shot)
  if p.act = 1 then some (base [(prof.gateStart, prof.gateLen)] [])
  else
    match curPoint s c p.handle with
    | none => none
    | some q => some (base (q.windows.map (fun w => (w.w0, 8))) (if cls then [] else blanksFor s c start))

/-- The reference channel's shot (R102). -/
def referenceShot (s : State) (p : Place) (phase : Nat) (coarse launched : Bool) (start : Nat) : Shot :=
  { batten := p.batten, handle := p.handle, act := p.act, idx := p.idx, phase := phase, coarse := coarse
    launched := launched, workLight := false, safetyCls := decide (p.cls = 0), start := deviceOf s start, startTb := start
    preOfs := 0, preLen := 0, k := fld s.rx.refCfg 4 0, win := fld s.rx.refCfg 15 8, hold := 0, apHold := 0
    segs := [(0, fld s.rx.refCfg 23 16)], blanks := [], interval := none, detector := [], preCnt := 0, wref := false }

/-- R127: the level waits for a shot that begins a point, or for any shot outside points. -/
def takeLevel (p : Place) (v : Batten) : Batten :=
  if (p.act = 1 ∧ p.idx = 0) ∨ p.kind = 4 then { v with level := v.nextLevel, derated := v.nextDer } else v

/-- The points of a place begin or go on to act two. -/
def pointEdge (p : Place) (chans : List Nat) (s : State) : State :=
  match findCue s p.handle with
  | none => s
  | some e =>
    if p.act = 1 ∧ p.idx = 0 then chans.foldl (fun u c => beginPoint c e p u) s
    else if p.act = 2 ∧ p.idx = 0 then
      chans.foldl (fun u c =>
        match curPoint u c p.handle with
        | some q => beginActTwo c q u
        | none => u) s
    else s

/-- What a shot of the point's batten that starts at device tick `start` leaves in the point: AZIMUTH at the middle shot of
act two, and SCENE, the firing time and the promise conditions in force at the last shot of each act: of a point whose
batten fires no act two, those of act one stand (R163, R186, R246, R292). -/
def Point.mark (s : State) (p : Place) (start : Nat) (q : Point) : Point :=
  let a := if p.act = 2 ∧ p.idx = 16 * q.prof.phaseReps then { q with azimuth := azimuthAt s start } else q
  if p.act = 1 ∧ p.idx + 1 = q.prof.shots1 then
    { a with scene := s.fs.scene, oneFired := some (deviceOf s start), conds := condsNow s }
  else if q.lastAt p then { a with scene := s.fs.scene, fired := some (deviceOf s start), conds := condsNow s }
  else a

/-- The points on `chans` take the marks of a shot that fires. -/
def pointMarks (p : Place) (start : Nat) (chans : List Nat) (s : State) : State :=
  chans.foldl (fun u c =>
    match curPoint u c p.handle with
    | none => u
    | some q => setPoint c (q.mark u p start) u) s

/-- The end of act two for a point without a candidate; where the batten fired no act two, its last shot was that of act
one (R163). -/
def endEmpty (p : Place) (chans : List Nat) (s : State) : State :=
  chans.foldl (fun u c =>
    match curPoint u c p.handle with
    | none => u
    | some q => if q.lastAt p then endActTwo c { q with fired := q.fired <|> q.oneFired } u else u) s

/-- A withheld shot of a housekeeping cue counts without a pulse. -/
def hkWithheld (p : Place) (s : State) : State :=
  match (hkTargets s 3 p.batten).find? (fun q => q.1 == p.handle) with
  | none => s
  | some q => hkIfFull q.1 q.2 3 (hkUpd q.1 q.2 (HkSum.stamp (tbUs s)) s)

/-- The batten's fire edge: its level, its start for the second-trip test, and the pulse that launches (R113, R124, R127,
R203). -/
def fireEdge (p : Place) (start phase : Nat) (launched : Bool) (s : State) : State :=
  let v := takeLevel p (getBatten s p.batten)
  let u := setBatten p.batten { v with starts := ((deviceOf s start, s.bat.slot - 1) :: v.starts).take 64 } s
  if launched then
    { u with bat := { u.bat with fired := u.bat.fired ++
        [{ batten := p.batten, time := deviceOf s start, cue := if p.kind = 4 then some p.handle else none
           phase := phase, width := ((batRec s p.batten).map BatRec.width).getD 0 }] } }
  else u

/-- The shot begins on every channel that listens, under the profile its point captured (R155), and on the batten's reference
channel where the map enables it (R46). -/
def listenShot (p : Place) (start phase : Nat) (coarse launched : Bool) (chans : List Nat) (s : State) : State :=
  let u := chans.foldl (fun u c =>
    match (curPoint u c p.handle).bind (fun q => channelShot u p q.prof phase coarse launched start c) with
    | some x => startShot c x u
    | none => u) s
  match refOf u p.batten with
  | some r =>
    if (chEntry u (1536 + r)).any ChEntry.enable then startShot (1536 + r) (referenceShot u p phase coarse launched start) u else u
  | none => u

/-- A shot whose cue has ended since its slot began (R252) still leaves its batten. The reference channel listens, and every
channel whose pre-show window runs; the point is gone, so nothing takes their words up. -/
def fireIssued (p : Place) (start : Nat) (s : State) : State :=
  let coarse := !s.bat.phLock
  let phase := if coarse then 0 else bitrev5 (p.idx % 32)
  let u := listenShot p start phase coarse s.bat.emCmd [] (fireEdge p start phase s.bat.emCmd s)
  u.rx.chan.foldl (fun v c => match c.2.shot with
    | some x => if x.startTb = start ∧ x.batten = p.batten ∧ c.1 < 1536 then startShot c.1 x v else v
    | none => v) u

/-- A shot of the descriptor starts. A batten whose channels all have no window does not fire its act-two shots (R163). -/
def fireShot (p : Place) (start : Nat) (s : State) : State :=
  if p.handle = 0 then fireIssued p start s else
  let chans := placeChannels s p
  let none2 := if p.act = 2 then emptyChannels s p else []
  let s0 := updCue p.handle (fun e => { e with state := if e.state = 2 then 3 else e.state }) s
  if chans.isEmpty && p.kind != 4 then endEmpty p none2 s0
  else
    let s1 := pointEdge p chans s0
    let coarse := !s.bat.phLock || chans.any (fun c => (curPoint s1 c p.handle).any Point.coarse)
    let phase := if coarse then 0 else bitrev5 (p.idx % 32)
    let launched := s.bat.emCmd
    let s2 := pointMarks p start (chans ++ none2) (fireEdge p start phase launched s1)
    let s3 := endEmpty p none2 (listenShot p start phase coarse launched chans s2)
    if launched || p.kind != 4 then s3 else hkWithheld p s3

/-- The first due shot of batten `b`. -/
def dueShot (s : State) (b : Nat) : Option (Place × Nat) :=
  s.bat.due.find? (fun q => q.1.batten == b && decide (q.2 ≤ tbTick s))

/-- Segment `n` of the work light may fire: a skew measurement runs in Standby, or a work-light slice of its engine. -/
def workLightOn (s : State) (n : Nat) : Bool :=
  (s.cal.skewRun && inStandby s && decide (n ≤ 16))
    || (((s.rh.kinds.get {} 0).running).any (fun i => i == n || (i == 15 && n == 16)))

/-- A work-light shot of segment `n`: K 2, WIN 8, one segment from tick 0 for 64 ticks, no jitter. Its edge leaves 32 ticks
later: PH_LOCK then decides on its phase (`Shot.relock`). -/
def workLightShot (n : Nat) (s : State) : State :=
  let i := s.cal.wlShots.get 0 n
  let coarse := !s.bat.phLock
  let x : Shot :=
    { batten := 64 + n, handle := 0, act := 0, idx := i, phase := if coarse then 0 else bitrev5 (i % 32), coarse := coarse
      launched := true, workLight := true, safetyCls := false, start := s.now, startTb := tbTick s, preOfs := 0, preLen := 0, k := 2, win := 8
      hold := 0, apHold := 0, segs := [(0, 64)], blanks := [], interval := none, detector := [], preCnt := 0, wref := false }
  (segmentChannels n).foldl (fun u c => startShot c x u)
    { s with cal := { s.cal with wlShots := s.cal.wlShots.set n (i + 1) } }

/-- SHOT_START of batten `b`, or of work-light segment b − 64. -/
def shotStart (b : Nat) (s : State) : State :=
  if 64 ≤ b then (if workLightOn s (b - 64) then workLightShot (b - 64) s else s)
  else
    match dueShot s b with
    | none => s
    | some q => fireShot q.1 q.2 { s with bat := { s.bat with due := removeFirst q s.bat.due } }

def execShotStart (t : Nat) (batten : Nat) (s : State) : Host.Outcome State Fault Refusal := act t s (shotStart batten)

/-! ### The fine-phase line (R119, R122, R123, R457) -/

/-- A code-density run starts (R457). -/
def startTapRun (s : State) : State := { s with cal := { s.cal with tapRun := true, tapFirst := none, tapAt := s.now } }

/-- Points in progress at a rise stay coarse (R123); a work-light edge that has not left takes its phase. -/
def markCoarse (s : State) : State :=
  { s with
    rx := { s.rx with chan := s.rx.chan.mapVals (fun _ v => { v with shot := v.shot.map (Shot.relock s.now true) }) }
    hist := { s.hist with chan := s.hist.chan.mapVals (fun _ v =>
      { v with cur := v.cur.map (fun p => if p.state = 1 ∨ p.state = 2 then { p with coarse := true } else p) }) } }

/-- R119: PH_LOCK rises after 4,096 good comparisons. A code-density run starts (R457), but not in Show with AUTO clear (R466). -/
def phaseLock (good : Nat) (s : State) : State :=
  if !s.bat.phLock && s.pwr.tpll && decide (4096 ≤ good) then
    let u := markCoarse { s with bat := { s.bat with phLock := true } }
    if calibrating u then startTapRun u else u
  else s

def execPhLockRise (t : Nat) (good : Nat) (s : State) : Host.Outcome State Fault Refusal := act t s (phaseLock good)

/-- The run in progress is void (R457). -/
def voidTapRun (s : State) : State := { s with cal := { s.cal with tapRun := false, tapFirst := none } }

def losePhase (s : State) : State := if s.bat.phLock then voidTapRun (phaseUnlock s) else s

/-- R119: PH_LOCK falls after 4 consecutive bad comparisons. -/
def execPhLockFall (t : Nat) (bad : Nat) (s : State) : Host.Outcome State Fault Refusal :=
  act t s (fun u => if 4 ≤ bad then losePhase u else u)

/-! ### Current sense (R129 to R132) -/

/-- The thresholds of BAT_CS_CFG. -/
def openThr (s : State) : Nat := fld s.bat.csCfg 7 0
def overThr (s : State) : Nat := fld s.bat.csCfg 15 8
def leakThr (s : State) : Nat := fld s.bat.csCfg 23 16
def openN (s : State) : Nat := fld s.bat.csCfg 27 24

/-- Open and Over-current tests of a pulse (Table 4.2). -/
def pulseFaults (b peak : Nat) (s : State) : State :=
  let v := { getBatten s b with peak := min peak 255, lowRun := if peak < openThr s then (getBatten s b).lowRun + 1 else 0 }
  let u := setBatten b v s
  let u1 := if openN s ≤ v.lowRun && !v.opened then battenFault b (fun x => { x with opened := true }) u else u
  if overThr s ≤ peak && !v.overCur then battenFault b (fun x => { x with overCur := true }) u1 else u1

/-- The governor takes an integral (R133 to R136). Readings taken at the device tick of the trip belong to the tripping update
(DESIGN CHOICE, notes/assumptions/20.md). -/
def governPulse (b integral : Nat) (s : State) : State :=
  let x := min integral 65535
  let v := getBatten s b
  let u := setBatten b { v with ringS := ringAdd v.ringS x, ringM := ringAdd v.ringM x, ringL := ringAdd v.ringL x } s
  let ws := [0, 1, 2].filter (overLimit u b)
  if ws = [] then u
  else if !u.bat.govTrip then govTrip b ws u
  else if u.bat.tripAt = u.now && u.bat.tripBat != b then govJoin b ws u
  else u

/-- A pulse of an emission-only cue enters the cue's sums. -/
def hkPulse (f : Fired) (peak integral : Nat) (s : State) : State :=
  match f.cue with
  | none => s
  | some h =>
    match (hkTargets s 3 f.batten).find? (fun q => q.1 == h) with
    | none => s
    | some q =>
      hkIfFull q.1 q.2 3 (hkUpd q.1 q.2 (fun x =>
        { x.stamp (tbUs s) with
          sumA := x.sumA + (min peak 255 : Nat), sumB := x.sumB + (min integral 65535 : Nat), other := x.other + 1 }) s)

/-- Device tick from which a pulse's readings are ready: 40 ns after the end of its gate pulse, WIDTH × 62.5 ps after the
edge (R124, R129). -/
def Fired.readyAt (f : Fired) : Nat := f.time + 160 + ceilDiv (f.phase + 8 * f.width) 32

/-- R129: the readings of the oldest pulse of batten `b` that has none yet. -/
def pulseReady (b peak integral : Nat) (s : State) : State :=
  match s.bat.fired.find? (fun f => f.batten == b) with
  | none => s
  | some f =>
    if s.now < f.readyAt then s
    else
      let u := { s with bat := { s.bat with fired := removeFirst f s.bat.fired } }
      hkPulse f peak integral (governPulse b integral (pulseFaults b peak u))

def execPulseSenseReady (t : Nat) (batten peak integral : Nat) (s : State) : Host.Outcome State Fault Refusal :=
  act t s (pulseReady batten peak integral)

/-- R142: a Short cuts the emitter supply, and BAT_STAT.SHORT is set. -/
def shortFault (b : Nat) (s : State) : State :=
  openSwitches { battenFault b (fun x => { x with short := true }) s with
    bat := { (battenFault b (fun x => { x with short := true }) s).bat with short := true, due := [] } }

/-- One batten's off-time sample in 0.1 mV. -/
def offSample (b level : Nat) (s : State) : State :=
  let v := getBatten s b
  let run := if leakThr s < level then v.leakRun + 1 else 0
  let u := setBatten b { v with leakRun := run } s
  if 2 ≤ run && !v.short then shortFault b u else u

/-- The off-time samples of slot `bat.slot − 1` are due: the supply is on, 1,600 ticks have passed since the boundary, and
they have not been taken (R130). -/
def offDue (s : State) : Bool :=
  s.bat.emCmd && decide (s.bat.offSlot < s.bat.slot) && decide (boundaryTick s (s.bat.slot - 1) + 1600 ≤ tbTick s)

/-- R130: one sample of every batten. `l` names the battens whose pin does not read 0, by its first entry for each
(notes/assumptions/12.md). -/
def offSamples (l : List (Nat × Nat)) (s : State) : State :=
  if offDue s then
    (List.range 64).foldl (fun u b => offSample b (((l.find? (fun q => q.1 == b)).map Prod.snd).getD 0) u)
      { s with bat := { s.bat with offSlot := s.bat.slot } }
  else s

def execOffTimeSample (t : Nat) (samples : List (Nat × Nat)) (s : State) : Host.Outcome State Fault Refusal :=
  act t s (offSamples samples)

/-! ### Governor buckets (R133) -/

/-- Bucket lengths in ticks: 3.125 µs, 100 µs, 10 ms. -/
def bucketTicks (w : Nat) : Nat :=
  match w with
  | 0 => 12500
  | 1 => 400000
  | _ => 40000000

/-- Bucket boundaries of window `w` passed so far. -/
def bucketsPassed (s : State) (w : Nat) : Nat :=
  match w with
  | 0 => s.bat.bucketS
  | 1 => s.bat.bucketM
  | _ => s.bat.bucketL

/-- The next boundary of window `w` has come; the count starts at reset. -/
def bucketDue (s : State) (w : Nat) : Bool :=
  decide (w ≤ 2) && decide (s.pwr.releasedAt + (bucketsPassed s w + 1) * bucketTicks w ≤ s.now)

/-- Every batten's ring of window `w` advances. -/
def advanceBucket (w : Nat) (s : State) : State :=
  let f := fun (v : Batten) =>
    match w with
    | 0 => { v with ringS := ringNext v.ringS 32 }
    | 1 => { v with ringM := ringNext v.ringM 100 }
    | _ => { v with ringL := ringNext v.ringL 100 }
  let bat := { s.bat with ch := s.bat.ch.mapVals (fun _ v => f v) }
  { s with bat :=
    match w with
    | 0 => { bat with bucketS := bat.bucketS + 1 }
    | 1 => { bat with bucketM := bat.bucketM + 1 }
    | _ => { bat with bucketL := bat.bucketL + 1 } }

def execGovBucketAdvance (t : Nat) (window : Nat) (s : State) : Host.Outcome State Fault Refusal :=
  act t s (fun u => if bucketDue u window then advanceBucket window u else u)

/-! ### Drive levels (R125 to R128) -/

def execDriveLevelUpdate (t : Nat) (group : Nat) (s : State) : Host.Outcome State Fault Refusal :=
  act t s (fun u => if group < 8 then noteWorst (updateGroup group u) else u)

/-! ### BAT_FAULT_CLR (R131, R137, R143, R150) -/

def faultClrAddr : Nat := 0x00030020

/-- A clear takes effect in Standby with the curtain down; elsewhere it is discarded with a violation. The flag says
whether it was taken. -/
def faultClear (p : Path) (f : State → State) (s : State) : Bool × State :=
  if rwsOpen s then (true, f s) else (false, violation p faultClrAddr kindRule s)

/-- Every batten-fault latch and SHORT clear, and the runs of low peaks and leaking samples begin anew (DESIGN CHOICE,
notes/assumptions/20.md). -/
def clearBattens (s : State) : State :=
  { s with bat := { s.bat with
      short := false
      ch := s.bat.ch.mapVals (fun _ v =>
        { v with opened := false, overCur := false, short := false, lowRun := 0, leakRun := 0, faultWait := false }) } }

def clearSwitch (s : State) : State := { s with bat := { s.bat with swFault := false } }

/-- GOV_TRIP clears only while every window sum lies below its limit. -/
def clearGovernor (s : State) : State :=
  if (List.range 64).all (fun b => [0, 1, 2].all (fun w => !overLimit s b w)) then
    { s with bat := { s.bat with govTrip := false, tripMulti := false, tripWin := 0, tripBat := 0 } }
  else s

def execBatCsClr (t : Nat) (path : Path) (s : State) : Host.Outcome State Fault Refusal :=
  act t s (onPath path (fun u => (faultClear path clearBattens u).2))

def execBatSwClr (t : Nat) (path : Path) (s : State) : Host.Outcome State Fault Refusal :=
  act t s (onPath path (fun u => (faultClear path clearSwitch u).2))

def execBatGovClr (t : Nat) (path : Path) (s : State) : Host.Outcome State Fault Refusal :=
  act t s (onPath path (fun u => (faultClear path clearGovernor u).2))

end Sys2Proof.Machine
end

