-- ==== Sys2Proof/Machine/Receive.lean ====
section
/-! DEFINITION. The meanings of the receive-channel commands: listening intervals, SPAD events, the ends of a shot, the
locks and the counter selection (R76 to R107). -/

namespace Sys2Proof.Machine

/-! ### Listening intervals (R82, R86, R89) -/

/-- Shots whose start is known: those of issued descriptors, and those of the next slot (R113). -/
def comingShots (s : State) : List (Place × Nat) :=
  s.bat.due ++ ((placesAt s s.bat.slot).filter (fun p => battenFires s p.batten)).map
    (fun p => (p, boundaryTick s s.bat.slot + jitter s (nextCode s) p.batten))

/-- The pre-show window of a coming shot on channel `c` is open: the shot's place, start and rules. -/
def preshowShot (s : State) (c : Nat) : Option Shot :=
  (comingShots s).findSome? (fun q =>
    if p_lights s c q.1 then
      match (findCue s q.1.handle).bind (fun e => profileOf s e.cue) with
      | none => none
      | some pr0 =>
        let pr := ((curPoint s c q.1.handle).map Point.prof).getD pr0
        let coarse := !s.bat.phLock || (curPoint s c q.1.handle).any Point.coarse
        let phase := if coarse then 0 else bitrev5 (q.1.idx % 32)
        (channelShot s q.1 pr phase coarse s.bat.emCmd q.2 c).filter (fun x =>
          decide (x.preOfs ≠ 0) && decide (x.preOfs ≤ x.counter s.now) && decide (x.counter s.now < x.preOfs + x.preLen))
    else none)
where
  /-- The place's batten lights the channel, and the channel takes part. -/
  p_lights (s : State) (c : Nat) (p : Place) : Bool := (placeChannels s p).contains c

/-- An interval opens on a running shot; the detector clears unless the segment touches the one before. -/
def openInterval (c : Nat) (i : Interval) (x : Shot) (s : State) : State :=
  let v := x.counter s.now
  let put := fun (y : Shot) => setChan c { getChan s c with shot := some y } s
  match i with
  | .preshow => s
  | .tick0 => if v = 0 && !isReference c then put { x with interval := some .tick0, detector := [] } else s
  | .segment g =>
    if segmentOf x.segs v = some g then
      put { x with interval := some (.segment g), detector := if x.touches g then x.detector else [] }
    else s

/-- LISTEN_OPEN. A pre-show window opens before its shot's start, so the shot begins listening then (R97). -/
def listenOpen (c : Nat) (i : Interval) (s : State) : State :=
  match i with
  | .preshow =>
    if isReference c then s
    else
      match preshowShot s c with
      | none => s
      | some x =>
        if endedEarly s c x then s else
        let u := cutShot c s
        let y : Shot := { x with interval := some .preshow }
        if voidNow u c y then finishShot c y outVoid 0 0 u else setChan c { getChan u c with shot := some y, apHold := y.apHold } u
  | _ =>
    match (getChan s c).shot with
    | none => s
    | some x => openInterval c i x s

def execListenOpen (t : Nat) (channel : Nat) (interval : Interval) (s : State) : Host.Outcome State Fault Refusal :=
  act t s (listenOpen channel interval)

/-- R80: the time of the event is the command's tick with `sub` in 1/1,024 tick. -/
def execSpadEvent (t : Nat) (channel spad sub : Nat) (s : State) : Host.Outcome State Fault Refusal :=
  act t s (fun u => if channel < 1552 ∧ spad < 16 then spadEvent channel spad sub u else u)

/-- The detector of a running shot clears when `p` holds of it at its counter value. -/
def clearDetector (c : Nat) (p : Shot → Int → Bool) (s : State) : State :=
  match (getChan s c).shot with
  | none => s
  | some x => if p x (x.counter s.now) then setChan c { getChan s c with shot := some { x with detector := [] } } s else s

/-- R91: the counter reaches RING_HOLD. -/
def ringHoldEnd (c : Nat) (s : State) : State := clearDetector c (fun x v => decide (v = x.hold)) s

def execRingHoldEnd (t : Nat) (channel : Nat) (s : State) : Host.Outcome State Fault Refusal := act t s (ringHoldEnd channel)

/-- R209: a blanking interval has ended. -/
def blankEnd (c : Nat) (s : State) : State := clearDetector c (fun x v => x.blanks.any (fun b => decide (v = b.2 + 1))) s

def execBlankIntervalEnd (t : Nat) (channel : Nat) (s : State) : Host.Outcome State Fault Refusal := act t s (blankEnd channel)

/-- R93: no stop by the end of the last segment. -/
def shotTimeout (c : Nat) (s : State) : State :=
  match (getChan s c).shot with
  | none => s
  | some x => if (x.lastTick : Int) < x.counter s.now then finishShot c x outNoReturn 0 0 s else s

def execShotTimeout (t : Nat) (channel : Nat) (s : State) : Host.Outcome State Fault Refusal := act t s (shotTimeout channel)

/-! ### Locks (R78, R99, R104, R119) -/

/-- The TPLL domain loses lock: shots end Void and PH_LOCK falls. -/
def tpllUnlock (s : State) : State :=
  losePhase (voidShots { s with pwr := { s.pwr with tpll := false }, rx := { s.rx with tickLock := false } })

/-- The clock gate of channel `c` loses lock: its shot ends Void (R99, Table 3.5). -/
def gateUnlock (c : Nat) (s : State) : State :=
  voidShot c (setChan c { getChan s c with gateLost := true } { s with rx := { s.rx with tickLock := false } })

def execTpllUnlock (loss : LockLoss) (s : State) : Host.Outcome State Fault Refusal :=
  act loss.t s (match loss.gate with
    | none => tpllUnlock
    | some c => if c < 1552 then gateUnlock c else id)

/-- The TPLL is locked and every clock gate is in service. -/
def tickLockRise (s : State) : State :=
  { s with
    pwr := { s.pwr with tpll := true }
    rx := { s.rx with tickLock := true, chan := s.rx.chan.mapVals (fun _ v => { v with gateLost := false }) } }

def execTickLockRise (t : Nat) (s : State) : Host.Outcome State Fault Refusal := act t s tickLockRise

def biasFall (s : State) : State := voidShots { s with rx := { s.rx with biasOk := false } }

def execBiasOkFall (t : Nat) (s : State) : Host.Outcome State Fault Refusal := act t s biasFall

/-- The bias has a target from step 7 of dress rehearsal on, and no search sweeps it (R78). -/
def biasHasTarget (s : State) : Bool := decide (s.pwr.releasedAt + 16 * msTicks ≤ s.now) && !s.cal.bdRun

def biasRise (s : State) : State := if biasHasTarget s then { s with rx := { s.rx with biasOk := true } } else s

def execBiasOkRise (t : Nat) (s : State) : Host.Outcome State Fault Refusal := act t s biasRise

/-! ### RX_CNT_SEL (R79, R106) -/

def cntSelAddr : Nat := 0x00020010

/-- The write clears the six counters. The flag says whether it was taken. -/
def selectCounters (p : Path) (v : W32) (s : State) : Bool × State :=
  if 1551 < fld v 10 0 then (false, violation p cntSelAddr kindRange s)
  else
    (true, { s with rx := { s.rx with
      cntSel := merge 0x800007FF#32 s.rx.cntSel v
      cntStop := 0, cntNoret := 0, cntCut := 0, cntVoid := 0, cntWref := 0, cntPre := 0 } })

def execRxCntSelWrite (t : Nat) (path : Path) (value : W32) (s : State) : Host.Outcome State Fault Refusal :=
  act t s (onPath path (fun u => (selectCounters path value u).2))

end Sys2Proof.Machine
end

