-- ==== Sys2Proof/Machine/Points.lean ====
section
/-! DEFINITION. The meanings of the histogram-engine, filter-engine and train-analyser commands (R160 to R189, R205 to
R211, R459, R473). -/

namespace Sys2Proof.Machine

/-! ### Shot results (R160, R164, R455, R459, R473) -/

/-- A player's cue on the reference channel of a shot (R473): stops, no-returns and flags. -/
def HkSum.takeReference (us : Nat) (r : ShotResult) (x : HkSum) : HkSum :=
  let o := wordOutcome r.word
  let y := x.stamp us
  { y with
    sumA := y.sumA + (bn (o == outStop) : Nat), sumB := y.sumB + (if o = outStop then wordStop r.word else 0 : Nat)
    other := y.other + bn (o == outNoReturn)
    flags := (BitVec.ofNat 8 y.flags ||| BitVec.ofNat 8 (bn r.coarse + 2 * bn (o == outVoid))).toNat }

/-- The emission-only cue that fired the shot takes its reference arrival (R473); `hi` counts the results. -/
def HkSum.takeArrival (reps : Nat) (r : ShotResult) (x : HkSum) : HkSum :=
  let o := wordOutcome r.word
  let counted := o != outVoid && !r.coarse && r.launched && !x.entry.blind && !x.entry.full reps
  let stop := if o = outStop then some (wordStop r.word) else none
  { x with
    hi := x.hi + 1, entry := if counted then x.entry.take reps stop r.phase else x.entry
    flags := (BitVec.ofNat 8 x.flags ||| BitVec.ofNat 8 (bn r.coarse + 2 * bn (o == outVoid))).toNat }

/-- Housekeeping cues take a result of reference channel `k`. -/
def hkReference (k : Nat) (r : ShotResult) (s : State) : State :=
  let u := (hkTargets s 2 k).foldl (fun x q =>
    hkIfFull q.1 q.2 2 (hkUpd q.1 q.2 (HkSum.takeReference (tbUs s) r) x)) s
  match (hkTargets u 3 r.batten).find? (fun q => q.1 == r.handle) with
  | none => u
  | some q => hkIfFull q.1 q.2 3 (hkUpd q.1 q.2 (HkSum.takeArrival (calReps u) r) u)

/-- A running work-light slice counts the shots of its channels and their stops (Table 13.4). -/
def tallyShot (c : Nat) (r : ShotResult) (s : State) : State :=
  if ((getKind s 0).running).any (fun i => (sliceChannels i).contains c) && wordOutcome r.word != outVoid && !r.coarse then
    { s with rh := { s.rh with
        tally := s.rh.tally.upd (0, 0) c (fun x => (x.1 + 1, x.2 + bn (wordOutcome r.word == outStop))) } }
  else s

/-- A result goes where its emitter and channel say: a work-light shot to entry 64 + c, a shot on a reference channel to
its batten's entry and the housekeeping cues, every other one to its point. -/
def takeResult (c : Nat) (r : ShotResult) (s : State) : State :=
  if r.workLight then
    let u := tallyShot c r s
    if calibrating u then calAccumulate (64 + c) r u else u
  else if isReference c then
    hkReference (c - 1536) r (if r.launched && inShow s && calibrating s then calAccumulate r.batten r s else s)
  else accumulate c r s

/-- The oldest result of channel `c` is taken. -/
def resultAccumulate (c : Nat) (s : State) : State :=
  let v := getChan s c
  match v.results with
  | [] => s
  | r :: rest => takeResult c r (setChan c { v with results := rest } s)

def execShotResultAccumulate (t : Nat) (channel : Nat) (s : State) : Host.Outcome State Fault Refusal :=
  act t s (resultAccumulate channel)

/-! ### Filter engines (R173 to R181) -/

/-- The lowest free running engine. -/
def freeEngine (s : State) : Option Nat :=
  (List.range 8).find? (fun n =>
    !engineStopped s n && ((s.hist.engines.get {} n).busy).isNone && !s.hist.feStop.getLsbD n)

/-- Engine `n` takes the first point of cue `h` that no engine has. -/
def takenBy (n h : Nat) (l : List Point) : List Point :=
  match l with
  | [] => []
  | p :: r => if p.handle = h ∧ p.engine = none then { p with engine := some n } :: r else p :: takenBy n h r

/-- The point that has waited longest is taken by the lowest free running engine. -/
def filterStart (s : State) : State :=
  match s.hist.waiting, freeEngine s with
  | q :: rest, some n =>
    let u := { s with hist := { s.hist with
        waiting := rest, engines := s.hist.engines.upd {} n (fun e => { e with busy := some (q.2.1, q.2.2) }) } }
    openRecord n q.2.1 q.2.2 (setHist q.2.1 { getHist u q.2.1 with forming := takenBy n q.2.2 (getHist u q.2.1).forming } u)
  | _, _ => s

def execFilterStart (t : Nat) (s : State) : Host.Outcome State Fault Refusal := act t s filterStart

/-- The point that engine `n` forms, taken out of its channel, with the set that the engine held at its first shot. -/
def takeForming (n c : Nat) (s : State) : Option Point × State :=
  let v := getHist s c
  match v.forming.find? (fun p => p.engine == some n) with
  | none => (none, s)
  | some p => (some { p with fset := p.sets.getD n p.fset }, setHist c { v with forming := removeFirst p v.forming } s)

/-- The engine is free again, with nothing open; it stops where STOP asks for it (R177), and takes the sets that wait for it
(R68). -/
def freeFilter (n : Nat) (s0 : State) : State :=
  let s := closeRecord n s0
  let stop := s.hist.feStop.getLsbD n
  let u := { s with hist := { s.hist with
    engines := s.hist.engines.upd {} n (fun e => { e with busy := none, stopped := e.stopped || stop }) } }
  if engineStopped u n then feedEngine n u else u

/-- Engine `n` finishes its point, which is formed. -/
def filterDone (n : Nat) (s : State) : State :=
  match (s.hist.engines.get {} n).busy with
  | none => s
  | some (c, _) =>
    match takeForming n c s with
    | (none, u) => freeFilter n u
    | (some p, u) => freeFilter n (formPoint c p u)

def execFilterDone (t : Nat) (engine : Nat) (s : State) : Host.Outcome State Fault Refusal := act t s (filterDone engine)

/-- STOP[n] is set (R177): an idle engine stops at once. -/
def setStop (n : Nat) (s : State) : State :=
  let u := { s with hist := { s.hist with feStop := s.hist.feStop ||| (1#8 <<< n) } }
  refreshConds (if ((u.hist.engines.get {} n).busy).isNone then freeFilter n u else u)

/-- STOP[n] is cleared: in Show the engine returns to the pool. -/
def clearStop (n : Nat) (s : State) : State :=
  refreshConds { s with hist := { s.hist with
    feStop := s.hist.feStop &&& ~~~(1#8 <<< n)
    engines := if inShow s then s.hist.engines.upd {} n (fun e => { e with stopped := false }) else s.hist.engines } }

def execFeStopSet (t : Nat) (path : Path) (engine : Nat) (s : State) : Host.Outcome State Fault Refusal :=
  act t s (onPath path (fun u => if engine < 8 then setStop engine u else u))

def execFeStopClear (t : Nat) (path : Path) (engine : Nat) (s : State) : Host.Outcome State Fault Refusal :=
  act t s (onPath path (fun u => if engine < 8 then clearStop engine u else u))

/-- HIST_FE_CTRL.STOP written as a whole. -/
def writeStops (v : Nat) (s : State) : State :=
  (List.range 8).foldl (fun u n =>
    if v / 2 ^ n % 2 = u.hist.feStop.toNat / 2 ^ n % 2 then u
    else if v / 2 ^ n % 2 = 1 then setStop n u else clearStop n u) s

/-- An engine asked to stop has no point in progress: it stops, and the sets that wait for it are written (R68). -/
def engineStops (n : Nat) (s : State) : State :=
  if s.hist.feStop.getLsbD n && ((s.hist.engines.get {} n).busy).isNone then freeFilter n s else s

def execFilterEngineStopped (t : Nat) (engine : Nat) (s : State) : Host.Outcome State Fault Refusal :=
  act t s (engineStops engine)

/-! ### The train analyser (R206 to R208) -/

/-- Where the first gate that is not closed ends. -/
def gateEnd (r : RejParams) (s : State) : Nat :=
  s.rej.gates.foldl (fun m g => min m g.stop) ((s.rej.nextGate + 1) * gateTicks r)

/-- That gate has ended 200 µs ago (R206). -/
def gateDue (s : State) (r : RejParams) : Bool := decide (gateEnd r s + 200 * usTicks ≤ tbTick s)

/-- The trains on which the fits of the next gate work: those after the last gate's fits, completed or not. -/
def trainsFitted (s : State) : Tab Train := s.rej.fits.getLastD s.rej.trains

/-- The gate closes: its stamps are fitted; the fits wait for their completion. With FTA_TRAINS 0 nothing is stamped and
nothing is fitted (R205). -/
def closeGate (r : RejParams) (s : State) : State :=
  let stop := gateEnd r s
  let stamps := (s.rej.gates.filter (fun g => g.stop == stop)).flatMap Gate.stamps
  { s with rej := { s.rej with
      gates := s.rej.gates.filter (fun g => g.stop != stop)
      nextGate := if (s.rej.nextGate + 1) * gateTicks r ≤ stop then s.rej.nextGate + 1 else s.rej.nextGate
      fits := if r.ftaTrains = 0 then s.rej.fits else s.rej.fits ++ [fitGate r (trainsFitted s) stop stamps] } }

def gateClose (s : State) : State :=
  match rejParams s with
  | none => s
  | some r => if gateDue s r then closeGate r s else s

def execFtaGateClose (t : Nat) (s : State) : Host.Outcome State Fault Refusal := act t s gateClose

/-- The fits of the oldest gate apply (R208). -/
def fitDone (s : State) : State :=
  match s.rej.fits with
  | [] => s
  | ts :: rest => { s with rej := { s.rej with trains := ts, fits := rest } }

def execFtaFitDone (t : Nat) (s : State) : Host.Outcome State Fault Refusal := act t s fitDone

end Sys2Proof.Machine
end

