-- ==== Sys2Proof/Machine/Calibrate.lean ====
section
/-! DEFINITION. The meanings of the calibration and rehearsal-slice commands (R451 to R475, R249). -/

namespace Sys2Proof.Machine

/-! ### Code density (R457, R466) -/

def calCtrlAddr : Nat := 0x000D0000

/-- RUN_TAP starts a run; one in progress goes on. -/
def runTap (s : State) : State := if s.cal.tapRun then s else startTapRun s

def execCalRunTap (t : Nat) (path : Path) (s : State) : Host.Outcome State Fault Refusal :=
  act t s (onPath path runTap)

/-- A run of 2^20 strobes ends: it is the measurement, or the repeat that is judged with it. -/
def densityRunEnd (counts : List Nat) (s : State) : State :=
  if !s.cal.tapRun then s
  else
    let q := tapsOfCounts counts
    let u := { s with cal := { s.cal with tapCounts := counts } }
    match s.cal.tapFirst with
    | none => { u with cal := { u.cal with tapFirst := some q } }
    | some a => judgeTaps a q { u with cal := { u.cal with tapRun := false, tapFirst := none } }

def execCodeDensityRunEnd (t : Nat) (counts : List Nat) (s : State) : Host.Outcome State Fault Refusal :=
  act t s (densityRunEnd counts)

/-- CAL_CFG.PERIOD in ticks, and TEMP_DELTA in 1/16 K. -/
def calPeriod (s : State) : Nat := fld s.cal.cfg 23 16 * secTicks
def tempDelta (s : State) : Nat := 16 * fld s.cal.cfg 31 24

/-- R466: PERIOD has passed since the last run, or hotspot 0 has moved since the accepted set. -/
def tapRecalDue (s : State) : Bool :=
  s.cal.auto && inShow s && !s.cal.tapRun
    && (decide (s.cal.tapAt + calPeriod s ≤ s.now)
      || (s.cal.valid.getLsbD 0 && !within (s.th.spots.get {} 0).tj s.cal.tapTemp (tempDelta s - 1)))

def execTapRecalTrigger (t : Nat) (s : State) : Host.Outcome State Fault Refusal :=
  act t s (fun u => if tapRecalDue u then startTapRun u else u)

/-! ### Converters, skews and breakdown (R460, R462, R466) -/

/-- RUN_CONV: inputs 24 to 27 of both converters are measured, with a repeat. -/
def runConv (s : State) : State := { s with cal := { s.cal with convRun := true, convCodes := [], convFirst := [] } }

def execCalRunConv (t : Nat) (path : Path) (s : State) : Host.Outcome State Fault Refusal :=
  act t s (onPath path runConv)

/-- A RUN bit that takes effect only in Standby. -/
def standbyRun (p : Path) (f : State → State) (s : State) : State :=
  if inStandby s then f s else violation p calCtrlAddr kindRule s

/-- RUN_SKEW: the skew of every channel is measured anew. -/
def startSkew (s : State) : State :=
  { s with cal := { s.cal with
      skewRun := true, wlShots := [], entries := s.cal.entries.filter (fun q => decide (q.1 < 64)) } }

def execCalRunSkew (t : Nat) (path : Path) (s : State) : Host.Outcome State Fault Refusal :=
  act t s (onPath path (standbyRun path startSkew))

/-- RUN_BD: a breakdown search; the bias sweeps, so BIAS_OK falls (R78). -/
def startSearch (s : State) : State := biasFall { s with cal := { s.cal with bdRun := true, bdFirst := none } }

def execCalRunBd (t : Nat) (path : Path) (s : State) : Host.Outcome State Fault Refusal :=
  act t s (onPath path (standbyRun path startSearch))

/-- A search ends: it is the measurement, or the repeat that is judged with it. `fired` counts the SPADs that fired at each
step. -/
def searchEnd (fired : List Nat) (s : State) : State :=
  if !s.cal.bdRun then s
  else
    let r := (searchFound s fired).map (fun mv => referBreakdown s mv (s.th.spots.get {} 2).tj)
    match s.cal.bdFirst with
    | none =>
      if r.isNone then judgeBreakdown none none { s with cal := { s.cal with bdRun := false } }
      else { s with cal := { s.cal with bdFirst := some r } }
    | some a => judgeBreakdown a r { s with cal := { s.cal with bdRun := false, bdFirst := none } }

def execBreakdownSearchEnd (t : Nat) (fired : List Nat) (s : State) : Host.Outcome State Fault Refusal :=
  act t s (searchEnd fired)

/-! ### Entries (R455, R456, R459) -/

/-- A skew measurement of every channel ends with the judgement of its last entry. -/
def skewRunEnds (s : State) : State :=
  if s.cal.skewRun && (List.range 1552).all (fun c => (s.cal.entries.get {} (64 + c)).state == 3) then
    { s with cal := { s.cal with skewRun := false } }
  else s

/-- In Show with AUTO clear no entry is judged (R466). -/
def entryComplete (k : Nat) (s : State) : State :=
  if k < 1616 && calibrating s then skewRunEnds (completeEntry k s) else s

def execCalEntryComplete (t : Nat) (entry : Nat) (s : State) : Host.Outcome State Fault Refusal := act t s (entryComplete entry)

/-- R459: PERIOD has passed since the judgement, or the temperature has moved. -/
def remeasureDue (s : State) (b : Nat) : Bool :=
  (s.cal.entries.get {} b).state == 3 &&
    ((getBatten s b).edAt.any (fun x => decide (x + calPeriod s ≤ s.now))
      || !within (sourceTemp s (battenSource s b)) (getBatten s b).edTemp (tempDelta s - 1))

def execEdelayRemeasure (t : Nat) (batten : Nat) (s : State) : Host.Outcome State Fault Refusal :=
  act t s (fun u => if batten < 64 && calibrating u && remeasureDue u batten then restartEntry batten u else u)

/-! ### Bias and eyes (R460, R464) -/

def biasDue (s : State) : Bool := !s.fs.sceneRun && decide (s.cal.biasAt + 10 * msTicks ≤ s.now)

def execBiasTargetUpdate (t : Nat) (s : State) : Host.Outcome State Fault Refusal :=
  act t s (fun u => if biasDue u then updateBias u else u)

/-- Eyes of a lane's signal: three at a PAM4 rate, one at the NRZ rate (R464). -/
def eyeCount (v : Lane) : Nat := if v.rate = 0 then 1 else 3

/-- The smallest of the readings of a lane's eyes, within a 16-bit field. -/
def smallestEye (v : Lane) (l : List Nat) : Nat := min 65535 (((l.take (eyeCount v)).min?).getD 0)

/-- The lane is in ACTIVE, and 100 ms have passed since it was measured there. -/
def eyeDue (s : State) (l : Nat) : Bool :=
  let v := getLane s l
  decide (l < 4) && decide (v.state = .active)
    && v.eyeAt.all (fun e => decide (e < v.since) || decide (e + 100 * msTicks ≤ s.now))

/-- The eyes of a lane in ACTIVE: widths in 1/64 UI, heights in mV. -/
def eyeMeasured (l : Nat) (widths heights : List Nat) (s : State) : State :=
  if eyeDue s l then
    updLane l (fun v => { v with eyeW := smallestEye v widths, eyeH := smallestEye v heights, eyeAt := some s.now }) s
  else s

def execEyeMonitor (t : Nat) (lane : Nat) (width height : List Nat) (s : State) : Host.Outcome State Fault Refusal :=
  act t s (eyeMeasured lane width height)

/-! ### Rehearsal slices (R249, R469 to R472) -/

/-- The slice takes its resources in the running group. -/
def takeSlice (k i : Nat) (s : State) : State :=
  let w : For := { handle := 65536 + k, cls := 1, occ := 0, spare := false }
  match k with
  | 0 =>
    let chans := sliceChannels i
    let fresh := chans.foldl (fun (t : Tab CalEntry) c =>
      if calibrating s && (t.get {} (64 + c)).state == 3 then t.set (64 + c) {} else t) s.cal.entries
    let u := { s with
      rh := { s.rh with tally := [], saved := chans.map (fun c => (64 + c, fresh.get {} (64 + c))) }, cal := { s.cal with entries := fresh } }
    book w (groupNow s) i 640 (yieldBulk i (groupNow s) u)
  | 1 => book w (groupNow s) (29 + i) 6 s
  | _ => s

/-- A slice of kind `k` on instance `i` may begin: it was placed in this group, or none is placed and it comes next here. -/
def sliceDue (s : State) (k i : Nat) : Bool :=
  sliceEnabled s k && s.rh.drDone && (getKind s k).running.isNone
    && (match (getKind s k).placed.filter (fun x => decide (groupNow s ≤ x.2)) with
      | some x => x == (i, groupNow s)
      | none => nextInstance s k (groupNow s) == some i)

/-- A slice of kind `k` begins on instance `i`. -/
def startSlice (k i : Nat) (s : State) : State :=
  if sliceDue s k i then
    takeSlice k i (updKind k (fun v =>
      { v with running := some i, since := s.now, placed := none, next := (i + 1) % max 1 (sliceInstances k) }) s)
  else s

def execSliceStart (t : Nat) (kind inst : Nat) (s : State) : Host.Outcome State Fault Refusal := act t s (startSlice kind inst)

/-- The slice is over: its booking ends. -/
def leaveSlice (k : Nat) (s : State) : State :=
  updKind k (fun v => { v with running := none })
    { s with sm := { s.sm with books := s.sm.books.filter (fun b => b.handle != 65536 + k) } }

/-- Ticks a slice takes (Table 13.4): a lane slice 1 ms at each rate its plan allows. -/
def sliceLength (s : State) (k i : Nat) : Nat :=
  match k with
  | 0 => 16 * usTicks
  | 1 => 6 * usTicks
  | 2 => 2400 * usTicks
  | 3 => (popCount (BitVec.ofNat 16 (getLane s i).plan.rates)) * msTicks
  | _ => 250 * usTicks

/-- The slice of kind `k` has taken its time, and its last reading lies in an earlier core clock cycle: a service request of that
cycle has come before (R472). -/
def sliceOver (s : State) (k i : Nat) : Bool :=
  decide (coreCycle ((getKind s k).since + sliceLength s k i) < coreCycle s.now)

/-- Work-light channels of the slice that are enabled and stopped in fewer than 1/8 of their counted shots. -/
def failingOf (s : State) (i : Nat) : List Nat :=
  (sliceChannels i).filter (fun c =>
    (chEntry s c).any ChEntry.enable && decide (8 * (s.rh.tally.get (0, 0) c).2 < (s.rh.tally.get (0, 0) c).1))

/-- The converter's reading of a slice: the first waits for its repeat in the next slice, which is judged with it unless AUTO
is clear in Show (R466). The flag says whether the check passed. -/
def sliceConverter (i : Nat) (codes : ConvCodes) (s : State) : Bool × State :=
  match s.rh.convFirst.find i with
  | none => (convPlausible codes, { s with rh := { s.rh with convFirst := s.rh.convFirst.set i codes } })
  | some a =>
    let u := { s with rh := { s.rh with convFirst := s.rh.convFirst.drop i } }
    (convAccepted a codes, if calibrating s then judgeConv i a codes u else u)

/-- An excitation slice: `readings` are EXC_I and the current in nA; `calm` says that compliance was not reached. -/
def sliceExcitation (readings : List Nat) (calm : Bool) : Bool :=
  match readings with
  | [want, nA] => calm && !currentFar want nA
  | _ => false

/-- The check of a slice (Table 13.4). For a lane `readings` are its uncorrectable codewords at each rate, for a safe output what
the comparators of HS and LS read at 3 V and then at VDD_SAFE − 3 V. -/
def sliceCheck (k i : Nat) (readings : List Nat) (pass : Bool) (codes : Option ConvCodes) (s : State) : Bool × State :=
  match k with
  | 0 => ((failingOf s i).isEmpty, s)
  | 1 => match codes with
    | some c => sliceConverter i c s
    | none => (false, s)
  | 2 => (sliceExcitation readings pass, s)
  | 3 => (readings.all (fun n => n == 0), s)
  | _ => (readings == [0, 0, 1, 1], s)

/-- What a second consecutive failure does (R471). A failing converter marks its results as they are published. -/
def sliceEffect (k i : Nat) (s : State) : State :=
  match k with
  | 0 => failPlayers (noteWorst { s with rh := { s.rh with failChan := firsts [] (s.rh.failChan ++ failingOf s i) } })
  | 1 => setEvent evDisagree { s with rh := { s.rh with failConv := firsts [] (s.rh.failConv ++ [i]) } }
  | 2 =>
    setEvent evAuxFault { s with
      rh := { s.rh with failExc := firsts [] (s.rh.failExc ++ [i]) }, hk := { s.hk with excFault := s.hk.excFault ||| (1#4 <<< i) } }
  | 3 => laneOff i (updLane i (fun v => { v with fail := true }) s)
  | _ => outputFault i s

/-- A passing slice ends what its instance's failures set, but for a lane, which stays in OFF until the next reset. -/
def slicePassed (k i : Nat) (s : State) : State :=
  match k with
  | 0 => { s with rh := { s.rh with failChan := s.rh.failChan.filter (fun c => !(sliceChannels i).contains c) } }
  | 1 => { s with rh := { s.rh with failConv := s.rh.failConv.filter (fun x => x != i) } }
  | 2 => { s with rh := { s.rh with failExc := s.rh.failExc.filter (fun x => x != i) } }
  | _ => s

/-- The slice of kind `k` on instance `i` is judged. A failed instance comes next again (R471). -/
def judgeSlice (k i : Nat) (readings : List Nat) (pass : Bool) (codes : Option ConvCodes) (s : State) : State :=
  let r := sliceCheck k i readings pass codes (leaveSlice k s)
  let n := if r.1 then 0 else (getKind s k).fails.get 0 i + 1
  let u := updKind k (fun v => { v with
    last := if r.1 then 1 else 2, doneAt := v.doneAt.set i s.now, fails := v.fails.set i n
    next := if r.1 then v.next else i, starved := v.starved.filter (fun x => x != i) }) r.2
  let w := { u with rh := { u.rh with
    cntSlice := inc32 u.rh.cntSlice, cntFail := satAdd 32 u.rh.cntFail (bn (!r.1)), saved := [] } }
  if r.1 then slicePassed k i w else if 2 ≤ n then sliceEffect k i w else w

/-- A slice that has taken its time completes and is judged. -/
def endSlice (k : Nat) (readings : List Nat) (pass : Bool) (codes : Option ConvCodes) (s : State) : State :=
  match (getKind s k).running with
  | none => s
  | some i => if sliceOver s k i then judgeSlice k i readings pass codes s else s

def execSliceEnd (t : Nat) (kind : Nat) (readings : List Nat) (pass : Bool) (codes : Option ConvCodes) (s : State) :
    Host.Outcome State Fault Refusal :=
  act t s (endSlice kind readings pass codes)

/-- R472: a service request ends the slice; its shots are discarded and it is placed again. Nothing preempts a converter
slice. -/
def preemptSlice (k : Nat) (s : State) : State :=
  match (getKind s k).running with
  | none => s
  | some i =>
    if k = 1 then s
    else
      let u := leaveSlice k s
      let v := updKind k (fun x => { x with last := 3, next := i }) u
      { v with
        rh := { v.rh with cntPre := inc32 v.rh.cntPre, saved := [] }
        cal := { v.cal with entries := if k = 0 then s.rh.saved.foldl (fun t q => t.set q.1 q.2) v.cal.entries else v.cal.entries }
        rx := { v.rx with chan := if k = 0 then v.rx.chan.mapVals (fun _ c =>
            { c with shot := c.shot.filter (fun x => !x.workLight), results := c.results.filter (fun x => !x.workLight) })
          else v.rx.chan } }

def execSlicePreempt (t : Nat) (kind : Nat) (s : State) : Host.Outcome State Fault Refusal := act t s (preemptSlice kind)

/-- The service request of an instance that a running slice holds. -/
def serve (k i : Nat) (s : State) : State := if (getKind s k).running = some i then preemptSlice k s else s

/-- R470: no slice has checked the instance for 10 s. -/
def starvedNow (s : State) (k i : Nat) : Bool :=
  sliceEnabled s k && s.rh.drDone && decide (i < sliceInstances k) && !(k == 3 && laneTrained s i)
    && decide (((getKind s k).doneAt.get s.pwr.releasedAt i) + 10 * secTicks ≤ s.now)

def sliceStarved (k i : Nat) (s : State) : State :=
  if starvedNow s k i && !(getKind s k).starved.contains i then
    setEvent evRehearsal (updKind k (fun v => { v with starved := v.starved ++ [i] }) s)
  else s

def execSliceStarved (t : Nat) (kind inst : Nat) (s : State) : Host.Outcome State Fault Refusal := act t s (sliceStarved kind inst)

end Sys2Proof.Machine
end

