-- ==== Sys2Proof/Machine/StageManager.lean ====
section
/-! DEFINITION. The meanings of the stage manager's commands: submissions, decisions, aborts, the calendar, triggers and
capacity (R227 to R272, R371, R372). -/

namespace Sys2Proof.Machine

/-! ### Submissions (R227, R228, R267) -/

def submitCtrlAddr : Nat := 0x00010120
def abortAddr : Nat := 0x00010130

/-- A record for a template index that the active image does not hold. Which reason refuses it is stated nowhere: a free
value chooses between a field out of range and a record that does not exist. -/
def absentTemplate (s : State) : CueRec :=
  let r := cueOfBytes []
  if freeValue s % 2 = 0 then r else { r with kind := 4, cls := 2, points := 1, node := 0xFFFF, count := 1 }

/-- Template `i` of the active image. -/
def templateAt (s : State) (i : Nat) : CueRec := ((s.img.active.bind (fun m => m.templates[i]?)).getD (absentTemplate s))

/-- GO: BUSY reads 1 until the decision; a GO while BUSY is discarded. The flag says whether it was taken. -/
def submitGo (p : Path) (x : Submission) (s : State) : Bool × State :=
  if s.sm.resBusy then (false, violation p submitCtrlAddr kindBusy s)
  else (true, submit x { s with sm := { s.sm with resBusy := true } })

/-- GO without TPL. -/
def submitRecord (p : Path) (s : State) : Bool × State :=
  submitGo p { cue := cueOfWords s.sm.submit, source := .port p } s

/-- GO with TPL. -/
def submitTemplate (p : Path) (i : Nat) (s : State) : Bool × State :=
  let r := submitGo p { cue := templateAt s i, source := .template } s
  (r.1, tookFree r.2)

/-- A write to SM_SUBMIT_CTRL. -/
def submitCtrl (p : Path) (v : W32) (s : State) : Bool × State :=
  let u := { s with sm := { s.sm with subCtrl := v &&& 0x03FF0002#32 } }
  if !flag v 0 then (true, u)
  else if flag v 1 then submitTemplate p (fld v 25 16) u
  else submitRecord p u

def execCueSubmit (t : Nat) (path : Path) (s : State) : Host.Outcome State Fault Refusal :=
  act t s (onPath path (fun u => (submitCtrl path 1#32 u).2))

def execCueSubmitTemplate (t : Nat) (path : Path) (idx : Nat) (s : State) : Host.Outcome State Fault Refusal :=
  act t s (onPath path (fun u => (submitCtrl path (word [(16, 10, idx), (1, 1, 1), (0, 1, 1)]) u).2))

def execAdmissionDecision (t : Nat) (s : State) : Host.Outcome State Fault Refusal := act t s decideNext

/-- A message of VC1 comes in on a trained house lane. -/
def fromHouse (s : State) (l : Nat) : Bool := decide (l < 2) && laneTrained s l

def laneCue (l : Nat) (c : CueRec) (s : State) : State :=
  if fromHouse s l then submit { cue := c, source := .lane l } (takeMessage l 1 32 s) else s

def execLaneCue (t : Nat) (lane : Nat) (rec : CueRec) (s : State) : Host.Outcome State Fault Refusal := act t s (laneCue lane rec)

/-! ### Cue calendars (R371, R372) -/

/-- On a link of version 1.0 no message is a calendar (Table 11.4). -/
def calendarOk (s : State) (l : Nat) : Bool := decide (0x11 ≤ (getLane s l).ver)

/-- A calendar waits for the unpacker. -/
def queueCalendar (l : Nat) (bs : List Byte) (s : State) : State :=
  { s with pk := { s.pk with waiting := s.pk.waiting ++ [(l, bs)] } }

/-- A link of version 1.0 carries no calendar (Table 11.4): there its TYPE is invalid, and the frame counts as bad
(R393). -/
def laneCalendar (l : Nat) (bs : List Byte) (s : State) : State :=
  if !fromHouse s l then s
  else if calendarOk s l then queueCalendar l bs (takeMessage l 1 bs.length s)
  else refuseFrame l s

def execLaneCalendar (t : Nat) (lane : Nat) (bytes : List Byte) (s : State) : Host.Outcome State Fault Refusal :=
  act t s (laneCalendar lane bytes)

/-- The records of a calendar, or the unpacker's code. -/
def unwrapCalendar (bs : List Byte) : Except Nat (List CueRec) :=
  let len := le bs 4 4
  let pay := le bs 8 4
  if le bs 0 4 ≠ 0x5A4C4347 ∨ bs.length ≠ 20 + pay ∨ len % 32 ≠ 0 ∨ len < 32 ∨ 32768 < len then .error 1
  else (inflate (slice bs 16 pay) len (le bs (16 + pay) 4)).map (fun out => (pieces out 32 (len / 32)).map cueOfBytes)

/-- The unpacker finishes the calendar that came first. PK_UNP_STAT.SRC 1 and 2 are the house lanes. -/
def unpackNext (s : State) : State :=
  match s.pk.waiting with
  | [] => s
  | (l, bs) :: r =>
    let u := { s with pk := { s.pk with waiting := r } }
    match unwrapCalendar bs with
    | .error c => unpackNote (1 + l) 1 c u
    | .ok cs => cs.foldl (fun x c => submit { cue := c, source := .calendar l } x) (unpackNote (1 + l) 1 0 u)

def execUnpackDone (t : Nat) (s : State) : Host.Outcome State Fault Refusal := act t s unpackNext

/-! ### Aborts (R252, R253) -/

/-- The handle was issued and its cue has ended, its entry not yet reused (R253). -/
def endedCue (s : State) (h : Nat) : Bool :=
  (s.sm.cues.find (h % 4096)).any (fun e => e.gen == h / 4096 && e.state == 0)

/-- An abort by request: its RESULT with the state after it. -/
def abortRequest (h : Nat) (s : State) : Nat × State :=
  if endedCue s h then (1, { s with sm := { s.sm with cntAbortLost := inc32 s.sm.cntAbortLost } })
  else abortCue h 1 s

/-- SM_ABORT_RES.BUSY: the result of the last write is not set yet. -/
def abortBusy (s : State) : Bool := decide (s.now < s.sm.abortDone)

/-- A write to SM_ABORT: the abort is taken in its cycle, and its result is set within 2 µs, at a time that is a free value
(R253, notes/assumptions/22.md). A write while BUSY is discarded. -/
def abortWrite (p : Path) (h : Nat) (s : State) : Bool × State :=
  if abortBusy s then (false, violation p abortAddr kindBusy s)
  else
    let r := abortRequest (h % 65536) s
    (true, tookFree { r.2 with sm := { r.2.sm with
      abortWas := s.sm.abortRes, abortRes := r.1, abortDone := s.now + freeValue r.2 % (2 * usTicks + 1) } })

def execCueAbort (t : Nat) (path : Path) (handle : Nat) (s : State) : Host.Outcome State Fault Refusal :=
  act t s (onPath path (fun u => (abortWrite path handle u).2))

/-- ABORT of handle `h` with its answer. -/
def abortMessage (h : Nat) (s : State) : State :=
  let r := abortRequest (h % 65536) s
  sendHouse 1 0x05 (leBytes 4 r.1) r.2

def laneAbort (l h : Nat) (s : State) : State := if fromHouse s l then abortMessage h (takeMessage l 1 4 s) else s

def execLaneAbort (t : Nat) (lane handle : Nat) (s : State) : Host.Outcome State Fault Refusal := act t s (laneAbort lane handle)

/-! ### The calendar (R236, R243, R245, R269, R270) -/

/-- Groups enter the horizon up to the running group's. -/
def execCalendarAdvance (t : Nat) (s : State) : Host.Outcome State Fault Refusal := act t s advanceCalendar

/-- A measurement of 1 ms: `rate` is the measured rate in 1/65,536 of the nominal rate. -/
def measuredCap (r rate : Nat) : Nat := nominalCap r * rate / 65536

def capacityMeasure (r rate : Nat) (s : State) : State :=
  if 25 ≤ r then s
  else
    let c := s.sm.caps.get { cap := nominalCap r } r
    let m := measuredCap r rate
    let runs := c.runs ++ [m]
    let d : Capacity :=
      if m < c.cap then { cap := m, runs := [] }
      else if m = c.cap then { c with runs := [] }
      else if runs.length < 16 then { c with runs := runs }
      else { cap := runs.foldl min m, runs := [] }
    refreshConds { s with sm := { s.sm with caps := s.sm.caps.set r d } }

def execCapacityMeasure (t : Nat) (resource rate : Nat) (s : State) : Host.Outcome State Fault Refusal :=
  act t s (capacityMeasure resource rate)

def execPromiseConditionClear (t : Nat) (code : Nat) (s : State) : Host.Outcome State Fault Refusal := act t s (clearCond code)

/-- 32-bit words of a byte block. -/
def wordsOf (bs : List Byte) (n : Nat) : Tab W32 := (List.range n).map (fun i => (i, BitVec.ofNat 32 (le bs (4 * i) 4)))

/-- Cues with a booking or a batten place in group `g`, those among them whose shots of the running group have begun. -/
def groupCues (s : State) (g : Nat) : List Nat :=
  firsts [] ((s.sm.books.filter (fun b => b.group == g)).map Booking.handle
    ++ (s.sm.cueFired.filter (fun x => x.1 == g && (findCue s x.2).isSome)).map Prod.snd
    ++ s.sm.slots.flatMap (fun q => (q.2.filter (fun p => fireGroup s q.1 p.batten == g)).map Place.handle))

/-- A rehearsal slice lies in group `g`, placed or begun. -/
def slicePlaced (s : State) (g : Nat) : Bool :=
  s.sm.books.any (fun b => b.group == g && decide (65536 ≤ b.handle))
    || s.rh.kinds.any (fun q => q.2.placed.any (fun x => x.2 == g))

/-- The calendar group record (Table 7.17). -/
def groupRecord (s : State) (g : Nat) : List Byte :=
  let load := loadOf s g
  let cues := groupCues s g
  let mine := s.sm.books.filter (fun b => b.group == g)
  let flagS := mine.any (fun b => b.cls == 0)
    || s.sm.slots.any (fun q => q.2.any (fun p => p.cls == 0 && fireGroup s q.1 p.batten == g))
  (List.range 16).flatMap (fun e => leBytes 2 (load e))
    ++ leBytes 4 (((List.range 8).map (fun e => load (16 + e))).sum) ++ leBytes 2 (load 24)
    ++ (List.range 4).flatMap (fun l => leBytes 2 (load (25 + l))) ++ leBytes 1 (load 29) ++ leBytes 1 (load 30)
    ++ leBytes 4 (16 * g) ++ leBytes 2 (cues.filter (fun h => decide (h < 65536))).length
    ++ leBytes 1 (bn flagS + 2 * bn (slicePlaced s g) + 4 * bn (decide (g < firstOpen s)))
    ++ leBytes 9 0

def calendarSelect (g : Nat) (s : State) : State :=
  { s with sm := { s.sm with
      calSel := BitVec.ofNat 32 (g % 4096), calData := wordsOf (groupRecord s (groupNow s + g % 4096)) 16 } }

def execCalendarSelect (t : Nat) (path : Path) (group : Nat) (s : State) : Host.Outcome State Fault Refusal :=
  act t s (onPath path (calendarSelect group))

/-- The cue record of entry `i` with its run-time fields; a Free entry reads 0. -/
def entryRecord (s : State) (i : Nat) : List Byte :=
  match s.sm.cues.find i with
  | some e =>
    if e.state = 0 then leBytes 32 0
    else cueBytes e.cue (handleOf i e + 2 ^ 16 * e.state + 2 ^ 24 * e.reason)
  | none => leBytes 32 0

def cueSelect (i : Nat) (s : State) : State :=
  { s with sm := { s.sm with
      cueSel := BitVec.ofNat 32 (i % 4096), cueData := wordsOf (entryRecord s (i % 4096)) 8 } }

def execCueSelect (t : Nat) (path : Path) (index : Nat) (s : State) : Host.Outcome State Fault Refusal :=
  act t s (onPath path (cueSelect index))

/-! ### Triggers (R254 to R263) -/

/-- A unit that fires, with what its sample showed. -/
structure Firing where
  unit      : Nat
  forced    : Bool
  violation : Bool
  busIn     : Bool
  member    : Nat
  sampled   : Option SeenPoint
  cues      : List Nat
  deriving DecidableEq, Repr

/-- The unit's timer restarts. -/
def restartTimer (n : Nat) (s : State) : State :=
  { s with sm := { s.sm with trig := s.sm.trig.upd {} n (fun u => { u with since := tbUs s }) } }

/-- TIME_OK: the root always reads it (R410). -/
def timeOk (s : State) : Bool := s.ln.root || s.ln.timeOk

/-- The seen points at the positions `req`; none while one is missing. -/
def samplePoints (u : TrigUnit) (req : List Nat) : Option (List SeenPoint) :=
  let l := req.filterMap (fun i => u.seen.find? (fun x => x.pos == i))
  if req ≠ [] ∧ l.length = req.length then some l else none

/-- The TOF of a member in 1/4 tick (R257). -/
def maskValue (x : SeenPoint) : Nat := if x.ret then x.tof / 256 else 0xFFFF

/-- A value lies outside its bounds. -/
def outOfBounds (m : MaskRec) (i v : Nat) : Bool := decide (v < m.lo.getD i 0) || decide (m.hi.getD i 0 < v)

/-- Act-one bin `i` of a histogram record. -/
def recordBin (rec : List Byte) (i : Nat) : Nat := le rec (0x40 + 3 * (i / 2)) 3 / 4096 ^ (i % 2) % 4096

/-- The members that a sample of unit `n` waits for. -/
def sampleMembers (s : State) (n : Nat) : List Nat :=
  let len := (trigNodes s n).length
  match trigSrc s n with
  | 0 => match patternOf s n with
    | some p => (List.range len).filter (fun i => decide (p.codes.getD i 2 ≤ 1))
    | none => []
  | _ => List.range len

def firing (n : Nat) : Firing :=
  { unit := n, forced := false, violation := false, busIn := false, member := 0xFFFF, sampled := none, cues := [] }

/-- What unit `n` finds at the boundary: whether a sample was taken, its cues, and the firing. -/
def sampleUnit (s : State) (codes : List Nat) (n : Nat) : Option (List Nat) × Option Firing :=
  let u := s.sm.trig.get {} n
  if !trigEnabled s n then (none, none)
  else match trigSrc s n with
    | 0 =>
      match samplePoints u (sampleMembers s n), patternOf s n with
      | some l, some p =>
        let cues := firsts [] (l.map SeenPoint.cue)
        let hit := l.all (fun x => x.ret == (p.codes.getD x.pos 2 == 1))
        (some cues, if hit then some { firing n with member := (l.head?.map SeenPoint.pos).getD 0, sampled := l.head?, cues := cues } else none)
      | _, _ => (none, none)
    | 1 =>
      match maskRecOf s n with
      | none => (none, none)
      | some m =>
        if m.type = 0 then
          match samplePoints u (sampleMembers s n) with
          | none => (none, none)
          | some l =>
            let cues := firsts [] (l.map SeenPoint.cue)
            (some cues, (l.find? (fun x => outOfBounds m x.pos (maskValue x))).map (fun x =>
              { firing n with violation := true, member := x.pos, sampled := some x, cues := cues }))
        else
          let bad := u.seen.filter (fun x => (List.range m.lo.length).any (fun i => outOfBounds m i (recordBin x.record i)))
          (u.seen.getLast?.map (fun x => [x.cue]),
            bad.head?.map (fun x => { firing n with
              violation := true, member := 0, sampled := some x, cues := firsts [] (bad.map SeenPoint.cue) }))
    | 2 => (none, if codes.contains (trigId s n) then some { firing n with busIn := true } else none)
    | _ => (none, if s.sm.swFired.contains n then some (firing n) else none)

/-- Units take their samples; what they saw starts anew. -/
def noteSample (n : Nat) (cues : List Nat) (s : State) : State :=
  { s with sm := { s.sm with trig := s.sm.trig.upd {} n (fun u => { u with seen := [], cues := cues }) } }

/-- Timebase tick of the sample boundary: the start of the running calendar slot (R255, R263). -/
def sampleTick (s : State) : Nat := usTicks * tbUs s

/-- A capture (R260); the commit pads its last cell (R343). A slice on the engine it needs is preempted (R472). -/
def capture (f : Firing) (s : State) : State :=
  match f.sampled with
  | none => s
  | some x =>
    if !trigFreeze s f.unit then s
    else
      let u := serve 0 (engineOf x.channel) s
      let bytes := leBytes 2 f.unit ++ leBytes 2 x.channel ++ leBytes 6 (sampleTick s) ++ leBytes 2 x.words.length ++ leBytes 4 0
        ++ x.record ++ wordBytes x.words
      commitDevice (selectedQueue u (fld u.sm.qsel2 11 0)) 4 bytes u

/-- Cues Waiting on unit `n` whose admission has not begun. -/
def waitingOn (s : State) (n : Nat) : List Nat :=
  (handles s).filter (fun h => (findCue s h).any (fun e => e.state == 1 && e.cue.trig == n)
    && !s.sm.fifo.any (fun x => x.source == .trigger h))

/-- START: the admission of the cues begins. -/
def startWaiting (hs : List Nat) (s : State) : State :=
  hs.foldl (fun u h =>
    match findCue u h with
    | some e => submit { cue := e.cue, source := .trigger h } u
    | none => u) s

/-- What earlier units of the sample have taken: cues to stop, and the cue bus. -/
structure Taken where
  stops : List Nat
  bus   : Bool
  deriving DecidableEq, Repr

/-- The actions and the record of one firing (R259, R261, R263). -/
def fireUnit (f : Firing) (a : State × Taken) : State × Taken :=
  let s := a.1
  let b := trigB s f.unit
  let starts := if flag b 0 then waitingOn s f.unit else []
  let targets := if flag b 1 then f.cues.filter (fun h => (findCue s h).isSome || a.2.stops.contains h) else []
  let stops := targets.filter (fun h => !a.2.stops.contains h)
  let bus := flag b 3
  let suppressed := decide (stops.length < targets.length) || (bus && a.2.bus)
  let captured := trigFreeze s f.unit && f.sampled.isSome
  let flags := bn f.forced + 2 * bn suppressed + 4 * bn f.violation + 8 * bn captured + 16 * bn f.busIn
  let u := stops.foldl (fun x h => (abortCue h 4 x).2) (startWaiting starts s)
  let v := { u with
    recent := { u.recent with trig := u.recent.trig ||| (1#64 <<< f.unit) }
    sm := { u.sm with
      busOut := if bus && !a.2.bus && flag u.ln.cbCfg 31 && timeOk u then some (fld b 15 8) else u.sm.busOut
      trigStat := u.sm.trigStat ||| (1#64 <<< f.unit)
      cntTrigSupp := satAdd 32 u.sm.cntTrigSupp (bn suppressed) } }
  let w := commitDevice (selectedQueue v (fld v.sm.qsel 27 16)) 3
    (triggerBytes (sampleTick s) f.unit flags starts.length stops.length f.member) v
  (restartTimer f.unit (eventIf (flag b 4) evTrigger w), { stops := a.2.stops ++ stops, bus := a.2.bus || bus })

/-- The firings of one boundary: every capture first, then the units in ascending order. -/
def fireAll (fs : List Firing) (s : State) : State :=
  (fs.foldl (fun a f => fireUnit f a) (fs.foldl (fun u f => capture f u) s, { stops := [], bus := false })).1

/-- AUTO_TO µs have passed without a firing. -/
def timeoutDue (s : State) (n : Nat) : Bool :=
  let limit := fld (trigB s n) 31 16
  decide (n < 64) && trigEnabled s n && limit != 0 && decide ((s.sm.trig.get {} n).since + limit ≤ tbUs s)

/-- The unit fires by itself; a STOP stops the cues behind its last sample (R258). -/
def forcedFiring (s : State) (n : Nat) : Firing := { firing n with forced := true, cues := (s.sm.trig.get {} n).cues }

/-- What a unit fires at a boundary: on its sample, or else by itself when its time is out. -/
def boundaryFiring (s : State) (n : Nat) (x : Option Firing) : Option Firing :=
  match x with
  | some f => some f
  | none => if timeoutDue s n then some (forcedFiring s n) else none

/-- The evaluation of every unit at a calendar-slot boundary (R255, R258, R261). -/
def triggerSample (s : State) : State :=
  let codes := s.sm.busCodes ++ s.sm.busOut.toList
  let rs := (List.range 64).map (fun n => (n, sampleUnit s codes n))
  let u := rs.foldl (fun x r => match r.2.1 with
    | some cs => noteSample r.1 cs x
    | none => x) s
  fireAll (rs.filterMap (fun r => boundaryFiring u r.1 r.2.2))
    { u with sm := { u.sm with busCodes := [], busOut := none, swFired := [], sampleAt := tbUs s } }

/-- A calendar-slot boundary has come since the last sample. -/
def sampleDue (s : State) : Bool := decide (s.sm.sampleAt < tbUs s)

def execTriggerSample (t : Nat) (s : State) : Host.Outcome State Fault Refusal :=
  act t s (fun u => if sampleDue u then triggerSample u else u)

/-- A unit's time is out at a boundary: the boundary is evaluated, or where it has been, the unit fires alone; the bus takes
one code per sample (R262). -/
def triggerTimeout (n : Nat) (s : State) : State :=
  if !timeoutDue s n then s
  else if sampleDue s then triggerSample s
  else (fireUnit (forcedFiring s n) (s, { stops := [], bus := s.sm.busOut.isSome })).1

def execTriggerTimeout (t : Nat) (unit : Nat) (s : State) : Host.Outcome State Fault Refusal := act t s (triggerTimeout unit)

/-- A write to SM_TRIG_SW: the unit, if enabled with source 3, fires in the next sample. -/
def softTrigger (n : Nat) (s : State) : State :=
  if trigEnabled s (n % 64) && trigSrc s (n % 64) == 3 then
    { s with sm := { s.sm with swFired := firsts [] (s.sm.swFired ++ [n % 64]) } }
  else s

def execTriggerSoftware (t : Nat) (path : Path) (unit : Nat) (s : State) : Host.Outcome State Fault Refusal :=
  act t s (onPath path (softTrigger unit))

end Sys2Proof.Machine
end

