-- ==== Sys2Proof/Machine/Spot.lean ====
section
/-! DEFINITION. The meanings of the follow-spot commands (R273 to R295, R460, R465, R473). -/

namespace Sys2Proof.Machine

/-! ### Scene changes (R288 to R290) -/

/-- Points take up HIST_PT_CFG, HIST_ESC_CFG and REJ_CFG (R190, R191, R216). -/
def takeUp (s : State) : State :=
  { s with
    hist := { s.hist with ptUse := s.hist.ptCfg, escUse := s.hist.escCfg }, rej := { s.rej with cfgUse := s.rej.cfg } }

/-- The next scene begins: the first one fixed, or, where none is, the one that the program gives now. -/
def nextScene (k : Nat) (s : State) : State :=
  let u := if s.fs.fixed.isEmpty then fixOne k s.fs.cur s else s
  match u.fs.fixed with
  | [] => u
  | f :: r => { u with fs := { u.fs with cur := some f, fixed := r, step := f.step, rep := f.rep } }

/-- Two scenes name different sets (R289). -/
def compDiffers (a b : Option FixedScene) : Bool :=
  match a, b with
  | some x, some y => x.prof.comp != y.prof.comp
  | _, _ => false

/-- The scene change at loop boundary `k`; values accepted in its own core clock cycle wait for the next (R465). The flag says whether a set transfers. -/
def sceneChange (k : Nat) (s : State) : Bool × State :=
  let waits := s.img.pending.any (fun p => !p.applied)
  let p := applyPatch s
  let a := if waits then { p with img := { p.img with sceneAt := some s.now } } else p
  let u := takeUp (updateBias (applyCal (fun c => decide (c < coreCycle s.now)) a))
  let v := nextScene k u
  let x := compDiffers s.fs.cur v.fs.cur
  let w := { v with fs := { v.fs with
    cntXfer := satAdd 32 v.fs.cntXfer (bn x), scene := (v.fs.scene + 1) % 65536 } }
  (x, fixScenes 5000 w)

/-- The running scene has ended by loop period `k`. -/
def sceneOver (s : State) (k : Nat) : Bool := s.fs.sceneRun && s.fs.cur.any (fun f => decide (f.stop ≤ k))

/-- What loop boundary `k` brings before the sample: a stop, a release, a scene change. -/
def loopBoundary (k : Nat) (s : State) : Bool × State :=
  let u := releaseLoop (endScene s)
  if sceneOver u k then sceneChange k u else (false, u)

/-! ### One loop period (R273 to R278, R283, R293) -/

/-- S[k]. -/
def setpointAt (s : State) (k : Nat) : Int :=
  match s.fs.cur with
  | some f => if s.fs.sceneRun then f.setpoint (k - f.start) else fld s.fs.setpt 15 0
  | none => fld s.fs.setpt 15 0

/-- P[k] is sampled. -/
def samplePos (k pos : Nat) (s : State) : State :=
  { s with fs := { s.fs with posPrev := s.fs.pos, pos := pos, k := k + 1 } }

/-- The drive of a period in which the compensator does not run: the converter outputs `code`, and nothing is clamped. -/
def fixedDrive (code : Nat) (s : State) : State :=
  { s with fs := { s.fs with drv := code, out := code, parkNext := false, sat := false } }

/-- The drive of the period: a held loop outputs its fixed code, a transfer repeats the previous one, and otherwise the
compensator runs. -/
def driveLoop (xfer missed : Bool) (sp : Int) (s : State) : State :=
  if s.fs.held then fixedDrive (if s.fs.parkNext then fld s.fs.park 15 0 else s.fs.out) s
  else if xfer then freshHistory (fixedDrive s.fs.out s)
  else runLoop sp missed s

/-- R275: a drive word that missed step 4. A held loop forms none. -/
def countMissed (missed : Bool) (s : State) : State :=
  if s.fs.held then { s with fs := { s.fs with missRun := 0 } }
  else if missed then
    let u := { s with fs := { s.fs with cntMiss := inc32 s.fs.cntMiss, missRun := s.fs.missRun + 1 } }
    if 4 ≤ u.fs.missRun ∧ u.fs.fault = 0 then fsFault 3 u else u
  else { s with fs := { s.fs with missRun := 0 } }

/-- A position sample of a housekeeping cue (R473). -/
def HkSum.takePosition (us pos : Nat) (x : HkSum) : HkSum :=
  { x.stamp us with
    lo := min x.lo pos, hi := max x.hi pos, sumA := x.sumA + (pos : Int)
    other := x.other + bn (decide (pos = 0) || decide (pos = 65535)) }

/-- Housekeeping cues take the sample. -/
def hkPosition (pos : Nat) (s : State) : State :=
  (hkTargets s 6 0).foldl (fun x q => hkIfFull q.1 q.2 6 (hkUpd q.1 q.2 (HkSum.takePosition (tbUs s) pos) x)) s

/-- Loop period `k` with position code `pos`. -/
def loopPeriod (k pos : Nat) (missed : Bool) (s : State) : State :=
  let b := loopBoundary k s
  let u := samplePos k pos b.2
  let sp := setpointAt u k
  let ran := !u.fs.held
  hkPosition pos (superviseLoop ran (sp - pos) (countMissed missed (driveLoop b.1 missed sp u)))

/-- The next loop period has begun. -/
def loopDue (s : State) : Bool := decide (s.fs.k ≤ loopPeriodOf (tbTick s))

def execLoopPeriod (t : Nat) (pos : Nat) (missed : Bool) (s : State) : Host.Outcome State Fault Refusal :=
  act t s (fun u => if loopDue u then loopPeriod (loopPeriodOf (tbTick u)) (min pos 65535) missed u else u)

/-! ### The scene program (R284, R291) -/

/-- The first scene begins. A program that has run before takes the next SCENE number. -/
def startProgram (us : Nat) (s : State) : State :=
  let u := nextScene (us / 5) s
  { u with fs := { u.fs with
    sceneRun := true, readyAt := none, ranBefore := true
    scene := if u.fs.ranBefore then (u.fs.scene + 1) % 65536 else u.fs.scene } }

def programStart (s : State) : State :=
  match s.fs.readyAt with
  | some r => if sceneReady s && decide (sceneStartUs r ≤ tbUs s) then startProgram (sceneStartUs r) s else s
  | none => s

def execSceneProgramStart (t : Nat) (s : State) : Host.Outcome State Fault Refusal := act t s programStart

/-! ### FS_CTRL (R279 to R282, R291, R295) -/

def fsCtrlAddr : Nat := 0x00060000

/-- HOLD is set: the loop is held at its last drive code. Discarded while a scan cue is Booked or Running. -/
def setHold (p : Path) (s : State) : Bool × State :=
  if scanActive s then (false, violation p fsCtrlAddr kindRule s)
  else (true, stopScene { s with fs := { s.fs with
    hold := true, held := true, release := false, parkNext := s.fs.parkNext && s.fs.hold
    out := if s.fs.held then s.fs.out else s.fs.drv } })

def execFsHold (t : Nat) (path : Path) (s : State) : Host.Outcome State Fault Refusal := act t s (onPath path (fun u => (setHold path u).2))

/-- A release is taken: a usable set, no fault, Standby or Show. -/
def releasable (s : State) : Bool :=
  formDefined s (setInUse s) && s.fs.fault == 0 && (inStandby s || inShow s)

/-- HOLD is cleared: the loop is released at the next loop boundary. -/
def clearHold (p : Path) (s : State) : Bool × State :=
  if !s.fs.hold then (true, s)
  else if releasable s then (true, { s with fs := { s.fs with hold := false, release := true } })
  else (false, violation p fsCtrlAddr kindRule s)

def execFsRelease (t : Nat) (path : Path) (s : State) : Host.Outcome State Fault Refusal := act t s (onPath path (fun u => (clearHold path u).2))

def setRun (s : State) : State := trackReady { s with fs := { s.fs with run := true } }

def execFsRunSet (t : Nat) (path : Path) (s : State) : Host.Outcome State Fault Refusal :=
  act t s (onPath path setRun)

def clearRun (s : State) : State := stopScene { s with fs := { s.fs with run := false } }

def execFsRunClear (t : Nat) (path : Path) (s : State) : Host.Outcome State Fault Refusal :=
  act t s (onPath path clearRun)

/-- A latched fault and the timer clear while HELD reads 1; a cause that is still present latches again. -/
def clearFault (s : State) : State :=
  if s.fs.held then
    let u := { s with fs := { s.fs with fault := 0, feTimer := 0 } }
    if s.fs.fault = 0 then u
    else if 2 ≤ s.fs.rangeRun then fsFault 2 u
    else u
  else s

def execFsFeClr (t : Nat) (path : Path) (s : State) : Host.Outcome State Fault Refusal :=
  act t s (onPath path clearFault)

end Sys2Proof.Machine
end

