-- ==== Sys2Proof/Machine/SafetyCmds.lean ====
section
/-! DEFINITION. The meanings of the machine-safety commands: boundaries, permits, the curtain, test pulses, safety inputs
and Sirel frames (R303 to R336). -/

namespace Sys2Proof.Machine

/-! ### The safety boundary (R305, R308, R331) -/

/-- The next safety boundary has come. -/
def safetyDue (s : State) : Bool := decide (0 < safetyP s) && decide (s.saf.boundary * safetyP s ≤ tbUs s)

/-- `mainOk` and `flyOk` say whether each evaluator's copy of the block has its CRC. -/
def safetyBoundary (mainOk flyOk : Bool) (s : State) : State := sendStatus (endPeriod (s.saf.boundary - 1) mainOk flyOk s)

def execSafetyBoundary (t : Nat) (mainOk flyOk : Bool) (s : State) : Host.Outcome State Fault Refusal :=
  act t s (fun u => if safetyDue u then safetyBoundary mainOk flyOk u else u)

/-! ### Permits (R303) -/

/-- A fourth consecutive missing or mismatched message asserts the flyman watchdog. -/
def watchdog (s : State) : State := if 4 ≤ s.saf.missing then resetDevice 4 holdWatchdog s else s

/-- The flyman withdraws for the period. -/
def flyWithdraw (s : State) : State :=
  { s with saf := { s.saf with
      gotPermit := true, main := { s.saf.main with permit := false }, fly := { s.saf.fly with permit := false } } }

/-- The spike positions the main evaluator sends. -/
def sentSpikes (s : State) : List (Nat × Int) := s.saf.main.spikes.map (fun q => (q.1, q.2.pos))

/-- The main evaluator's message of the period, with its own verdict, reaches the flyman with period number `period`; the
verdict counts when that is the flyman's own. Of its two copies some copy is `valid`, or none is accepted (R15). With both
links lost no message comes. -/
def permitMessage (period : Nat) (valid : Bool) (s : State) : State :=
  if !valid || s.saf.gotPermit || safetyP s == 0 || linkCount s == 0 then s
  else
    let u := { s with saf := { s.saf with
      message := some { period := period % 2 ^ 24, permit := s.saf.verdict, spikes := sentSpikes s } } }
    if period % 2 ^ 24 = flyPeriod s then
      { u with saf := { u.saf with
          gotPermit := true, missing := 0, main := { u.saf.main with permit := s.saf.verdict } } }
    else watchdog (badPermit (flyWithdraw u))

def execPermitMessage (t : Nat) (period : Nat) (valid : Bool) (s : State) : Host.Outcome State Fault Refusal :=
  act t s (permitMessage period valid)

/-- 500 µs after the boundary no message has come. -/
def permitLate (s : State) : Bool :=
  !s.saf.gotPermit && safetyP s != 0 && decide (s.saf.boundaryAt + 500 * usTicks ≤ s.now)

def execPermitTimeout (t : Nat) (s : State) : Host.Outcome State Fault Refusal :=
  act t s (fun u => if permitLate u then watchdog (badPermit (flyWithdraw u)) else u)

/-! ### Curtain and safe outputs (R325 to R328, R472) -/

/-- A failed raise: cause 0x0A for each output that failed, and all four switches open. -/
def raiseFails (okA okB : Bool) (s : State) : State :=
  let u := if okA then s else outputFault 0 s
  let v := if okB then u else outputFault 1 u
  { v with saf := { v.saf with outA := v.saf.outA.opened, outB := v.saf.outB.opened } }

/-- The raise sequence of Table 9.7 from its start; readback slices yield to it. It ends at step 2 when a reading fails
there, else at step 4. -/
def tryRaise (a1 b1 a2 b2 : PinRead) (s : State) : State :=
  let early := !(raiseStep2 a1 && raiseStep2 b1)
  let okA := if early then raiseStep2 a1 else raiseStep4 a2
  let okB := if early then raiseStep2 b1 else raiseStep4 b2
  let u := serve 4 1 (serve 4 0 s)
  let v := { u with saf := { u.saf with raiseEnd := u.now + (if early then 150 else 350) * usTicks } }
  if okA && okB then raiseCurtain v else raiseFails okA okB v

/-- The curtain may rise, and no test pulse is under way (R328). -/
def raiseFree (s : State) : Bool := curtainAllowed s && !s.saf.curtain && decide (s.saf.pulseEnd ≤ s.now)

/-- `a1`, `b1` are the readings of step 2 of outputs A and B, `a2`, `b2` those of step 4. -/
def execCurtainRaise (t : Nat) (a1 b1 a2 b2 : PinRead) (s : State) : Host.Outcome State Fault Refusal :=
  act t s (fun u => if raiseFree u then tryRaise a1 b1 a2 b2 u else u)

/-- A test of output `o` has fallen due, and no raise sequence is under way (R327, R328). -/
def pulseDue (s : State) (o : Nat) : Bool :=
  inShow s && decide (o < 2) && decide (s.saf.raiseEnd ≤ s.now) && (safetyBlock s).any (fun b => decide (testDue s b o ≤ s.now))

/-- What a judged pulse leaves in the output. -/
def SafeOutput.judged (pass : Bool) (o : SafeOutput) : SafeOutput :=
  { o with
    lastTest := if pass then 1 else 2
    offOk := if o.hs && o.ls then o.offOk else pass
    lowNext := if o.hs && o.ls then !o.lowNext else o.lowNext }

/-- A test pulse, from its start: judged, or discarded when a curtain-down command comes during it, which opens all four
switches (R328). -/
def testPulse (o : Nat) (at150 at250 : PinRead) (interrupted : Bool) (s : State) : State :=
  let r := serve 4 o s
  let u := { r with saf := { r.saf with pulseEnd := r.now + 250 * usTicks } }
  let v := { getOut u o with tests := (getOut u o).tests + 1 }
  if interrupted then
    dropCurtain (setOut o { v with lastTest := 3 } { u with saf := { u.saf with cntTpDisc := inc32 u.saf.cntTpDisc } })
  else
    let pass := testPasses v at150 at250
    let w := setOut o (v.judged pass) { u with saf := { u.saf with cntTp := inc32 u.saf.cntTp } }
    if pass then w else outputFault o w

def execTestPulse (t : Nat) (output : Nat) (at150 at250 : PinRead) (interrupted : Bool) (s : State) :
    Host.Outcome State Fault Refusal :=
  act t s (fun u => if pulseDue u output then testPulse output at150 at250 interrupted u else u)

/-- R325: more than 700 mA for 20 µs opens the output. -/
def overcurrent (o milliamps lasted : Nat) (s : State) : State :=
  if decide (o < 2) && decide (700 < milliamps) && decide (20 * usTicks ≤ lasted) then
    outputFault o (setOut o (getOut s o).opened s)
  else s

def execSafeOutputOvercurrent (t : Nat) (output milliamps lasted : Nat) (s : State) : Host.Outcome State Fault Refusal :=
  act t s (overcurrent output milliamps lasted)

/-- R327: a readback sample; the HS pin of an open output must read low. -/
def outputReadback (o : Nat) (pins : PinRead) (s : State) : State :=
  if 2 ≤ o then s
  else
    let v := getOut s o
    let u := setOut o { v with hsHigh := pins.hs, lsHigh := pins.ls } s
    if !v.hs && !v.ls && pins.hs then outputFault o u else u

def execSafeOutputReadbackSample (t : Nat) (output : Nat) (pins : PinRead) (s : State) : Host.Outcome State Fault Refusal :=
  act t s (outputReadback output pins)

/-! ### Safety inputs (R321 to R323) -/

/-- Levels of SIN0A, SIN0B, SIN1A … SIN3B. -/
def execSafetyInputSample (t : Nat) (levels : List Bool) (s : State) : Host.Outcome State Fault Refusal :=
  act t s (sampleInputs levels)

/-- The discrepancy of input `i` has lasted for DISC. -/
def discDue (s : State) (i : Nat) : Bool :=
  decide (i < 4) && (safetyBlock s).any (fun b => (b.sin[i]?).any (fun c =>
    c.role != 0 && (s.saf.inputs.get {} i).discSince.any (fun x => decide (x + 10 * msTicks * c.disc ≤ s.now))))

def discrepancy (i : Nat) (s : State) : State :=
  latchCause 0x09 { s with saf := { s.saf with inputs := s.saf.inputs.upd {} i (fun v => { v with fault := true }) } }

def execSinDiscrepancy (t : Nat) (input : Nat) (s : State) : Host.Outcome State Fault Refusal :=
  act t s (fun u => if discDue u input then discrepancy input u else u)

/-! ### Sirel (R331 to R336) -/

/-- The message in which a Sirel frame of `n` bytes comes counts on its lane (R393). -/
def sirelArrives (l n : Nat) (s : State) : State := if fromHouse s l then takeMessage l 2 n s else s

def execSirelCommand (t : Nat) (lane : Nat) (frame : List Byte) (s : State) : Host.Outcome State Fault Refusal :=
  act t s (fun u => sirelFrameFree lane frame (sirelArrives lane frame.length u))

def execSirelPrepare (t : Nat) (lane : Nat) (frame : List Byte) (s : State) : Host.Outcome State Fault Refusal :=
  act t s (fun u => sirelFrameFree lane frame (sirelArrives lane frame.length u))

/-- `readback` says whether the commissioning slot read back as written. -/
def execSirelConfirm (t : Nat) (lane : Nat) (frame : List Byte) (readback : Bool) (s : State) :
    Host.Outcome State Fault Refusal :=
  act t s (fun u => sirelFrame lane frame readback (sirelArrives lane frame.length u))

def execSirelTimeout (t : Nat) (s : State) : Host.Outcome State Fault Refusal :=
  act t s (fun u => if sirelLapsed u then failConnection 0x0B u else u)

def execCommissionWindowExpiry (t : Nat) (s : State) : Host.Outcome State Fault Refusal :=
  act t s (fun u => if windowLapsed u then sendResult 7 u.saf.sirel.commSlot u else u)

end Sys2Proof.Machine
end

