-- ==== Sys2Proof/Machine/Links.lean ====
section
/-! DEFINITION. The meanings of the die-to-die link commands (R15 to R19). -/

namespace Sys2Proof.Machine

def getLink (s : State) (l : Link) : D2dLink :=
  match l with
  | .a => s.d2d.a
  | .b => s.d2d.b

def setLink (l : Link) (v : D2dLink) (s : State) : State :=
  match l with
  | .a => { s with d2d := { s.d2d with a := v } }
  | .b => { s with d2d := { s.d2d with b := v } }

/-- The sequence numbers that still await a second copy once `seq` is accepted: of a message whose number lies half the
number range or more behind, none comes any more (DEDUCED, notes/assumptions/43.md). -/
def awaiting (got : List Nat) (seq : Nat) : List Nat :=
  seq :: got.filter (fun n => decide ((seq + 65536 - n) % 65536 < 32768))

/-- Of the two copies of message `seq`, the first valid one is accepted and the second discarded (R15). -/
def D2d.take (seq : Nat) (d : D2d) : D2d :=
  if d.got.contains seq then { d with got := d.got.filter (fun n => n != seq) }
  else { d with got := awaiting d.got seq, accepted := d.accepted + 1 }

/-- A message or an idle word that fails its CRC. -/
def linkBad (l : Link) (s : State) : State :=
  let v := getLink s l
  setLink l { v with crcRun := v.crcRun + 1, idleRun := 0, crcErr := satAdd 8 v.crcErr 1 } s

/-- A valid idle word; a lost link counts them toward its return. -/
def linkIdle (l : Link) (s : State) : State :=
  let v := getLink s l
  setLink l { v with crcRun := 0, idleRun := if v.up then 0 else v.idleRun + 1, lastValid := s.now } s

/-- A valid message, on a link that is up or retrains. -/
def linkMessage (l : Link) (seq : Nat) (s : State) : State :=
  let u := setLink l { getLink s l with crcRun := 0, idleRun := 0, lastValid := s.now } s
  { u with d2d := u.d2d.take seq }

def d2dWord (l : Link) (idle valid : Bool) (seq : Nat) (s : State) : State :=
  if !valid then linkBad l s else if idle then linkIdle l s else linkMessage l (seq % 65536) s

def execD2dMessage (t : Nat) (link : Link) (idle valid : Bool) (seq : Nat) (s : State) : Host.Outcome State Fault Refusal :=
  act t s (d2dWord link idle valid seq)

/-- R18: both links are lost. Cues in flight end Failed, and a split cue still undecided is refused. -/
def bothLost (s : State) : State :=
  let u := latchCause 0x10 (openSwitches (restartGuard { s with d2d := { s.d2d with bothLost := true }, recent := { s.recent with bothLost := true } }))
  endAllCues 2 0x12 0 (dropDeciding (lostReason u) (tookFree u))

/-- The link is lost (R16 to R18). -/
def loseLink (l : Link) (s : State) : State :=
  let v := setLink l { getLink s l with up := false, crcRun := 0, idleRun := 0 } s
  noteWorst (if linkCount v = 0 then bothLost v else setEvent evLinkDegraded v)

/-- Eight consecutive failures. -/
def execD2dLinkLost (t : Nat) (link : Link) (s : State) : Host.Outcome State Fault Refusal :=
  act t s (fun u => if (getLink u link).up && decide (8 ≤ (getLink u link).crcRun) then loseLink link u else u)

/-- 4 µs without a valid message or idle word. -/
def execD2dLinkTimeout (t : Nat) (link : Link) (s : State) : Host.Outcome State Fault Refusal :=
  act t s (fun u =>
    if (getLink u link).up && decide ((getLink u link).lastValid + 4 * usTicks ≤ u.now) then loseLink link u else u)

/-- The link counts as up again. -/
def gainLink (l : Link) (s : State) : State := setLink l { getLink s l with up := true, crcRun := 0, idleRun := 0, lastValid := s.now } s

/-- 64 consecutive valid idle words. -/
def execD2dLinkUp (t : Nat) (link : Link) (s : State) : Host.Outcome State Fault Refusal :=
  act t s (fun u => if !(getLink u link).up && decide (64 ≤ (getLink u link).idleRun) then gainLink link u else u)

end Sys2Proof.Machine
end

