-- ==== Sys2Proof/Machine/Wings.lean ====
section
/-! DEFINITION. The meanings of the commands of the wings and the packer (R349 to R370, R375). -/

namespace Sys2Proof.Machine

/-! ### WQ_CMD (Table 10.6, R375) -/

def wqCmdAddr : Nat := 0x00080040
def wqResyncAddr : Nat := 0x00080034

def opFlush : Nat := 1
def opMark : Nat := 2
def opClearMark : Nat := 3
def opRewind : Nat := 4
def opRelease : Nat := 5
def opRead : Nat := 6
def opDone : Nat := 7

/-- WQ_CMD_RES takes a RESULT. -/
def wqResult (r : Nat) (s : State) : State := { s with wq := { s.wq with result := r } }

/-- A pinned item that only a lane unpins. -/
def lanePinned (s : State) (q : Nat) : Bool := (getQueue s q).pinned.isSome && laneQueue s q

/-- A command on queue `q` waits until its pinned item is free (R357, R359); it holds BUSY where the item is a lane's
(R375). -/
def waitPinned (op q : Nat) (s : State) : State :=
  let u := setQueue q { getQueue s q with waitCmd := some op } s
  { u with wq := { u.wq with resBusy := laneQueue s q } }

/-- FLUSH (R359). The item pinned on a lane stays until its group completes, and the command with it. -/
def wqFlushOp (q : Nat) (s : State) : State :=
  let u := wqResult 0 (setQueue q { getQueue (flushQueue q s) q with waitCmd := none } (flushQueue q s))
  if lanePinned u q then waitPinned opFlush q u else u

/-- REWIND on a queue with nothing pinned (R357). -/
def rewindNow (q : Nat) (s : State) : State :=
  let r := (getQueue s q).rewind
  let u := setQueue q { r.1 with waitCmd := none } s
  { u with wq := { u.wq with result := r.2.1, resLost := if r.2.1 = 2 then r.2.2 else u.wq.resLost } }

def wqRewindOp (q : Nat) (s : State) : State :=
  if (getQueue s q).pinned.isSome then waitPinned opRewind q s else rewindNow q s

/-- How far `a` lies above REL, modulo 2^32. -/
def Queue.above (v : Queue) (a : Nat) : Nat := (a % seqMod + seqMod - v.rel % seqMod) % seqMod

/-- The items that RELEASE n frees, counted from REL (R351). -/
def Queue.releaseLimit (v : Queue) (n : Nat) : Nat :=
  let m := min (v.above n) (v.above v.rd)
  if v.markValid then min m (v.above v.mark) else m

def wqReleaseOp (q n : Nat) (s : State) : State :=
  let v := getQueue s q
  if v.above n > v.above v.tail then wqResult 6 s
  else
    let lim := v.releaseLimit n
    let gone := v.items.filter (fun i => decide (v.above i.seq < lim))
    let w := { v with items := v.items.filter (fun i => !decide (v.above i.seq < lim)), rel := (v.rel + lim) % seqMod }
    wqResult 0 (freeCells (gone.flatMap Item.cells) (setQueue q w s))

/-- The read of the item in the view completes; a rewind that waited for it proceeds. -/
def endView (s : State) : State :=
  match s.wq.view with
  | none => s
  | some (q, _) =>
    let u := completeRead q { s with wq := { s.wq with view := none, viewBytes := [] } }
    if (getQueue u q).waitCmd = some opRewind then rewindNow q u else u

/-- The view holds an item of a queue other than `q`. -/
def viewElsewhere (s : State) (q : Nat) : Bool := s.wq.view.any (fun p => p.1 != q)

def wqReadOp (q : Nat) (s : State) : State :=
  if consumerOf s q ≠ some 2 then wqResult 4 s
  else if viewElsewhere s q then wqResult 7 s
  else
    let u := endView s
    match (getQueue u q).next with
    | none => wqResult 5 u
    | some it =>
      let v := startRead q it u
      wqResult 0 { v with wq := { v.wq with view := some (q, it), viewBytes := itemBytes u it } }

def wqDoneOp (q : Nat) (s : State) : State :=
  if consumerOf s q ≠ some 2 then wqResult 4 s
  else if viewElsewhere s q then wqResult 7 s
  else wqResult 0 (endView s)

/-- The command of WQ_CMD on a queue that exists. MARK, REWIND and RELEASE are not for a safety-evaluator queue
(R352). -/
def wqOp (op q n : Nat) (s : State) : State :=
  if consumerOf s q = some 4 ∧ op ∈ [opMark, opRewind, opRelease] then wqResult 4 s
  else if op = opFlush then wqFlushOp q s
  else if op = opMark then wqResult 0 (setQueue q (getQueue s q).setMark s)
  else if op = opClearMark then wqResult 0 (setQueue q (getQueue s q).clearMark s)
  else if op = opRewind then wqRewindOp q s
  else if op = opRelease then wqReleaseOp q n s
  else if op = opRead then wqReadOp q s
  else wqDoneOp q s

/-- A command of WQ_CMD. -/
def wqRun (op q n : Nat) (s : State) : State :=
  if (consumerOf s q).isNone then wqResult 1 s
  else wqOp op q n s

/-- A write to WQ_CMD; an OP other than 1 to 7 is outside its range, and a command while BUSY reads 1 is discarded
(R375), each with the access-violation event (R512). The flag says whether the write was taken. -/
def wqCommand (p : Path) (v : W32) (s : State) : Bool × State :=
  let op := fld v 31 28
  if op = 0 ∨ 7 < op then (false, violation p wqCmdAddr kindRange s)
  else if s.wq.resBusy then (false, violation p wqCmdAddr kindBusy s)
  else (true, wqRun op (fld v 11 0) s.wq.cmdArg.toNat s)

/-- The word of WQ_CMD for a command on queue `q`. -/
def wqWord (op q : Nat) : W32 := word [(28, 4, op), (0, 12, q)]

def execWqFlush (t : Nat) (path : Path) (queue : Nat) (s : State) : Host.Outcome State Fault Refusal :=
  act t s (onPath path (fun u => (wqCommand path (wqWord opFlush queue) u).2))

def execWqMark (t : Nat) (path : Path) (queue : Nat) (s : State) : Host.Outcome State Fault Refusal :=
  act t s (onPath path (fun u => (wqCommand path (wqWord opMark queue) u).2))

def execWqClearMark (t : Nat) (path : Path) (queue : Nat) (s : State) : Host.Outcome State Fault Refusal :=
  act t s (onPath path (fun u => (wqCommand path (wqWord opClearMark queue) u).2))

def execWqRewind (t : Nat) (path : Path) (queue : Nat) (s : State) : Host.Outcome State Fault Refusal :=
  act t s (onPath path (fun u => (wqCommand path (wqWord opRewind queue) u).2))

/-- RELEASE with n in WQ_CMD_ARG. -/
def execWqRelease (t : Nat) (path : Path) (queue n : Nat) (s : State) : Host.Outcome State Fault Refusal :=
  act t s (onPath path (fun u =>
    (wqCommand path (wqWord opRelease queue) { u with wq := { u.wq with cmdArg := BitVec.ofNat 32 n } }).2))

def execWqRead (t : Nat) (path : Path) (queue : Nat) (s : State) : Host.Outcome State Fault Refusal :=
  act t s (onPath path (fun u => (wqCommand path (wqWord opRead queue) u).2))

def execWqDone (t : Nat) (path : Path) (queue : Nat) (s : State) : Host.Outcome State Fault Refusal :=
  act t s (onPath path (fun u => (wqCommand path (wqWord opDone queue) u).2))

/-! ### RESYNC and waiting commands (R365, R357, R359) -/

/-- WQ_QRESYNC.RESYNC := 1 on the queue that WQ_QSEL names. -/
def resync (s : State) : State :=
  let q := fld s.wq.qsel 11 0
  if (consumerOf s q).isSome then setQueue q { getQueue s q with reset := true } s else s

def execWqResync (t : Nat) (path : Path) (s : State) : Host.Outcome State Fault Refusal :=
  act t s (onPath path resync)

/-- A REWIND or FLUSH that waited on queue `q` proceeds once nothing is pinned. -/
def resumeCommand (q : Nat) (s : State) : State :=
  let v := getQueue s q
  if v.pinned.isSome then s
  else
    match v.waitCmd with
    | none => s
    | some op =>
      let u : State := { s with wq := { s.wq with resBusy := false } }
      if op = opRewind then rewindNow q u else wqResult 0 (setQueue q { v with waitCmd := none } u)

def execPinnedCommandResume (t : Nat) (queue : Nat) (s : State) : Host.Outcome State Fault Refusal :=
  act t s (resumeCommand queue)

/-! ### Bin-delta prediction (R370) -/

/-- Each value less the one before it, modulo `m`. -/
def deltas (m prev : Nat) : List Nat → List Nat
  | [] => []
  | x :: r => ((x + m - prev) % m) :: deltas m x r

/-- Little-endian values of `k` bytes each. -/
def leValues (bs : List Byte) (k n : Nat) : List Nat := (pieces bs k n).map leNat

def predictWindow (bs : List Byte) : List Byte := (deltas 65536 0 (leValues bs 2 256)).flatMap (leBytes 2)

def predictFilter (bs : List Byte) : List Byte :=
  bs.take 16 ++ (deltas (2 ^ 32) 0 (leValues (bs.drop 16) 4 256)).flatMap (leBytes 4)

/-- Two 12-bit bins in three bytes, each less the one before it. -/
def predictActOne (bs : List Byte) : List Byte :=
  let bins := (leValues bs 3 512).flatMap (fun v => [v % 4096, v / 4096])
  ((List.range 512).zip (pairUp (deltas 4096 0 bins))).flatMap (fun p => leBytes 3 (p.2.1 + 4096 * p.2.2))
where
  /-- consecutive values in pairs -/
  pairUp : List Nat → List (Nat × Nat)
    | a :: b :: r => (a, b) :: pairUp r
    | _ => []

/-- The transform of a histogram record; its length stays. -/
def predictItem (bs : List Byte) : List Byte :=
  let n := byteAt bs 4
  if bs.length < 1600 + 512 * n then bs
  else
    let wins := (pieces (bs.drop 1600) 512 n).flatMap predictWindow
    let rest := bs.drop (1600 + 512 * n)
    let tail := if bs.length = 1600 + 1552 * n then (pieces rest 1040 n).flatMap predictFilter else rest
    bs.take 64 ++ predictActOne (slice bs 64 1536) ++ wins ++ tail

/-! ### Packed groups (R362 to R369) -/

/-- MODE of a queue's PACK under a version (R390, R391): 0 stored, 1 carried history, 2 independent. -/
def packMode (pack ver : Nat) : Nat :=
  if pack = 0 ∨ ver < 0x11 then 0
  else if pack = 2 ∨ ver < 0x12 then 2
  else 1

/-- A stored block with BFINAL 0 (R364). -/
def storedBlock (bs : List Byte) : List Byte :=
  0 :: leBytes 2 bs.length ++ leBytes 2 (65535 - bs.length % 65536) ++ bs

/-- A compressed payload of `body` after the history `past`: which blocks it holds is the compressor's, a free value, as
long as it decodes to `body` by the rules of R364 and is no longer than the stored form; it ends with an empty stored
block. None where the compressor finds no such payload (notes/assumptions/42.md). -/
def compressedPayload (s : State) (past body : List Byte) : Option (List Byte) :=
  let z := leBytes (freeValue s % (body.length + 2)) (Config.freeNat (s.free + 1)) ++ [0, 0, 0xFF, 0xFF]
  if payloadFits past body z then some z else none

/-- What a packed group says beside its item (Table 10.4). -/
structure Group where
  mode     : Nat
  reset    : Bool
  replay   : Bool
  fallback : Bool
  pred     : Bool
  gap      : Bool
  payload  : List Byte
  deriving DecidableEq, Repr

def groupBytes (q : Nat) (it : Item) (bs : List Byte) (g : Group) : List Byte :=
  leBytes 2 (q + 4096 * g.mode)
    ++ leBytes 1 (bn g.reset + 2 * bn g.replay + 4 * bn g.fallback + 8 * bn g.pred + 16 * bn g.gap)
    ++ leBytes 1 it.kind ++ leBytes 4 it.seq ++ leBytes 2 it.bytes ++ leBytes 2 g.payload.length ++ g.payload
    ++ leBytes 4 (crc32 bs)

/-- The bytes of an item as they enter DEFLATE: PACK 3 predicts the histogram records (R370). -/
def packPredicts (r : QueueRec) (ver : Nat) (it : Item) : Bool :=
  decide (packMode r.pack ver = 1) && decide (r.pack = 3) && decide (it.kind = 1)

def packBody (r : QueueRec) (ver : Nat) (it : Item) (bs : List Byte) : List Byte :=
  if packPredicts r ver it then predictItem bs else bs

/-- The queue's packed group for an item, after the history `past` of its context. `restored` says that the packer has
turned to another context whose saved copy fails its CRC; `verifyOk` is the outcome of the self-verification. -/
def packGroup (r : QueueRec) (v : Queue) (l ver : Nat) (it : Item) (bs past : List Byte) (restored verifyOk : Bool)
    (s : State) : Group :=
  let mode := packMode r.pack ver
  let body := packBody r ver it bs
  let again := v.reset || restored || v.lastLane.any (fun k => k != l)
  let plain : Group :=
    { mode := 0, reset := again, replay := it.read, fallback := false, pred := packPredicts r ver it
      gap := v.lastSeq.any (fun n => (n + 1) % seqMod != it.seq), payload := storedBlock body }
  if mode = 0 then plain
  else
    match compressedPayload s (if again || decide (mode = 2) then [] else past) body with
    | none => plain
    | some z =>
      if verifyOk then { plain with mode := mode, reset := again || decide (mode = 2), payload := z }
      else { plain with reset := true, fallback := true }

/-! ### Stream contexts (R366, R367) -/

/-- The saved copy of a history. What the state holds beside its CRC-32C the manual does not say; the model keeps the
length of the history there (notes/assumptions/42.md). -/
def saveContext (past : List Byte) : StreamContext :=
  let state := leBytes 60 past.length
  { past := past, state := state, crc := crc32c (past.reverse ++ state) }

/-- The history packer `l` works with on context `c`: its active one, or the saved copy; a copy that fails its CRC
(`ok` false) is emptied. -/
def contextPast (s : State) (l c : Nat) (ok : Bool) : List Byte :=
  let p := s.pk.lanes.get {} l
  if p.context = some c then p.past
  else if ok then ((s.pk.contexts.find c).map StreamContext.past).getD [] else []

/-- Packer `l` turns to context `c`: its active context is saved, and no other packer keeps `c`. -/
def turnContext (l c : Nat) (s : State) : State :=
  let p := s.pk.lanes.get {} l
  let saved := match p.context with
    | some k => if k = c then s.pk.contexts else s.pk.contexts.set k (saveContext p.past)
    | none => s.pk.contexts
  let lanes := s.pk.lanes.mapVals (fun k x =>
    if k ≠ l ∧ x.context = some c then { x with context := none, past := [] } else x)
  { s with pk := { s.pk with contexts := saved, lanes := lanes } }

/-- The head item of each queue that lane `l` delivers, in the queues' order. -/
def laneHeads (s : State) (l : Nat) : List (QueueRec × Item) :=
  let qs := (s.img.active.map Image.queues).getD []
  (sortBy (fun (a b : QueueRec) => decide (a.queue ≤ b.queue)) qs).filterMap (fun r =>
    let v := getQueue s r.queue
    if deliveringLane s r = some l && v.pinned.isNone && v.waitCmd.isNone then v.next.map (fun it => (r, it)) else none)

/-- Oldest TIME first, ties to the lower queue number (R362). TIME is compared modulo 2^32. -/
def oldestHead (best : Option (QueueRec × Item)) (x : QueueRec × Item) : Option (QueueRec × Item) :=
  match best with
  | none => some x
  | some b => if b.2.time != x.2.time && seqGe b.2.time x.2.time then some x else some b

/-- The VC of a queue's groups, by its consumer (R54). A group for a stage lane is for the child itself, so it goes on
its native VC (R391); that this is VC3 is the model's reading (notes/assumptions/8.md). -/
def groupVc (r : QueueRec) : Nat := if r.consumer = 3 then 3 else 3 + r.consumer

/-- The message that carries a group. -/
def sendGroup (r : QueueRec) (l : Nat) (bs : List Byte) (s : State) : State := sendMsg l (groupVc r) 1 bs s

/-- `n` bytes more in units of 64: the counter's gain and the bytes left over. -/
def units64 (rest n : Nat) : Nat × Nat := ((rest + n) / 64, (rest + n) % 64)

/-- What packer `p` counts for group `g` of an item of `n` bytes; `bad` says that a context restore failed. -/
def Packer.countGroup (p : Packer) (g : Group) (n : Nat) (bad : Bool) : Packer :=
  let used := units64 p.inRest n
  { p with
    cntIn := satAdd 32 p.cntIn used.1, inRest := used.2
    cntReset := if g.reset ∧ g.mode ≠ 2 then inc32 p.cntReset else p.cntReset
    cntVerify := if g.fallback then inc32 p.cntVerify else p.cntVerify
    cntCtx := if bad then inc32 p.cntCtx else p.cntCtx }

/-- The packer of lane `l` reads item `it` and begins its group. -/
def beginGroup (l : Nat) (contextOk verifyOk : Bool) (r : QueueRec) (it : Item) (s : State) : State :=
  let v := getQueue s r.queue
  let p := s.pk.lanes.get {} l
  let ver := packVersion s l
  let bs := itemBytes s it
  let carries := packMode r.pack ver = 1
  let bad := decide carries && p.context != some r.context && (s.pk.contexts.find r.context).isSome && !contextOk
  let past := if carries then contextPast s l r.context contextOk else []
  let g := packGroup r v l ver it bs past bad verifyOk s
  let out := groupBytes r.queue it bs g
  let a := startRead r.queue it { s with free := s.free + 2 }
  let w := setQueue r.queue { getQueue a r.queue with reset := false, lastLane := some l } a
  let x := if carries then turnContext l r.context w else w
  let y := sendGroup r l out x
  -- the last frame still to go on the group's VC, which is the group's own
  let tail := ((((getLane y l).waiting.filter (fun m => m.vc == groupVc r)).getLast?).map LaneMsg.payload).getD []
  let held := (packBody r ver it bs).reverse ++ (if g.reset then [] else past)
  let q := p.countGroup g it.bytes bad
  let z : Packer := { q with
    context := if carries then some r.context else p.context, past := if carries then held.take 4096 else p.past
    group := some (r.queue, it.seq, out.length), vc := groupVc r, tail := tail }
  eventIf g.fallback evPacker { y with pk := { y.pk with lanes := y.pk.lanes.set l z } }

/-- R362: an idle packer on a trained lane takes the next item. -/
def groupStart (l : Nat) (contextOk verifyOk : Bool) (s : State) : State :=
  if !laneTrained s l || (s.pk.lanes.get {} l).group.isSome then s
  else
    match (laneHeads s l).foldl oldestHead none with
    | none => s
    | some (r, it) => beginGroup l contextOk verifyOk r it s

def execPackerGroupStart (t : Nat) (lane : Nat) (contextOk verifyOk : Bool) (s : State) : Host.Outcome State Fault Refusal :=
  act t s (groupStart lane contextOk verifyOk)

/-- Frames of the packer's group still wait for the lane: its last one does (R399). -/
def groupWaits (s : State) (l : Nat) : Bool :=
  let p := s.pk.lanes.get {} l
  (getLane s l).waiting.any (fun m => m.vc == p.vc && m.payload == p.tail)

/-- The group's last frame has entered the replay buffer: the read completes (R349, R399). -/
def groupDone (l : Nat) (s : State) : State :=
  let p := s.pk.lanes.get {} l
  match p.group with
  | none => s
  | some (q, seq, n) =>
    if groupWaits s l then s
    else
      let out := units64 p.outRest n
      let u := completeRead q s
      let v := setQueue q { getQueue u q with lastSeq := some seq } u
      let z : Packer := { p with
        group := none, cntOut := satAdd 32 p.cntOut out.1, outRest := out.2, cntGroups := inc32 p.cntGroups }
      { v with pk := { v.pk with lanes := v.pk.lanes.set l z } }

def execReadComplete (t : Nat) (lane : Nat) (s : State) : Host.Outcome State Fault Refusal := act t s (groupDone lane)

end Sys2Proof.Machine
end

