-- ==== Sys2Proof/Machine/Zitlane.lean ====
section
/-! DEFINITION. The meanings of the commands that train a lane, and of the frames, credits and replays on it (R377 to
R401, R415, R417). Lanes 0 to 3 are HL0, HL1, SL0, SL1. -/

namespace Sys2Proof.Machine

/-! ### What a change of a lane's state brings -/

/-- Stage lane `l` has left the trained states: the guest behind it reads Absent, the parents of its cue parts end
Failed, and a split cue that waits for its decision is refused (R415). The reason of that refusal is stated nowhere: a
free value. -/
def loseGuests (l : Nat) (s : State) : State :=
  let behind := fun (g : GuestPart) => g.lane == l && g.accepted == some true && !g.ended
  let parents := (handles s).filter (fun h => (findCue s h).any (fun e => e.guests.any behind))
  let waits := s.sm.deciding.any (fun p => (findCue s p.1).any (fun e => e.guests.any (fun g => g.lane == l)))
  let mark := fun (g : GuestPart) => if behind g then { g with ended := true } else g
  let u : State := { s with sm := { s.sm with
    cues := s.sm.cues.mapVals (fun _ (e : CueEntry) => { e with guests := e.guests.map mark }) } }
  let v := if waits then dropDeciding (lostReason u) (tookFree u) else u
  parents.foldl (fun x h => cueProgress h (endCue h 2 0x13 0 x)) v

/-- The guests behind the stage lanes that have been lost since `before`. -/
def guestsGone (before s : State) : State :=
  [2, 3].foldl (fun x l => if laneTrained before l && !laneTrained x l then loseGuests l x else x) s

/-- What follows a change of addresses: a lane that has halted for it takes its guests along and has no capacity. -/
def addressesMoved (before s : State) : State := refreshConds (noteWorst (guestsGone before s))

/-- The rest of a lane's change of state: guests, the root, addresses, and the capacity of the lane. -/
def lanesMoved (before s : State) : State :=
  let u := guestsGone before s
  addressesMoved u (linkMoved before u)

/-- Lane `l` goes to state `x`. -/
def goLane (l : Nat) (x : LaneState) (s : State) : State := lanesMoved s (enterLane l x s)

/-- The lane forgets the link it had: in OFF, and on its way to DETECT (R382, R417). -/
def goOff (l : Nat) (s : State) : State := lanesMoved s (laneOff l s)

def goDetect (l : Nat) (s : State) : State :=
  lanesMoved s (updLane l Lane.forget (enterLane l .detect s))

def goHalt (l reason : Nat) (s : State) : State := lanesMoved s (haltLane l reason s)

/-- Entry to ACTIVE: each send counter takes the partner's CREDITS (R397). -/
def goActive (l : Nat) (s : State) : State :=
  lanesMoved s (pumpLane l (updLane l (fun v => { v with credits := (v.caps.map Caps.credits).getD [], lastAck := s.now })
    (enterLane l .active s)))

/-- Entry to RETRAIN. -/
def goRetrain (l : Nat) (s : State) : State :=
  goLane l .retrain (updLane l (fun v => { v with cntRetrain := inc32 v.cntRetrain }) s)

/-- The lane has been in its state for `ticks`. -/
def laneAged (s : State) (l ticks : Nat) : Bool := decide ((getLane s l).since + ticks ≤ s.now)

def isLane (l : Nat) : Bool := decide (l < 4)

def laneIn (s : State) (l : Nat) (x : LaneState) : Bool := isLane l && decide ((getLane s l).state = x)

/-! ### Training (Table 11.2) -/

/-- The states from BASE to RETRAIN, in which a signal is expected. -/
def LaneState.signalled (x : LaneState) : Bool :=
  decide (x ∈ [LaneState.base, .exchange, .rate, .delay, .active, .retrain])

/-- ENABLE of the plan in force, DISABLE clear, and no failed loop-back in dress rehearsal. -/
def laneMayTrain (v : Lane) : Bool := v.plan.enable && !v.disable && !v.fail

def leaveOff (l : Nat) (s : State) : State := if laneIn s l .off && laneMayTrain (getLane s l) then goDetect l s else s

def execLaneLeaveOff (t : Nat) (lane : Nat) (s : State) : Host.Outcome State Fault Refusal := act t s (leaveOff lane)

/-- The probe of a lane in DETECT finds a partner; a rehearsal slice on the lane gives it up (R472). -/
def detectProbe (l : Nat) (found : Bool) (s : State) : State :=
  if laneIn s l .detect && found && laneMayTrain (getLane s l) then goLane l .base (serve 3 l s) else s

def execLaneDetectProbe (t : Nat) (lane : Nat) (found : Bool) (s : State) : Host.Outcome State Fault Refusal :=
  act t s (detectProbe lane found)

/-- A receiver that has a signal: 64 valid headers give block lock (R381). In BASE, 16 TRAIN blocks that come inverted set RX_INV (R382);
with lock, 16 TRAIN blocks that carry READY end BASE, and the partner's index of the lane is its logical number
(R383). -/
def baseLock (l : Nat) (x : TrainSeen) (inverted : Bool) (index : Nat) (s : State) : State :=
  if isLane l && (getLane s l).state.signalled && decide ((getLane s l).state ≠ .base) then
    updLane l (fun v => { v with lock := v.lock || decide (64 ≤ x.headers) }) s
  else if laneIn s l .base then
    let u := updLane l (fun v =>
      { v with lock := v.lock || decide (64 ≤ x.headers), rxInv := v.rxInv || (inverted && decide (16 ≤ x.trains)) }) s
    if !laneMayTrain (getLane u l) then u
    else if (getLane u l).lock && x.ready && decide (16 ≤ x.trains) then
      goLane l .exchange (updLane l (fun v =>
        { v with
          logical := if l < 2 then index % 2 else 0
          reversed := decide (l < 2) && decide (index % 2 ≠ l) }) u)
    else u
  else s

def execLaneBaseLock (t : Nat) (lane : Nat) (seen : TrainSeen) (inverted : Bool) (index : Nat) (s : State) :
    Host.Outcome State Fault Refusal :=
  act t s (baseLock lane seen inverted index)

def baseTimeout (l : Nat) (s : State) : State := if laneIn s l .base && laneAged s l (20 * msTicks) then goDetect l s else s

def execLaneBaseTimeout (t : Nat) (lane : Nat) (s : State) : Host.Outcome State Fault Refusal := act t s (baseTimeout lane)

/-- The link version: the lower of the two VER_HI values (R389). -/
def agreedVersion (c : Caps) : Nat := min 0x12 c.verHi

/-- The trial rates, from the highest down: both ends set them and the version permits them (R389, R390). -/
def commonRates (p : LanePlan) (c : Caps) : List Nat :=
  [1, 2, 3].filter (fun r => (BitVec.ofNat 3 p.rates).getLsbD (r - 1) && (BitVec.ofNat 3 c.rates).getLsbD (r - 1)
    && (r != 1 || decide (0x11 ≤ agreedVersion c)))

/-- Roles that fit: host or stage lane to a house lane, house lane to a stage lane (R389). -/
def rolesFit (l role : Nat) : Bool := if l < 2 then role == 0 || role == 2 else role == 1

/-- A house lane that has trained already reached another partner (R377). -/
def otherPartner (s : State) (l : Nat) (id : W32) : Bool :=
  decide (l < 2) && laneTrained s (1 - l) && (getLane s (1 - l)).partner != id

/-- Why agreement fails: the HALT code, 0 for agreement. -/
def capsFail (s : State) (l : Nat) (c : Caps) : Nat :=
  let p := (getLane s l).plan
  if agreedVersion c < max p.verMin c.verLo then 1
  else if p.creditLim < c.retLim then 3
  else if !rolesFit l c.role then 7
  else if otherPartner s l c.linkId then 4
  else if commonRates p c = [] then 2
  else 0

/-- A CAPS frame in EXCHANGE; `acked` says that the partner has acknowledged the agreement. -/
def takeCaps (l : Nat) (c : Caps) (acked : Bool) (s : State) : State :=
  if laneIn s l .exchange then
    let f := capsFail s l c
    let u := updLane l (fun v => { v with caps := some c, partner := c.linkId }) s
    if f ≠ 0 then goHalt l f u
    else
      let rs := commonRates (getLane s l).plan c
      let w := updLane l (fun v => { v with ver := agreedVersion c, rates := rs }) u
      if acked then goLane l .rate (updLane l (fun v => { v with rate := rs.headD 0 }) w) else w
  else s

def execLaneCaps (t : Nat) (lane : Nat) (caps : Caps) (acked : Bool) (s : State) : Host.Outcome State Fault Refusal :=
  act t s (takeCaps lane caps acked)

def exchangeTimeout (l : Nat) (s : State) : State :=
  if laneIn s l .exchange && laneAged s l (10 * msTicks) then goDetect l s else s

def execLaneExchangeTimeout (t : Nat) (lane : Nat) (s : State) : Host.Outcome State Fault Refusal := act t s (exchangeTimeout lane)

/-- R386: the lock is good. At a PAM4 rate alignment-marker lock and block lock have held, no codeword was uncorrectable
and at most one symbol in 10,000 was corrected; at the NRZ rate block lock has held with no invalid header. -/
def lockGood (o : LockObs) (rate : Nat) : Bool :=
  o.locked && (if rate = 3 then o.invalid == 0
    else o.aligned && o.uncorrectable == 0 && decide (10000 * o.corrected ≤ o.symbols))

/-- No uncorrectable codeword has come since `a`. -/
def cleanSince (v : Lane) (a : Nat) : Bool := v.uncAt.all (fun x => decide (x < a))

/-- The lock has been good for 10 ms at the trial rate, within 50 ms (R386). -/
def rateAccept (l : Nat) (o : LockObs) (s : State) : State :=
  let v := getLane s l
  if laneIn s l .rate && laneAged s l (10 * msTicks) && decide (s.now ≤ v.since + 50 * msTicks) && lockGood o v.rate
      && cleanSince v (s.now - 10 * msTicks) then
    goLane l .delay (updLane l (fun v => { v with lock := true }) s)
  else s

def execLaneRateAccept (t : Nat) (lock : LaneLock) (s : State) : Host.Outcome State Fault Refusal :=
  act t s (rateAccept lock.lane lock.seen)

/-- The next lower common rate, or HALT with reason 2. -/
def rateTimeout (l : Nat) (s : State) : State :=
  if laneIn s l .rate && laneAged s l (50 * msTicks) then
    match (getLane s l).rates.tail with
    | [] => goHalt l 2 s
    | r :: rest => goLane l .rate (updLane l (fun v => { v with rate := r, rates := r :: rest }) s)
  else s

def execLaneRateTimeout (t : Nat) (lane : Nat) (s : State) : Host.Outcome State Fault Refusal := act t s (rateTimeout lane)

/-- Sixteen round trips measured, or sixteen DREQ blocks answered. Frame numbers start at 0 with the link
(notes/assumptions/33.md). -/
def delayDone (l : Nat) (s : State) : State :=
  if laneIn s l .delay && decide (16 ≤ (getLane s l).trips) then
    if otherPartner s l (getLane s l).partner then goHalt l 4 s
    else goActive l (updLane l (fun v => { v with fseq := 0, rxSeq := 0 }) s)
  else s

def execLaneDelayDone (t : Nat) (lane : Nat) (s : State) : Host.Outcome State Fault Refusal := act t s (delayDone lane)

/-! ### LN_CTRL (R417) -/

/-- RETRAIN := 1 on an ACTIVE lane (R387). -/
def commandRetrain (l : Nat) (s : State) : State := if laneIn s l .active then goRetrain l s else s

/-- RETRY := 1 in HALT (R384). -/
def commandRetry (l : Nat) (s : State) : State := if laneIn s l .halt && laneMayTrain (getLane s l) then goDetect l s else s

/-- DISABLE takes value `b`; set, it holds the lane in OFF. -/
def setDisable (l : Nat) (b : Bool) (s : State) : State :=
  let u := updLane l (fun v => { v with disable := b }) s
  if b && !laneIn u l .off then goOff l u else u

/-- A write to LN_CTRL of lane `l`. -/
def laneCtrl (l : Nat) (w : W32) (s : State) : State :=
  let a := setDisable l (flag w 0) s
  let b := if flag w 1 then commandRetrain l a else a
  if flag w 2 then commandRetry l b else b

/-- LN_CTRL with its one RW field as it stands. -/
def laneCtrlWord (s : State) (l : Nat) : W32 := word [(0, 1, bn (getLane s l).disable)]

def execLaneRetrain (t : Nat) (path : Path) (lane : Nat) (s : State) : Host.Outcome State Fault Refusal :=
  act t s (onPath path (fun u => if isLane lane then laneCtrl lane (laneCtrlWord u lane ||| 2#32) u else u))

def execLaneRetry (t : Nat) (path : Path) (lane : Nat) (s : State) : Host.Outcome State Fault Refusal :=
  act t s (onPath path (fun u => if isLane lane then laneCtrl lane (laneCtrlWord u lane ||| 4#32) u else u))

def execLaneDisable (t : Nat) (path : Path) (lane : Nat) (s : State) : Host.Outcome State Fault Refusal :=
  act t s (onPath path (fun u => if isLane lane then laneCtrl lane 1#32 u else u))

/-! ### Signal, lock and FEC (R381, R384, R387) -/

/-- A loss of signal of 10 µs (R384, R415). -/
def signalLoss (l lasted : Nat) (s : State) : State :=
  if isLane l && (getLane s l).state.signalled && decide (10 * usTicks ≤ lasted) then goDetect l s else s

def execLaneSignalLoss (t : Nat) (lane lasted : Nat) (s : State) : Host.Outcome State Fault Refusal := act t s (signalLoss lane lasted)

/-- The partner's termination was lost and has returned: HALT ends. -/
def terminationChange (l : Nat) (s : State) : State := if laneIn s l .halt then goDetect l s else s

def execLaneTerminationChange (t : Nat) (lane : Nat) (s : State) : Host.Outcome State Fault Refusal := act t s (terminationChange lane)

/-- A window of 64 blocks with 16 invalid headers loses the lock (R381), and an ACTIVE lane retrains (R387). `invalid`
counts the blocks of uncorrectable codewords with the others. -/
def blockLockLoss (l invalid : Nat) (s : State) : State :=
  if isLane l && (getLane s l).lock && decide (16 ≤ invalid) then
    let u := updLane l (fun v => { v with lock := false }) s
    if laneIn u l .active then goRetrain l u else u
  else s

def execBlockLockLoss (t : Nat) (lane invalid : Nat) (s : State) : Host.Outcome State Fault Refusal := act t s (blockLockLoss lane invalid)

/-- The lane runs with RS-FEC: at the two PAM4 rates, from RATE on (Table 11.1). -/
def fecRuns (v : Lane) : Bool := decide (v.state ∈ [LaneState.rate, .delay, .active, .retrain]) && decide (v.rate ∈ [1, 2])

/-- What the decoder reports of 1 ms: `words` uncorrectable and `corrected` corrected codewords count, and eight
uncorrectable ones retrain an ACTIVE lane. -/
def fecUnc (l words corrected : Nat) (s : State) : State :=
  if isLane l && fecRuns (getLane s l) then
    let u := updLane l (fun v => { v with
      cntFecUnc := satAdd 32 v.cntFecUnc words, cntFecCorr := satAdd 32 v.cntFecCorr corrected
      uncAt := if words = 0 then v.uncAt else some s.now }) s
    if laneIn u l .active && decide (8 ≤ words) then goRetrain l u else u
  else s

def execFecUncLimit (t : Nat) (lane : Nat) (words : Codewords) (s : State) : Host.Outcome State Fault Refusal :=
  act t s (fecUnc lane words.uncorrectable words.corrected)

/-- A good lock within 2 ms of RETRAIN, judged over the time since it came back (notes/assumptions/35.md). -/
def retrainLock (l : Nat) (o : LockObs) (s : State) : State :=
  let v := getLane s l
  if laneIn s l .retrain && decide (s.now ≤ v.since + 2 * msTicks) && lockGood o v.rate then
    goActive l (updLane l (fun v => { v with lock := true }) s)
  else s

def execRetrainLock (t : Nat) (lock : LaneLock) (s : State) : Host.Outcome State Fault Refusal :=
  act t s (retrainLock lock.lane lock.seen)

def retrainTimeout (l : Nat) (s : State) : State :=
  if laneIn s l .retrain && laneAged s l (2 * msTicks) then
    goLane l .base (updLane l (fun v => { v with ver := 0, caps := none, rates := [] }) s)
  else s

def execRetrainTimeout (t : Nat) (lane : Nat) (s : State) : Host.Outcome State Fault Refusal := act t s (retrainTimeout lane)

/-! ### What a lane sends in training (Table 11.2) -/

/-- The device's own index of lane `l`: 0 or 1 for house lanes, 0 for stage lanes (Table 11.3). -/
def ownIndex (l : Nat) : Nat := if l < 2 then l else 0

/-- Its ROLE: 1 house lane, 2 stage lane. -/
def ownRole (l : Nat) : Nat := if l < 2 then 1 else 2

/-- Bits [55:0] of the TRAIN blocks of lane `l` (Table 11.5): READY says that its receiver is locked. -/
def trainBits (s : State) (l : Nat) : Nat :=
  withHcrc (2 ^ 47 * ownIndex l + 2 ^ 45 * ownRole l + 2 ^ 44 * bn (getLane s l).lock)

/-- The 24 bytes of the device's own capability record (Table 11.3). -/
def ownCaps (s : State) (l : Nat) : List Byte :=
  let p := (getLane s l).plan
  leBytes 1 0x12 ++ leBytes 1 p.verMin ++ leBytes 1 p.rates ++ leBytes 1 (ownRole l) ++ leBytes 1 (ownIndex l)
    ++ leBytes 1 (bn (decide (l < 2)) + 2 * bn (decide (2 ≤ l))) ++ leBytes 2 20
    ++ (List.range 6).flatMap (fun v => leBytes 1 (p.vcCredits.getD v 0)) ++ leBytes 2 0
    ++ leBytes 4 (s.otp.uid.toNat % 2 ^ 32) ++ leBytes 4 0

/-- The CAPS message: a VC0 frame of TYPE 0x10 that needs no credits (R388, R395). -/
def capsFrame (s : State) (l : Nat) : LaneMsg := { vc := 0, type := 0x10, seg := 0, payload := ownCaps s l }

/-- The Transmitter column of Table 11.2: electrical idle, with a probe every 1 ms in DETECT; TRAIN blocks; a CAPS frame
every 10 µs; IDLE blocks, alone or with time blocks; and in ACTIVE the frames and blocks that `waiting`, `replay` and
`block` hold. -/
inductive LaneOut where
  | electricalIdle
  | probes
  | train (bits : Nat)
  | caps (frame : LaneMsg)
  | idle
  | idleAndTime
  | traffic
  deriving DecidableEq, Repr

/-- What lane `l` transmits. -/
def laneOutput (s : State) (l : Nat) : LaneOut :=
  match (getLane s l).state with
  | .off => .electricalIdle
  | .halt => .electricalIdle
  | .detect => .probes
  | .base => .train (trainBits s l)
  | .exchange => .caps (capsFrame s l)
  | .rate => .idle
  | .retrain => .idle
  | .delay => .idleAndTime
  | .active => .traffic

/-! ### Frames, credits and replay (R392 to R401) -/

/-- What the receiver discards: a control block only counts (R392); a frame counts and is answered with NAK (R393, R399); a
segment follows R394. -/
def badIn (l : Nat) (x : BadIn) (s : State) : State :=
  if isLane l && (getLane s l).state.signalled then
    match x with
    | .block => frameError l s
    | .frame => refuseFrame l s
    | .segment x => takeSegment l x s
  else s

def execLaneBadFrame (t : Nat) (lane : Nat) (what : BadIn) (s : State) : Host.Outcome State Fault Refusal := act t s (badIn lane what)

/-- Credits come back: the outstanding frames of the VC retire in order, as far as `n` credits cover them. The answer
holds their sending times, and what stays outstanding. -/
def retire (vc : Nat) : Nat → List (Nat × Nat × Nat) → List Nat × List (Nat × Nat × Nat)
  | _, [] => ([], [])
  | n, (w, c, a) :: r =>
    if w ≠ vc then ((retire vc n r).1, (w, c, a) :: (retire vc n r).2)
    else if c ≤ n then (a :: (retire vc (n - c) r).1, (retire vc (n - c) r).2)
    else ([], (w, c - n, a) :: r)

/-- Credit latency of a frame in 0.1 µs: the time since its END block, less the lane's round trip (R398). -/
def creditLatency (now rtd sent : Nat) : Nat := (64 * (now - sent) - rtd) / (64 * 400)

/-- R397, R398, R400: `n` credits of VC `vc` return on lane `l`. -/
def returnCredits (l vc n : Nat) (s : State) : State :=
  let v := getLane s l
  let offer := (v.caps.map (fun c => c.credits.getD vc 0)).getD 0
  let have' := v.credits.getD vc 0 + n
  let r := retire vc n v.unpaid
  let lats := r.1.map (creditLatency s.now v.rtd)
  let late := r.1.any (fun a => decide (64 * 400 * v.plan.creditLim < 64 * (s.now - a) - v.rtd))
  let u := lats.foldl (fun x a => noteValue (0xA0030 + 64 * l) (min a (2 ^ 32 - 1) : Nat) x)
    (setLane l { v with
      credits := v.credits.set vc (min offer have'), unpaid := r.2, worst := min (2 ^ 32 - 1) (lats.foldl max v.worst) } s)
  let w := if offer < have' then frameError l u else u
  if r.1 = [] then w else setCond 4 l late w

/-- FSEQ `a` is acknowledged by AFSEQ `b`: it is `b` or one of the 127 before it, modulo 256. -/
def ackedBy (b a : Nat) : Bool := decide ((b % 256 + 256 - a % 256) % 256 < 128)

/-- Every frame up to AFSEQ leaves the replay buffer. -/
def ackFrames (l afseq : Nat) (s : State) : State :=
  updLane l (fun v => { v with replay := v.replay.filter (fun f => !ackedBy afseq f.fseq), lastAck := s.now }) s

/-- The frames that `p` picks are replayed; one replayed four times without acknowledgement retrains the lane (R401). -/
def replayFrames (l : Nat) (p : SentFrame → Bool) (s : State) : State :=
  let v := getLane s l
  let again := v.replay.map (fun f => if p f then { f with replays := f.replays + 1 } else f)
  let u := setLane l { v with replay := again, cntReplay := satAdd 32 v.cntReplay (v.replay.filter p).length, lastAck := s.now } s
  if laneIn u l .active && again.any (fun f => decide (4 ≤ f.replays)) then goRetrain l u else u

/-- A CREDIT block (Table 11.7). -/
def creditBlock (l vc count afseq : Nat) (ack nak : Bool) (s : State) : State :=
  if isLane l && laneTrained s l then
    if 6 ≤ vc then frameError l s
    else
      let a := if 0 < count then returnCredits l vc count s else s
      let b := if ack then ackFrames l afseq a else a
      pumpLane l (if nak then replayFrames l (fun f => !ackedBy afseq f.fseq) b else b)
  else s

def execLaneCredit (t : Nat) (lane vc count afseq : Nat) (ack nak : Bool) (s : State) : Host.Outcome State Fault Refusal :=
  act t s (creditBlock lane vc (count % 256) afseq ack nak)

/-- 64 µs without an ACK: replay from the oldest unacknowledged frame. The time counts from the later of the last ACK
and the sending of that frame. -/
def ackLapsed (s : State) (l : Nat) : Bool :=
  let v := getLane s l
  match v.replay with
  | [] => false
  | f :: _ => decide (max v.lastAck f.sentAt + 64 * usTicks ≤ s.now)

def replayTimeout (l : Nat) (s : State) : State :=
  if laneIn s l .active && ackLapsed s l then replayFrames l (fun _ => true) s else s

def execReplayTimeout (t : Nat) (lane : Nat) (s : State) : Host.Outcome State Fault Refusal := act t s (replayTimeout lane)

end Sys2Proof.Machine
end

