-- ==== Sys2Proof/Machine/LaneTime.lean ====
section
/-! DEFINITION. The meanings of the time blocks, the addressing of a system, a guest's answers, and the cue bus (R402 to
R414). -/

namespace Sys2Proof.Machine

/-! ### Timebase (R408 to R410) -/

/-- The timebase in 1/64 tick. -/
def tb64 (s : State) : Int := 64 * (s.now : Int) + s.tbOffset

/-- The states in which time blocks run. -/
def LaneState.timed (x : LaneState) : Bool := decide (x ∈ [LaneState.delay, .active, .retrain])

def laneTimed (s : State) (l : Nat) : Bool := (getLane s l).state.timed

/-- A stamp of 42 bits of whole ticks and 6 bits of fraction; a 1.0 link sends no fraction (Tables 11.4, 11.5). -/
def stampOf (v : Lane) (x : Int) : Int :=
  let m := x % 2 ^ 48
  if v.ver < 0x11 then m - m % 64 else m

/-- The difference of two stamps. -/
def stampDiff (a b : Int) : Int := signed 48 (unsigned 48 (a - b))

/-- A SYNC block: stamped t2 on arrival, answered with DREQ stamped t3 within 100 µs. When in that time the answer goes
is a free value. -/
def takeSync (l : Nat) (t1 : Int) (s : State) : State :=
  if l < 2 && laneTimed s l then
    let t2 := tb64 s
    let t3 := t2 + (freeValue s % (64 * 100 * usTicks + 1) : Nat)
    tookFree (updLane l (fun v => { v with
      t1 := t1, t2 := t2, t3 := stampOf v t3, asked := true
      block := some (blockDreq, stampOf v t3) }) s)
  else s

def execTimeSync (t : Nat) (lane : Nat) (t1 : Int) (s : State) : Host.Outcome State Fault Refusal := act t s (takeSync lane t1)

/-- LN_ASYM, signed. -/
def asymOf (v : Lane) : Int := signed 16 v.asym.toNat

/-- Twice θ: (t2 − t1) − (t4 − t3) − A. -/
def twiceTheta (v : Lane) (t4 : Int) : Int := stampDiff v.t2 v.t1 - stampDiff t4 v.t3 - asymOf v

/-- LN_RTD: (t2 − t1) + (t4 − t3). -/
def roundTrip (v : Lane) (t4 : Int) : Int := stampDiff v.t2 v.t1 + stampDiff t4 v.t3

/-- The device follows lane `l`: the time source of its house link (R409). The root keeps its own timebase unless its
partner sends TIME_SRC (R408). -/
def followsLane (s : State) (l : Nat) : Bool :=
  let src := match houseLane s with
    | none => true
    | some h => h == l
  src && (!s.ln.root || (getLane s l).caps.any Caps.timeSrc)

/-- Whether the size of a mean θ exceeds `n`: `sum` is the sum of 16 values of twice θ. -/
def meanAbove (sum : Int) (n : Nat) : Bool := decide (32 * n < sum.natAbs)

/-- The most that a slew of 200 ppm moves the timebase since the last steering, in 1/64 tick. -/
def slewLimit (s : State) : Nat := 64 * (s.now - s.ln.steeredAt) / 5000

/-- What follows the timebase after a step from tick `x`: the loop goes on with the first period that begins from now on
(R273), and the analyser with the gate of the new time (R206). -/
def steppedTime (x : Nat) (s : State) : State :=
  let y := tbTick s
  stepGates x y { s with fs := { s.fs with k := ceilDiv y 20000 } }

/-- Steering by the mean of the last 16 measurements: a step in Standby above 64, else a slew of at most 200 ppm, whose
amount is a free value. The history starts anew after a step (notes/assumptions/34.md). -/
def steer (sum : Int) (s : State) : State :=
  let mean : Rat := (sum : Rat) / 32
  if inStandby s && meanAbove sum 64 then
    steppedTime (tbTick s) (tookFree { s with
      tbOffset := s.tbOffset - roundFree s mean, ln := { s.ln with thetas := [], steeredAt := s.now } })
  else
    let most := min (slewLimit s) (sum.natAbs / 32)
    let by' : Int := (freeValue s % (most + 1) : Nat)
    tookFree { s with
      tbOffset := if 0 < sum then s.tbOffset - by' else s.tbOffset + by'
      ln := { s.ln with steeredAt := s.now } }

/-- TIME_OK and THETA after a mean (R410, Table 11.11). -/
def judgeMean (sum : Int) (s : State) : State :=
  let run := if meanAbove sum 4 then 0 else min 16 (s.ln.goodRun + 1)
  let fall := s.ln.timeOk && meanAbove sum 16
  let ok := if meanAbove sum 16 then false else s.ln.timeOk || decide (16 ≤ run)
  eventIf (fall && !s.ln.root) evTimebase
    (tookFree { s with ln := { s.ln with
      goodRun := run, timeOk := ok, theta := clampInt (-32768) 32767 (roundFree s ((sum : Rat) / 32)) } })

/-- A DRSP block completes the measurement that SYNC began. -/
def takeDrsp (l : Nat) (t4 : Int) (s : State) : State :=
  let v := getLane s l
  if l < 2 && laneTimed s l && v.asked then
    let u := updLane l (fun x => { x with rtd := unsigned 32 (roundTrip v t4), asked := false, trips := x.trips + 1 }) s
    if followsLane s l then
      let th := (twiceTheta v t4 :: s.ln.thetas).take 16
      let w : State := { u with ln := { u.ln with thetas := th } }
      if th.length < 16 then w else steer (sumInt th) (judgeMean (sumInt th) w)
    else u
  else s

def execTimeDrsp (t : Nat) (lane : Nat) (t4 : Int) (s : State) : Host.Outcome State Fault Refusal := act t s (takeDrsp lane t4)

/-- A DREQ block of a stage partner is answered with its arrival stamp. -/
def takeDreq (l : Nat) (s : State) : State :=
  if 2 ≤ l && isLane l && laneTimed s l then
    updLane l (fun v => { v with block := some (blockDrsp, stampOf v (tb64 s)), trips := v.trips + 1 }) s
  else s

/-- `t3`, the partner's own stamp, is for the partner's reckoning alone. -/
def execTimeDreq (t : Nat) (lane : Nat) (t3 : Int) (s : State) : Host.Outcome State Fault Refusal :=
  let _ := t3
  act t s (takeDreq lane)

/-- SYNC on each stage lane. -/
def sendSync (s : State) : State :=
  [2, 3].foldl (fun u l =>
    if laneTimed u l then updLane l (fun v => { v with block := some (blockSync, stampOf v (tb64 u)) }) u else u) s

def execSyncSend (t : Nat) (s : State) : Host.Outcome State Fault Refusal := act t s sendSync

/-! ### Addresses (R402, R403) -/

/-- TOPO_UP from the child on stage lane `l`. -/
def topoUp (l size : Nat) (s : State) : State :=
  if 2 ≤ l && isLane l && laneTrained s l then
    let u := takeMessage l 0 4 s
    if (getLane s l).childSize = size % 65536 then u
    else
      let w := updLane l (fun v => { v with childSize := size % 65536 }) u
      addressesMoved w (topologyChanged w)
  else s

def execLaneTopoUp (t : Nat) (lane size : Nat) (s : State) : Host.Outcome State Fault Refusal := act t s (topoUp lane size)

/-- The device takes its address, and addresses its children. -/
def setAddress (addr epoch hostVer depth : Nat) (s : State) : State :=
  addressesMoved s (addressTree 2 { s with ln := { s.ln with
    addr := addr % 1024, epoch := epoch % 256, hostVer := hostVer % 256, depth := depth % 32, addressed := true } })

/-- ADDR from the parent; the root has no parent. -/
def takeAddr (l addr epoch hostVer depth : Nat) (s : State) : State :=
  if fromHouse s l && !s.ln.root then setAddress addr epoch hostVer depth (takeMessage l 0 8 s) else s

def execLaneAddr (t : Nat) (lane addr epoch hostVer depth : Nat) (s : State) : Host.Outcome State Fault Refusal :=
  act t s (takeAddr lane addr epoch hostVer depth)

/-! ### A guest's answers (R405 to R407) -/

/-- A DECISION on a cue that was dropped while it waited: a part that was accepted is aborted, and its CUE_END asks for
nothing (R404, R405). -/
def lateDecision (l : Nat) (res : W32) (s : State) : State :=
  let u := updLane l (fun v => { v with lateDec := v.lateDec - 1 }) s
  if flag res 30 then
    updLane l (fun v => { v with deadEnds := v.deadEnds ++ [fld res 15 0] }) (abortGuest l (fld res 15 0) u)
  else u

/-- A DECISION: decisions on a lane come in the order of the cues, so one still owed on a dropped cue comes before that of
the split cue that waits. -/
def guestDecision (l : Nat) (res : W32) (peak : Nat) (s : State) : State :=
  if 2 ≤ l && isLane l && laneTrained s l then
    let u := takeMessage l 1 16 s
    if 0 < (getLane u l).lateDec then lateDecision l res u
    else
    match u.sm.deciding with
    | none => u
    | some (h, _) =>
      let take := fun (g : GuestPart) =>
        if g.lane = l && g.accepted.isNone then
          { g with handle := fld res 15 0, accepted := some (flag res 30), reason := fld res 29 24, peak := peak % 65536 }
        else g
      finishSplit (updCue h (fun e => { e with guests := e.guests.map take }) u)
  else s

/-- `start` is the guest's own booked start, which the rules give no further use. -/
def execLaneDecision (t : Nat) (lane : Nat) (res : W32) (start peak : Nat) (s : State) : Host.Outcome State Fault Refusal :=
  let _ := start
  act t s (guestDecision lane res peak)

/-- The guest part that lane `l` knows as `h` and that still runs. -/
def GuestPart.isRunning (l h : Nat) (g : GuestPart) : Bool := g.lane == l && g.runs && g.handle == h

/-- A guest's counts join its parent's (R406). -/
def CueEntry.addGuest (l : Nat) (r : CueEnd) (e : CueEntry) : CueEntry :=
  { e with
    points := satAdd 32 e.points r.points
    returns := satAdd 32 e.returns r.returns
    noreturns := satAdd 32 e.noreturns r.noreturns
    refused := e.refused + r.refused
    guestPlayers := e.guestPlayers + r.players
    worst := max e.worst r.worst
    guests := e.guests.map (fun g => if GuestPart.isRunning l r.handle g then { g with ended := true } else g) }

/-- A guest's CUE_END. One of a part that has no parent any more asks for nothing. -/
def guestEnd (l : Nat) (r : CueEnd) (s : State) : State :=
  if 2 ≤ l && isLane l && laneTrained s l then
    let u := takeMessage l 1 32 s
    if (getLane u l).deadEnds.contains r.handle then
      updLane l (fun v => { v with deadEnds := removeFirst r.handle v.deadEnds }) u
    else
    match (handles u).find? (fun h => (findCue u h).any (fun e => e.guests.any (GuestPart.isRunning l r.handle))) with
    | none => u
    | some h => cueProgress h (updCue h (CueEntry.addGuest l r) u)
  else s

def execLaneCueEnd (t : Nat) (lane : Nat) (rec : CueEnd) (s : State) : Host.Outcome State Fault Refusal := act t s (guestEnd lane rec)

/-! ### The cue bus (R412 to R414) -/

/-- LN_CB_CFG.EN. -/
def busOn (s : State) : Bool := flag s.ln.cbCfg 31

/-- Odd parity over the code, and the POS bits of the window (R413). -/
def busWordOk (window code : Nat) (parity : Bool) (pos : Nat) : Bool :=
  (((List.range 8).filter (fun i => code.testBit i)).length + bn parity) % 2 == 1 && decide (pos % 4 = window % 4)

/-- A word in a window: its code joins the next sample, or it is dropped and counted. -/
def busWord (window code : Nat) (parity : Bool) (pos : Nat) (s : State) : State :=
  if !busOn s then s
  else if busWordOk window code parity pos then { s with sm := { s.sm with busCodes := s.sm.busCodes ++ [code % 256] } }
  else { s with ln := { s.ln with cntCbErr := inc32 s.ln.cntCbErr } }

def execCueBusWord (t : Nat) (window code : Nat) (parity : Bool) (pos : Nat) (s : State) : Host.Outcome State Fault Refusal :=
  act t s (busWord window code parity pos)

end Sys2Proof.Machine
end

