-- ==== Sys2Proof/Machine/Housekeeping.lean ====
section
/-! DEFINITION. The meanings of the housekeeping, auxiliary, loop, thermal and supply commands (R420 to R450). -/

namespace Sys2Proof.Machine

/-- The housekeeping plan in force (R38, R57). -/
def hkPlan (s : State) : HkPlan := (s.img.active.map Image.hk).getD defaultHk

def hkInput (s : State) (i : Nat) : HkInput :=
  (hkPlan s).inputs.getD i { conv := 0, accShift := 4, period := 1000, disagree := 0 }

/-! ### Converters and codes (R426, R462) -/

/-- The corrected code of a sample on converter `v`. -/
def correctCode (s : State) (v code : Nat) : Nat :=
  let k := s.cal.conv.get (0, 16383) v
  (clampInt 0 16383 (divRound (((code : Int) - k.1) * 16383) (k.2 - k.1).toNat)).toNat

/-- The code that enters a sum: corrected, or the end of the range that the input lies beyond. -/
def sampleCode (s : State) (v code : Nat) (ovr : Bool) : Nat :=
  if ovr then (if code < 8192 then 0 else 16383) else correctCode s v code

/-- An over-range sample counts (R426). -/
def countOvr (ovr : Bool) (s : State) : State := { s with hk := { s.hk with cntOvr := satAdd 32 s.hk.cntOvr (bn ovr) } }

/-- Converter 0 is the lead, 1 the understudy. -/
def accOf (s : State) (v i : Nat) : Accum := if v = 0 then s.hk.lead.get {} i else s.hk.under.get {} i

def setAcc (v i : Nat) (a : Accum) (s : State) : State :=
  if v = 0 then { s with hk := { s.hk with lead := s.hk.lead.set i a } }
  else { s with hk := { s.hk with under := s.hk.under.set i a } }

/-- Converter `v` samples an input with record `r`. -/
def samplesOn (r : HkInput) (v : Nat) : Bool := r.conv == v || r.conv == 2

/-! ### Plan samples (R424 to R428) -/

/-- A new record takes effect: the partial sums are discarded (R425). -/
def restartInput (i : Nat) (s : State) : State :=
  if s.hk.restart.contains i then
    let fresh := fun (a : Accum) => { a with sum := 0, count := 0, ovrIn := false, fresh := false }
    { s with hk := { s.hk with
        restart := s.hk.restart.filter (fun x => x != i)
        lead := s.hk.lead.upd {} i fresh, under := s.hk.under.upd {} i fresh } }
  else s

/-- One sample enters the accumulator, which publishes after 2^n of them. The flag says whether it published. -/
def Accum.add (shift code : Nat) (ovr : Bool) (a : Accum) : Accum × Bool :=
  let sum := a.sum + code
  let bad := a.ovrIn || ovr
  if a.count + 1 < 2 ^ shift then ({ a with sum := sum, count := a.count + 1, ovrIn := bad }, false)
  else
    let r := 4 * sum / 2 ^ shift
    ({ a with
        sum := 0, count := 0, ovrIn := false, valid := true, ovr := bad, dis := false, res := r
        min := Min.min a.min r, max := Max.max a.max r, fresh := true }, true)

/-- Address of the register of the tracker of input `i` on converter `v`. -/
def trackerAt (v i : Nat) : Nat := 0xB0200 + 4 * (32 * v + i)

/-- The converter whose tracker HK_MINMAX (`which` 0) or HK_UMINMAX (1) shows: the lead or the only one that samples the input,
and the understudy of a shared input (R427). -/
def shownTracker (s : State) (which i : Nat) : Option Nat :=
  if which = 0 then some (if (hkInput s i).conv = 1 then 1 else 0)
  else if (hkInput s i).conv = 2 then some 1
  else none

/-- A converter that a slice has found failing marks its results (R471). -/
def failingConv (s : State) (v : Nat) : Bool := s.rh.failConv.contains v

/-- A result has been published: the tracker has it, and on a failing converter it carries DISAGREE and counts (R471). -/
def published (v i : Nat) (s : State) : State :=
  let a := accOf s v i
  let u := noteValue (trackerAt v i) a.res s
  if failingConv s v then setEvent evDisagree (setAcc v i { a with dis := true } { u with hk := { u.hk with cntDis := inc32 u.hk.cntDis } })
  else u

/-- Both results of a shared input are compared (R428). -/
def comparePair (i : Nat) (s : State) : State :=
  let a := accOf s 0 i
  let b := accOf s 1 i
  if a.fresh && b.fresh then
    let far := decide (4 * (hkInput s i).disagree < max a.res b.res - min a.res b.res)
    let u := setAcc 1 i { b with fresh := false, dis := far || failingConv s 1 }
      (setAcc 0 i { a with fresh := false, dis := far || failingConv s 0 } s)
    if far then setEvent evDisagree { u with hk := { u.hk with cntDis := inc32 u.hk.cntDis } } else u
  else s

/-- The instant of the next plan sample: PERIOD after the last. -/
def nextDue (s : State) (a : Accum) (period : Nat) : Nat := (if a.due = 0 then tbUs s else a.due) + period

def planSample (v i code : Nat) (ovr : Bool) (s : State) : State :=
  let u := countOvr ovr (restartInput i s)
  let r := hkInput u i
  let p := (accOf u v i).add r.accShift (sampleCode u v code ovr) ovr
  let w := setAcc v i { p.1 with due := nextDue u p.1 r.period } u
  let x := if p.2 then published v i w else w
  if p.2 && r.conv == 2 then comparePair i x else x

/-! ### The device's own samples (R422, R423) -/

/-- Inputs of the thermal measurement. -/
def thermalInput (i : Nat) : Bool := decide (i ≤ 10) || (decide (12 ≤ i) && decide (i ≤ 19))

/-- µs between two samples of the device's own: the readback every 10 µs, the thermal ones at the measurement step. -/
def ownPeriod (s : State) (i : Nat) : Nat := if 30 ≤ i then 10 else if s.th.fast then 50 else 1000

/-- An own sample of input `i` is due on the lead. -/
def ownDue (s : State) (i : Nat) : Bool := (thermalInput i || decide (30 ≤ i)) && decide (s.hk.therm.get 0 i ≤ tbUs s)

/-- The readback bits follow inputs 30 and 31 (R140). -/
def readbackOne (i code : Nat) (s : State) : State :=
  if i = 30 then { s with bat := { s.bat with hsRb := above75 code } }
  else if i = 31 then { s with bat := { s.bat with lsRb := below25 code } }
  else s

def ownSample (i code : Nat) (ovr : Bool) (s : State) : State :=
  readbackOne i code
    { s with hk := { s.hk with
        own := s.hk.own.set i code
        ownOvr := if ovr then firsts [] (s.hk.ownOvr ++ [i]) else s.hk.ownOvr.filter (fun x => x != i)
        therm := s.hk.therm.set i (tbUs s + ownPeriod s i) } }

/-- A plan sample of input `i` is due on converter `v`; the plan leaves inputs 30 and 31 alone (R140). -/
def planDue (s : State) (v i : Nat) : Bool :=
  decide (i < 30) && samplesOn (hkInput s i) v && decide ((accOf s v i).due ≤ tbUs s)

/-- Slot `x` of the lead (a µs of the timebase) holds a conversion: one of the device's own that is due by then, or a booked one,
which stand behind the own ones of their group (DESIGN CHOICE, notes/assumptions/37.md). -/
def slotHolds (s : State) (x : Nat) : Bool :=
  (List.range 32).any (fun i =>
      ((thermalInput i || decide (30 ≤ i)) && decide (s.hk.therm.get 0 i ≤ x))
        || (decide (i < 30) && samplesOn (hkInput s i) 0 && decide ((accOf s 0 i).due ≤ x)))
    || (decide (ownLoad s (x / 16) 29 ≤ x % 16) && decide (x % 16 < loadOf s (x / 16) 29))

/-- The lead is idle: it neither converts in this slot nor starts up for one of the next two (R421). -/
def leadIdle (s : State) : Bool :=
  !s.hk.leadBusy && !s.hk.urgBusy && [0, 1, 2].all (fun d => !slotHolds s (tbUs s + d))

/-! ### Converter calibration (R462) -/

/-- The measurement of converter `v` is complete. -/
def convDone (s : State) (v : Nat) : Bool := (s.cal.convCodes.find (100 + v)).isSome

def calConvWants (s : State) (v i : Nat) : Bool :=
  s.cal.convRun && decide (24 ≤ i) && decide (i ≤ 27) && !convDone s v && (s.cal.convCodes.find (4 * v + (i - 24))).isNone

/-- A reading of four codes is complete: the first waits for its repeat, the second is judged with it. -/
def calConvReading (v : Nat) (k : ConvCodes) (s : State) : State :=
  let codes := (List.range 4).foldl (fun (t : Tab Int) j => t.drop (4 * v + j)) s.cal.convCodes
  match s.cal.convFirst.find v with
  | none => { s with cal := { s.cal with convCodes := codes, convFirst := s.cal.convFirst.set v k } }
  | some a =>
    let u := judgeConv v a k { s with cal := { s.cal with convCodes := codes.set (100 + v) 1, convFirst := s.cal.convFirst.drop v } }
    if convDone u 0 && convDone u 1 then { u with cal := { u.cal with convRun := false, convCodes := [] } }
    else u

def calConvSample (v i code : Nat) (s : State) : State :=
  let u := { s with cal := { s.cal with convCodes := s.cal.convCodes.set (4 * v + (i - 24)) (code : Int) } }
  match (List.range 4).mapM (fun j => u.cal.convCodes.find (4 * v + j)) with
  | some [a, b, c, d] => calConvReading v { c0 := a, c25 := b, c75 := c, c100 := d } u
  | _ => u

/-! ### Urgent readings (R429) -/

def urgentSample (v code : Nat) (ovr : Bool) (s : State) : State :=
  let sum := s.hk.urgSum + sampleCode s v code ovr
  let left := s.hk.urgLeft - 1
  countOvr ovr { s with hk := { s.hk with
    urgSum := sum, urgLeft := left, urgOvr := s.hk.urgOvr || ovr
    urgBusy := decide (0 < left), urgResult := if left = 0 then sum else s.hk.urgResult } }

/-- GO: dropped while the lead converts or starts up, else four conversions of the input follow. -/
def urgentGo (i : Nat) (s : State) : State :=
  if !leadIdle s then { s with hk := { s.hk with urgDropped := true, cntDrop := inc32 s.hk.cntDrop } }
  else
    { s with hk := { s.hk with
        urgNow := i, urgBusy := true, urgDropped := false, urgOvr := false, urgSum := 0, urgLeft := 4 } }

/-- A write to HK_URGENT. -/
def urgentWrite (v : W32) (s : State) : State :=
  let u := { s with hk := { s.hk with urgInput := fld v 4 0 } }
  if flag v 31 then urgentGo (fld v 4 0) u else u

def execHkUrgentRequest (t : Nat) (path : Path) (input : Nat) (s : State) : Host.Outcome State Fault Refusal :=
  act t s (onPath path (urgentWrite (word [(31, 1, 1), (0, 5, input)])))

/-! ### Housekeeping cues (R430) -/

/-- The DISAGREE flag of a shared input's record: its two means lie further apart than the tolerance. -/
def cueDisagrees (s : State) (i : Nat) (x : HkSum) : Bool :=
  x.count != 0 && x.other != 0 &&
    decide ((4 * (hkInput s i).disagree : Int) < ((4 * x.sumA / x.count - 4 * x.sumB / x.other).natAbs : Int))

/-- The first housekeeping cue that gathers input `i` on converter `v` and has not all of its conversions. -/
def cueTarget (s : State) (v i : Nat) : Option (Nat × Nat) :=
  (hkTargets s 5 i).find? (fun p =>
    let x := hkSum s p.1 p.2
    let points := ((findCue s p.1).map (fun e => e.cue.points)).getD 0
    samplesOn (hkInput s i) v
      && (if v = 1 ∧ (hkInput s i).conv = 2 then decide (x.other < points) else decide (x.count < points)))

/-- A conversion for a housekeeping cue. -/
def cueSample (v i code : Nat) (ovr : Bool) (p : Nat × Nat) (s : State) : State :=
  let c := (sampleCode s v code ovr : Int)
  let note := fun (x : HkSum) => { x with flags := if ovr then (BitVec.ofNat 8 x.flags ||| 1#8).toNat else x.flags }
  let u := countOvr ovr (hkUpd p.1 p.2 (fun x =>
    if v = 1 ∧ (hkInput s i).conv = 2 then note { x with other := x.other + 1, sumB := x.sumB + c }
    else note (HkSum.stamp (tbUs s) { x with sumA := x.sumA + c })) s)
  let w := if cueDisagrees u i (hkSum u p.1 p.2) || failingConv u v then
      hkUpd p.1 p.2 (fun x => { x with flags := (BitVec.ofNat 8 x.flags ||| 2#8).toNat }) u
    else hkUpd p.1 p.2 (fun x => { x with flags := (BitVec.ofNat 8 x.flags &&& ~~~(2#8)).toNat }) u
  hkIfFull p.1 p.2 5 w

/-! ### HK_CONVERSION -/

/-- The running slot of converter `v` holds a booked conversion. -/
def slotBooked (s : State) (v : Nat) : Bool :=
  let g := groupNow s
  decide (ownLoad s g (29 + v) ≤ tbUs s % 16) && decide (tbUs s % 16 < loadOf s g (29 + v))

/-- What input `i` waits for on converter `v`, in the order of R423: 1 readback, 2 thermal, 3 plan, 4 a housekeeping cue, and 5
for what takes only slots that hold nothing else. -/
def convRank (s : State) (v i : Nat) : Nat :=
  if v = 0 && ownDue s i then (if 30 ≤ i then 1 else 2)
  else if planDue s v i then 3
  else if (cueTarget s v i).isSome then 4
  else 5

/-- The conversion of input `i` is one that comes first: no input waits for one before it. A cue's conversion stands before the
last kind in the slots booked for it. -/
def mayConvert (s : State) (v i : Nat) : Bool :=
  (List.range 32).all (fun j =>
    let r := convRank s v j
    decide (convRank s v i ≤ (if r = 4 && !slotBooked s v then 5 else r)))

/-- What a completed conversion of input `i` on converter `v` serves. -/
def serveConversion (v i code : Nat) (ovr : Bool) (s : State) : State :=
  if v = 0 && ownDue s i then ownSample i code ovr s
  else if planDue s v i then planSample v i code ovr s
  else match cueTarget s v i with
    | some p => cueSample v i code ovr p s
    | none =>
      if calConvWants s v i then calConvSample v i code s
      else if v = 0 && decide (0 < s.hk.urgLeft) && s.hk.urgNow == i then urgentSample v code ovr s
      else s

/-- A conversion: it takes place when its turn has come (R423). `more` says that the lead has another in the next slot, so it
does not power down (R421). -/
def conversion (v i code : Nat) (ovr more : Bool) (s : State) : State :=
  if mayConvert s v i then
    let u := serveConversion v i code ovr s
    if v = 0 then { u with hk := { u.hk with leadBusy := more } } else u
  else s

def execHkConversion (t : Nat) (conv input code : Nat) (ovr more : Bool) (s : State) : Host.Outcome State Fault Refusal :=
  act t s (fun u => if conv < 2 && decide (input < 32) then conversion conv input (code % 16384) ovr more u else u)

/-! ### The auxiliary front end (R431 to R437) -/

def auxRec (s : State) (n : Nat) : Option AuxInput := (hkPlan s).aux[n]?

/-- The inputs that have a turn: every input of the plan, but for the second of a wired pair (R435). -/
def auxEnabled (s : State) (n : Nat) : Bool :=
  (auxRec s n).isSome && !(n % 2 == 1 && (auxRec s (n - 1)).any (fun r => r.wiring != 0))

/-- The input whose turn follows that of `n`; none starts with the lowest. -/
def nextTurn (s : State) (n : Option Nat) : Option Nat :=
  let l := (List.range 8).filter (auxEnabled s)
  match n with
  | none => l.head?
  | some k => (l.find? (fun x => decide (k < x))).or l.head?

/-- Source of an input, if it names one. -/
def sourceOf (r : AuxInput) : Option Nat := if r.exc = 0xFF then none else some r.exc

/-- A rehearsal slice that holds the source of a turn gives it up (Table 13.4). -/
def claimSource (r : AuxInput) (s : State) : State :=
  match sourceOf r with
  | some k => serve 2 k s
  | none => s

/-- The make of input `n`'s turn: RANGE, WIRING and an accepted offset take effect, the source turns on, and its fault of
an earlier turn ends. -/
def beginTurn (n : Nat) (r : AuxInput) (s : State) : State :=
  let bit : BitVec 4 := match sourceOf r with
    | some k => 1#4 <<< k
    | none => 0
  let u := claimSource r s
  let left := u.hk.auxOfsNew.drop r.range
  { u with
    hk := { u.hk with
      second := false, taken := 0, auxSum := 0, disturbed := false, auxOvr := false, vLead := 0, measured := 0
      makeAt := none, turnRec := none, samples := notchSamples r.notch
      excI := r.excI, excOn := bit, excFault := u.hk.excFault &&& ~~~bit, excBad := []
      aux := u.hk.aux.upd {} n (fun a => { a with range := r.range, wiring := r.wiring })
      auxOfs := match u.hk.auxOfsNew.find r.range with
        | some o => u.hk.auxOfs.set r.range o
        | none => u.hk.auxOfs
      auxOfsNew := left }
    cal := { u.cal with pendingQ := if left.isEmpty then u.cal.pendingQ &&& 0x1F#6 else u.cal.pendingQ } }

/-- The turn moves on: the break turns the previous source off, and the make follows 25 µs later (Table 12.3). -/
def moveTurn (n : Option Nat) (s : State) : State :=
  let u := { s with hk := { s.hk with turn := nextTurn s n, excOn := 0, turnRec := none
                                      makeAt := (nextTurn s n).map (fun _ => s.now + 25 * usTicks) } }
  match (nextTurn s n).bind (auxRec s) with
  | some r => claimSource r u
  | none => u

/-- The make of the turn, if its time has come, with the record that held then. -/
def auxMade (s : State) : State :=
  match s.hk.turn, s.hk.makeAt with
  | some n, some m =>
    if m ≤ s.now then
      match s.hk.turnRec.or (auxRec s n) with
      | some r => beginTurn n r s
      | none => s
    else s
  | _, _ => s

/-- The excitation of the input in turn has failed: its source turns off (R434). -/
def excFails (n k : Nat) (s : State) : State :=
  noteWorst (setEvent evAuxFault
    { s with hk := { s.hk with
        excOn := s.hk.excOn &&& ~~~(1#4 <<< k), excFault := s.hk.excFault ||| (1#4 <<< k), disturbed := true
        aux := s.hk.aux.upd {} n (fun a => { a with excFault := true, broken := true, setBroken := true }) } })

/-- The monitor's sample of the source in use: `nA` delivered, or the compliance limit reached. -/
def monitor (n k : Nat) (nA : Nat) (limit : Bool) (s : State) : State :=
  if !s.hk.excOn.getLsbD k then s
  else
    let run := if currentFar s.hk.excI nA then s.hk.excBad.get 0 k + 1 else 0
    let u := { s with hk := { s.hk with excBad := s.hk.excBad.set k run, measured := nA } }
    if limit || decide (3 ≤ run) then excFails n k u else u

/-- An intermediate sample of the measurement in progress. `current` (in nA) and `compliance` are per source. -/
def auxIntermediate (n : Nat) (r : AuxInput) (code : Int) (ovr : Bool) (current : List Nat) (compliance : List Bool) (s : State) :
    State :=
  -- a new EXC_I takes effect at once and disturbs the measurement (R434, R436)
  let a := if r.excI = s.hk.excI then s else { s with hk := { s.hk with excI := r.excI, disturbed := true } }
  let b := match sourceOf r with
    | some k => monitor n k (current.getD k 0) (compliance.getD k false) a
    | none => a
  -- the first three samples after a make are discarded
  if 3 + b.hk.samples ≤ b.hk.taken then b
  else if b.hk.taken < 3 then { b with hk := { b.hk with taken := b.hk.taken + 1 } }
  else { b with hk := { b.hk with taken := b.hk.taken + 1, auxSum := b.hk.auxSum + code, auxOvr := b.hk.auxOvr || ovr } }

/-- AUX_SAMPLE: between the break and the make of a turn there is none. -/
def auxTake (code : Int) (ovr : Bool) (current : List Nat) (compliance : List Bool) (s : State) : State :=
  let u := auxMade s
  match u.hk.turn with
  | none => moveTurn none u
  | some n =>
    match auxRec u n with
    | none => moveTurn none u
    | some r => if u.hk.makeAt.isSome then u else auxIntermediate n r code ovr current compliance u

def execAuxSample (t : Nat) (code : Int) (ovr : Bool) (current : List Nat) (compliance : List Bool) (s : State) :
    Host.Outcome State Fault Refusal :=
  act t s (auxTake code ovr current compliance)

/-- The measurement's mean in volts, less the accepted offset of its range (R463). -/
def auxVolts (s : State) (a : AuxOut) (m : Nat) : Rat :=
  auxFull a.range * ((s.hk.auxSum : Rat) / (m : Rat)) / 8388608 - s.hk.auxOfs.get 0 a.range

/-- A result in its unit as a 24-bit field; a result beyond the field is stated nowhere, so it is a free value. -/
def fit24 (s : State) (signed' : Bool) (q : Rat) : Int :=
  let v := roundFree s q
  let lo : Int := if signed' then -8388608 else 0
  let hi : Int := if signed' then 8388607 else 16777215
  if lo ≤ v ∧ v ≤ hi then v else lo + (Config.freeNat (s.free + 1) % 16777216 : Nat)

/-- Volts over the measured current in 1/1,024 Ω; without a current the quotient is a free value. -/
def ohms1024 (s : State) (volts : Rat) : Rat :=
  if s.hk.measured = 0 then (Config.freeNat (s.free + 2) : Nat) else volts * 1000000000 / (s.hk.measured : Rat) * 1024

/-! ### Temperature of a named sensor (R437)

IEC 60751: R(t) = R0 (1 + A t + B t²) from 0 °C up, with C (t − 100) t³ added below 0 °C. The coefficients are the
standard's (PRESUMED, notes/assumptions/5.md). -/

def rtdRatio (t : Rat) : Rat :=
  let a : Rat := 39083 / 10000000
  let b : Rat := -5775 / 10000000000
  let c : Rat := -4183 / 1000000000000000
  1 + a * t + b * t * t + (if t < 0 then c * (t - 100) * t * t * t else 0)

/-- The greatest 1/16 °C step from −50 °C whose resistance does not exceed `r` times R0, by bisection. -/
def rtdSearch (r : Rat) : Nat → Int → Int → Int
  | 0, lo, _ => lo
  | n + 1, lo, hi =>
    if hi ≤ lo + 1 then lo
    else
      let m := (lo + hi) / 2
      if rtdRatio ((m : Rat) / 16) ≤ r then rtdSearch r n m hi else rtdSearch r n lo m

/-- The temperature in 1/16 °C of a resistance in 1/1,024 Ω; none outside −50 °C to 200 °C. Its rounding is a free
value. -/
def rtdTemp (s : State) (sensor : Nat) (ohms : Rat) : Option Int :=
  let r := ohms / 1024 / (if sensor = 1 then 100 else 1000)
  if r < rtdRatio (-50) ∨ rtdRatio 200 < r then none
  else
    let k := rtdSearch r 13 (-800) 3201
    if rtdRatio ((k : Rat) / 16) = r then some k
    else some (min 3200 (k + (Config.freeNat (s.free + 3) % 2 : Nat)))

/-- HK_AUX_RTD of input `n`. -/
def sensorOf (s : State) (n : Nat) : Nat := fld s.hk.auxRtd (2 * n + 1) (2 * n)

/-- The output of a turn whose last measurement has ended. -/
def auxOutput (s : State) (n : Nat) (r : AuxInput) (a : AuxOut) : AuxOut :=
  let volts := auxVolts s a s.hk.samples
  let driven := (sourceOf r).isSome
  let fault := (sourceOf r).any (fun k => s.hk.excFault.getLsbD k)
  let net := if a.wiring = 1 then volts - 2 * s.hk.vLead else volts
  let exact := if driven then ohms1024 s net else net / auxFull a.range * 8388608
  let value := fit24 s (!driven || a.wiring == 2) exact
  let leadQ := if a.wiring = 1 && driven then ohms1024 s s.hk.vLead else 0
  let sensor := sensorOf s n
  let temp := if driven && (sensor == 1 || sensor == 2) then rtdTemp s sensor exact else none
  let named := sensor == 1 || sensor == 2
  let broken := fault || s.hk.auxOvr || (named && temp.isNone) || decide (51200 < leadQ)
  { a with
    valid := true, unsettled := s.hk.disturbed, broken := broken, excFault := fault, ovr := s.hk.auxOvr, value := value
    lead := (clampInt 0 65535 (roundFree s leadQ)).toNat
    settled := if s.hk.disturbed then a.settled else value
    setBroken := if s.hk.disturbed then a.setBroken else broken
    tValid := a.tValid || (!s.hk.disturbed && temp.isSome)
    temp := if s.hk.disturbed then a.temp else temp.getD a.temp }

/-- Flags of a housekeeping record for an output (Table 12.2). -/
def auxFlags (a : AuxOut) : Nat := bn a.ovr + 4 * bn a.unsettled + 8 * bn a.broken + 16 * bn a.excFault

/-- Housekeeping cues take a settled output (R430). -/
def auxGather (n : Nat) (a : AuxOut) (s : State) : State :=
  if a.unsettled then s
  else
    (hkTargets s 4 n).foldl (fun u p =>
      hkIfFull p.1 p.2 4 (hkUpd p.1 p.2 (fun x =>
        HkSum.stamp (tbUs s) { x with
          sumA := x.sumA + a.value, flags := (BitVec.ofNat 8 x.flags ||| BitVec.ofNat 8 (auxFlags a)).toNat }) u)) s

/-- An output is published, and the turn moves on. -/
def auxPublish (n : Nat) (r : AuxInput) (s : State) : State :=
  let a := auxOutput s n r (s.hk.aux.get {} n)
  let u := { s with free := s.free + 4, hk := { s.hk with aux := s.hk.aux.set n a } }
  moveTurn (some n) (noteWorst (auxGather n a u))

/-- The measurement in the turn is complete: the first of a three-wire input leaves V_L, the last gives the output. -/
def auxEnd (s : State) : State :=
  match s.hk.turn with
  | none => s
  | some n =>
    match auxRec s n with
    | none => s
    | some r =>
      let a := s.hk.aux.get {} n
      if s.hk.makeAt.isSome ∨ s.hk.taken < 3 + s.hk.samples then s
      else if a.wiring = 1 && !s.hk.second then
        { s with hk := { s.hk with
            vLead := auxVolts s a s.hk.samples, second := true, taken := 0, auxSum := 0, samples := notchSamples r.notch } }
      else auxPublish n r s

def execAuxMeasurementEnd (t : Nat) (s : State) : Host.Outcome State Fault Refusal := act t s auxEnd

/-! ### The 4–20 mA loop (R438 to R440) -/

/-- v of a source and whether it is broken (Table 12.6). -/
def loopSource (s : State) (r : LoopRec) : Int × Bool :=
  match r.qty with
  | 1 =>
    let i := r.index
    let a := if (hkInput s i).conv = 1 then accOf s 1 i else accOf s 0 i
    ((a.res : Int), a.ovr)
  | 2 =>
    let a := s.hk.aux.get {} r.index
    (signed 16 (unsigned 24 a.settled / 256), a.setBroken)
  | 3 =>
    let a := s.hk.aux.get {} r.index
    (a.temp, a.setBroken || sensorOf s r.index == 0)
  | 4 => ((s.th.spots.get {} r.index).tj, (s.th.spots.get {} r.index).broken)
  | 5 =>
    let v := s.saf.main.spikes.get {} r.index
    (v.pos / 256 % 65536, !v.seen)
  | _ => (0, true)

/-- LOW and HIGH in the signedness of v (R438). -/
def loopLimit (qty raw : Nat) : Int := if qty = 1 ∨ qty = 5 then (raw : Int) else signed 16 raw

/-- The current for a sound source in µA, within 3.8 to 20.5 mA. Its rounding is a free value. -/
def loopCurrent (s : State) (r : LoopRec) (v : Int) : Nat :=
  let lo := loopLimit r.qty r.low
  let hi := loopLimit r.qty r.high
  let q : Rat := 4000 + 16000 * ((v - lo : Int) : Rat) / ((hi - lo : Int) : Rat)
  (clampInt 3800 20500 (roundFree s q)).toNat

/-- The fault level in µA (R439). -/
def loopFaultLevel (s : State) (qty : Nat) : Nat := if s.hk.failHi = 0 ∨ qty = 0 then 3500 else 21500

/-- The current to drive, and whether it is the fault level. -/
def loopDrive (s : State) : Nat × Bool :=
  match s.img.active with
  | none => (loopFaultLevel s 1, true)
  | some i =>
    let r := i.hk.loop
    let v := loopSource s r
    if r.qty = 0 ∨ v.2 = true ∨ s.hk.loopFault = true then (loopFaultLevel s r.qty, true) else (loopCurrent s r v.1, false)

/-- The current of a code of input 21 in µA, whose full scale is 30.0 mA (Table 12.1). Its rounding is a free value. -/
def loopMeasured (s : State) (code : Nat) : Nat :=
  (roundFree s ((correctCode s (if (hkInput s 21).conv = 1 then 1 else 0) (code % 16384) : Rat) * 30000 / 16383)).toNat

/-- The measured current, in µA, against the commanded one: ten failing updates latch the fault (R440). -/
def loopCheck (measured : Nat) (s : State) : State :=
  let off := decide (100 < max measured s.hk.loopCmd - min measured s.hk.loopCmd)
  let run := if off then s.hk.loopRun + 1 else 0
  let u := { s with hk := { s.hk with loopMeas := measured, loopRun := run } }
  if decide (10 ≤ run) && !s.hk.loopFault then setEvent evLoopFault { u with hk := { u.hk with loopFault := true } } else u

/-- LOOP_UPDATE with the code of input 21. -/
def updateLoop (code : Nat) (s : State) : State :=
  let u := tookFree (loopCheck (loopMeasured s code) s)
  let d := loopDrive u
  tookFree { u with hk := { u.hk with loopCmd := d.1, loopLevel := d.2 } }

def execLoopUpdate (t : Nat) (code : Nat) (s : State) : Host.Outcome State Fault Refusal := act t s (updateLoop code)

/-- The current at LOOP_OUT in µA: 0 mA in reset and in Dark (R439). -/
def loopOut (s : State) : Nat := if live s then s.hk.loopCmd else 0

/-- HK_LOOP_CFG.CLR. -/
def clearLoop (s : State) : State := { s with hk := { s.hk with loopFault := false, loopRun := 0 } }

def execLoopFaultClear (t : Nat) (path : Path) (s : State) : Host.Outcome State Fault Refusal :=
  act t s (onPath path clearLoop)

/-! ### Junction temperature (R441 to R445) -/

/-- e^(−x) by its series, to 48 terms: exact far beyond the unit of TJ. -/
def expNeg (x : Rat) : Rat :=
  ((List.range 48).foldl (fun (a : Rat × Rat) k => (a.1 + a.2, a.2 * (-x) / ((k : Rat) + 1))) (0, 1)).1

/-- Table 12.5: diodes, pairs of rail voltage and current inputs with their full scales, θ in K/W and τ in µs. -/
structure HotspotDef where
  diodes : Nat × Nat
  rails  : List (Nat × Rat × Nat × Rat)
  theta  : Rat × Rat
  tau    : Rat × Rat
  deriving DecidableEq, Repr

def hotspotDef (h : Nat) : HotspotDef :=
  match h with
  | 0 => { diodes := (12, 13), rails := [(2, 12 / 10, 8, 20)], theta := (60 / 100, 90 / 100), tau := (500, 20000) }
  | 1 =>
    { diodes := (14, 15), rails := [(3, 12 / 10, 9, 4), (4, 16 / 10, 10, 2)], theta := (120 / 100, 150 / 100)
      tau := (300, 15000) }
  | 2 => { diodes := (16, 17), rails := [(2, 12 / 10, 8, 20)], theta := (25 / 100, 40 / 100), tau := (1000, 40000) }
  | _ => { diodes := (18, 19), rails := [(0, 20, 7, 2)], theta := (200 / 100, 250 / 100), tau := (1000, 30000) }

/-- A reading of an own sample with full scale `fs` (Table 12.1). -/
def ownReading (s : State) (i : Nat) (fs : Rat) : Rat := (s.hk.own.get 0 i : Rat) * fs / 16383

/-- p of R441. -/
def hotspotPower (s : State) (d : HotspotDef) : Rat :=
  (d.rails.map (fun r => ownReading s r.1 r.2.1 * ownReading s r.2.2.1 r.2.2.2)).foldl (· + ·) 0

/-- A value that the model holds in 2^−32 units; how the device rounds it is a free value. -/
def hold32 (s : State) (q : Rat) : Rat := (roundFree s (q * 4294967296) : Rat) / 4294967296

/-- Temperature of diode `i` in 1/16 °C. -/
def diodeOf (s : State) (i : Nat) : Int := Config.diodeTemp (s.hk.own.get 0 i)

/-- Outside −55 °C to 175 °C, or over-range. -/
def diodeBad (s : State) (i : Nat) : Bool :=
  decide (diodeOf s i < -880) || decide (2800 < diodeOf s i) || s.hk.ownOvr.contains i

/-- R442. -/
def hotspotBad (s : State) (d : HotspotDef) : Bool :=
  diodeBad s d.diodes.1 || diodeBad s d.diodes.2
    || decide (160 < (diodeOf s d.diodes.1 - diodeOf s d.diodes.2).natAbs)
    || d.rails.any (fun r => s.hk.ownOvr.contains r.1 || s.hk.ownOvr.contains r.2.2.1)

/-- One measurement step of `dt` µs for hotspot `h`. -/
def stepHotspot (dt h : Nat) (s : State) : State :=
  let d := hotspotDef h
  let x := s.th.spots.get {} h
  let p := hotspotPower s d
  let d1 := hold32 s (x.d1 + (d.theta.1 * p - x.d1) * (1 - expNeg (dt / d.tau.1)))
  let d2 := hold32 s (x.d2 + (d.theta.2 * p - x.d2) * (1 - expNeg (dt / d.tau.2)))
  let bad := hotspotBad s d
  let sum : Rat := (max (diodeOf s d.diodes.1) (diodeOf s d.diodes.2) : Int) + 16 * (d1 + d2)
  let tj := if bad then 2400 else clampInt (-32768) 32767 (roundFree s sum)
  eventIf (bad && !x.broken) evThermal
    (tookFree { s with th := { s.th with spots := s.th.spots.set h { d1 := d1, d2 := d2, tj := tj, broken := bad } } })

def noteDiodes (s : State) : State :=
  { s with th := { s.th with diodes := (List.range 8).map (fun j => (j, diodeOf s (12 + j), diodeBad s (12 + j))) } }

/-- WARN and THROTTLE in 1/16 °C. -/
def warnPoint (s : State) : Int := 16 * (fld s.th.lim 7 0 : Nat)
def throttlePoint (s : State) : Int := 16 * (fld s.th.lim 15 8 : Nat)

def spotTj (s : State) (h : Nat) : Int := (s.th.spots.get {} h).tj
def spotBroken (s : State) (h : Nat) : Bool := (s.th.spots.get {} h).broken

/-- The highest of the four. -/
def topTj (s : State) : Int := [1, 2, 3].foldl (fun m h => max m (spotTj s h)) (spotTj s 0)

/-- The measurement step's length (R445). -/
def judgeRate (s : State) : State :=
  let top := topTj s
  if warnPoint s - 160 ≤ top then { s with th := { s.th with fast := true, coolSince := none } }
  else if s.th.fast && decide (top < warnPoint s - 192) then
    match s.th.coolSince with
    | none => { s with th := { s.th with coolSince := some s.now } }
    | some c => if c + 100 * msTicks ≤ s.now then { s with th := { s.th with fast := false, coolSince := none } } else s
  else { s with th := { s.th with coolSince := none } }

/-- Warning, throttle and shutdown (R443). -/
def judgeHeat (s : State) : State :=
  let top := topTj s
  let warn := decide (warnPoint s ≤ top)
  let thr := decide (throttlePoint s ≤ top)
  let shut := [0, 1, 2, 3].any (fun h => !spotBroken s h && decide (2560 ≤ spotTj s h))
  let u := eventIf (warn && !s.th.warn) evThermal
    { noteValue 0xC0020 top s with th := { s.th with
        warn := warn, throttle := thr, tjMax := some (max top (s.th.tjMax.getD top)), shutdown := s.th.shutdown || shut } }
  let v := setCond 3 0 thr u
  if shut && inShow v then exitShow v else v

def heatStep (s : State) : State :=
  let dt := if s.th.fast then 50 else 1000
  judgeRate (judgeHeat ([0, 1, 2, 3].foldl (fun u h => stepHotspot dt h u) (noteDiodes s)))

def execThermalStep (t : Nat) (s : State) : Host.Outcome State Fault Refusal := act t s heatStep

/-- TH_STAT.SHUT_CLR (R443). -/
def clearShutdown (s : State) : State :=
  if [0, 1, 2, 3].all (fun h => !spotBroken s h && decide (spotTj s h ≤ throttlePoint s - 160)) then
    { s with th := { s.th with shutdown := false } }
  else s

def execThermalShutdownClear (t : Nat) (path : Path) (s : State) : Host.Outcome State Fault Refusal :=
  act t s (onPath path clearShutdown)

/-! ### Supplies (R446 to R448) -/

/-- A rail has lain beyond a warning threshold for at least 1 µs. While the logic does not run, only the rail's own state is
followed. -/
def supplyEnter (r : Rail) (x : Sag) (s0 : State) : State :=
  let s := ioLevel r x.mv s0
  if x.ticks < usTicks || !beyondWarning r x.mv || s.th.supLive.getLsbD (Rail.bit r) then s
  else
    let u := { s with th := { s.th with supLive := s.th.supLive ||| railMask r } }
    if live u then
      setCond 1 0 (supplyCond u)
        (setEvent evSupply { u with
          th := { u.th with supWarn := u.th.supWarn ||| railMask r, cntWarn := inc32 u.th.cntWarn }
          recent := { u.recent with warn := u.recent.warn ||| railMask r } })
    else u

def execSupplyWarningEnter (t : Nat) (rail : Rail) (level : Sag) (s : State) : Host.Outcome State Fault Refusal :=
  actAlways t s (supplyEnter rail level)

/-- A rail has come back: to its reset threshold or above, so that it is no longer below that, and inside its warning thresholds
with the margin for 1 µs, so that it leaves warning. -/
def supplyLeave (r : Rail) (x : Sag) (s0 : State) : State :=
  let i := ioLevel r x.mv s0
  let s := if belowReset r x.mv then i else { i with th := { i.th with railLow := i.th.railLow &&& ~~~(railMask r) } }
  if x.ticks < usTicks || !wellInside r x.mv then s
  else
    let u := { s with th := { s.th with supLive := s.th.supLive &&& ~~~(railMask r) } }
    if live u then setCond 1 0 (supplyCond u) u else u

def execSupplyWarningLeave (t : Nat) (rail : Rail) (level : Sag) (s : State) : Host.Outcome State Fault Refusal :=
  actAlways t s (supplyLeave rail level)

/-- Table 12.8, in mV. -/
def stretchOf (mv : Nat) : Nat := if 715 ≤ mv then 8 else if 705 ≤ mv then 7 else if 695 ≤ mv then 6 else 5

/-- VDD_CORE has fallen to `mv`. -/
def droopFall (mv : Nat) (s : State) : State :=
  let n := min s.th.s (stretchOf mv)
  if n = s.th.s then s
  else
    refreshConds { noteValue 0xC0104 n s with th := { s.th with
      s := n, minS := min s.th.minS n, coreAt := s.now
      cntDroop := satAdd 32 s.th.cntDroop (bn (s.th.s == 8)) } }

def execDroopFall (t : Nat) (millivolts : Nat) (s : State) : Host.Outcome State Fault Refusal := act t s (droopFall millivolts)

/-- The boundary of the step that a raise from `s` passes, in mV (Table 12.8). -/
def stepBoundary (s : Nat) : Nat := if s = 7 then 715 else if s = 6 then 705 else 695

/-- VDD_CORE has stayed 5 mV above the boundary of the step for 1 µs, and 1 µs has passed since the last raise and fall. -/
def raiseDue (lowest : Nat) (s : State) : Bool :=
  decide (s.th.s < 8) && decide (stepBoundary s.th.s + 5 ≤ lowest) && decide (s.th.coreAt + usTicks ≤ s.now)
    && decide (s.th.raisedAt + usTicks ≤ s.now)

/-- s rises one eighth. -/
def droopRaise (lowest : Nat) (s : State) : State :=
  if raiseDue lowest s then refreshConds { s with th := { s.th with s := s.th.s + 1, raisedAt := s.now } } else s

def execDroopRaise (level : CoreLevel) (s : State) : Host.Outcome State Fault Refusal := act level.t s (droopRaise level.lowest)

end Sys2Proof.Machine
end

