-- ==== Sys2Proof/Machine/RegRead.lean ====
section
/-! DEFINITION. What a read of the register space returns, and what reading does: the address map (R506 to R508), the
value of every register (Tables 0.2, 1.2, 2.11 to 2.12, 3.4 to 3.10, 4.6 to 4.14, 5.8 to 5.11, 6.3 to 6.6, 7.12 to 7.18,
8.3 to 8.7, 9.15 to 9.17, 10.6, 10.7, 11.9 to 11.11, 12.9, 12.10, 13.6, 13.7, 14.7, 14.8, 15.6), the fields that a read
clears (R7), and the shadows of R10. -/

namespace Sys2Proof.Machine

/-! ### The address map (Table 15.1) -/

/-- The address lies in a region of Table 15.1. -/
def inRegion (a : Nat) : Bool :=
  decide (a < 0x2000) || (decide (0x10000 ≤ a) && decide (a < 0x200000))
    || (decide (0x1000000 ≤ a) && decide (a < 0x1804000))

/-- An aligned address inside a region; any other is an address error (R5, R508). -/
def addressOk (a : Nat) : Bool := a % 4 == 0 && inRegion a

/-- The TAP mailbox reaches only the PWR_DOOR_ registers (R506). -/
def reaches (p : Path) (a : Nat) : Bool :=
  decide (p ≠ .tap) || (decide (0xF0200 ≤ a) && decide (a < 0xF0270))

/-- A number as a register word. -/
def w32 (n : Nat) : W32 := BitVec.ofNat 32 n

/-- Word `i` of an array of `n` words at `base`, when `off` is one of them. -/
def wordIn (off base n : Nat) : Option Nat :=
  if base ≤ off ∧ off < base + 4 * n then some ((off - base) / 4) else none

/-- A field of flags: bit `i` of the value is `f i`, for the `n` lowest bits. -/
def flagBits (n : Nat) (f : Nat → Bool) : Nat := ((List.range n).map (fun i => bn (f i) * 2 ^ i)).sum

/-! ### One block window each -/

/-- Identity (Table 0.2). -/
def readId (off : Nat) : W32 :=
  match off with
  | 0 => 0x0D151536#32
  | 4 => 0x42004857#32
  | 8 => 0x00120201#32
  | _ => 0

/-- Call board (Table 15.6). -/
def readCb (s : State) (off : Nat) : W32 :=
  match off with
  | 0x00 => s.cb.event
  | 0x04 => s.cb.mask
  | 0x08 => s.cb.pendingWord
  | 0x0C => word [(31, 1, bn s.cb.firstValid), (0, 5, s.cb.first)]
  | 0x10 => s.cb.violAddr
  | 0x14 => word [(16, 16, s.cb.violCount), (4, 2, s.cb.violPath), (0, 3, s.cb.violKind)]
  | 0x20 => s.cb.hpCfg
  | 0x24 => w32 s.cb.hpErr
  | 0x30 => word [(7, 1, bn s.cb.bootSingle), (5, 2, s.cb.bootCopy), (0, 2, s.cb.strap)]
  | _ => 0

/-- SM_STAT. -/
def smStat (s : State) : W32 :=
  word [(16, 13, (s.sm.cues.filter (fun q => q.2.state != 0)).length),
    (1, 5, flagBits 5 (fun k => s.sm.conds.any (fun c => c.1 / 100 == k + 1 && c.2.inForce))),
    (0, 1, bn (inShow s && s.img.active.isSome))]

/-- SM_CAP word `i` (Table 7.16). -/
def smCap (s : State) (i : Nat) : W32 :=
  word [(16, 16, min 0xFFFF (peakLoad s i)), (0, 16, min 0xFFFF (capOf s i))]

/-- The arrays of the stage manager (R267 to R272). -/
def readSmArray (s : State) (off : Nat) : W32 :=
  match wordIn off 0x100 8 with
  | some i => s.sm.submit.get 0 i
  | none =>
  match wordIn off 0x200 31 with
  | some i => smCap s i
  | none =>
  match wordIn off 0x340 16 with
  | some i => s.sm.calData.get 0 i
  | none =>
  match wordIn off 0x3A0 8 with
  | some i => s.sm.cueData.get 0 i
  | none =>
  match wordIn off 0x1000 128 with
  | some i => s.sm.trigCfg.get 0 i
  | none => 0

/-- The stage manager (Tables 7.12 to 7.18). -/
def readSm (s : State) (off : Nat) : W32 :=
  match off with
  | 0x000 => s.sm.cfg
  | 0x004 => s.sm.qsel
  | 0x008 => s.sm.qsel2
  | 0x00C => smStat s
  | 0x040 => w32 s.sm.cntAccept
  | 0x044 => w32 s.sm.cntReject
  | 0x048 => w32 s.sm.cntRefused
  | 0x04C => w32 s.sm.cntLate
  | 0x050 => w32 s.sm.cntAbortLost
  | 0x054 => w32 s.sm.cntTrigSupp
  | 0x120 => s.sm.subCtrl
  | 0x124 => submitResult s.sm.resBusy s.sm.resAccept s.sm.resReason s.sm.resResource s.sm.resHandle
  | 0x128 => s.sm.subStart
  | 0x134 => word [(31, 1, bn (abortBusy s)), (0, 2, if abortBusy s then s.sm.abortWas else s.sm.abortRes)]
  | 0x138 => w32 (tbUs s)
  | 0x148 => s.sm.trigStat.setWidth 32
  | 0x14C => (s.sm.trigStat >>> 32).setWidth 32
  | 0x300 => s.sm.calSel
  | 0x380 => s.sm.cueSel
  | _ => readSmArray s off

/-- Nibble of RX_CH_STAT for channel `c` (Table 3.10). -/
def chStatNibble (s : State) (c : Nat) : Nat :=
  let en := if c < 1536 then (battenOf s c).isSome else (chEntry s c).any ChEntry.enable
  8 * bn (getChan s c).cutSeen + 4 * bn (kUnreach s c) + 2 * bn (maskOf s c != 0) + bn en

/-- The arrays of the receive channels (R108, R109). -/
def readRxArray (s : State) (off : Nat) : W32 :=
  match wordIn off 0x1000 776 with
  | some m => word [(16, 16, (maskOf s (2 * m + 1)).toNat), (0, 16, (maskOf s (2 * m)).toNat)]
  | none =>
  match wordIn off 0x2000 194 with
  | some m => word ((List.range 8).map (fun j => (4 * j, 4, chStatNibble s (8 * m + j))))
  | none => 0

/-- The receive channels (Tables 3.4 to 3.10). -/
def readRx (s : State) (off : Nat) : W32 :=
  match off with
  | 0x00 => s.rx.cfg
  | 0x04 => word [(1, 1, bn s.rx.biasOk), (0, 1, bn s.rx.tickLock)]
  | 0x08 => s.rx.refCfg
  | 0x10 => s.rx.cntSel
  | 0x14 => w32 s.rx.cntStop
  | 0x18 => w32 s.rx.cntNoret
  | 0x1C => w32 s.rx.cntCut
  | 0x20 => w32 s.rx.cntVoid
  | 0x24 => w32 s.rx.cntWref
  | 0x28 => w32 s.rx.cntPre
  | _ => readRxArray s off

/-- BAT_STAT (Table 4.7). -/
def batStat (s : State) : W32 :=
  word [(7, 1, bn s.bat.hold), (6, 1, bn s.bat.short), (5, 1, bn s.bat.swFault), (4, 1, bn s.bat.govTrip),
    (3, 1, bn s.bat.lsRb), (2, 1, bn s.bat.hsRb), (1, 1, bn s.bat.emCmd), (0, 1, bn s.bat.phLock)]

/-- BAT_CH_STAT word `b` (Table 4.14). -/
def batChStat (s : State) (b : Nat) : W32 :=
  let v := getBatten s b
  word [(24, 8, v.level), (16, 8, v.peak), (6, 1, bn v.wlOob), (5, 1, bn v.derated), (3, 1, bn v.short),
    (2, 1, bn v.overCur), (1, 1, bn v.opened), (0, 1, bn (battenEnabled s b && !v.faulted))]

/-- The arrays of the battens (R152, R153). -/
def readBatArray (s : State) (off : Nat) : W32 :=
  match wordIn off 0x1000 64 with
  | some b => batChStat s b
  | none =>
  match wordIn off 0x2000 256 with
  | some i => w32 (satAdd 32 ((getBatten s (i / 4)).windowSum (i % 4) / 16) 0)
  | none => 0

/-- The battens (Tables 4.6 to 4.14). -/
def readBat (s : State) (off : Nat) : W32 :=
  match off with
  | 0x00 => s.bat.slotCfg
  | 0x04 => batStat s
  | 0x08 => s.bat.codeShown
  | 0x0C => s.bat.codeSlot
  | 0x10 => s.bat.driveCfg
  | 0x14 => s.bat.tsrc
  | 0x18 => s.bat.csCfg
  | 0x24 => word [(31, 1, bn s.bat.tripMulti), (8, 2, s.bat.tripWin), (0, 6, s.bat.tripBat)]
  | 0x28 => w32 s.bat.unlocks
  | _ => readBatArray s off

/-- The acts (Tables 5.8 to 5.11). -/
def readHist (s : State) (off : Nat) : W32 :=
  match off with
  | 0x00 => s.hist.ptCfg
  | 0x04 => s.hist.escCfg
  | 0x08 => word [(0, 8, s.hist.feStop.toNat)]
  | 0x0C => word [(8, 8, flagBits 8 (fun e => (s.hist.engines.get {} e).busy.isSome)), (0, 8, flagBits 8 (engineStopped s))]
  | 0x10 => w32 s.hist.cntPoints
  | 0x14 => w32 s.hist.cntEmpty
  | 0x18 => w32 s.hist.cntCoarse
  | 0x1C => w32 s.hist.cntEsc
  | 0x20 => w32 s.hist.cntRerun
  | 0x24 => w32 s.hist.cntOver
  | _ => 0

/-- A new SLOT_PHASE waits for entry to Show (R213, Table 6.4). -/
def phasePending (s : State) : Bool := s.img.active.any (fun i => i.rej.slotPhase != s.rej.phaseUse)

/-- Register `r` of a train (Table 6.6); a freed train reads 0. Fractions are rounded half up, as the worked fit of
chapter 6 shows (DEDUCED, notes/assumptions/44.md). -/
def trainWord (t : Train) (r : Nat) : W32 :=
  let per := (roundHalfUp (t.period * 2 ^ 32)).toNat
  let ph := (roundHalfUp (t.phase * 256)).toNat
  if t.state = 0 then 0
  else
    match r with
    | 0 => w32 (per % 2 ^ 32)
    | 1 => word [(24, 8, ph % 256), (0, 20, per / 2 ^ 32)]
    | 2 => w32 (ph / 256 % 2 ^ 32)
    | _ => word [(30, 2, t.state), (16, 13, t.stamps), (0, 10, min 1023 t.resid)]

/-- The arrays of the rejection logic (R219, R220). -/
def readRejArray (s : State) (off : Nat) : W32 :=
  match wordIn off 0x100 32 with
  | some i => trainWord (s.rej.trains.get {} (i / 4)) (i % 4)
  | none =>
  match wordIn off 0x1000 384 with
  | some i => w32 (flagBits 32 (fun j => (s.rej.trains.get {} (i / 48)).mask.contains (32 * (i % 48) + j)))
  | none => 0

/-- Rejection (Tables 6.3 to 6.6). -/
def readRej (s : State) (off : Nat) : W32 :=
  match off with
  | 0x00 => s.rej.cfg
  | 0x04 => word [(16, 1, bn (phasePending s)), (8, 8, flagBits 8 (fun n => (s.rej.trains.get {} n).state == 2)),
      (0, 8, flagBits 8 (fun n => (s.rej.trains.get {} n).state == 1))]
  | 0x10 => w32 s.rej.cntStamps
  | 0x14 => w32 s.rej.cntLost
  | 0x18 => w32 s.rej.cntVeto
  | 0x1C => w32 s.rej.cntSecond
  | 0x20 => w32 s.rej.cntBlank
  | _ => readRejArray s off

/-- FS_CTRL as it reads. -/
def fsCtrlWord (s : State) : W32 := word [(4, 2, s.fs.set), (1, 1, bn s.fs.run), (0, 1, bn s.fs.hold)]

/-- The follow spot (Tables 8.3 to 8.7). -/
def readFs (s : State) (off : Nat) : W32 :=
  match off with
  | 0x00 => fsCtrlWord s
  | 0x04 => word [(6, 2, s.fs.fault), (4, 2, setInUse s), (3, 1, bn s.fs.feOver), (2, 1, bn s.fs.sat),
      (1, 1, bn s.fs.sceneRun), (0, 1, bn s.fs.held)]
  | 0x08 => s.fs.feCfg
  | 0x0C => s.fs.drvLim
  | 0x10 => s.fs.park
  | 0x14 => s.fs.setpt
  | 0x18 => word [(16, 16, s.fs.drv), (0, 16, s.fs.pos)]
  | 0x1C => word [(24, 8, s.fs.rep), (16, 8, s.fs.step), (0, 16, s.fs.scene)]
  | 0x20 => w32 s.fs.cntFe
  | 0x24 => w32 s.fs.cntSat
  | 0x28 => w32 s.fs.cntXfer
  | 0x2C => w32 s.fs.cntMiss
  | _ => match wordIn off 0x100 32 with
    | some i => s.fs.comp.get 0 i
    | none => 0

/-- SAFE_STAT (Table 9.15). -/
def safeStat (s : State) : W32 :=
  word [(24, 8, s.saf.cause), (10, 1, bn s.saf.sirel.up), (9, 1, bn s.saf.sirel.commWait),
    (8, 1, bn (latestConfirmed s).isSome), (7, 1, bn (waitReset s)), (6, 1, bn s.saf.guardDone),
    (5, 1, bn s.saf.fly.permit), (4, 1, bn s.saf.main.permit), (3, 1, bn (blockMatch s)),
    (1, 1, bn (curtainReady s)), (0, 1, bn s.saf.curtain)]

/-- SAFE_IN (Table 9.16). -/
def safeIn (s : State) : W32 :=
  word ((List.range 4).map (fun i =>
    let v := s.saf.inputs.get {} i
    (8 * i, 8, inputCode s i + 4 * bn v.a + 8 * bn v.b + 16 * bn v.seenOpen)))

/-- The byte of a safe output in SAFE_OUT. -/
def safeOutByte (v : SafeOutput) : Nat :=
  bn (v.hs && v.ls) + 2 * bn v.hsHigh + 4 * bn v.lsHigh + 8 * bn v.fault + 16 * v.lastTest

/-- SAFE_COMM (Table 9.16): the latest confirmed slot, the slots spent, the confirm bits. -/
def safeComm (s : State) : W32 :=
  word [(24, 8, ((latestConfirmed s).map Prod.fst).getD 0xFF), (16, 5, s.otp.comm.length),
    (0, 16, flagBits 16 (fun k => (s.otp.comm.find k).any CommSlot.confirmed))]

/-- SAFE_SPIKE_POS word `i` (R341). -/
def spikePos (s : State) (i : Nat) : W32 :=
  let v := ((if i % 2 = 0 then s.saf.main else s.saf.fly).spikes).get {} (i / 2)
  word [(31, 1, bn v.seen), (0, 24, unsigned 24 v.pos)]

/-- Machine safety (Tables 9.15 to 9.17). -/
def readSafe (s : State) (off : Nat) : W32 :=
  match off with
  | 0x00 => safeStat s
  | 0x04 => s.saf.causes.setWidth 32
  | 0x08 => safeIn s
  | 0x0C => word [(8, 8, safeOutByte s.saf.outB), (0, 8, safeOutByte s.saf.outA)]
  | 0x10 => w32 (((safetyBlock s).map SafetyBlock.crc).getD 0)
  | 0x14 => w32 (((latestConfirmed s).map (fun c => c.2.crc)).getD 0)
  | 0x18 => safeComm s
  | 0x1C => w32 s.saf.period
  | 0x20 => s.saf.spikeViol.setWidth 32
  | 0x24 => (s.saf.spikeViol >>> 32).setWidth 32
  | 0x28 => s.saf.fieldViol
  | 0x2C => s.saf.fieldAct
  | 0x40 => w32 s.saf.cntDemand
  | 0x44 => w32 s.saf.cntXchk
  | 0x48 => w32 s.saf.cntCrc
  | 0x4C => w32 s.saf.cntTp
  | 0x50 => w32 s.saf.cntTpDisc
  | 0x54 => w32 s.saf.cntLate
  | _ => match wordIn off 0x1000 128 with
    | some i => spikePos s i
    | none => 0

/-- The queue that WQ_QSEL names (R374). -/
def shownQueue (s : State) : Nat := fld s.wq.qsel 11 0

/-- WQ_QINFO (Table 10.6). -/
def wqInfo (s : State) : W32 :=
  let v := getQueue s (shownQueue s)
  word [(31, 1, bn (consumerOf s (shownQueue s)).isSome), (28, 3, (consumerOf s (shownQueue s)).getD 0),
    (27, 1, bn v.pinned.isSome), (26, 1, bn v.markLost), (25, 1, bn v.markValid), (24, 1, bn v.autoRel),
    (0, 18, v.occupancy)]

/-- The item in the view (R375). -/
def viewItem (s : State) : Option Item := s.wq.view.map Prod.snd

/-- WQ_CMD_RES (Table 10.6). -/
def wqCmdRes (s : State) : W32 :=
  word [(31, 1, bn s.wq.resBusy), (8, 20, min 0xFFFFF s.wq.resLost), (0, 4, s.wq.result)]

/-- The wings (Table 10.6). -/
def readWq (s : State) (off : Nat) : W32 :=
  match off with
  | 0x00 => w32 (poolFree s)
  | 0x04 => w32 s.wq.cntLost
  | 0x10 => s.wq.qsel
  | 0x14 => wqInfo s
  | 0x18 => w32 (getQueue s (shownQueue s)).tail
  | 0x1C => w32 (getQueue s (shownQueue s)).rd
  | 0x20 => w32 (getQueue s (shownQueue s)).rel
  | 0x24 => w32 (getQueue s (shownQueue s)).mark
  | 0x28 => w32 (getQueue s (shownQueue s)).lost
  | 0x2C => w32 (getQueue s (shownQueue s)).flushed
  | 0x30 => w32 (getQueue s (shownQueue s)).drop
  | 0x44 => s.wq.cmdArg
  | 0x48 => wqCmdRes s
  | 0x50 => w32 (((viewItem s).map Item.seq).getD 0)
  | 0x54 => ((viewItem s).map (fun i => word [(28, 4, i.kind), (14, 8, i.cells.length), (0, 14, i.bytes)])).getD 0
  | 0x58 => w32 (((viewItem s).map Item.time).getD 0)
  | _ => 0

/-- A counter of a packer (Table 10.7). -/
def packerWord (v : Packer) (r : Nat) : W32 :=
  match r with
  | 0 => w32 v.cntIn
  | 1 => w32 v.cntOut
  | 2 => w32 v.cntGroups
  | 3 => w32 v.cntReset
  | 4 => w32 v.cntVerify
  | 5 => w32 v.cntCtx
  | _ => 0

/-- The packer (Table 10.7). -/
def readPk (s : State) (off : Nat) : W32 :=
  match off with
  | 0x00 => word [(16, 8, s.pk.unpSrc), (8, 8, s.pk.unpType), (0, 4, s.pk.unpCode)]
  | 0x04 => w32 s.pk.unpOk
  | 0x08 => w32 s.pk.unpFail
  | _ => match wordIn off 0x100 32 with
    | some i => packerWord (s.pk.lanes.get {} (i / 8)) (i % 8)
    | none => 0

/-- LN_STAT.PACK_LIM (R391, Table 11.9). -/
def packLimit (s : State) (l : Nat) : Nat :=
  if (getLane s l).ver = 0 then 0
  else if packVersion s l ≤ 0x10 then 2
  else if packVersion s l ≤ 0x11 then 1
  else 0

/-- LN_STAT of lane `l` (Table 11.9). -/
def laneStat (s : State) (l : Nat) : W32 :=
  let v := getLane s l
  word [(28, 4, v.state.code), (24, 4, v.haltCode), (16, 8, v.ver), (14, 2, v.rate), (13, 1, bn v.rxInv),
    (12, 1, bn v.reversed), (10, 2, packLimit s l), (9, 1, bn (v.caps.any Caps.fwd))]

/-- A register of a lane (Tables 11.9, 11.10). -/
def laneWord (s : State) (l off : Nat) : W32 :=
  let v := getLane s l
  match off with
  | 0x00 => laneCtrlWord s l
  | 0x04 => laneStat s l
  | 0x08 => v.partner
  | 0x0C => w32 v.rtd
  | 0x10 => v.asym
  | 0x14 => w32 v.cntFecCorr
  | 0x18 => w32 v.cntFecUnc
  | 0x1C => w32 v.cntFrameErr
  | 0x20 => w32 v.cntReplay
  | 0x24 => w32 v.cntRetrain
  | 0x28 => w32 v.cntDiscard
  | 0x2C => w32 v.cntRoute
  | 0x30 => w32 v.worst
  | _ => 0

/-- LN_TB_STAT.SRC: the house lane the timebase follows, of a root too whose partner supplies the time (R408). -/
def timeSource (s : State) : Nat := (((houseLane s).filter (followsLane s)).map (· + 1)).getD 0

/-- Zitlane (Tables 11.9 to 11.11). -/
def readLn (s : State) (off : Nat) : W32 :=
  if off < 0x100 then laneWord s (off / 64) (off % 64)
  else
    match off with
    | 0x200 => word [(16, 10, s.ln.addr), (8, 8, s.ln.epoch), (1, 5, s.ln.depth), (0, 1, bn s.ln.root)]
    | 0x204 => w32 (tb64 s % 2 ^ 32).toNat
    | 0x208 => w32 (tb64 s / 2 ^ 32 % 2 ^ 22).toNat
    | 0x20C => word [(31, 1, bn (timeOk s)), (29, 2, timeSource s), (0, 16, unsigned 16 s.ln.theta)]
    | 0x300 => s.ln.cbCfg
    | 0x304 => w32 s.ln.cntCbErr
    | _ => 0

/-- HK_RES and HK_URES (Table 12.9). -/
def accumWord (a : Accum) : W32 :=
  word [(31, 1, bn a.valid), (30, 1, bn a.ovr), (29, 1, bn a.dis), (0, 16, a.res)]

/-- HK_MINMAX and HK_UMINMAX. -/
def minMaxWord (a : Accum) : W32 := word [(16, 16, a.max), (0, 16, a.min)]

/-- HK_AUX_RES, HK_AUX_TEMP and HK_AUX_LEAD. -/
def auxWord (a : AuxOut) (r : Nat) : W32 :=
  match r with
  | 0 => word [(31, 1, bn a.valid), (30, 1, bn a.unsettled), (29, 1, bn a.broken), (28, 1, bn a.excFault),
      (27, 1, bn a.ovr), (0, 24, unsigned 24 a.value)]
  | 1 => word [(31, 1, bn a.tValid), (0, 16, unsigned 16 a.temp)]
  | _ => word [(0, 16, a.lead)]

/-- The accumulator whose tracker HK_MINMAX or HK_UMINMAX shows; one that no converter feeds is empty (R427). -/
def shownAccum (s : State) (which i : Nat) : Accum := ((shownTracker s which i).map (fun v => accOf s v i)).getD {}

/-- HK_EXC_STAT: a source turns on with the make of its turn. -/
def excStat (s : State) : W32 :=
  let h := (auxMade s).hk
  word ((List.range 4).map (fun k => (2 * k, 2, bn (h.excOn.getLsbD k) + 2 * bn (h.excFault.getLsbD k))))

/-- The arrays of housekeeping (Table 12.9). -/
def readHkArray (s : State) (off : Nat) : W32 :=
  match wordIn off 0x100 32 with
  | some i => accumWord (accOf s ((shownTracker s 0 i).getD 0) i)
  | none =>
  match wordIn off 0x180 32 with
  | some i => accumWord (accOf s 1 i)
  | none =>
  match wordIn off 0x200 32 with
  | some i => minMaxWord (shownAccum s 0 i)
  | none =>
  match wordIn off 0x280 32 with
  | some i => minMaxWord (shownAccum s 1 i)
  | none =>
  match wordIn off 0x300 24 with
  | some i => auxWord (s.hk.aux.get {} (i % 8)) (i / 8)
  | none => 0

/-- Housekeeping (Table 12.9). -/
def readHk (s : State) (off : Nat) : W32 :=
  match off with
  | 0x04 => word [(0, 5, s.hk.urgInput)]
  | 0x08 => word [(31, 1, bn s.hk.urgBusy), (30, 1, bn s.hk.urgDropped), (29, 1, bn s.hk.urgOvr), (0, 16, s.hk.urgResult)]
  | 0x10 => w32 s.hk.cntDrop
  | 0x14 => w32 s.hk.cntDis
  | 0x18 => w32 s.hk.cntOvr
  | 0x20 => s.hk.auxRtd
  | 0x24 => excStat s
  | 0x30 => s.hk.failHi
  | 0x34 => word [(31, 1, bn s.hk.loopFault), (30, 1, bn s.hk.loopLevel), (15, 15, s.hk.loopMeas), (0, 15, s.hk.loopCmd)]
  | _ => readHkArray s off

/-- TH_STAT (Table 12.10). -/
def thStat (s : State) : W32 :=
  word [(7, 1, bn s.th.shutdown), (6, 1, bn s.th.fast), (5, 1, bn s.th.throttle), (4, 1, bn s.th.warn),
    (0, 4, flagBits 4 (spotBroken s))]

/-- The arrays of heat: hotspots and diodes (Table 12.10). -/
def readThArray (s : State) (off : Nat) : W32 :=
  match wordIn off 0x10 4 with
  | some h => word [(31, 1, bn (spotBroken s h)), (0, 16, unsigned 16 (spotTj s h))]
  | none =>
  match wordIn off 0x40 8 with
  | some j =>
    let d := s.th.diodes.get (0, false) j
    word [(31, 1, bn d.2), (0, 16, unsigned 16 d.1)]
  | none => 0

/-- Heat and supplies (Table 12.10). -/
def readTh (s : State) (off : Nat) : W32 :=
  match off with
  | 0x000 => s.th.lim
  | 0x004 => thStat s
  | 0x020 => word [(0, 16, ((s.th.tjMax).map (unsigned 16)).getD 0x8000)]
  | 0x100 => word [(8, 7, s.th.supWarn.toNat), (0, 7, s.th.supLive.toNat)]
  | 0x104 => word [(4, 4, s.th.minS), (0, 4, s.th.s)]
  | 0x108 => w32 s.th.cntDroop
  | 0x10C => w32 s.th.cntWarn
  | _ => readThArray s off

/-- The arrays of calibration (Table 13.6). -/
def readCalArray (s : State) (off : Nat) : W32 :=
  match wordIn off 0x20 4 with
  | some l => word [(16, 16, (getLane s l).eyeH), (0, 16, (getLane s l).eyeW)]
  | none =>
  match wordIn off 0x100 32 with
  | some p => word [(0, 11, unsigned 11 (tapPos s p))]
  | none =>
  match wordIn off 0x190 2 with
  | some v => word [(16, 16, unsigned 16 (convInUse s v).2), (0, 16, unsigned 16 (convInUse s v).1)]
  | none =>
  match wordIn off 0x200 64 with
  | some b => word [(31, 1, bn (s.cal.edelay.find b).isSome), (0, 24, unsigned 24 (emissionDelay s b))]
  | none =>
  match wordIn off 0x1000 1552 with
  | some c => word [(31, 1, bn (s.cal.skew.find c).isSome), (0, 16, unsigned 16 (skewOf s c))]
  | none => 0

/-- Calibration (Table 13.6). -/
def readCal (s : State) (off : Nat) : W32 :=
  match off with
  | 0x000 => word [(0, 1, bn s.cal.auto)]
  | 0x004 => s.cal.cfg
  | 0x008 => word [(16, 6, s.cal.lastRej.toNat), (8, 6, s.cal.pendingQ.toNat), (0, 6, s.cal.valid.toNat)]
  | 0x010 => word [(16, 16, s.cal.tapResid), (0, 16, s.cal.tapInl)]
  | 0x014 => word [(0, 16, s.cal.skewResid)]
  | 0x030 => w32 s.cal.cntRej
  | 0x180 => word [(0, 16, unsigned 16 (vbdInUse s))]
  | _ => readCalArray s off

/-- Rehearsal (Table 13.7). -/
def readRh (s : State) (off : Nat) : W32 :=
  match off with
  | 0x00 => s.rh.ctrl
  | 0x04 => word [(31, 1, bn s.rh.drDone), (30, 1, bn s.rh.drPass), (24, 3, s.rh.drStep),
      (16, 5, flagBits 5 (fun k => !(getKind s k).starved.isEmpty)), (0, 4, flagBits 4 (fun l => (getLane s l).fail))]
  | 0x08 => word ((List.range 5).map (fun k => (2 * k, 2, (getKind s k).last)))
  | 0x10 => w32 s.rh.cntSlice
  | 0x14 => w32 s.rh.cntPre
  | 0x18 => w32 s.rh.cntFail
  | 0x1C => w32 s.rh.hot
  | _ => 0

/-- MODE codes of PWR_STAT. -/
def Mode.code : Mode → Nat
  | .dark => 1
  | .standby => 2
  | .show => 3

/-- Some lane has left OFF, so its LPLL runs (R485). -/
def anyLpll (s : State) : Bool := [0, 1, 2, 3].any (fun l => decide ((getLane s l).state ≠ .off))

/-- PWR_STAT (Table 14.7). -/
def pwrStat (s : State) : W32 :=
  word [(8, 4, s.pwr.refuse), (7, 1, bn (anyLpll s)), (6, 1, bn s.pwr.companion), (5, 1, bn s.pwr.tpll),
    (4, 1, bn s.pwr.cpll), (3, 1, bn s.gl.refSys), (2, 1, bn s.pwr.showPend), (0, 2, s.pwr.mode.code)]

/-- PWR_D2D_STAT (Table 1.2). -/
def d2dStat (s : State) : W32 :=
  word [(24, 8, s.d2d.b.crcErr), (16, 8, s.d2d.a.crcErr), (3, 1, bn s.d2d.bothLost), (2, 1, bn (linkCount s == 1)),
    (1, 1, bn s.d2d.b.up), (0, 1, bn s.d2d.a.up)]

/-- PWR_IMG_STAT (Table 2.12). -/
def imgStat (s : State) : W32 :=
  word [(24, 8, s.img.errSect), (16, 8, s.img.errCode), (8, 8, s.img.feWait.toNat), (3, 1, bn s.img.pending.isSome),
    (2, 1, bn s.img.auth), (1, 1, bn s.img.load.isSome), (0, 1, bn s.img.active.isSome)]

/-- PWR_DOOR_STAT (Table 14.8): whole seconds are counted up, and BUSY never reads 1 (notes/assumptions/9.md). -/
def doorStat (s : State) : W32 :=
  word [(8, 16, ceilDiv (s.door.waitUntil - s.now) secTicks), (0, 4, s.door.result)]

/-- Power, lifecycle and stage door (Tables 14.7, 14.8, 2.11, 2.12). -/
def readPwr (s : State) (off : Nat) : W32 :=
  match off with
  | 0x004 => pwrStat s
  | 0x008 => s.gl.wake
  | 0x010 => word [(24, 8, s.gl.resets), (16, 1, bn s.gl.held), (8, 8, s.gl.src.toNat), (0, 4, s.gl.cause)]
  | 0x014 => w32 s.gl.heldMs
  | 0x020 => s.otp.uid.setWidth 32
  | 0x024 => (s.otp.uid >>> 32).setWidth 32
  | 0x028 => word [(16, 16, s.gl.fails), (6, 1, bn s.door.zeroised), (3, 3, s.door.scope), (0, 3, lcState s)]
  | 0x030 => word [(8, 24, s.gl.sinChanges), (0, 8, s.gl.sinLevel.toNat)]
  | 0x040 => d2dStat s
  | 0x100 => word [(8, 1, bn s.img.page), (4, 1, bn s.img.kind)]
  | 0x104 => imgStat s
  | 0x108 => w32 ((s.img.active.map Image.serial).getD 0)
  | 0x200 => s.door.ctrl
  | 0x204 => doorStat s
  | _ => match wordIn off 0x210 8 with
    | some i => w32 (le s.door.chal (4 * i) 4)
    | none => 0

/-- The wings direct window (R373): the cell array and the item view. -/
def readDirect (s : State) (a : Nat) : W32 :=
  if a < 0x1800000 then w32 (leNat (s.wq.pool.sweep (a - 0x1000000) 4))
  else if s.wq.view.isSome then w32 (le s.wq.viewBytes (a - 0x1800000) 4)
  else 0

/-! ### The whole space -/

/-- The block window of an address, by its number (R524). -/
def readWindow (s : State) (win off : Nat) : W32 :=
  match win with
  | 0x1 => readSm s off
  | 0x2 => readRx s off
  | 0x3 => readBat s off
  | 0x4 => readHist s off
  | 0x5 => readRej s off
  | 0x6 => readFs s off
  | 0x7 => readSafe s off
  | 0x8 => readWq s off
  | 0x9 => readPk s off
  | 0xA => readLn s off
  | 0xB => readHk s off
  | 0xC => readTh s off
  | 0xD => readCal s off
  | 0xE => readRh s off
  | 0xF => readPwr s off
  | _ => 0

/-- The register's own value; the load window reads 0 (Table 15.1). -/
def live32 (s : State) (a : Nat) : W32 :=
  if a < 0x1000 then readId a
  else if a < 0x2000 then readCb s (a - 0x1000)
  else if a < 0x100000 then readWindow s (a / 0x10000) (a % 0x10000)
  else if a < 0x1000000 then 0
  else readDirect s a

/-- The word a read of an aligned address returns: the upper word of a wide value comes from its shadow (R10). Before its
lowest word has ever been read, when R10 gives no shadow, an upper word reads its live value (DESIGN CHOICE,
notes/assumptions/39.md). -/
def peek (s : State) (a : Nat) : W32 := (s.port.shadow.find a).getD (live32 s a)

/-! ### What a read does -/

/-- The upper word of the wide value whose lowest word is at `a`. Whether the 40-bit train phase of REJ_FT (PHASE_FRAC in the
+4 word, PHASE in the +8 word, R219) is such a value R10 does not say: it is none here, its +8 word reads live (DESIGN CHOICE,
notes/assumptions/39.md). -/
def upperOf (a : Nat) : Option Nat :=
  if a = 0xA0204 ∨ a = 0xF0020 ∨ a = 0x70020 ∨ (0x50100 ≤ a ∧ a < 0x50180 ∧ a % 16 = 0) then some (a + 4) else none

/-- A read of the lowest word captures the upper word (R10). -/
def captureUpper (a : Nat) (s : State) : State :=
  match upperOf a with
  | some b => { s with port := { s.port with shadow := s.port.shadow.set b (live32 s b) } }
  | none => s

def clearSm (off : Nat) (s : State) : State :=
  match off with
  | 0x40 => { s with sm := { s.sm with cntAccept := newer s 0x10040 s.sm.cntAccept } }
  | 0x44 => { s with sm := { s.sm with cntReject := newer s 0x10044 s.sm.cntReject } }
  | 0x48 => { s with sm := { s.sm with cntRefused := newer s 0x10048 s.sm.cntRefused } }
  | 0x4C => { s with sm := { s.sm with cntLate := newer s 0x1004C s.sm.cntLate } }
  | 0x50 => { s with sm := { s.sm with cntAbortLost := newer s 0x10050 s.sm.cntAbortLost } }
  | 0x54 => { s with sm := { s.sm with cntTrigSupp := newer s 0x10054 s.sm.cntTrigSupp } }
  | _ => s

def clearRx (off : Nat) (s : State) : State :=
  match off with
  | 0x14 => { s with rx := { s.rx with cntStop := newer s 0x20014 s.rx.cntStop } }
  | 0x18 => { s with rx := { s.rx with cntNoret := newer s 0x20018 s.rx.cntNoret } }
  | 0x1C => { s with rx := { s.rx with cntCut := newer s 0x2001C s.rx.cntCut } }
  | 0x20 => { s with rx := { s.rx with cntVoid := newer s 0x20020 s.rx.cntVoid } }
  | 0x24 => { s with rx := { s.rx with cntWref := newer s 0x20024 s.rx.cntWref } }
  | 0x28 => { s with rx := { s.rx with cntPre := newer s 0x20028 s.rx.cntPre } }
  | _ => s

def clearHist (off : Nat) (s : State) : State :=
  match off with
  | 0x10 => { s with hist := { s.hist with cntPoints := newer s 0x40010 s.hist.cntPoints } }
  | 0x14 => { s with hist := { s.hist with cntEmpty := newer s 0x40014 s.hist.cntEmpty } }
  | 0x18 => { s with hist := { s.hist with cntCoarse := newer s 0x40018 s.hist.cntCoarse } }
  | 0x1C => { s with hist := { s.hist with cntEsc := newer s 0x4001C s.hist.cntEsc } }
  | 0x20 => { s with hist := { s.hist with cntRerun := newer s 0x40020 s.hist.cntRerun } }
  | 0x24 => { s with hist := { s.hist with cntOver := newer s 0x40024 s.hist.cntOver } }
  | _ => s

def clearRej (off : Nat) (s : State) : State :=
  match off with
  | 0x10 => { s with rej := { s.rej with cntStamps := newer s 0x50010 s.rej.cntStamps } }
  | 0x14 => { s with rej := { s.rej with cntLost := newer s 0x50014 s.rej.cntLost } }
  | 0x18 => { s with rej := { s.rej with cntVeto := newer s 0x50018 s.rej.cntVeto } }
  | 0x1C => { s with rej := { s.rej with cntSecond := newer s 0x5001C s.rej.cntSecond } }
  | 0x20 => { s with rej := { s.rej with cntBlank := newer s 0x50020 s.rej.cntBlank } }
  | _ => s

def clearFs (off : Nat) (s : State) : State :=
  match off with
  | 0x20 => { s with fs := { s.fs with cntFe := newer s 0x60020 s.fs.cntFe } }
  | 0x24 => { s with fs := { s.fs with cntSat := newer s 0x60024 s.fs.cntSat } }
  | 0x28 => { s with fs := { s.fs with cntXfer := newer s 0x60028 s.fs.cntXfer } }
  | 0x2C => { s with fs := { s.fs with cntMiss := newer s 0x6002C s.fs.cntMiss } }
  | _ => s

/-- The RC counters of a queue clear only for the queue shown (R374). -/
def clearShown (off : Nat) (s : State) : State :=
  let q := shownQueue s
  let v := getQueue s q
  let n := newer s (queueKey q off)
  setQueue q
    (match off with
     | 0x28 => { v with lost := n v.lost }
     | 0x2C => { v with flushed := n v.flushed }
     | _ => { v with drop := n v.drop }) s

def clearWq (off : Nat) (s : State) : State :=
  match off with
  | 0x04 => { s with wq := { s.wq with cntLost := newer s 0x80004 s.wq.cntLost } }
  | 0x28 => clearShown off s
  | 0x2C => clearShown off s
  | 0x30 => clearShown off s
  | _ => s

def Packer.cleared (n : Nat → Nat) (r : Nat) (v : Packer) : Packer :=
  match r with
  | 0 => { v with cntIn := n v.cntIn }
  | 1 => { v with cntOut := n v.cntOut }
  | 2 => { v with cntGroups := n v.cntGroups }
  | 3 => { v with cntReset := n v.cntReset }
  | 4 => { v with cntVerify := n v.cntVerify }
  | 5 => { v with cntCtx := n v.cntCtx }
  | _ => v

def clearPk (off : Nat) (s : State) : State :=
  match off with
  | 0x04 => { s with pk := { s.pk with unpOk := newer s 0x90004 s.pk.unpOk } }
  | 0x08 => { s with pk := { s.pk with unpFail := newer s 0x90008 s.pk.unpFail } }
  | _ => match wordIn off 0x100 32 with
    | some i => { s with pk := { s.pk with lanes := s.pk.lanes.upd {} (i / 8) (Packer.cleared (newer s (0x90000 + off)) (i % 8)) } }
    | none => s

/-- An RC register of a lane is cleared: `n` is what its counter keeps, `worst` what LN_CREDIT_WORST keeps (R9). -/
def Lane.cleared (n : Nat → Nat) (worst off : Nat) (v : Lane) : Lane :=
  match off with
  | 0x14 => { v with cntFecCorr := n v.cntFecCorr }
  | 0x18 => { v with cntFecUnc := n v.cntFecUnc }
  | 0x1C => { v with cntFrameErr := n v.cntFrameErr }
  | 0x20 => { v with cntReplay := n v.cntReplay }
  | 0x24 => { v with cntRetrain := n v.cntRetrain }
  | 0x28 => { v with cntDiscard := n v.cntDiscard }
  | 0x2C => { v with cntRoute := n v.cntRoute }
  | 0x30 => { v with worst := worst }
  | _ => v

def clearLn (off : Nat) (s : State) : State :=
  if off < 0x100 then
    updLane (off / 64) (Lane.cleared (newer s (0xA0000 + off)) (keptValue s (0xA0000 + off) max 0).toNat (off % 64)) s
  else if off = 0x304 then { s with ln := { s.ln with cntCbErr := newer s 0xA0304 s.ln.cntCbErr } }
  else s

/-- The tracker of an input on converter `v` starts anew with what it was given in this core clock cycle (R9, R427). -/
def clearTrack (v i : Nat) (s : State) : State :=
  setAcc v i { accOf s v i with
    min := (keptValue s (trackerAt v i) min 0xFFFF).toNat, max := (keptValue s (trackerAt v i) max 0).toNat } s

def clearHk (off : Nat) (s : State) : State :=
  match off with
  | 0x10 => { s with hk := { s.hk with cntDrop := newer s 0xB0010 s.hk.cntDrop } }
  | 0x14 => { s with hk := { s.hk with cntDis := newer s 0xB0014 s.hk.cntDis } }
  | 0x18 => { s with hk := { s.hk with cntOvr := newer s 0xB0018 s.hk.cntOvr } }
  | _ => match wordIn off 0x200 64 with
    | some i =>
      match shownTracker s (i / 32) (i % 32) with
      | some v => clearTrack v (i % 32) s
      | none => s
    | none => s

def clearTh (off : Nat) (s : State) : State :=
  match off with
  | 0x020 => { s with th := { s.th with tjMax :=
      if (s.recent.values.get ([] : List Int) 0xC0020).isEmpty then none else some (keptValue s 0xC0020 max (-32768)) } }
  | 0x104 => { s with th := { s.th with minS := (keptValue s 0xC0104 min 8).toNat } }
  | 0x108 => { s with th := { s.th with cntDroop := newer s 0xC0108 s.th.cntDroop } }
  | 0x10C => { s with th := { s.th with cntWarn := newer s 0xC010C s.th.cntWarn } }
  | _ => s

def clearRh (off : Nat) (s : State) : State :=
  match off with
  | 0x10 => { s with rh := { s.rh with cntSlice := newer s 0xE0010 s.rh.cntSlice } }
  | 0x14 => { s with rh := { s.rh with cntPre := newer s 0xE0014 s.rh.cntPre } }
  | 0x18 => { s with rh := { s.rh with cntFail := newer s 0xE0018 s.rh.cntFail } }
  | _ => s

def clearPwr (off : Nat) (s : State) : State :=
  match off with
  | 0x30 => { s with gl := { s.gl with sinChanges := newer s 0xF0030 s.gl.sinChanges } }
  | 0x40 =>
    let a := { s.d2d.a with crcErr := newer s 0xF0040 s.d2d.a.crcErr }
    let b := { s.d2d.b with crcErr := newer s 0xF0041 s.d2d.b.crcErr }
    { s with d2d := { s.d2d with a := a, b := b } }
  | _ => s

/-- The RC fields of a register in a block window take their reset values; a counter keeps what it has counted in the same
core clock cycle (R9). -/
def clearWindow (win off : Nat) (s : State) : State :=
  match win with
  | 0x1 => clearSm off s
  | 0x2 => clearRx off s
  | 0x3 => if off = 0x28 then { s with bat := { s.bat with unlocks := newer s 0x30028 s.bat.unlocks } } else s
  | 0x4 => clearHist off s
  | 0x5 => clearRej off s
  | 0x6 => clearFs off s
  | 0x8 => clearWq off s
  | 0x9 => clearPk off s
  | 0xA => clearLn off s
  | 0xB => clearHk off s
  | 0xC => clearTh off s
  | 0xD => if off = 0x30 then { s with cal := { s.cal with cntRej := newer s 0xD0030 s.cal.cntRej } } else s
  | 0xE => clearRh off s
  | 0xF => clearPwr off s
  | _ => s

/-- The RC fields of the call board. -/
def clearCb (off : Nat) (s : State) : State :=
  match off with
  | 0x14 => { s with cb := { s.cb with violCount := newer s 0x01014 s.cb.violCount } }
  | 0x24 => { s with cb := { s.cb with hpErr := newer s 0x01024 s.cb.hpErr } }
  | _ => s

/-- What the counters at address `a` hold after a clear has come in the running cycle: another clear keeps it too. -/
def forgetCounts (a : Nat) (s : State) : State :=
  let gone := fun (k : Nat) => k == a || (a == 0xF0040 && k == 0xF0041)
    || ((a == 0x80028 || a == 0x8002C || a == 0x80030) && k == queueKey (shownQueue s) (a % 0x10000))
  { s with recent := { s.recent with counts := s.recent.counts.filter (fun p => !gone p.1) } }

/-- Reading returns the RC fields and then restores their reset values (R7, R9). -/
def clearFields (a : Nat) (s : State) : State :=
  if a < 0x1000 then s
  else if a < 0x2000 then forgetCounts a (clearCb (a - 0x1000) s)
  else if a < 0x100000 then forgetCounts a (clearWindow (a / 0x10000) (a % 0x10000) s)
  else s

/-- What reading a word does: the shadow is captured first, then RC fields clear. -/
def readEffect (a : Nat) (s : State) : State := clearFields a (captureUpper a s)

/-- A read of `n` words from `a` upward, in one step: the words, and the state after it. -/
def readWords (a n : Nat) (s : State) : List W32 × State :=
  match n with
  | 0 => ([], s)
  | n + 1 =>
    let r := readWords (a + 4) n (readEffect a s)
    (peek s a :: r.1, r.2)

end Sys2Proof.Machine
end

