-- ==== Sys2Proof/Machine/RegWrite.lean ====
section
/-! DEFINITION. What a write to the register space does, register by register, under the RW, WO, W1C and RWS rules and
the range checks (R7, R8, R62, R111, R149, R190, R264 to R272, R280 to R282, R296 to R300, R373, R417, R444, R449, R474,
R475, R504, R505, R520, R523). Each operation answers whether the whole write was taken, with the state after it; a write
that was not taken has left a violation on the call board. -/

namespace Sys2Proof.Machine

/-! ### Configuration registers -/

/-- A register whose write only stores it: its writable bits, those of them that are RWS, the ranges of its fields, a
condition on the state (other register rules), and its place in the state. -/
structure PlainReg where
  rw   : W32
  rws  : W32 := 0
  ok   : W32 → Bool := fun _ => true
  gate : State → Bool := fun _ => true
  /-- bits that read 1 and that no write changes (R77) -/
  stuck : State → W32 := fun _ => 0
  get  : State → W32
  put  : W32 → State → State

/-- The bits a write may set now: outside Standby or with the curtain up the RWS fields are absent (R8). -/
def PlainReg.open (r : PlainReg) (s : State) : W32 := if rwsOpen s then r.rw ||| r.rws else r.rw &&& ~~~r.rws

/-- The write would change an RWS field that is closed (R8). -/
def PlainReg.blocked (r : PlainReg) (v : W32) (s : State) : Bool :=
  !rwsOpen s && ((r.get s ^^^ v) &&& r.rws &&& ~~~r.stuck s) != 0

/-- A write to a configuration register. -/
def PlainReg.write (r : PlainReg) (p : Path) (a : Nat) (v : W32) (s : State) : Bool × State :=
  let w := merge (r.open s) (r.get s) v
  if !r.gate s then (false, violation p a kindRule s)
  else if !r.ok w then (false, violation p a kindRange s)
  else if r.blocked v s then (false, violation p a kindRws (r.put w s))
  else (true, r.put w s)

/-- `lo ≤ w[hi:l] ≤ top`. -/
def fldIn (w : W32) (hi l lo top : Nat) : Bool := decide (lo ≤ fld w hi l) && decide (fld w hi l ≤ top)

/-- A write that has no other effect than `f` and is always taken. -/
def taken (f : State → State) (s : State) : Bool × State := (true, f s)

/-- A write to a read-only or absent register: no effect, no event (Table 0.4, R508). -/
def ignored (s : State) : Bool × State := (true, s)

/-! ### Call board (Table 15.6) -/

def regMask : PlainReg where
  rw := 0xFFFFFFFF#32
  get := fun s => s.cb.mask
  put := fun w s => { s with cb := { s.cb with mask := w } }

def regHpCfg : PlainReg where
  rw := 0xF#32
  ok := fun w => fldIn w 3 0 4 15
  get := fun s => s.cb.hpCfg
  put := fun w s => { s with cb := { s.cb with hpCfg := w } }

/-- Written ones clear the events, but for those of the same core clock cycle (R9). -/
def clearEvents (v : W32) (s : State) : State := { s with cb := { s.cb with event := s.cb.event &&& ~~~(v &&& ~~~s.recent.events) } }

def writeCb (p : Path) (a off : Nat) (v : W32) (s : State) : Bool × State :=
  match off with
  | 0x00 => taken (clearEvents v) s
  | 0x04 => regMask.write p a v s
  | 0x20 => regHpCfg.write p a v s
  | _ => ignored s

/-! ### Stage manager (R264 to R272) -/

def regSmCfg : PlainReg where
  rw := 3#32
  get := fun s => s.sm.cfg
  put := fun w s => { s with sm := { s.sm with cfg := w } }

def regQsel : PlainReg where
  rw := 0x0FFF0FFF#32
  rws := 0x0FFF0FFF#32
  get := fun s => s.sm.qsel
  put := fun w s => { s with sm := { s.sm with qsel := w } }

def regQsel2 : PlainReg where
  rw := 0x00000FFF#32
  rws := 0x00000FFF#32
  get := fun s => s.sm.qsel2
  put := fun w s => { s with sm := { s.sm with qsel2 := w } }

/-- R264: while a full image is active, a write in Standby that names a queue breaking the rule is discarded. -/
def writeQsel (r : PlainReg) (qs : List Nat) (p : Path) (a : Nat) (v : W32) (s : State) : Bool × State :=
  if rwsOpen s && s.img.active.isSome && !qs.all (deviceQueue s) then (false, violation p a kindRule s)
  else r.write p a v s

def regSubmit (i : Nat) : PlainReg where
  rw := 0xFFFFFFFF#32
  get := fun s => s.sm.submit.get 0 i
  put := fun w s => { s with sm := { s.sm with submit := s.sm.submit.set i w } }

/-- Written ones clear the bits of SM_TRIG_STAT0 (`half` 0) or SM_TRIG_STAT1. -/
def clearFired (half : Nat) (v : W32) (s : State) : State :=
  { s with sm := { s.sm with trigStat := s.sm.trigStat &&& ~~~((v.setWidth 64 <<< (32 * half)) &&& ~~~s.recent.trig) } }

/-- The unit starts afresh when it is enabled. -/
def startUnit (n : Nat) (s : State) : State :=
  { s with sm := { s.sm with trig := s.sm.trig.set n { since := tbUs s } } }

/-- SM_TRIG_CFG word `i` (R272): a change to another field of an enabled unit is discarded. -/
def writeTrigCfg (p : Path) (a i : Nat) (v : W32) (s : State) : Bool × State :=
  let old := s.sm.trigCfg.get 0 i
  let w := v &&& (if i % 2 = 0 then 0xF0FFFFFF#32 else 0xFFFFFF1F#32)
  let other := if i % 2 = 0 then 0x70FFFFFF#32 else 0xFFFFFFFF#32
  if i % 2 = 0 ∧ 3 < fld w 30 28 then (false, violation p a kindRange s)
  else if trigEnabled s (i / 2) && ((old ^^^ w) &&& other) != 0 then (false, violation p a kindRule s)
  else
    let u := { s with sm := { s.sm with trigCfg := s.sm.trigCfg.set i w } }
    (true, if i % 2 = 0 && flag w 31 && !flag old 31 then startUnit (i / 2) u else u)

def writeSmArray (p : Path) (a off : Nat) (v : W32) (s : State) : Bool × State :=
  match wordIn off 0x100 8 with
  | some i => (regSubmit i).write p a v s
  | none =>
  match wordIn off 0x1000 128 with
  | some i => writeTrigCfg p a i v s
  | none => ignored s

def writeSm (p : Path) (a off : Nat) (v : W32) (s : State) : Bool × State :=
  match off with
  | 0x000 => regSmCfg.write p a v s
  | 0x004 => writeQsel regQsel [fld v 11 0, fld v 27 16] p a v s
  | 0x008 => writeQsel regQsel2 [fld v 11 0] p a v s
  | 0x120 => submitCtrl p v s
  | 0x130 => abortWrite p (fld v 15 0) s
  | 0x140 => taken (softTrigger (fld v 5 0)) s
  | 0x148 => taken (clearFired 0 v) s
  | 0x14C => taken (clearFired 1 v) s
  | 0x300 => taken (calendarSelect (fld v 11 0)) s
  | 0x380 => taken (cueSelect (fld v 11 0)) s
  | _ => writeSmArray p a off v s

/-! ### Receive channels (R103 to R109) -/

def regRxCfg : PlainReg where
  rw := 0x00FF007F#32
  rws := 0x00FF007F#32
  ok := fun w => fldIn w 23 16 10 50 && fldIn w 6 0 8 64
  get := fun s => s.rx.cfg
  put := fun w s => { s with rx := { s.rx with cfg := w } }

def regRefCfg : PlainReg where
  rw := 0x00FFFF1F#32
  rws := 0x00FFFF1F#32
  ok := fun w => fldIn w 23 16 8 255 && fldIn w 15 8 4 32 && fldIn w 4 0 1 16
  get := fun s => s.rx.refCfg
  put := fun w s => { s with rx := { s.rx with refCfg := w } }

/-- RX_SPAD_MASK word `m` (R108); bits dress rehearsal set stay (R77). -/
def regSpadMask (m : Nat) : PlainReg where
  rw := 0xFFFFFFFF#32
  rws := 0xFFFFFFFF#32
  stuck := fun s => ((s.rx.hot.get 0 (2 * m + 1)).setWidth 32 <<< 16) ||| (s.rx.hot.get 0 (2 * m)).setWidth 32
  get := fun s => readRx s (0x1000 + 4 * m)
  put := fun w s => { s with rx := { s.rx with
    mask := (s.rx.mask.set (2 * m) (w.setWidth 16)).set (2 * m + 1) ((w >>> 16).setWidth 16) } }

/-- Written ones clear CUT_SEEN of the eight channels of word `m`. -/
def clearCutSeen (m : Nat) (v : W32) (s : State) : State :=
  (List.range 8).foldl (fun u j =>
    if flag v (4 * j + 3) && !s.recent.cut.contains (8 * m + j) then setChan (8 * m + j) { getChan u (8 * m + j) with cutSeen := false } u else u) s

def writeRxArray (p : Path) (a off : Nat) (v : W32) (s : State) : Bool × State :=
  match wordIn off 0x1000 776 with
  | some m => (regSpadMask m).write p a v s
  | none =>
  match wordIn off 0x2000 194 with
  | some m => taken (clearCutSeen m v) s
  | none => ignored s

def writeRx (p : Path) (a off : Nat) (v : W32) (s : State) : Bool × State :=
  match off with
  | 0x00 => regRxCfg.write p a v s
  | 0x08 => regRefCfg.write p a v s
  | 0x10 => selectCounters p v s
  | _ => writeRxArray p a off v s

/-! ### Battens (R144 to R153) -/

def regSlotCfg : PlainReg where
  rw := 0x0000FFFF#32
  rws := 0x0000FFFF#32
  ok := fun w => fldIn w 15 0 8000 49152
  get := fun s => s.bat.slotCfg
  put := fun w s => { s with bat := { s.bat with slotCfg := w } }

def regDriveCfg : PlainReg where
  rw := 0xFFFF00FF#32
  rws := 0xFFFF00FF#32
  ok := fun w => fldIn w 31 24 1 255 && fldIn w 23 16 1 100 && fldIn w 7 0 1 255
  get := fun s => s.bat.driveCfg
  put := fun w s => { s with bat := { s.bat with driveCfg := w } }

def regTsrc : PlainReg where
  rw := 0xFFFFFFFF#32
  rws := 0xFFFFFFFF#32
  ok := fun w => (List.range 8).all (fun g => decide (fld w (4 * g + 3) (4 * g) ≤ 8))
  get := fun s => s.bat.tsrc
  put := fun w s => { s with bat := { s.bat with tsrc := w } }

def regCsCfg : PlainReg where
  rw := 0x0FFFFFFF#32
  rws := 0x0FFFFFFF#32
  ok := fun w => fldIn w 27 24 1 15 && fldIn w 23 16 1 255 && fldIn w 15 8 2 255 && fldIn w 7 0 1 254
    && decide (fld w 7 0 < fld w 15 8)
  get := fun s => s.bat.csCfg
  put := fun w s => { s with bat := { s.bat with csCfg := w } }

/-- The clears that a write of BAT_FAULT_CLR asks for. -/
def clearFaults (v : W32) (s : State) : State :=
  let x := if flag v 2 then clearBattens s else s
  let y := if flag v 1 then clearSwitch x else x
  if flag v 0 then clearGovernor y else y

def writeBat (p : Path) (a off : Nat) (v : W32) (s : State) : Bool × State :=
  match off with
  | 0x00 => regSlotCfg.write p a v s
  | 0x10 => regDriveCfg.write p a v s
  | 0x14 => regTsrc.write p a v s
  | 0x18 => regCsCfg.write p a v s
  | 0x20 => if fld v 2 0 = 0 then ignored s else faultClear p (clearFaults v) s
  | _ => ignored s

/-! ### Acts and rejection (R190 to R192, R216) -/

/-- A change applies at the next scene change, and at once while no scene runs. -/
def applyNow (s : State) : State := if s.fs.sceneRun then s else takeUp s

def regPtCfg : PlainReg where
  rw := 0xFF03017F#32
  ok := fun w => fldIn w 17 16 0 2 && fldIn w 6 0 1 64
  get := fun s => s.hist.ptCfg
  put := fun w s => applyNow { s with hist := { s.hist with ptCfg := w } }

def regEscCfg : PlainReg where
  rw := 0x00001FFF#32
  ok := fun w => fldIn w 11 8 1 15 && fldIn w 7 0 1 255
  get := fun s => s.hist.escCfg
  put := fun w s => applyNow { s with hist := { s.hist with escCfg := w } }

def regRejCfg : PlainReg where
  rw := 0xFFFF0301#32
  ok := fun w => fldIn w 31 24 2 64 && fldIn w 9 8 0 2
  get := fun s => s.rej.cfg
  put := fun w s => applyNow { s with rej := { s.rej with cfg := w } }

def writeHist (p : Path) (a off : Nat) (v : W32) (s : State) : Bool × State :=
  match off with
  | 0x00 => regPtCfg.write p a v s
  | 0x04 => regEscCfg.write p a v s
  | 0x08 => taken (writeStops (fld v 7 0)) s
  | _ => ignored s

def writeRej (p : Path) (a off : Nat) (v : W32) (s : State) : Bool × State :=
  match off with
  | 0x00 => regRejCfg.write p a v s
  | _ => ignored s

/-! ### Follow spot (R280 to R282, R295 to R300) -/

/-- FS_CTRL.SET: taken only while the loop is held (R280). -/
def fsSet (p : Path) (n : Nat) (s : State) : Bool × State :=
  if n = s.fs.set then (true, s)
  else if s.fs.held then (true, { s with fs := { s.fs with set := n } })
  else (false, violation p fsCtrlAddr kindRule s)

/-- FS_CTRL.HOLD: a change holds or releases the loop. -/
def fsHoldBit (p : Path) (b : Bool) (s : State) : Bool × State :=
  if b = s.fs.hold then (true, s) else if b then setHold p s else clearHold p s

/-- FS_CTRL.RUN: a change starts or stops the scene program. -/
def fsRunBit (b : Bool) (s : State) : State :=
  if b = s.fs.run then s else if b then setRun s else clearRun s

/-- A write to FS_CTRL, its fields in the order SET, HOLD, RUN, FE_CLR. -/
def writeFsCtrl (p : Path) (v : W32) (s : State) : Bool × State :=
  let x := fsSet p (fld v 5 4) s
  let y := fsHoldBit p (flag v 0) x.2
  let z := fsRunBit (flag v 1) y.2
  (x.1 && y.1, if flag v 2 then clearFault z else z)

def loopHeld (s : State) : Bool := s.fs.held

def regFeCfg : PlainReg where
  rw := 0xFFFFFFFF#32
  ok := fun w => fldIn w 31 16 1 65535 && fldIn w 15 0 1 65535
  get := fun s => s.fs.feCfg
  put := fun w s => { s with fs := { s.fs with feCfg := w } }

def regDrvLim : PlainReg where
  rw := 0xFFFFFFFF#32
  ok := fun w => decide (fld w 15 0 < fld w 31 16)
  gate := loopHeld
  get := fun s => s.fs.drvLim
  put := fun w s => { s with fs := { s.fs with drvLim := w } }

def regPark : PlainReg where
  rw := 0x0000FFFF#32
  gate := loopHeld
  get := fun s => s.fs.park
  put := fun w s => { s with fs := { s.fs with park := w } }

def regSetpt : PlainReg where
  rw := 0x0000FFFF#32
  get := fun s => s.fs.setpt
  put := fun w s => { s with fs := { s.fs with setpt := w } }

/-- FS_COMP word `i`: word 0 of a set holds FORM, EA and EB, the others a mantissa each. FORM 3 is stored, since R281 judges
a set that has it. -/
def regComp (i : Nat) : PlainReg where
  rw := if i % 8 = 0 then 0x00033F3F#32 else 0x00FFFFFF#32
  gate := loopHeld
  get := fun s => s.fs.comp.get 0 i
  put := fun w s => { s with fs := { s.fs with comp := s.fs.comp.set i w } }

def writeFs (p : Path) (a off : Nat) (v : W32) (s : State) : Bool × State :=
  match off with
  | 0x00 => writeFsCtrl p v s
  | 0x08 => regFeCfg.write p a v s
  | 0x0C => regDrvLim.write p a v s
  | 0x10 => regPark.write p a v s
  | 0x14 => regSetpt.write p a v s
  | _ => match wordIn off 0x100 32 with
    | some i => (regComp i).write p a v s
    | none => ignored s

/-! ### Wings (Table 10.6) -/

def regWqSel : PlainReg where
  rw := 0x00000FFF#32
  get := fun s => s.wq.qsel
  put := fun w s => { s with wq := { s.wq with qsel := w } }

def regCmdArg : PlainReg where
  rw := 0xFFFFFFFF#32
  get := fun s => s.wq.cmdArg
  put := fun w s => { s with wq := { s.wq with cmdArg := w } }

/-- WQ_QINFO.AUTO_REL of the queue shown. -/
def setAutoRel (b : Bool) (s : State) : State :=
  setQueue (shownQueue s) { getQueue s (shownQueue s) with autoRel := b } s

def writeWq (p : Path) (a off : Nat) (v : W32) (s : State) : Bool × State :=
  match off with
  | 0x10 => regWqSel.write p a v s
  | 0x14 => taken (setAutoRel (flag v 24)) s
  | 0x34 => if flag v 0 then taken resync s else ignored s
  | 0x40 => wqCommand p v s
  | 0x44 => regCmdArg.write p a v s
  | _ => ignored s

/-! ### Zitlane (R417, R419) -/

def regAsym (l : Nat) : PlainReg where
  rw := 0x0000FFFF#32
  get := fun s => (getLane s l).asym
  put := fun w s => updLane l (fun v => { v with asym := w }) s

def regCbCfg : PlainReg where
  rw := 0x80001F7F#32
  rws := 0x80001F7F#32
  get := fun s => s.ln.cbCfg
  put := fun w s => { s with ln := { s.ln with cbCfg := w } }

def writeLn (p : Path) (a off : Nat) (v : W32) (s : State) : Bool × State :=
  if off < 0x100 then
    match off % 64 with
    | 0x00 => taken (laneCtrl (off / 64) v) s
    | 0x10 => (regAsym (off / 64)).write p a v s
    | _ => ignored s
  else if off = 0x300 then regCbCfg.write p a v s
  else ignored s

/-! ### Housekeeping and heat (R444, R449, R450) -/

def regAuxRtd : PlainReg where
  rw := 0x0000FFFF#32
  rws := 0x0000FFFF#32
  ok := fun w => (List.range 8).all (fun n => decide (fld w (2 * n + 1) (2 * n) ≤ 2))
  get := fun s => s.hk.auxRtd
  put := fun w s => { s with hk := { s.hk with auxRtd := w } }

def regFailHi : PlainReg where
  rw := 1#32
  rws := 1#32
  get := fun s => s.hk.failHi
  put := fun w s => { s with hk := { s.hk with failHi := w } }

/-- HK_LOOP_CFG: CLR acts whatever becomes of FAIL_HI (R8). -/
def writeLoopCfg (p : Path) (a : Nat) (v : W32) (s : State) : Bool × State :=
  regFailHi.write p a v (if flag v 1 then clearLoop s else s)

def writeHk (p : Path) (a off : Nat) (v : W32) (s : State) : Bool × State :=
  match off with
  | 0x04 => taken (urgentWrite v) s
  | 0x20 => regAuxRtd.write p a v s
  | 0x30 => writeLoopCfg p a v s
  | _ => ignored s

def regThLim : PlainReg where
  rw := 0x0000FFFF#32
  rws := 0x0000FFFF#32
  ok := fun w => fldIn w 15 8 100 150 && fldIn w 7 0 90 (fld w 15 8)
  get := fun s => s.th.lim
  put := fun w s => { s with th := { s.th with lim := w } }

def clearSupWarn (v : W32) (s : State) : State :=
  { s with th := { s.th with supWarn := s.th.supWarn &&& ~~~((v >>> 8).setWidth 7 &&& ~~~s.recent.warn) } }

def writeTh (p : Path) (a off : Nat) (v : W32) (s : State) : Bool × State :=
  match off with
  | 0x000 => regThLim.write p a v s
  | 0x004 => if flag v 8 then taken clearShutdown s else ignored s
  | 0x100 => taken (clearSupWarn v) s
  | _ => ignored s

/-! ### Calibration and rehearsal (R474, R475) -/

def regCalCfg : PlainReg where
  rw := 0xFFFF007F#32
  ok := fun w => fldIn w 31 24 1 50 && fldIn w 23 16 1 255 && fldIn w 6 0 1 64
  get := fun s => s.cal.cfg
  put := fun w s => { s with cal := { s.cal with cfg := w } }

/-- The runs that take effect only in Standby. -/
def standbyRuns (v : W32) (s : State) : State :=
  let x := if flag v 2 then startSkew s else s
  if flag v 4 then startSearch x else x

/-- A write to CAL_CTRL. -/
def writeCalCtrl (p : Path) (v : W32) (s : State) : Bool × State :=
  let x := { s with cal := { s.cal with auto := flag v 0 } }
  let y := if flag v 1 then runTap x else x
  let z := if flag v 3 then runConv y else y
  if inStandby s then (true, standbyRuns v z)
  else if flag v 2 || flag v 4 then (false, violation p calCtrlAddr kindRule z)
  else (true, z)

def writeCal (p : Path) (a off : Nat) (v : W32) (s : State) : Bool × State :=
  match off with
  | 0x000 => writeCalCtrl p v s
  | 0x004 => regCalCfg.write p a v s
  | _ => ignored s

def regRhCtrl : PlainReg where
  rw := 0x1F#32
  get := fun s => s.rh.ctrl
  put := fun w s => { s with rh := { s.rh with ctrl := w } }

def writeRh (p : Path) (a off : Nat) (v : W32) (s : State) : Bool × State :=
  match off with
  | 0x00 => regRhCtrl.write p a v s
  | _ => ignored s

/-! ### Power, loader and stage door (R504, R505, R70) -/

/-- PWR_MODE.REQ. -/
def writeMode (n : Nat) (s : State) : State :=
  match n with
  | 1 => requestDark s
  | 2 => requestStandby s
  | 3 => requestShow s
  | _ => s

def regWake : PlainReg where
  rw := 0xFFFF0007#32
  get := fun s => s.gl.wake
  put := fun w s => { s with gl := { s.gl with wake := w } }

def clearHeld (v : W32) (s : State) : State :=
  if flag v 16 then { s with gl := { s.gl with held := false } } else s

/-- A request that R493 accepts. -/
def resetKeyOk (v : W32) : Bool := flag v 0 && fld v 31 16 == 0xA5C3

def clearBothLost (v : W32) (s : State) : State :=
  if flag v 3 && !s.recent.bothLost then { s with d2d := { s.d2d with bothLost := false } } else s

/-- PWR_IMG_CTRL (R62, R63, R70): while BUSY reads 1, a change of PAGE or KIND and a GO are discarded. A write that would
leave PAGE and KIND as they are is no violation (DESIGN CHOICE, notes/assumptions/18.md). -/
def writeImgCtrl (p : Path) (v : W32) (s : State) : Bool × State :=
  let busy := s.img.load.isSome
  let moved := flag v 8 != s.img.page || flag v 4 != s.img.kind
  let x := if busy then s else { s with img := { s.img with page := flag v 8, kind := flag v 4 } }
  let y := if flag v 1 then imageAbort x else x
  let z := if flag v 2 then cancelPatch y else y
  if busy && (moved || flag v 0) then (false, violation p imgCtrlAddr kindBusy z)
  else if flag v 0 then imageGo p z
  else (true, z)

def doorCtrlAddr : Nat := 0x000F0200

/-- PWR_DOOR_CTRL: an OP above 7 is outside Table 14.8. Whether an OTP readback passes is the part's own, so it is free. -/
def writeDoorCtrl (p : Path) (v : W32) (s : State) : Bool × State :=
  let op := fld v 15 12
  if 7 < op then (false, violation p doorCtrlAddr kindRange s)
  else if flag v 0 then (true, doorCommand op (fld v 3 1) (fld v 9 8) (freeValue s % 2 == 0) (tookFree s))
  else (true, doorCtrl op (fld v 3 1) (fld v 9 8) s)

/-- PWR_DOOR_RESP and PWR_DOOR_DATA. -/
def writeDoorBlock (i : Nat) (v : W32) (s : State) : State :=
  if i < 8 then { s with door := { s.door with resp := s.door.resp.set i v } }
  else { s with door := { s.door with data := s.door.data.set (i - 8) v } }

def writePwr (p : Path) (a off : Nat) (v : W32) (s : State) : Bool × State :=
  match off with
  | 0x000 => taken (writeMode (fld v 1 0)) s
  | 0x008 => regWake.write p a v s
  | 0x010 => taken (clearHeld v) s
  | 0x018 => (resetKeyOk v, softwareReset p v s)
  | 0x040 => taken (clearBothLost v) s
  | 0x100 => writeImgCtrl p v s
  | 0x200 => writeDoorCtrl p v s
  | _ => match wordIn off 0x230 16 with
    | some i => taken (writeDoorBlock i v) s
    | none => ignored s

/-! ### The whole space -/

/-- SAFE_ and PK_ registers take no write. -/
def writeWindow (win : Nat) (p : Path) (a off : Nat) (v : W32) (s : State) : Bool × State :=
  match win with
  | 0x1 => writeSm p a off v s
  | 0x2 => writeRx p a off v s
  | 0x3 => writeBat p a off v s
  | 0x4 => writeHist p a off v s
  | 0x5 => writeRej p a off v s
  | 0x6 => writeFs p a off v s
  | 0x8 => writeWq p a off v s
  | 0xA => writeLn p a off v s
  | 0xB => writeHk p a off v s
  | 0xC => writeTh p a off v s
  | 0xD => writeCal p a off v s
  | 0xE => writeRh p a off v s
  | 0xF => writePwr p a off v s
  | _ => ignored s

/-- A write of one word at an aligned address of Table 15.1. -/
def writeWord (p : Path) (a : Nat) (v : W32) (s : State) : Bool × State :=
  if a < 0x1000 then ignored s
  else if a < 0x2000 then writeCb p a (a - 0x1000) v s
  else if a < 0x100000 then writeWindow (a / 0x10000) p a (a % 0x10000) v s
  else if a < 0x1000000 then loadWindow p (a - 0x100000) v s
  else (false, violation p a kindReadOnly s)

/-- One word of a burst: CB_FIRST follows CB_PENDING from word to word (R511, R519). -/
def writeNext (p : Path) (a : Nat) (v : W32) (s : State) : Bool × State :=
  let x := writeWord p a v s
  (x.1, { x.2 with cb := x.2.cb.follow s.cb.pendingWord })

/-- Words written from `a` upward, each a write of its own (R511); the flag says whether all were taken. A write of one
word ends the transfer when it put the block into reset or Dark. -/
def writeWords (p : Path) (a : Nat) (ws : List W32) (s : State) : Bool × State :=
  match ws with
  | [] => (true, s)
  | v :: r =>
    if live s then
      let x := writeNext p a v s
      let y := writeWords p (a + 4) r x.2
      (x.1 && y.1, y.2)
    else (true, s)

end Sys2Proof.Machine
end

