-- ==== Sys2Proof/Machine/Registers.lean ====
section
/-! DEFINITION. The meanings of the register access commands (R7, R8, R10). -/

namespace Sys2Proof.Machine

/-- A single access that its path may make, to an address of Table 15.1; any other is ignored (R5). -/
def accessOk (p : Path) (a : Nat) : Bool := addressOk a && reaches p a

def execRegisterWrite (t : Nat) (path : Path) (addr : Nat) (value : W32) (s : State) : Host.Outcome State Fault Refusal :=
  act t s (fun u => if accessOk path addr then (writeWord path addr value u).2 else u)

/-- The RC fields clear with the read. -/
def execReadClear (t : Nat) (path : Path) (addr : Nat) (s : State) : Host.Outcome State Fault Refusal :=
  act t s (fun u => if accessOk path addr then readEffect addr u else u)

/-- The upper words of a wide value are captured with the read of its lowest. -/
def execWideReadCapture (t : Nat) (path : Path) (addr : Nat) (s : State) : Host.Outcome State Fault Refusal :=
  act t s (fun u => if accessOk path addr then readEffect addr u else u)

end Sys2Proof.Machine
end

