-- ==== Sys2Proof/Machine/Port.lean ====
section
/-! DEFINITION. The meanings of the house port's transactions (R509 to R515). A command is one transaction up to the
device's answer; HP_CS_RISE ends it. -/

namespace Sys2Proof.Machine

/-! ### Answers (Table 15.3) -/

def stDone : Nat := 0
def stHeader : Nat := 1
def stData : Nat := 2
def stAddress : Nat := 3
def stDiscarded : Nat := 4
def stNoStored : Nat := 5

/-- The device drives an answer. -/
def portAnswer (status : Nat) (ws : List W32) (crc : BitVec 16) (s : State) : State :=
  { s with port := { s.port with inTransaction := true, status := status, data := ws, dcrc := crc } }

/-- A failed header or data CRC: nothing is done, and the error counts. -/
def portError (status : Nat) (s : State) : State :=
  portAnswer status [] (respCrc status [])
    (setEvent evHousePort { s with cb := { s.cb with hpErr := inc32 s.cb.hpErr } })

/-- The answer of a read, kept as the stored response (R513). -/
def portStore (status : Nat) (ws : List W32) (s : State) : State :=
  let u := portAnswer status ws (respCrc status ws) s
  { u with port := { u.port with stored := some (status, ws, respCrc status ws) } }

/-- Every word of the burst lies inside one 4 KiB page of a region, at an aligned address. -/
def burstOk (a n : Nat) : Bool := addressOk a && decide (a / 4096 = (a + 4 * n - 1) / 4096)

/-- A transaction that HP_CS_N ends before it has taken effect (R514): nothing is read, written, stored, answered or counted. A
write is cut before the end of the second clock of the turnaround that follows DCRC, a read before its own turnaround ends. -/
def uncut (h : PortHead) (f : State → State) (s : State) : State := if h.cut then s else f s

/-- HCRC covers CMD and ADDR. -/
def headerOk (cmd : Byte) (a : Nat) (hcrc : Byte) : Bool := decide (hcrc.toNat = headerCrc cmd (a % 2 ^ 32))

/-- A new transaction needs the last one ended (HP_CS_N has risen). -/
def portFree (s : State) : Bool := !s.port.inTransaction

/-! ### Transactions -/

/-- A read: the words in one step, and the stored response. -/
def portRead (a n : Nat) (s : State) : State :=
  if burstOk a n then
    let r := readWords a n s
    portStore stDone r.1 r.2
  else portStore stAddress (List.replicate n 0) s

/-- A write whose DCRC passed. The answer is lost where a word of the burst has reset the block or sent it to Dark. -/
def portWrite (a : Nat) (ws : List W32) (s : State) : State :=
  if burstOk a ws.length then
    let r := writeWords .housePort a ws s
    if live r.2 then portAnswer (if r.1 then stDone else stDiscarded) [] (respCrc (if r.1 then stDone else stDiscarded) []) r.2
    else r.2
  else portAnswer stAddress [] (respCrc stAddress []) s

/-- The stored response again, or STATUS 0x05. -/
def portRepeat (s : State) : State :=
  match s.port.stored with
  | some r => portAnswer r.1 r.2.1 r.2.2 s
  | none => portAnswer stNoStored [] (respCrc stNoStored []) s

/-- A transaction of operation `op`: the header is checked, then `f` runs. -/
def transaction (op : Nat) (cmd : Byte) (a : Nat) (hcrc : Byte) (f : State → State) (s : State) : State :=
  if !portFree s then s
  else if !headerOk cmd a hcrc || cmdOp cmd != op then portError stHeader s
  else f s

def execHpRead (t : Nat) (cmd : Byte) (addr : Nat) (head : PortHead) (s : State) : Host.Outcome State Fault Refusal :=
  act t s (uncut head (transaction 0 cmd addr head.crc (portRead (addr % 2 ^ 32) (cmdWords cmd))))

/-- The data words, their count as CMD gives it, under DCRC. -/
def execHpWrite (t : Nat) (cmd : Byte) (addr : Nat) (head : PortHead) (data : List W32) (dcrc : BitVec 16) (s : State) :
    Host.Outcome State Fault Refusal :=
  act t s (uncut head (transaction 1 cmd addr head.crc (fun u =>
    if data.length ≠ cmdWords cmd ∨ dcrc ≠ dataCrc data then portError stData u
    else portWrite (addr % 2 ^ 32) data u)))

def execHpRepeat (t : Nat) (cmd : Byte) (addr : Nat) (head : PortHead) (s : State) : Host.Outcome State Fault Refusal :=
  act t s (uncut head (transaction 2 cmd addr head.crc portRepeat))

/-- OP 3, or a header whose CRC fails; a header that is sound and valid is no such transaction. -/
def execHpInvalidOp (t : Nat) (cmd : Byte) (addr : Nat) (hcrc : Byte) (s : State) : Host.Outcome State Fault Refusal :=
  act t s (fun u =>
    if portFree u && (!headerOk cmd addr hcrc || cmdOp cmd == 3) then portError stHeader u else u)

/-- HP_CS_N rises: the device stops driving; the stored response stays. -/
def endTransaction (s : State) : State :=
  { s with port := { s.port with inTransaction := false, status := 0, data := [], dcrc := 0 } }

def execHpCsRise (t : Nat) (s : State) : Host.Outcome State Fault Refusal := act t s endTransaction

end Sys2Proof.Machine
end

