-- ==== Sys2Proof/Machine/LaneAccess.lean ====
section
/-! DEFINITION. The meanings of the VC0 messages that reach the register space, of the lane-commanded reset, and of the
routing of VC5 (R391, R395, R404, R494). -/

namespace Sys2Proof.Machine

/-- The path of an access from house lane `l`. -/
def lanePath (l : Nat) : Path := if l = 0 then .hl0 else .hl1

/-! ### READ and WRITE -/

/-- READ of `n` words: an address error answers status 1 and no words. -/
def readMessage (a n : Nat) (s : State) : State :=
  if 1 ≤ n && decide (n ≤ 64) && (List.range n).all (fun i => addressOk (a + 4 * i)) then
    let r := readWords a n s
    sendHouse 0 0x02 (leBytes 4 a ++ leBytes 4 0 ++ wordBytes r.1) r.2
  else sendHouse 0 0x02 (leBytes 4 a ++ leBytes 4 1) s

/-- Words of a WRITE, each a write of its own; one at a wrong address is not made. The flag says whether all addresses
were right. -/
def writeEach (p : Path) (a : Nat) (ws : List W32) (s : State) : Bool × State :=
  match ws with
  | [] => (true, s)
  | v :: r =>
    if live s then
      let x := if addressOk a then (writeNext p a v s).2 else s
      let y := writeEach p (a + 4) r x
      (addressOk a && y.1, y.2)
    else (true, s)

/-- WRITE of up to 64 words; the answer is lost where the write has reset the block or sent it to Dark. -/
def writeMessage (l a : Nat) (ws : List W32) (s : State) : State :=
  let r := writeEach (lanePath l) a (ws.take 64) s
  sendHouse 0 0x04 (leBytes 4 a ++ leBytes 4 (bn (!r.1))) r.2

def laneRead (l a n : Nat) (s : State) : State :=
  if fromHouse s l then readMessage (a % 2 ^ 32) n (takeMessage l 0 8 s) else s

def laneWrite (l a : Nat) (ws : List W32) (s : State) : State :=
  if fromHouse s l then writeMessage l (a % 2 ^ 32) ws (takeMessage l 0 (4 + 4 * ws.length) s) else s

def execLaneRead (t : Nat) (lane addr words : Nat) (s : State) : Host.Outcome State Fault Refusal :=
  act t s (laneRead lane addr words)

def execLaneWrite (t : Nat) (lane addr : Nat) (words : List W32) (s : State) : Host.Outcome State Fault Refusal :=
  act t s (laneWrite lane addr words)

/-! ### IMAGE -/

/-- The 32-bit writes of the load window, by word number, that `n` bytes at offset `o` make. -/
def windowWords (o n : Nat) : List Nat :=
  (List.range ((o + n + 3) / 4 - o / 4)).map (fun i => o / 4 + i)

/-- Writes that the window discards, each a violation of its own at its own address (R520). -/
def discardWords (p : Path) (kind : Nat) (ws : List Nat) (s : State) : State :=
  ws.foldl (fun u w => violation p (loadBase + 4 * w) kind u) s

/-- Bytes for the load window: what the shown buffer holds is written, the rest is discarded by the window's rule. -/
def imageBytes (p : Path) (o : Nat) (bs : List Byte) (s : State) : State :=
  let room := (if s.img.kind then 65536 else 0x100000) - o
  let ws := if bs.isEmpty then [] else windowWords o bs.length
  if s.img.load.isSome then discardWords p kindBusy ws s
  else
    let u := if room = 0 then s else stageBytes (stagingOffset s o) (bs.take room) s
    if s.img.kind then discardWords p kindRule (ws.filter (fun w => decide (16384 ≤ w))) u else u

def laneImage (l o : Nat) (bs : List Byte) (s : State) : State :=
  if fromHouse s l then imageBytes (lanePath l) o bs (takeMessage l 0 (4 + bs.length) s) else s

def execLaneImage (t : Nat) (lane offset : Nat) (bytes : List Byte) (s : State) : Host.Outcome State Fault Refusal :=
  act t s (laneImage lane offset bytes)

/-! ### QCMD -/

/-- On a link of version 1.0 only RELEASE is a queue command (Table 11.4). -/
def qcmdOk (s : State) (l : Nat) (cmd : W32) : Bool :=
  decide (0x11 ≤ (getLane s l).ver) || fld cmd 31 28 == opRelease

/-- The two words are written, and WQ_CMD_RES answers. -/
def queueMessage (l : Nat) (cmd arg : W32) (s : State) : State :=
  let u := (wqCommand (lanePath l) cmd { s with wq := { s.wq with cmdArg := arg } }).2
  sendHouse 0 0x07 (leBytes 4 (wqCmdRes u).toNat) u

def laneQcmd (l : Nat) (cmd arg : W32) (s : State) : State :=
  if !fromHouse s l then s
  else if qcmdOk s l cmd then queueMessage l cmd arg (takeMessage l 0 8 s)
  else refuseFrame l s

def execLaneQcmd (t : Nat) (lane : Nat) (cmd arg : W32) (s : State) : Host.Outcome State Fault Refusal :=
  act t s (laneQcmd lane cmd arg)

/-! ### RESET (R494) -/

/-- PWR_IMG_ACTIVE. -/
def activeSerial (s : State) : Nat := (s.img.active.map Image.serial).getD 0

/-- Status of the answer: 0 accepted, 2 version mismatch, 3 serial mismatch. -/
def resetStatus (zlVer : Nat) (serial : W32) (s : State) : Nat :=
  if zlVer ≠ 0x12 then 2
  else if serial.toNat = activeSerial s ∨ serial = 0xFFFFFFFF#32 then 0
  else 3

/-- The reset begins 10 µs after the answer, whose frame is taken to leave the lane at once (DESIGN CHOICE,
notes/assumptions/40.md). Until then the device runs; the first command that comes later finds it reset. -/
def resetLater (s : State) : State :=
  { s with pwr := { s.pwr with resetAt := some (s.pwr.resetAt.getD (s.now + 10 * usTicks)) } }

/-- What the block does of its own on an empty queue: an accepted lane-commanded reset begins. -/
def idle (s : State) : State :=
  if s.pwr.resetAt.isSome then settle s (waitingReset s) else s

/-- Each frame of VC `vc` that is dropped, of a message with `n` bytes, adds to LN_CNT_ROUTE (R404). -/
def dropRoute (l vc n : Nat) (s : State) : State :=
  updLane l (fun v => { v with cntRoute := satAdd 32 v.cntRoute (framesOf v vc n) }) s

def resetMessage (zlVer : Nat) (serial : W32) (s : State) : State :=
  let st := resetStatus zlVer serial s
  let u := sendHouse 0 0x04 (leBytes 4 0xFFFFFFF0 ++ leBytes 4 st) s
  if st = 0 then resetLater u else u

def laneReset (l zlVer : Nat) (serial : W32) (s : State) : State :=
  if fromHouse s l then resetMessage zlVer serial (takeMessage l 0 8 s)
  else if isLane l && laneTrained s l then dropRoute l 0 8 (takeMessage l 0 8 s)
  else s

def execLaneReset (t : Nat) (lane zlVer : Nat) (serial : W32) (s : State) : Host.Outcome State Fault Refusal :=
  act t s (laneReset lane zlVer serial)

/-! ### Messages by VC and TYPE -/

/-- The types of Table 11.8, but for CAPS, which travels only in training. -/
def typeOk (vc type : Nat) : Bool :=
  match vc with
  | 0 => decide (1 ≤ type) && decide (type ≤ 0xB)
  | 1 => decide (1 ≤ type) && decide (type ≤ 6)
  | 2 | 3 | 4 | 5 => type == 1
  | _ => false

/-- 32-bit words of a payload from offset `o`. -/
def wordsAt (bs : List Byte) (o : Nat) : List W32 :=
  (List.range ((bs.length - o) / 4)).map (fun i => w32 (le bs (o + 4 * i) 4))

/-- A VC0 message of the house link that has come by lane `l`: answers and TOPO messages ask for nothing. -/
def houseVc0 (l type : Nat) (bs : List Byte) (s : State) : State :=
  match type with
  | 0x01 => readMessage (le bs 0 4) (le bs 4 4) s
  | 0x03 => writeMessage l (le bs 0 4) (wordsAt bs 4) s
  | 0x05 => imageBytes (lanePath l) (le bs 0 4) (bs.drop 4) s
  | 0x06 => if qcmdOk s l (w32 (le bs 0 4)) then queueMessage l (w32 (le bs 0 4)) (w32 (le bs 4 4)) s else frameError l s
  | 0x09 => if s.ln.root then s else setAddress (le bs 0 2) (le bs 2 1) (le bs 3 1) (le bs 4 1) s
  | 0x0B => resetMessage (le bs 0 1) (w32 (le bs 4 4)) s
  | _ => s

/-- A VC1 message of the house link. -/
def houseVc1 (l type : Nat) (bs : List Byte) (s : State) : State :=
  match type with
  | 0x01 => submit { cue := cueOfBytes bs, source := .lane l } s
  | 0x03 => if calendarOk s l then queueCalendar l bs s else frameError l s
  | 0x04 => abortMessage (le bs 0 2) s
  | _ => s

/-- A message handled as a native one from the house link. One of no valid VC and TYPE is discarded and counted. -/
def houseMessage (l vc type : Nat) (bs : List Byte) (s : State) : State :=
  if !typeOk vc type then frameError l s
  else
    match vc with
    | 0 => houseVc0 l type bs s
    | 1 => houseVc1 l type bs s
    | 2 => sirelFrameFree l bs s
    | _ => s

/-! ### Routing (R404) -/

/-- The stage lane behind which address `d` lies. -/
def routeTo (s : State) (d : Nat) : Option Nat :=
  [2, 3].find? (fun l => laneTrained s l && decide ((getLane s l).childAddr ≤ d)
    && decide (d < (getLane s l).childAddr + (getLane s l).childSize))

/-- VC5 runs on the link of lane `l` (Table 11.4). -/
def routedOk (s : State) (l : Nat) : Bool := decide (0x11 ≤ (getLane s l).ver)

/-- A routed frame from the house link. -/
def routeDown (l : Nat) (r : Route) (bs : List Byte) (s : State) : State :=
  let u := takeRouted l r bs.length s
  if !s.ln.addressed || r.epoch != s.ln.epoch then dropRoute l 5 bs.length u
  else if r.dest = s.ln.addr then houseMessage l r.innerVc r.innerType bs u
  else
    match routeTo s r.dest with
    | none => dropRoute l 5 bs.length u
    | some k =>
      if r.dest = (getLane s k).childAddr then sendMsg k r.innerVc r.innerType bs u
      else if (getLane s k).caps.any Caps.fwd && routedOk s k then sendRouted k r bs u
      else dropRoute l 5 bs.length u

/-- The house lane that takes VC5; a link of version 1.0 has none (R391). -/
def upstreamLane (s : State) : Option Nat := if oldHouse s then none else houseLane s

/-- A message that came on VC `vc` of lane `l` goes upstream. Without a VC5 there it is dropped, and so it is by a device
that has no address (R403). -/
def routeUp (l vc : Nat) (r : Route) (bs : List Byte) (s : State) : State :=
  match upstreamLane s with
  | some k => if s.ln.addressed then sendRouted k r bs s else dropRoute l vc bs.length s
  | none => dropRoute l vc bs.length s

/-- A VC5 frame from a child goes up unchanged but for HOPS. -/
def passUp (l : Nat) (r : Route) (bs : List Byte) (s : State) : State :=
  routeUp l 5 { r with hops := (r.hops + 1) % 256 } bs (takeRouted l r bs.length s)

/-- A frame of VC5; on a link of version 1.0 its VC is invalid (R390, R393). -/
def laneRouted (l : Nat) (r : Route) (bs : List Byte) (s : State) : State :=
  if !(isLane l && laneTrained s l) then s
  else if !routedOk s l then refuseFrame l s
  else if l < 2 then routeDown l r bs s
  else passUp l r bs s

def execLaneRouted (t : Nat) (lane : Nat) (route : Route) (payload : List Byte) (s : State) :
    Host.Outcome State Fault Refusal :=
  act t s (laneRouted lane route payload)

/-! ### Native frames from a child -/

/-- The route header of a child's frame. DEST of what goes upstream is stated nowhere, so it is free. -/
def childRoute (s : State) (l vc type : Nat) : Route :=
  { dest := freeValue s % 1024, src := (getLane s l).childAddr, epoch := s.ln.epoch, innerVc := vc, innerType := type,
    hops := 0 }

/-- A frame that is wrapped and sent upstream. -/
def wrapUp (l vc type : Nat) (bs : List Byte) (s : State) : State :=
  routeUp l vc (childRoute s l vc type) bs (tookFree (takeMessage l vc bs.length s))

/-- A DECISION that the device expects from lane `l`: for the split cue that waits, or for one that was dropped. -/
def awaits (s : State) (l : Nat) : Bool :=
  decide (0 < (getLane s l).lateDec) || s.sm.deciding.any (fun d => (findCue s d.1).any (fun e => e.guests.any (fun g => g.lane == l && g.accepted.isNone)))

/-- The completion record of a guest part: one that runs, or one that was aborted with no parent left. -/
def guestRuns (s : State) (l h : Nat) : Bool :=
  (getLane s l).deadEnds.contains h || (handles s).any (fun k => (findCue s k).any (fun e => e.guests.any (GuestPart.isRunning l h)))

/-- A completion record (Table 7.8) as a guest sends it. -/
def cueEndOf (bs : List Byte) : CueEnd :=
  { handle := le bs 0 2, status := le bs 4 1, reason := le bs 5 1, worst := le bs 6 1, flags := le bs 7 1,
    players := le bs 8 2, points := le bs 0xC 4, returns := le bs 0x10 4, noreturns := le bs 0x14 4,
    refused := le bs 0x18 2 }

/-- An ABORT_RSP that the device's own ABORT asked for. -/
def takeAbortRsp (l : Nat) (s : State) : State :=
  updLane l (fun v => { v with owed := v.owed - 1 }) (takeMessage l 1 4 s)

/-- The route header of a VC5 payload (R395). -/
def routeOf (bs : List Byte) : Route :=
  { dest := le bs 0 2 % 1024, src := le bs 2 2 % 1024, epoch := le bs 4 1, innerVc := le bs 5 1 % 8,
    innerType := le bs 5 1 / 8, hops := le bs 6 1 }

/-- A native frame from a child: TOPO_UP and answers to the device's own messages are consumed, a RESET is discarded
(R494), every other goes upstream. -/
def childMessage (l vc type : Nat) (bs : List Byte) (s : State) : State :=
  if !typeOk vc type || (vc == 5 && !routedOk s l) then refuseFrame l s
  else if vc = 5 then passUp l (routeOf bs) (bs.drop 8) s
  else if vc = 0 ∧ type = 0x08 then topoUp l (le bs 0 2) s
  else if vc = 0 ∧ type = 0x0B then dropRoute l 0 8 (takeMessage l 0 8 s)
  else if vc = 1 ∧ type = 0x02 ∧ awaits s l then guestDecision l (w32 (le bs 0 4)) (le bs 8 2) s
  else if vc = 1 ∧ type = 0x05 ∧ 0 < (getLane s l).owed then takeAbortRsp l s
  else if vc = 1 ∧ type = 0x06 ∧ guestRuns s l (le bs 0 2) then guestEnd l (cueEndOf bs) s
  else wrapUp l vc type bs s

def laneChildFrame (l vc type : Nat) (bs : List Byte) (s : State) : State :=
  if 2 ≤ l && isLane l && laneTrained s l then childMessage l vc type bs s else s

def execLaneChildFrame (t : Nat) (lane vc type : Nat) (payload : List Byte) (s : State) :
    Host.Outcome State Fault Refusal :=
  act t s (laneChildFrame lane vc type payload)

end Sys2Proof.Machine
end

