-- ==== Sys2Proof/Machine/Dispatch.lean ====
section
/-! DEFINITION. The dispatch: one arm per command, each a direct call of the command's meaning. -/

namespace Sys2Proof.Machine

def exec (i : Instr) (s : State) : Host.Outcome State Fault Refusal :=
  match i with
  | .registerWrite t path addr value => Sys2Proof.Machine.execRegisterWrite t path addr value s
  | .readClear t path addr => Sys2Proof.Machine.execReadClear t path addr s
  | .wideReadCapture t path addr => Sys2Proof.Machine.execWideReadCapture t path addr s
  | .powerOnReset t => Sys2Proof.Machine.execPowerOnReset t s
  | .supplyReset t rail below => Sys2Proof.Machine.execSupplyReset t rail below s
  | .resetNAssert t low => Sys2Proof.Machine.execResetNAssert t low s
  | .resetRelease t strap held obs => Sys2Proof.Machine.execResetRelease t strap held obs s
  | .dressRehearsalEnd t => Sys2Proof.Machine.execDressRehearsalEnd t s
  | .resetHeldTimeout t ms => Sys2Proof.Machine.execResetHeldTimeout t ms s
  | .softwareReset t path value => Sys2Proof.Machine.execSoftwareReset t path value s
  | .laneReset t lane zlVer serial => Sys2Proof.Machine.execLaneReset t lane zlVer serial s
  | .referenceWindow t sysclk edges => Sys2Proof.Machine.execReferenceWindow t sysclk edges s
  | .referenceLoss t edges => Sys2Proof.Machine.execReferenceLoss t edges s
  | .clockCheck t companion flyman => Sys2Proof.Machine.execClockCheck t companion flyman s
  | .modeReqShow t path => Sys2Proof.Machine.execModeReqShow t path s
  | .modeReqStandby t path => Sys2Proof.Machine.execModeReqStandby t path s
  | .modeReqDark t path => Sys2Proof.Machine.execModeReqDark t path s
  | .enterShow t => Sys2Proof.Machine.execEnterShow t s
  | .wakeHousePort t low => Sys2Proof.Machine.execWakeHousePort t low s
  | .wakeSafetyInput t persist => Sys2Proof.Machine.execWakeSafetyInput t persist s
  | .wakeTimer t => Sys2Proof.Machine.execWakeTimer t s
  | .holdExpiry t => Sys2Proof.Machine.execHoldExpiry t s
  | .emitterCloseStart t in30a in31a in30b in31b in30c => Sys2Proof.Machine.execEmitterCloseStart t in30a in31a in30b in31b in30c s
  | .emitterReadbackSample t in30 in31 => Sys2Proof.Machine.execEmitterReadbackSample t in30 in31 s
  | .switchFault t => Sys2Proof.Machine.execSwitchFault t s
  | .doorChallenge t path scope => Sys2Proof.Machine.execDoorChallenge t path scope s
  | .doorUnlockKey t path readback => Sys2Proof.Machine.execDoorUnlockKey t path readback s
  | .doorUnlockPw t path readback => Sys2Proof.Machine.execDoorUnlockPw t path readback s
  | .doorClose t path => Sys2Proof.Machine.execDoorClose t path s
  | .doorProgSlot t path slot readback => Sys2Proof.Machine.execDoorProgSlot t path slot readback s
  | .doorRevoke t path slot readback => Sys2Proof.Machine.execDoorRevoke t path slot readback s
  | .doorRetire t path readback => Sys2Proof.Machine.execDoorRetire t path readback s
  | .challengeExpiry t => Sys2Proof.Machine.execChallengeExpiry t s
  | .doorWaitExpiry t => Sys2Proof.Machine.execDoorWaitExpiry t s
  | .loadWindowWrite t path offset value => Sys2Proof.Machine.execLoadWindowWrite t path offset value s
  | .imageGo t path => Sys2Proof.Machine.execImageGo t path s
  | .imageAbort t path => Sys2Proof.Machine.execImageAbort t path s
  | .patchCancel t path => Sys2Proof.Machine.execPatchCancel t path s
  | .imageChecksEnd t => Sys2Proof.Machine.execImageChecksEnd t s
  | .bootFetchDone t copy single bytes => Sys2Proof.Machine.execBootFetchDone t copy single bytes s
  | .laneImage t lane offset bytes => Sys2Proof.Machine.execLaneImage t lane offset bytes s
  | .calRunTap t path => Sys2Proof.Machine.execCalRunTap t path s
  | .calRunConv t path => Sys2Proof.Machine.execCalRunConv t path s
  | .calRunSkew t path => Sys2Proof.Machine.execCalRunSkew t path s
  | .calRunBd t path => Sys2Proof.Machine.execCalRunBd t path s
  | .codeDensityRunEnd t counts => Sys2Proof.Machine.execCodeDensityRunEnd t counts s
  | .breakdownSearchEnd t found => Sys2Proof.Machine.execBreakdownSearchEnd t found s
  | .calEntryComplete t entry => Sys2Proof.Machine.execCalEntryComplete t entry s
  | .edelayRemeasure t batten => Sys2Proof.Machine.execEdelayRemeasure t batten s
  | .tapRecalTrigger t => Sys2Proof.Machine.execTapRecalTrigger t s
  | .biasTargetUpdate t => Sys2Proof.Machine.execBiasTargetUpdate t s
  | .eyeMonitor t lane width height => Sys2Proof.Machine.execEyeMonitor t lane width height s
  | .sliceStart t kind inst => Sys2Proof.Machine.execSliceStart t kind inst s
  | .sliceEnd t kind failing pass codes => Sys2Proof.Machine.execSliceEnd t kind failing pass codes s
  | .slicePreempt t kind => Sys2Proof.Machine.execSlicePreempt t kind s
  | .sliceStarved t kind inst => Sys2Proof.Machine.execSliceStarved t kind inst s
  | .slotBoundary t => Sys2Proof.Machine.execSlotBoundary t s
  | .shotStart t batten => Sys2Proof.Machine.execShotStart t batten s
  | .listenOpen t channel interval => Sys2Proof.Machine.execListenOpen t channel interval s
  | .spadEvent t channel spad sub => Sys2Proof.Machine.execSpadEvent t channel spad sub s
  | .ringHoldEnd t channel => Sys2Proof.Machine.execRingHoldEnd t channel s
  | .blankIntervalEnd t channel => Sys2Proof.Machine.execBlankIntervalEnd t channel s
  | .shotTimeout t channel => Sys2Proof.Machine.execShotTimeout t channel s
  | .tpllUnlock loss => Sys2Proof.Machine.execTpllUnlock loss s
  | .biasOkFall t => Sys2Proof.Machine.execBiasOkFall t s
  | .rxCntSelWrite t path value => Sys2Proof.Machine.execRxCntSelWrite t path value s
  | .phLockRise t good => Sys2Proof.Machine.execPhLockRise t good s
  | .phLockFall t bad => Sys2Proof.Machine.execPhLockFall t bad s
  | .pulseSenseReady t batten peak integral => Sys2Proof.Machine.execPulseSenseReady t batten peak integral s
  | .offTimeSample t samples => Sys2Proof.Machine.execOffTimeSample t samples s
  | .govBucketAdvance t window => Sys2Proof.Machine.execGovBucketAdvance t window s
  | .driveLevelUpdate t group => Sys2Proof.Machine.execDriveLevelUpdate t group s
  | .batCsClr t path => Sys2Proof.Machine.execBatCsClr t path s
  | .batSwClr t path => Sys2Proof.Machine.execBatSwClr t path s
  | .batGovClr t path => Sys2Proof.Machine.execBatGovClr t path s
  | .shotResultAccumulate t channel => Sys2Proof.Machine.execShotResultAccumulate t channel s
  | .filterStart t => Sys2Proof.Machine.execFilterStart t s
  | .filterDone t engine => Sys2Proof.Machine.execFilterDone t engine s
  | .feStopSet t path engine => Sys2Proof.Machine.execFeStopSet t path engine s
  | .feStopClear t path engine => Sys2Proof.Machine.execFeStopClear t path engine s
  | .filterEngineStopped t engine => Sys2Proof.Machine.execFilterEngineStopped t engine s
  | .ftaGateClose t => Sys2Proof.Machine.execFtaGateClose t s
  | .ftaFitDone t => Sys2Proof.Machine.execFtaFitDone t s
  | .cueSubmit t path => Sys2Proof.Machine.execCueSubmit t path s
  | .cueSubmitTemplate t path idx => Sys2Proof.Machine.execCueSubmitTemplate t path idx s
  | .admissionDecision t => Sys2Proof.Machine.execAdmissionDecision t s
  | .laneCue t lane rec => Sys2Proof.Machine.execLaneCue t lane rec s
  | .laneCalendar t lane bytes => Sys2Proof.Machine.execLaneCalendar t lane bytes s
  | .unpackDone t => Sys2Proof.Machine.execUnpackDone t s
  | .cueAbort t path handle => Sys2Proof.Machine.execCueAbort t path handle s
  | .laneAbort t lane handle => Sys2Proof.Machine.execLaneAbort t lane handle s
  | .calendarAdvance t => Sys2Proof.Machine.execCalendarAdvance t s
  | .triggerSample t => Sys2Proof.Machine.execTriggerSample t s
  | .triggerTimeout t unit => Sys2Proof.Machine.execTriggerTimeout t unit s
  | .triggerSoftware t path unit => Sys2Proof.Machine.execTriggerSoftware t path unit s
  | .capacityMeasure t resource rate => Sys2Proof.Machine.execCapacityMeasure t resource rate s
  | .promiseConditionClear t code => Sys2Proof.Machine.execPromiseConditionClear t code s
  | .calendarSelect t path group => Sys2Proof.Machine.execCalendarSelect t path group s
  | .cueSelect t path index => Sys2Proof.Machine.execCueSelect t path index s
  | .loopPeriod t pos missed => Sys2Proof.Machine.execLoopPeriod t pos missed s
  | .sceneProgramStart t => Sys2Proof.Machine.execSceneProgramStart t s
  | .fsHold t path => Sys2Proof.Machine.execFsHold t path s
  | .fsRelease t path => Sys2Proof.Machine.execFsRelease t path s
  | .fsRunSet t path => Sys2Proof.Machine.execFsRunSet t path s
  | .fsRunClear t path => Sys2Proof.Machine.execFsRunClear t path s
  | .fsFeClr t path => Sys2Proof.Machine.execFsFeClr t path s
  | .safetyBoundary t mainOk flyOk => Sys2Proof.Machine.execSafetyBoundary t mainOk flyOk s
  | .permitMessage t period valid => Sys2Proof.Machine.execPermitMessage t period valid s
  | .permitTimeout t => Sys2Proof.Machine.execPermitTimeout t s
  | .curtainRaise t a1 b1 a2 b2 => Sys2Proof.Machine.execCurtainRaise t a1 b1 a2 b2 s
  | .testPulse t output at150 at250 interrupted => Sys2Proof.Machine.execTestPulse t output at150 at250 interrupted s
  | .safeOutputOvercurrent t output milliamps lasted => Sys2Proof.Machine.execSafeOutputOvercurrent t output milliamps lasted s
  | .safetyInputSample t levels => Sys2Proof.Machine.execSafetyInputSample t levels s
  | .sinDiscrepancy t input => Sys2Proof.Machine.execSinDiscrepancy t input s
  | .sirelCommand t lane frame => Sys2Proof.Machine.execSirelCommand t lane frame s
  | .sirelPrepare t lane frame => Sys2Proof.Machine.execSirelPrepare t lane frame s
  | .sirelConfirm t lane frame readback => Sys2Proof.Machine.execSirelConfirm t lane frame readback s
  | .sirelTimeout t => Sys2Proof.Machine.execSirelTimeout t s
  | .commissionWindowExpiry t => Sys2Proof.Machine.execCommissionWindowExpiry t s
  | .d2dMessage t link idle valid seq => Sys2Proof.Machine.execD2dMessage t link idle valid seq s
  | .d2dLinkLost t link => Sys2Proof.Machine.execD2dLinkLost t link s
  | .d2dLinkTimeout t link => Sys2Proof.Machine.execD2dLinkTimeout t link s
  | .d2dLinkUp t link => Sys2Proof.Machine.execD2dLinkUp t link s
  | .wqFlush t path queue => Sys2Proof.Machine.execWqFlush t path queue s
  | .wqMark t path queue => Sys2Proof.Machine.execWqMark t path queue s
  | .wqClearMark t path queue => Sys2Proof.Machine.execWqClearMark t path queue s
  | .wqRewind t path queue => Sys2Proof.Machine.execWqRewind t path queue s
  | .wqRelease t path queue n => Sys2Proof.Machine.execWqRelease t path queue n s
  | .wqRead t path queue => Sys2Proof.Machine.execWqRead t path queue s
  | .wqDone t path queue => Sys2Proof.Machine.execWqDone t path queue s
  | .wqResync t path => Sys2Proof.Machine.execWqResync t path s
  | .pinnedCommandResume t queue => Sys2Proof.Machine.execPinnedCommandResume t queue s
  | .packerGroupStart t lane contextOk verifyOk => Sys2Proof.Machine.execPackerGroupStart t lane contextOk verifyOk s
  | .readComplete t lane => Sys2Proof.Machine.execReadComplete t lane s
  | .laneLeaveOff t lane => Sys2Proof.Machine.execLaneLeaveOff t lane s
  | .laneDetectProbe t lane found => Sys2Proof.Machine.execLaneDetectProbe t lane found s
  | .laneBaseLock t lane seen inverted index => Sys2Proof.Machine.execLaneBaseLock t lane seen inverted index s
  | .laneBaseTimeout t lane => Sys2Proof.Machine.execLaneBaseTimeout t lane s
  | .laneCaps t lane caps acked => Sys2Proof.Machine.execLaneCaps t lane caps acked s
  | .laneExchangeTimeout t lane => Sys2Proof.Machine.execLaneExchangeTimeout t lane s
  | .laneRateAccept t lock => Sys2Proof.Machine.execLaneRateAccept t lock s
  | .laneRateTimeout t lane => Sys2Proof.Machine.execLaneRateTimeout t lane s
  | .laneDelayDone t lane => Sys2Proof.Machine.execLaneDelayDone t lane s
  | .laneRetrain t path lane => Sys2Proof.Machine.execLaneRetrain t path lane s
  | .laneRetry t path lane => Sys2Proof.Machine.execLaneRetry t path lane s
  | .laneDisable t path lane => Sys2Proof.Machine.execLaneDisable t path lane s
  | .laneSignalLoss t lane lasted => Sys2Proof.Machine.execLaneSignalLoss t lane lasted s
  | .laneTerminationChange t lane => Sys2Proof.Machine.execLaneTerminationChange t lane s
  | .blockLockLoss t lane invalid => Sys2Proof.Machine.execBlockLockLoss t lane invalid s
  | .fecUncLimit t lane words => Sys2Proof.Machine.execFecUncLimit t lane words s
  | .retrainLock t lock => Sys2Proof.Machine.execRetrainLock t lock s
  | .retrainTimeout t lane => Sys2Proof.Machine.execRetrainTimeout t lane s
  | .laneBadFrame t lane what => Sys2Proof.Machine.execLaneBadFrame t lane what s
  | .laneCredit t lane vc count afseq ack nak => Sys2Proof.Machine.execLaneCredit t lane vc count afseq ack nak s
  | .replayTimeout t lane => Sys2Proof.Machine.execReplayTimeout t lane s
  | .laneRead t lane addr words => Sys2Proof.Machine.execLaneRead t lane addr words s
  | .laneWrite t lane addr words => Sys2Proof.Machine.execLaneWrite t lane addr words s
  | .laneQcmd t lane cmd arg => Sys2Proof.Machine.execLaneQcmd t lane cmd arg s
  | .laneTopoUp t lane size => Sys2Proof.Machine.execLaneTopoUp t lane size s
  | .laneAddr t lane addr epoch hostVer depth => Sys2Proof.Machine.execLaneAddr t lane addr epoch hostVer depth s
  | .laneRouted t lane route payload => Sys2Proof.Machine.execLaneRouted t lane route payload s
  | .laneChildFrame t lane vc type payload => Sys2Proof.Machine.execLaneChildFrame t lane vc type payload s
  | .laneDecision t lane res start peak => Sys2Proof.Machine.execLaneDecision t lane res start peak s
  | .laneCueEnd t lane rec => Sys2Proof.Machine.execLaneCueEnd t lane rec s
  | .timeSync t lane t1 => Sys2Proof.Machine.execTimeSync t lane t1 s
  | .timeDreq t lane t3 => Sys2Proof.Machine.execTimeDreq t lane t3 s
  | .timeDrsp t lane t4 => Sys2Proof.Machine.execTimeDrsp t lane t4 s
  | .syncSend t => Sys2Proof.Machine.execSyncSend t s
  | .cueBusWord t window code parity pos => Sys2Proof.Machine.execCueBusWord t window code parity pos s
  | .hkConversion t conv input code ovr more => Sys2Proof.Machine.execHkConversion t conv input code ovr more s
  | .hkUrgentRequest t path input => Sys2Proof.Machine.execHkUrgentRequest t path input s
  | .auxSample t code ovr current compliance => Sys2Proof.Machine.execAuxSample t code ovr current compliance s
  | .auxMeasurementEnd t => Sys2Proof.Machine.execAuxMeasurementEnd t s
  | .loopUpdate t measured => Sys2Proof.Machine.execLoopUpdate t measured s
  | .loopFaultClear t path => Sys2Proof.Machine.execLoopFaultClear t path s
  | .thermalStep t => Sys2Proof.Machine.execThermalStep t s
  | .thermalShutdownClear t path => Sys2Proof.Machine.execThermalShutdownClear t path s
  | .supplyWarningEnter t rail lasted => Sys2Proof.Machine.execSupplyWarningEnter t rail lasted s
  | .supplyWarningLeave t rail lasted => Sys2Proof.Machine.execSupplyWarningLeave t rail lasted s
  | .droopFall t millivolts => Sys2Proof.Machine.execDroopFall t millivolts s
  | .droopRaise t => Sys2Proof.Machine.execDroopRaise t s
  | .hpRead t cmd addr hcrc => Sys2Proof.Machine.execHpRead t cmd addr hcrc s
  | .hpWrite t cmd addr hcrc data dcrc => Sys2Proof.Machine.execHpWrite t cmd addr hcrc data dcrc s
  | .hpRepeat t cmd addr hcrc => Sys2Proof.Machine.execHpRepeat t cmd addr hcrc s
  | .hpInvalidOp t cmd addr hcrc => Sys2Proof.Machine.execHpInvalidOp t cmd addr hcrc s
  | .hpCsRise t => Sys2Proof.Machine.execHpCsRise t s
  | .safeOutputReadbackSample t output pins => Sys2Proof.Machine.execSafeOutputReadbackSample t output pins s
  | .ghostLightSinChange t channel high => Sys2Proof.Machine.execGhostLightSinChange t channel high s
  | .tickLockRise t => Sys2Proof.Machine.execTickLockRise t s
  | .biasOkRise t => Sys2Proof.Machine.execBiasOkRise t s

end Sys2Proof.Machine
end

