-- ==== Sys2Proof/Safety.lean ====
section
/-! DEFINITION. The terms that statements use: how a command completes, the invariant that every step keeps, and the
canonical form of the addressed buffers. -/

namespace Sys2Proof.Machine

/-- The command completes: it answers a next state, and the next state has `P`. -/
def Yields (o : Host.Outcome State Fault Refusal) (P : State → Prop) : Prop := ∃ u, o = .next u ∧ P u

/-- R301: the curtain is up only while every condition of Table 9.1 holds. -/
def CurtainSound (s : State) : Prop := s.saf.curtain = true → curtainAllowed s = true

/-- R519: CB_FIRST.VALID reads 1 exactly while CB_PENDING is not 0. -/
def BoardSound (s : State) : Prop := s.cb.firstValid = true ↔ s.cb.pendingWord ≠ 0

/-- The invariant that every step keeps, from any state. -/
def Inv (s : State) : Prop := CurtainSound s ∧ BoardSound s

/-- The staging areas and the cell pool are in canonical form. -/
def BuffersSound (s : State) : Prop :=
  s.img.full.wf = true ∧ s.img.patchArea.wf = true ∧ s.wq.pool.wf = true

/-- A run is safe as long as no step faults or is refused. -/
def Runs (o : Host.Outcome State Fault Refusal) : Prop := Yields o (fun _ => True)

/-! ### Frames -/

/-- The command comes in another core clock cycle than the one before it, so nothing was set in its cycle (R9). -/
def freshCycle (t : Nat) (s : State) : Bool := coreCycle (max s.now t) != s.recent.cycle

/-- The logic runs when a command comes at time `t`: no lane-commanded reset that waits has come due (R494). -/
def awake (t : Nat) (s : State) : Bool := live s && !resetDue t s

/-- What a command at time `t` leaves alone: everything but time, the model's own record of the running clock cycle
(`State.recent`) and the groups that `blank` wipes out. What every command ends with (`settle`: a curtain that may no
longer stay up, and CB_FIRST) comes on top. -/
def Leaves (t : Nat) (s u : State) (blank : State → State) : Prop :=
  ∃ v, u = settle s v ∧ { blank v with recent := {} } = { blank (begin t s) with recent := {} }

/-- Everything but the cue bookkeeping: what ends or counts a cue may change the stage manager, the shots issued and not
launched, the points, the wings, the packers, the lanes and the call board, and uses free values. -/
def calm (s : State) : State :=
  { s with
    sm := {}, bat := { s.bat with due := [] }, hist := {}, wq := {}, pk := {}, ln := {}, cb := {}, free := 0, recent := {} }

/-- The call board and nothing else. -/
def boardOnly (s : State) : State := { s with cb := {} }

/-- What a reset by source `cause` leaves (R488, R491, R492): the ghost light's record of it, OTP, the waiting commands,
and everything else at its reset value. A source that joins a held reset adds to the record. -/
def ResetBy (cause hold t : Nat) (s u : State) : Prop :=
  u.pwr.inReset = true ∧ u.gl.src.getLsbD (cause - 1) = true ∧
  (s.pwr.inReset = false → u.gl.cause = cause ∧ u.gl.src = 1#8 <<< (cause - 1) ∧ u.gl.resets = satAdd 8 s.gl.resets 1) ∧
  (s.pwr.inReset = true → u.gl.cause = min cause s.gl.cause ∧ u.gl.src = s.gl.src ||| (1#8 <<< (cause - 1)) ∧
    u.gl.resets = s.gl.resets) ∧
  max s.now t + hold ≤ u.pwr.holdUntil ∧
  u.gl.fieldOpened = false ∧ u.gl.wake = s.gl.wake ∧ u.gl.held = s.gl.held ∧ u.gl.heldMs = s.gl.heldMs ∧
  u.gl.fails = s.gl.fails ∧ u.gl.sinChanges = s.gl.sinChanges ∧ u.otp = s.otp ∧ u.pending = s.pending ∧
  u.img = {} ∧ u.rx = {} ∧ u.bat = {} ∧ u.hist = {} ∧ u.rej = {} ∧ u.sm = {} ∧ u.fs = {} ∧ u.wq = {} ∧ u.pk = {} ∧
  u.ln = {} ∧ u.hk = {} ∧ u.cal = {} ∧ u.rh = {} ∧ u.cb = {} ∧ u.port = {} ∧ u.d2d = {} ∧ u.saf = {}

/-- What a Sirel frame needs to be taken (R331, R332, R336): it is sound and meant for this device, and it comes from the
peer with the next SEQ, or, without a connection, as a PREPARE or as the CONFIRM that follows one. -/
def sirelTaken (s : State) (b : SafetyBlock) (f : SirelFrame) : Bool :=
  f.scode && f.sound && f.dst == b.devId &&
    (if b.peerId = 0 then
      f.src != 0 && ((f.type == 0x10 && rwsOpen s) ||
        (f.type == 0x12 && s.saf.sirel.commWait && f.src == s.saf.sirel.commPeer
          && f.seq == (s.saf.sirel.commSeq + 1) % 65536))
    else f.src == b.peerId && s.saf.sirel.lastSeq.all (fun n => (n + 1) % 65536 == f.seq && n != f.seq))

/-- A lane has gone to state `x` and the other lanes stay; only the cue bookkeeping follows it. -/
def LaneWent (t l : Nat) (x : LaneState) (s u : State) : Prop :=
  (getLane u l).state = x ∧ (getLane u l).since = max s.now t ∧ (∀ m, m ≠ l → getLane u m = getLane s m) ∧
  Leaves t s u calm

/-- Nothing but the lanes. -/
def lanesOnly (s : State) : State := { s with ln := { s.ln with lanes := [] } }

/-! ### Groups of registers -/

/-- The configuration registers all of whose writable bits are RWS, by address (Tables 3.4, 4.6, 11.11, 12.8, 12.10). -/
def rwsRegisters : List (Nat × PlainReg) :=
  [(0x00010004, regQsel), (0x00010008, regQsel2), (0x00020000, regRxCfg), (0x00020008, regRefCfg),
   (0x00030000, regSlotCfg), (0x00030010, regDriveCfg), (0x00030014, regTsrc), (0x00030018, regCsCfg),
   (0x000A0300, regCbCfg), (0x000B0020, regAuxRtd), (0x000C0000, regThLim)]

/-- The configuration registers whose writable bits are RW and whose write has no further condition, by address. -/
def rwRegisters : List (Nat × PlainReg) :=
  [(0x00001004, regMask), (0x00001020, regHpCfg), (0x00010000, regSmCfg), (0x00060008, regFeCfg), (0x00060014, regSetpt),
   (0x00080010, regWqSel), (0x00080044, regCmdArg), (0x000D0004, regCalCfg), (0x000E0000, regRhCtrl),
   (0x000F0008, regWake)]

/-- The follow-spot registers that take a write only while the loop is held. -/
def heldRegisters : List (Nat × PlainReg) := [(0x0006000C, regDrvLim), (0x00060010, regPark)]

/-- RC fields at fixed addresses (R7): the address, the field's highest and lowest bit, and its reset value. -/
def rcFields : List (Nat × Nat × Nat × Nat) :=
  [(0x00001014, 31, 16, 0), (0x00001024, 31, 0, 0), (0x00010040, 31, 0, 0), (0x00010044, 31, 0, 0),
   (0x00010048, 31, 0, 0), (0x0001004C, 31, 0, 0), (0x00010050, 31, 0, 0), (0x00010054, 31, 0, 0)]
  ++ [(0x00020014, 31, 0, 0), (0x00020018, 31, 0, 0), (0x0002001C, 31, 0, 0), (0x00020020, 31, 0, 0),
   (0x00020024, 31, 0, 0), (0x00020028, 31, 0, 0), (0x00030028, 31, 0, 0), (0x00040010, 31, 0, 0)]
  ++ [(0x00040014, 31, 0, 0), (0x00040018, 31, 0, 0), (0x0004001C, 31, 0, 0), (0x00040020, 31, 0, 0),
   (0x00040024, 31, 0, 0), (0x00050010, 31, 0, 0), (0x00050014, 31, 0, 0), (0x00050018, 31, 0, 0)]
  ++ [(0x0005001C, 31, 0, 0), (0x00050020, 31, 0, 0), (0x00060020, 31, 0, 0), (0x00060024, 31, 0, 0),
   (0x00060028, 31, 0, 0), (0x0006002C, 31, 0, 0), (0x00080004, 31, 0, 0), (0x00090004, 31, 0, 0)]
  ++ [(0x00090008, 31, 0, 0), (0x000A0304, 31, 0, 0), (0x000B0010, 31, 0, 0), (0x000B0014, 31, 0, 0),
   (0x000B0018, 31, 0, 0), (0x000C0020, 15, 0, 0x8000), (0x000C0104, 7, 4, 8), (0x000C0108, 31, 0, 0)]
  ++ [(0x000C010C, 31, 0, 0), (0x000D0030, 31, 0, 0), (0x000E0010, 31, 0, 0), (0x000E0014, 31, 0, 0),
   (0x000E0018, 31, 0, 0), (0x000F0030, 31, 8, 0), (0x000F0040, 31, 16, 0)]

end Sys2Proof.Machine
end

