-- ==== Sys2Proof/Certificates/Slice0/Obligations.lean ====
section
/-! DEFINITION. The statements for the provers: what each command does, what it leaves alone, and the rules of the whole
block. -/

open Sys2Proof Sys2Proof.Machine

/-! ### The block as a machine -/

/-- The step of a block: the command at the front of the queue runs on the rest of the queue; an empty queue idles,
and where an accepted lane-commanded reset waits, that begins then (the model's choice, notes/assumptions/2.md). -/
def Obligations.StepRunsFront : Prop :=
  (∀ (s : State) (c : Instr) (rest : List Instr), s.pending = c :: rest → step s = exec c { s with pending := rest }) ∧
  (∀ s : State, s.pending = [] → s.pwr.resetAt = none → step s = .next s) ∧
  (∀ (r : Nat) (s : State), s.pending = [] → s.pwr.resetAt = some r → Yields (step s) (ResetBy 6 holdCommand r s))

/-- Every command ends in a next state: nothing stops the block. -/
def Obligations.EveryCommandCompletes : Prop := ∀ (c : Instr) (s : State), Runs (exec c s)

/-- The reset values that the register tables give, read from the block right after reset. -/
def Obligations.ResetValues : Prop :=
  (∀ p ∈ ([(0x00001000, 0x00000000#32), (0x00001004, 0x00000000#32), (0x0000100C, 0x00000000#32),
      (0x00001020, 0x00000008#32), (0x00001024, 0x00000000#32),
      (0x00010000, 0x00000001#32), (0x00020000, 0x001E0014#32), (0x00020008, 0x00400804#32),
      (0x00020010, 0x80000000#32), (0x00030000, 0x00003E80#32), (0x00030010, 0xFF2800C0#32),
      (0x00030014, 0x88888888#32), (0x00030018, 0x0332C80A#32)] : List (Nat × W32)), live32 State.reset p.1 = p.2) ∧
  (∀ p ∈ ([(0x00040000, 0x08000118#32), (0x00040004, 0x00001810#32), (0x00050000, 0x06000201#32),
      (0x00060008, 0x00140400#32), (0x0006000C, 0xF7FF0800#32), (0x00060010, 0x00008000#32),
      (0x00060014, 0x00008000#32), (0x000C0000, 0x0000968C#32), (0x000C0020, 0x00008000#32),
      (0x000C0104, 0x00000088#32), (0x000D0000, 0x00000001#32), (0x000D0004, 0x053C0008#32),
      (0x000E0000, 0x0000001F#32), (0x000F0008, 0x00000003#32)] : List (Nat × W32)), live32 State.reset p.1 = p.2)

/-- The block right after reset meets the invariant. -/
def Obligations.InvReset : Prop := Inv State.reset

/-- R301, R519: from any state that meets it, every step leaves the invariant in force: the curtain is up only while
every condition of Table 9.1 holds, and CB_FIRST.VALID reads 1 exactly while CB_PENDING is not 0. -/
def Obligations.InvStep : Prop := ∀ s u : State, Inv s → step s = .next u → Inv u

/-- R301: a command after which a condition of Table 9.1 no longer holds drops the curtain: all four switches open,
the drop counts and the curtain event is set. A curtain whose conditions hold stays as the command left it. -/
def Obligations.CurtainDrops : Prop :=
  ∀ b s : State,
    (curtainAllowed s = false → s.saf.curtain = true →
      (settle b s).saf.curtain = false ∧ (settle b s).saf.outA.hs = false ∧ (settle b s).saf.outA.ls = false ∧
      (settle b s).saf.outB.hs = false ∧ (settle b s).saf.outB.ls = false ∧
      (settle b s).saf.cntDemand = inc32 s.saf.cntDemand ∧ (settle b s).cb.event.getLsbD evCurtain = true) ∧
    (curtainAllowed s = true ∨ s.saf.curtain = false →
      (settle b s).saf = s.saf ∧ (settle b s).cb.event = s.cb.event)

/-- R519: CB_FIRST across any command that finds the call board as `before` and leaves it as `c`. -/
def Obligations.FirstEventRecorded : Prop :=
  ∀ (before : W32) (c : CallBoard) (i : Nat),
    (c.pendingWord = 0 → (c.follow before).firstValid = false) ∧
    (before = 0 → c.pendingWord.getLsbD i = true → (∀ j < i, c.pendingWord.getLsbD j = false) →
      (c.follow before).firstValid = true ∧ (c.follow before).first = i) ∧
    (before ≠ 0 → c.firstValid = true → c.pendingWord ≠ 0 → (c.follow before).first = c.first)

/-! ### Registers -/

/-- R8: while RWS fields take no write (outside Standby, or with the curtain up), a write leaves every RWS field;
other fields of the register take it as though the RWS fields were absent; and the access-violation event comes only
of a write that would have changed an RWS field. HK_LOOP_CFG is the register with fields of both kinds. -/
def Obligations.RwsClosed : Prop :=
  (∀ q ∈ rwsRegisters, ∀ (t : Nat) (p : Path) (v : W32) (s : State),
    awake t s = true → rwsOpen s = false → p ≠ .tap → q.2.ok (q.2.get s) = true → CurtainSound s →
    Yields (exec (.registerWrite t p q.1 v) s) (fun u => q.2.get u = q.2.get s ∧
      u.cb.violCount = (if (q.2.get s ^^^ v) &&& q.2.rws = 0 then s.cb.violCount else satAdd 16 s.cb.violCount 1) ∧
      u.cb.event = (if (q.2.get s ^^^ v) &&& q.2.rws = 0 then s.cb.event else s.cb.event ||| bit32 evAccess))) ∧
  (∀ (m t : Nat) (p : Path) (v : W32) (s : State),
    m < 776 → awake t s = true → rwsOpen s = false → p ≠ .tap → CurtainSound s →
    Yields (exec (.registerWrite t p (0x00021000 + 4 * m) v) s) (fun u =>
      maskOf u (2 * m) = maskOf s (2 * m) ∧ maskOf u (2 * m + 1) = maskOf s (2 * m + 1) ∧
      u.cb.event = (if (live32 s (0x00021000 + 4 * m) ^^^ v) &&& ~~~(regSpadMask m).stuck s = 0 then s.cb.event
        else s.cb.event ||| bit32 evAccess))) ∧
  (∀ (t : Nat) (p : Path) (v : W32) (s : State),
    awake t s = true → rwsOpen s = false → p ≠ .tap → CurtainSound s →
    Yields (exec (.registerWrite t p 0x000B0030 v) s) (fun u => u.hk.failHi = s.hk.failHi ∧
      (v.getLsbD 1 = true → u.hk.loopFault = (clearLoop (begin t s)).hk.loopFault) ∧
      u.cb.event = (if (s.hk.failHi ^^^ v) &&& 1#32 = 0 then s.cb.event else s.cb.event ||| bit32 evAccess)))

/-- A write to a configuration register stores its writable bits when its fields' values are in range: of an RWS
register in Standby with the curtain down, of an RW register in any mode, and of a follow-spot register of R282's kind
while the loop is held. Nothing else changes. -/
def Obligations.ConfigurationWrites : Prop :=
  (∀ q ∈ rwsRegisters.drop 2, ∀ (t : Nat) (p : Path) (v : W32) (s : State),
    resetDue t s = false → rwsOpen s = true → p ≠ .tap → q.2.ok (merge q.2.rws (q.2.get s) v) = true →
    Yields (exec (.registerWrite t p q.1 v) s) (fun u =>
      Leaves t s u (fun x => q.2.put 0 x) ∧ q.2.get u = merge q.2.rws (q.2.get s) v)) ∧
  (∀ q ∈ rwRegisters, ∀ (t : Nat) (p : Path) (v : W32) (s : State),
    awake t s = true → p ≠ .tap → q.2.ok (merge q.2.rw (q.2.get s) v) = true →
    Yields (exec (.registerWrite t p q.1 v) s) (fun u =>
      Leaves t s u (fun x => q.2.put 0 x) ∧ q.2.get u = merge q.2.rw (q.2.get s) v)) ∧
  (∀ q ∈ heldRegisters, ∀ (t : Nat) (p : Path) (v : W32) (s : State), awake t s = true → p ≠ .tap →
    (s.fs.held = true → q.2.ok (merge q.2.rw (q.2.get s) v) = true →
      Yields (exec (.registerWrite t p q.1 v) s) (fun u =>
        Leaves t s u (fun x => q.2.put 0 x) ∧ q.2.get u = merge q.2.rw (q.2.get s) v)) ∧
    (s.fs.held = false →
      Yields (exec (.registerWrite t p q.1 v) s) (fun u =>
        Leaves t s u boardOnly ∧ u.cb.violKind = kindRule ∧ u.cb.violCount = satAdd 16 s.cb.violCount 1)))

/-- R264: SM_QSEL and SM_QSEL2 take a write in Standby with the curtain down while no full image is active, or when it
names queues of the active image that deliver to the device; while one is active, any other write is discarded with a
violation. A value outside a field's range discards the write with a violation that records its address, path and kind
(R520). That an OPEN_THR at or above OVER_THR in BAT_CS_CFG, which R149 only has discarded, counts as such a value is
the model's choice (notes/assumptions/11.md). R506, R508: an access outside Table 15.1, or one through the TAP outside
the stage door's registers, is ignored, the register commands with a row of their own among them; every path writes
PWR_DOOR_RESP and PWR_DOOR_DATA. R517, R9: written ones clear bits of CB_EVENT and leave the others; a bit that was
set in the same core clock cycle stays, and none was set in a fresh cycle. -/
def Obligations.WriteRules : Prop :=
  (∀ (t : Nat) (p : Path) (v : W32) (s : State), resetDue t s = false → rwsOpen s = true → p ≠ .tap →
    let named := deviceQueue s (fld v 11 0)
    (s.img.active = none ∨ (named = true ∧ deviceQueue s (fld v 27 16) = true) →
      Yields (exec (.registerWrite t p 0x00010004 v) s) (fun u =>
        Leaves t s u (fun x => regQsel.put 0 x) ∧ u.sm.qsel = merge 0x0FFF0FFF#32 s.sm.qsel v)) ∧
    (s.img.active ≠ none → named = false ∨ deviceQueue s (fld v 27 16) = false →
      Yields (exec (.registerWrite t p 0x00010004 v) s) (fun u =>
        Leaves t s u boardOnly ∧ u.cb.violKind = kindRule ∧ u.cb.event.getLsbD evAccess = true)) ∧
    (s.img.active = none ∨ named = true →
      Yields (exec (.registerWrite t p 0x00010008 v) s) (fun u =>
        Leaves t s u (fun x => regQsel2.put 0 x) ∧ u.sm.qsel2 = merge 0x00000FFF#32 s.sm.qsel2 v)) ∧
    (s.img.active ≠ none → named = false →
      Yields (exec (.registerWrite t p 0x00010008 v) s) (fun u =>
        Leaves t s u boardOnly ∧ u.cb.violKind = kindRule ∧ u.cb.event.getLsbD evAccess = true))) ∧
  (∀ q ∈ rwRegisters ++ rwsRegisters.drop 2, ∀ (t : Nat) (p : Path) (v : W32) (s : State),
    awake t s = true → p ≠ .tap → q.2.ok (merge (q.2.open s) (q.2.get s) v) = false →
    Yields (exec (.registerWrite t p q.1 v) s) (fun u => Leaves t s u boardOnly ∧ q.2.get u = q.2.get s ∧
      u.cb.violAddr = BitVec.ofNat 32 q.1 ∧ u.cb.violPath = Path.code p ∧ u.cb.violKind = kindRange ∧
      u.cb.violCount = satAdd 16 s.cb.violCount 1 ∧ u.cb.event.getLsbD evAccess = true)) ∧
  (∀ (t a : Nat) (p : Path) (v : W32) (s : State), resetDue t s = false →
    (accessOk p a = false → ∀ c ∈ [Instr.registerWrite t p a v, .readClear t p a, .wideReadCapture t p a],
      Yields (exec c s) (fun u => Leaves t s u id)) ∧
    (∀ n m : Nat, ∀ c ∈ [Instr.softwareReset t .tap v, .modeReqShow t .tap, .modeReqStandby t .tap, .modeReqDark t .tap,
        .loadWindowWrite t .tap n v, .imageGo t .tap, .imageAbort t .tap, .patchCancel t .tap, .calRunTap t .tap,
        .calRunConv t .tap, .calRunSkew t .tap, .calRunBd t .tap, .rxCntSelWrite t .tap v, .batCsClr t .tap, .batSwClr t .tap,
        .batGovClr t .tap, .feStopSet t .tap n, .feStopClear t .tap n, .cueSubmit t .tap, .cueSubmitTemplate t .tap n] ++
        [Instr.cueAbort t .tap n, .triggerSoftware t .tap n, .calendarSelect t .tap n, .cueSelect t .tap n, .fsHold t .tap,
        .fsRelease t .tap, .fsRunSet t .tap, .fsRunClear t .tap, .fsFeClr t .tap, .wqFlush t .tap n, .wqMark t .tap n,
        .wqClearMark t .tap n, .wqRewind t .tap n, .wqRelease t .tap n m, .wqRead t .tap n, .wqDone t .tap n, .wqResync t .tap,
        .laneRetrain t .tap n, .laneRetry t .tap n, .laneDisable t .tap n, .hkUrgentRequest t .tap n, .loopFaultClear t .tap,
        .thermalShutdownClear t .tap], Yields (exec c s) (fun u => Leaves t s u id)) ∧
    (∀ i < 16, live s = true → Yields (exec (.registerWrite t p (0x000F0230 + 4 * i) v) s) (fun u =>
      (if i < 8 then u.door.resp.get 0 i else u.door.data.get 0 (i - 8)) = v ∧
      Leaves t s u (fun x => { x with door := { x.door with resp := [], data := [] } })))) ∧
  (∀ (t : Nat) (p : Path) (v : W32) (s : State), awake t s = true → p ≠ .tap → CurtainSound s →
    Yields (exec (.registerWrite t p 0x00001000 v) s) (fun u =>
      Leaves t s u boardOnly ∧ u.cb.event = s.cb.event &&& ~~~(v &&& ~~~(begin t s).recent.events) ∧
      u.cb.mask = s.cb.mask ∧ (freshCycle t s = true → u.cb.event = s.cb.event &&& ~~~v)))

/-- R7, R9: a read of an RC field leaves the field at its reset value: counters 0, the lowest s 8, TJ_MAX 0x8000, the
trackers of an input 0xFFFF and 0x0000. A counter keeps what it has counted in the core clock cycle of the read; in a
fresh cycle that is nothing. -/
def Obligations.ReadClearRestores : Prop :=
  (∀ q ∈ rcFields, ∀ (t : Nat) (p : Path) (s : State), awake t s = true → freshCycle t s = true → p ≠ .tap →
    Yields (exec (.readClear t p q.1) s) (fun u => fld (live32 u q.1) q.2.1 q.2.2.1 = q.2.2.2)) ∧
  (∀ (i t : Nat) (p : Path) (s : State), i < 64 → awake t s = true → freshCycle t s = true → p ≠ .tap →
    Yields (exec (.readClear t p (0x000B0200 + 4 * i)) s) (fun u =>
      live32 u (0x000B0200 + 4 * i) = 0x0000FFFF#32)) ∧
  (∀ (l r t : Nat) (p : Path) (s : State), l < 4 → r < 6 → awake t s = true → freshCycle t s = true → p ≠ .tap →
    Yields (exec (.readClear t p (0x00090100 + 32 * l + 4 * r)) s) (fun u =>
      live32 u (0x00090100 + 32 * l + 4 * r) = 0)) ∧
  (∀ (r t : Nat) (p : Path) (s : State), r < 3 → awake t s = true → freshCycle t s = true → p ≠ .tap →
    Yields (exec (.readClear t p (0x00080028 + 4 * r)) s) (fun u => live32 u (0x00080028 + 4 * r) = 0)) ∧
  (∀ (l r t : Nat) (p : Path) (s : State), l < 4 → r < 8 → awake t s = true → freshCycle t s = true → p ≠ .tap →
    Yields (exec (.readClear t p (0x000A0014 + 64 * l + 4 * r)) s) (fun u =>
      live32 u (0x000A0014 + 64 * l + 4 * r) = 0)) ∧
  (∀ (t : Nat) (p : Path) (s : State), awake t s = true → p ≠ .tap →
    Yields (exec (.readClear t p 0x00020014) s) (fun u => u.rx.cntStop = newer (begin t s) 0x20014 s.rx.cntStop) ∧
    Yields (exec (.readClear t p 0x00010040) s) (fun u => u.sm.cntAccept = newer (begin t s) 0x10040 s.sm.cntAccept) ∧
    Yields (exec (.readClear t p 0x00001024) s) (fun u => u.cb.hpErr = newer (begin t s) 0x01024 s.cb.hpErr) ∧
    Yields (exec (.readClear t p 0x000F0030) s) (fun u =>
      u.gl.sinChanges = newer (begin t s) 0xF0030 s.gl.sinChanges))

/-- R10: a read of the lowest word of a wide value captures the upper word, and reads of the upper word then give what
was captured, whatever the value has become. -/
def Obligations.WideReadShadow : Prop :=
  ∀ (a b t : Nat) (p : Path) (s : State), upperOf a = some b → awake t s = true → p ≠ .tap → b = a + 4 ∧
    Yields (exec (.wideReadCapture t p a) s) (fun u =>
      Leaves t s u (fun x => { x with port := { x.port with shadow := [] } }) ∧
      (∀ w : State, w.port = u.port → peek w b = live32 (begin t s) b))

/-- R72: PWR_IMG_ACTIVE holds the SERIAL of the active full image, and 0 when none is active; its reset value is 0,
and no write changes what it reads. -/
def Obligations.ActiveImageRegister : Prop :=
  live32 State.reset 0x000F0108 = 0 ∧
  (∀ (s : State) (i : Image), s.img.active = some i → live32 s 0x000F0108 = BitVec.ofNat 32 i.serial) ∧
  (∀ s : State, s.img.active = none → live32 s 0x000F0108 = 0) ∧
  (∀ (s : State) (t : Nat) (p : Path) (v : W32), resetDue t s = false →
    Yields (exec (.registerWrite t p 0x000F0108 v) s) (fun u => live32 u 0x000F0108 = live32 s 0x000F0108)) ∧
  (∀ (i : Image) (q : Patch), (patched i q).serial = i.serial)

/-! ### The house port -/

/-- R509, R513, R514: a read whose header passes inside one page gives every word as one step, and its whole answer
becomes the stored response; outside the regions the answer is STATUS 0x03 with as many words of 0, stored as well. A
read that HP_CS_N cuts before its turnaround ends does nothing. -/
def Obligations.HousePortRead : Prop :=
  ∀ (t : Nat) (cmd : Byte) (addr : Nat) (h : PortHead) (s : State), awake t s = true →
    let a := addr % 2 ^ 32
    let sound := s.port.inTransaction = false ∧ h.cut = false ∧ headerOk cmd addr h.crc = true ∧ cmdOp cmd = 0
    (h.cut = true → Yields (exec (.hpRead t cmd addr h) s) (fun u => Leaves t s u id)) ∧
    (sound → burstOk a (cmdWords cmd) = true →
      Yields (exec (.hpRead t cmd addr h) s) (fun u =>
        u.port.status = 0 ∧ u.port.data = (readWords a (cmdWords cmd) (begin t s)).1 ∧
        u.port.data.length = cmdWords cmd ∧ u.port.data.head? = some (peek (begin t s) a) ∧
        u.port.inTransaction = true ∧ u.port.dcrc = respCrc u.port.status u.port.data ∧
        u.port.stored = some (u.port.status, u.port.data, u.port.dcrc))) ∧
    (sound → burstOk a (cmdWords cmd) = false →
      Yields (exec (.hpRead t cmd addr h) s) (fun u =>
        Leaves t s u (fun x => { x with port := {} }) ∧ u.port.shadow = s.port.shadow ∧
        u.port.status = 3 ∧ u.port.data = List.replicate (cmdWords cmd) 0 ∧
        u.port.stored = some (3, List.replicate (cmdWords cmd) 0, respCrc 3 (List.replicate (cmdWords cmd) 0))))

/-- R511, R512, R514: a burst whose DCRC passes writes its words in ascending address order, each as a write of its
own; the answer is STATUS 0x00, or 0x04 when a word was discarded. Outside the regions nothing is written and the
answer is 0x03. A failed DCRC, or another number of words than CMD gives, writes nothing and answers 0x02. A write
that HP_CS_N cuts before it applies writes nothing and answers nothing. R513, R514: OP 2 sends the stored response
again unchanged and changes nothing else; with none stored it answers STATUS 0x05. The end of a transaction keeps it.
A failed header, or OP 3, answers 0x01 and counts. -/
def Obligations.HousePortWriteAndRepeat : Prop :=
  (∀ (t : Nat) (cmd : Byte) (addr : Nat) (h : PortHead) (ws : List W32) (dcrc : BitVec 16) (s : State), awake t s = true →
    let a := addr % 2 ^ 32
    let sound := s.port.inTransaction = false ∧ h.cut = false ∧ headerOk cmd addr h.crc = true ∧ cmdOp cmd = 1
    let whole := ws.length = cmdWords cmd ∧ dcrc = dataCrc ws
    (h.cut = true → Yields (exec (.hpWrite t cmd addr h ws dcrc) s) (fun u => Leaves t s u id)) ∧
    (sound → whole → burstOk a (cmdWords cmd) = true →
      live (writeWords .housePort a ws (begin t s)).2 = true →
      Yields (exec (.hpWrite t cmd addr h ws dcrc) s) (fun u =>
        (∃ v, u = settle s v ∧ { v with port := {} } = { (writeWords .housePort a ws (begin t s)).2 with port := {} }) ∧
        u.port.inTransaction = true ∧ u.port.data = [] ∧
        u.port.status = (if (writeWords .housePort a ws (begin t s)).1 then 0 else 4))) ∧
    (sound → whole → burstOk a (cmdWords cmd) = false →
      Yields (exec (.hpWrite t cmd addr h ws dcrc) s) (fun u =>
        Leaves t s u (fun x => { x with port := {} }) ∧ u.port.status = 3 ∧ u.port.data = [] ∧
        u.port.inTransaction = true ∧ u.port.stored = s.port.stored ∧ u.port.shadow = s.port.shadow)) ∧
    (sound → ¬ whole →
      Yields (exec (.hpWrite t cmd addr h ws dcrc) s) (fun u =>
        Leaves t s u (fun x => { x with cb := {}, port := {} }) ∧ u.port.status = 2 ∧ u.port.data = [] ∧
        u.port.stored = s.port.stored ∧ u.cb.hpErr = inc32 s.cb.hpErr ∧ u.cb.event.getLsbD evHousePort = true))) ∧
  (∀ (t : Nat) (cmd : Byte) (addr : Nat) (h : PortHead) (hcrc : Byte) (s : State), awake t s = true →
    let sound := s.port.inTransaction = false ∧ h.cut = false ∧ headerOk cmd addr h.crc = true ∧ cmdOp cmd = 2
    (h.cut = true → Yields (exec (.hpRepeat t cmd addr h) s) (fun u => Leaves t s u id)) ∧
    (∀ r, sound → s.port.stored = some r →
      Yields (exec (.hpRepeat t cmd addr h) s) (fun u =>
        Leaves t s u (fun x => { x with port := {} }) ∧ u.port.shadow = s.port.shadow ∧ u.port.stored = some r ∧
        u.port.status = r.1 ∧ u.port.data = r.2.1 ∧ u.port.dcrc = r.2.2 ∧ u.port.inTransaction = true)) ∧
    (sound → s.port.stored = none →
      Yields (exec (.hpRepeat t cmd addr h) s) (fun u =>
        Leaves t s u (fun x => { x with port := {} }) ∧ u.port.stored = none ∧ u.port.status = 5 ∧ u.port.data = [])) ∧
    (s.port.inTransaction = false → headerOk cmd addr hcrc = false ∨ cmdOp cmd = 3 →
      Yields (exec (.hpInvalidOp t cmd addr hcrc) s) (fun u =>
        Leaves t s u (fun x => { x with cb := {}, port := {} }) ∧ u.port.stored = s.port.stored ∧ u.port.status = 1 ∧
        u.cb.hpErr = inc32 s.cb.hpErr ∧ u.cb.event.getLsbD evHousePort = true)) ∧
    Yields (exec (.hpCsRise t) s) (fun u =>
      Leaves t s u (fun x => { x with port := {} }) ∧ u.port.stored = s.port.stored ∧ u.port.shadow = s.port.shadow ∧
      u.port.inTransaction = false))

/-! ### Power, reset and modes -/

/-- R488: a power-on reset resets everything, the ghost light included; OTP and the waiting commands stay, CAUSE reads
1, and the stage door then refuses for 10 s (R501). So does a VDD_GL below its threshold. R446, R484, R488, R491,
R492: every other source resets the whole device except the ghost light, which records the source: a new reset counts
and its code is CAUSE; a source that joins a held reset is added to SRC, and CAUSE holds the lowest code. A rail
resets below its threshold of Table 12.7. PRESENT_N stays low in reset, and is released while VDD_IO lies below 1.2 V
(R496). An accepted RESET message is answered, and resets the block 10 µs later (R494; that the frame leaves at once
is the model's choice, notes/assumptions/40.md): the first command from then on finds it reset. What does not reset: a
RESET_N pulse shorter than 5 µs, a rail below its threshold for less than 0.5 µs or not below it, a window of 900 to
1,100 reference edges, a wake source that PWR_WAKE does not enable, a RESET message of another version or serial,
which is answered with its status, or one from a stage lane, which is dropped (R494). -/
def Obligations.Resets : Prop :=
  (∀ (t mv : Nat) (s : State), mv < 1500 → ∀ c ∈ [Instr.powerOnReset t, .supplyReset t .vddGl ⟨usTicks / 2, mv⟩],
    Yields (exec c s) (fun u => u.pwr.inReset = true ∧ u.gl = { onAt := max s.now t } ∧ u.otp = s.otp ∧
      u.pending = s.pending ∧ u.img = {} ∧ u.saf.curtain = false ∧ u.bat = {} ∧ u.wq = {} ∧ u.cal = {} ∧
      u.door = { waitUntil := max s.now t + 10 * secTicks })) ∧
  (∀ (t : Nat) (p : Path) (s : State), resetDue t s = false → p ≠ .tap →
    (∀ (r : Rail) (below mv : Nat), r ≠ .vddSafe → r ≠ .vddGl → usTicks / 2 ≤ below → belowReset r mv = true →
      Yields (exec (.supplyReset t r ⟨below, mv⟩) s) (fun u => ResetBy 2 0 t s u ∧
        presentLow u = (if r = .vddIo then decide (1200 ≤ mv) else presentLow s))) ∧
    (∀ low : Nat, 10 * usTicks ≤ low → Yields (exec (.resetNAssert t low) s) (fun u =>
      ResetBy 3 0 t s u ∧ u.pwr.rstnLow = true)) ∧
    (∀ v : W32, live s = true → v.getLsbD 0 = true → fld v 31 16 = 0xA5C3 →
      Yields (exec (.softwareReset t p v) s) (ResetBy 5 (10 * usTicks) t s)) ∧
    (∀ edges : Nat, s.pwr.inReset = false → (edges < 900 ∨ 1100 < edges) →
      Yields (exec (.referenceLoss t edges) s) (ResetBy 7 0 t s)) ∧
    (∀ low : Nat, inDark s = true → s.gl.wake.getLsbD 0 = true → usTicks ≤ low →
      Yields (exec (.wakeHousePort t low) s) (ResetBy 8 0 t s)) ∧
    (∀ persist : Nat, inDark s = true → s.gl.wake.getLsbD 1 = true → msTicks ≤ persist →
      Yields (exec (.wakeSafetyInput t persist) s) (ResetBy 8 0 t s)) ∧
    (inDark s = true → s.gl.wake.getLsbD 2 = true → fld s.gl.wake 31 16 ≠ 0 →
      s.gl.darkSince + fld s.gl.wake 31 16 * secTicks ≤ max s.now t →
      Yields (exec (.wakeTimer t) s) (ResetBy 8 0 t s)) ∧
    (∀ l v w, live s = true → fromHouse s l = true → resetStatus v w s = 0 →
      Yields (exec (.laneReset t l v w) s) (fun u =>
        u.pwr.resetAt = some (s.pwr.resetAt.getD (max s.now t + 10 * usTicks)) ∧
        (∀ m, getLane u m = getLane
          (sendHouse 0 0x04 (leBytes 4 0xFFFFFFF0 ++ leBytes 4 0) (takeMessage l 0 8 (begin t s))) m) ∧
        Leaves t s u (fun x => lanesOnly { x with pwr := { x.pwr with resetAt := none } })))) ∧
  (∀ (t : Nat) (s : State), resetDue t s = false →
    (∀ low : Nat, low < 5 * usTicks →
      Yields (exec (.resetNAssert t low) s) (fun u => Leaves t s u (fun x => { x with free := 0 }))) ∧
    (∀ (r : Rail) (below mv : Nat), below < usTicks / 2 ∨ belowReset r mv = false →
      Yields (exec (.supplyReset t r ⟨below, mv⟩) s) (fun u =>
        presentLow u = (if r = .vddIo then decide (1200 ≤ mv) else presentLow s) ∧
        Leaves t s u (fun x => { x with th := { x.th with ioOff := false } }))) ∧
    (∀ edges : Nat, 900 ≤ edges → edges ≤ 1100 →
      Yields (exec (.referenceLoss t edges) s) (fun u => Leaves t s u id)) ∧
    (∀ low : Nat, s.gl.wake.getLsbD 0 = false → Yields (exec (.wakeHousePort t low) s) (fun u => Leaves t s u id)) ∧
    (∀ n : Nat, s.gl.wake.getLsbD 1 = false → Yields (exec (.wakeSafetyInput t n) s) (fun u => Leaves t s u id)) ∧
    (s.gl.wake.getLsbD 2 = false ∨ fld s.gl.wake 31 16 = 0 →
      Yields (exec (.wakeTimer t) s) (fun u => Leaves t s u id)) ∧
    (∀ l v w, live s = true → fromHouse s l = true → resetStatus v w s ≠ 0 →
      Yields (exec (.laneReset t l v w) s) (fun u => (∀ m, getLane u m = getLane
        (sendHouse 0 0x04 (leBytes 4 0xFFFFFFF0 ++ leBytes 4 (resetStatus v w s)) (takeMessage l 0 8 (begin t s))) m) ∧
        Leaves t s u lanesOnly)) ∧
    (∀ l v w, live s = true → 2 ≤ l → l < 4 → laneTrained s l = true → Yields (exec (.laneReset t l v w) s) (fun u =>
      (getLane u l).cntRoute = satAdd 32 (getLane s l).cntRoute (framesOf (getLane s l) 0 8) ∧ Leaves t s u lanesOnly)))

/-- R493: a request with GO and the key resets the device in every mode that runs, the curtain up or down; any other
write to PWR_RST_CTRL is discarded with the access-violation event. -/
def Obligations.SoftwareReset : Prop :=
  ∀ (t : Nat) (p : Path) (v : W32) (s : State), awake t s = true → p ≠ .tap →
    (v.getLsbD 0 = true ∧ fld v 31 16 = 0xA5C3 → Yields (exec (.softwareReset t p v) s) (ResetBy 5 (10 * usTicks) t s)) ∧
    (¬ (v.getLsbD 0 = true ∧ fld v 31 16 = 0xA5C3) → Yields (exec (.softwareReset t p v) s) (fun u =>
      Leaves t s u boardOnly ∧ u.cb.event.getLsbD evAccess = true ∧ u.cb.violAddr = 0x000F0018#32))

/-- R490: an assertion of RESET_N longer than 5 s is recorded in the ghost light, and nothing else changes. R487:
reset is released when every condition of R486 has held for its time: the device is in Standby with HOLD set, the
timebase starts at 0, the straps and the links are as dress rehearsal finds them, and PRESENT_N is low (R496). A rail
in warning then is promise condition 1 (R446). -/
def Obligations.ResetHeldAndRelease : Prop :=
  (∀ (t ms : Nat) (s : State), resetDue t s = false → s.pwr.inReset = true → s.pwr.rstnLow = true → 5000 < ms →
    Yields (exec (.resetHeldTimeout t ms) s) (fun u => u.gl.held = true ∧ u.gl.heldMs = min ms (2 ^ 32 - 1) ∧
      Leaves t s u (fun x => { x with
        gl := { x.gl with held := false, heldMs := 0 }, pwr := { x.pwr with heldNow := false } }))) ∧
  (∀ (t strap : Nat) (h : ReleaseObs) (o : RehearsalObs) (s : State), resetDue t s = false →
    releaseReady (begin t s) h = true →
    Yields (exec (.resetRelease t strap h o) s) (fun u => u.pwr.inReset = false ∧ u.pwr.mode = .standby ∧
      u.pwr.releasedAt = max s.now t ∧ tbUs u = 0 ∧ u.bat.hold = true ∧ u.bat.holdSince = max s.now t ∧
      u.cb.strap = strap % 4 ∧ u.d2d.a.up = (s.d2d.a.up || o.linkA) ∧ u.d2d.b.up = (s.d2d.b.up || o.linkB) ∧
      u.rh.obs = some o ∧ u.otp = s.otp ∧ u.gl = s.gl ∧ presentLow u = true ∧
      (supplyCond s = true → (u.sm.conds.get {} 100).inForce = true) ∧
      (s.pwr.heldNow = true → u.cb.event.getLsbD evResetRecord = true)))

/-- R461, R467, R468: the steps of dress rehearsal take effect as they end, 3.8, 16, 26, 27 and 29 ms after release,
the next one before those after it. The last judges it: DR_STEP is the code of the first fatal failure, DR_PASS
follows it, a lane that failed its loop-back is in OFF, and the image fetch begins from the source that BOOT_SRC
selects (R59). The order in which the fatal steps are looked at is the model's choice (notes/assumptions/29.md). -/
def Obligations.DressRehearsal : Prop :=
  ∀ (t : Nat) (o : RehearsalObs) (s : State), awake t s = true → s.rh.obs = some o →
    (s.rh.steps ≤ 4 → s.pwr.releasedAt + 29 * msTicks ≤ max s.now t →
      Yields (exec (.dressRehearsalEnd t) s) (fun u => u.rh.drDone = true ∧ u.rh.steps = 5 ∧
        u.rh.drPass = decide (u.rh.drStep = 0) ∧ (o.clocksLock = false → u.rh.drStep = 1) ∧
        (o.clocksLock = true → linkCount s = 0 → u.rh.drStep = 2) ∧
        (o.clocksLock = true → linkCount s ≠ 0 → o.flymanOk = false → u.rh.drStep = 5) ∧
        (∀ l ∈ o.loopback, (getLane u l).fail = true ∧ (getLane u l).state = .off) ∧
        (s.cb.strap = 0 ∨ s.cb.strap = 3 → u.img.fetching = some 1) ∧ (s.cb.strap = 2 → u.img.waitLane = true))) ∧
    (∀ n, n < 4 → s.rh.steps = n → s.pwr.releasedAt + rehearsalEnds n * usTicks ≤ max s.now t →
      max s.now t < s.pwr.releasedAt + rehearsalEnds (n + 1) * usTicks →
      Yields (exec (.dressRehearsalEnd t) s) (fun u => u.rh.steps = n + 1 ∧ u.rh.drDone = s.rh.drDone ∧
        (n = 2 → ∀ c x, o.hotCounts = [(c, x)] → u.rx.hot.get 0 c = hotMask x ∧
          (∀ d, d ≠ c → u.rx.hot.get 0 d = s.rx.hot.get 0 d)) ∧
        (n = 2 → Leaves t s u (fun x => { x with rx := { x.rx with hot := [] }, rh := {} })))) ∧
    (4 < s.rh.steps ∨ max s.now t < s.pwr.releasedAt + rehearsalEnds s.rh.steps * usTicks →
      Yields (exec (.dressRehearsalEnd t) s) (fun u => Leaves t s u id))

/-- R483: SYSCLK is tried once in reset; then the crystal is the reference after 25 good windows in a row. R21: clocks
that disagree by more than 8 % drop the curtain with cause 0x11; so does a low VDD_SAFE. Clocks that agree change
nothing. -/
def Obligations.Clocks : Prop :=
  (∀ (t edges : Nat) (s : State), resetDue t s = false → s.pwr.inReset = true → s.pwr.refValid = false →
    (s.pwr.sysTried = false → Yields (exec (.referenceWindow t true edges) s) (fun u =>
      u.pwr.sysTried = true ∧ u.gl.refSys = edgesGood edges ∧ u.pwr.refValid = edgesGood edges ∧
      Leaves t s u (fun x => { x with gl := { x.gl with refSys := false },
                                      pwr := { x.pwr with sysTried := false, refValid := false } }))) ∧
    (s.pwr.sysTried = true → Yields (exec (.referenceWindow t false edges) s) (fun u =>
      u.pwr.xtalGood = (if edgesGood edges then s.pwr.xtalGood + 1 else 0) ∧
      u.pwr.refValid = decide (25 ≤ u.pwr.xtalGood) ∧ u.gl = s.gl))) ∧
  (∀ (t : Nat) (s : State), awake t s = true →
    (∀ c f : Nat, 40 * f < 100 * ((c : Int) - 5 * f).natAbs →
      Yields (exec (.clockCheck t c f) s) (fun u => u.saf.causes.getLsbD 0x11 = true ∧ u.saf.curtain = false)) ∧
    (∀ c f : Nat, 100 * ((c : Int) - 5 * f).natAbs ≤ 40 * f →
      Yields (exec (.clockCheck t c f) s) (fun u => Leaves t s u id)) ∧
    (∀ below mv : Nat, usTicks / 2 ≤ below → mv < 16000 →
      Yields (exec (.supplyReset t .vddSafe ⟨below, mv⟩) s) (fun u => u.saf.causes.getLsbD 0x11 = true ∧
        u.saf.curtain = false ∧ u.th.railLow.getLsbD 1 = true ∧ u.pwr = s.pwr)))

/-- R478: a request for Show in Standby is refused for the first condition that holds, with the mode-refused event, or
falls at the first calendar group that begins at least 32 µs later. An entry that is scheduled stays where it is. R478
to R480: the entry to Show at its group, with every entry action: the firing code loads, the ambient history clears,
SLOT_PHASE applies, the class S cues start, the test pulses count anew, the Sirel connection goes on. An entry that
meets a condition of R478 is refused (the model's reading, notes/assumptions/40.md). The exit to Standby has the
curtain down and the emitter supply open; the entry to Dark loses the image, the queues and every calibration value.
R495, R504: in Dark and in reset the ghost light follows the safety inputs, which read low while VDD_SAFE is absent (a
rail below its reset threshold; the model's choice, notes/assumptions/45.md), and counts their level changes. -/
def Obligations.Modes : Prop :=
  (∀ (t : Nat) (p : Path) (s : State), resetDue t s = false → p ≠ .tap → inStandby s = true → s.img.load = none →
    (refuseShow s ≠ 0 → Yields (exec (.modeReqShow t p) s) (fun u => u.pwr.refuse = refuseShow s ∧
      u.pwr.mode = .standby ∧ u.cb.event.getLsbD evModeRefused = true ∧
      Leaves t s u (fun x => { x with cb := {}, pwr := { x.pwr with refuse := 0, showPend := false } }))) ∧
    (refuseShow s = 0 → Yields (exec (.modeReqShow t p) s) (fun u => u.pwr.mode = .standby ∧
      (s.pwr.showAt = none →
        ∃ m, u.pwr.showAt = some m ∧ m % 16 = 0 ∧ tbUs (begin t s) + 32 ≤ m ∧ m < tbUs (begin t s) + 48) ∧
      (∀ m, s.pwr.showAt = some m → u.pwr.showAt = some m) ∧
      Leaves t s u (fun x => { x with pwr := { x.pwr with showAt := none, showPend := false } }))) ∧
    (s.img.active = none → refuseShow s = 1) ∧
    (s.img.active ≠ none → s.rh.drPass = false → refuseShow s = 2) ∧
    (s.img.active ≠ none → s.rh.drPass = true → s.th.shutdown = true → refuseShow s = 3) ∧
    (s.img.active ≠ none → s.rh.drPass = true → s.th.shutdown = false → refuseShow s = (if lcState s = 2 then 4 else 0))) ∧
  (∀ (t : Nat) (p : Path) (s : State), resetDue t s = false → p ≠ .tap →
    (∀ m, inStandby s = true → s.pwr.showAt = some m → m ≤ tbUs (begin t s) → refuseShow s = 0 →
      Yields (exec (.enterShow t) s) (fun u => u.pwr.mode = .show ∧ u.pwr.showAt = none ∧ u.otp = s.otp ∧
        u.saf.sirel = s.saf.sirel ∧ u.saf.outA.tests = 0 ∧ u.saf.outB.tests = 0 ∧ u.saf.showAt = max s.now t ∧
        (∀ i, s.img.active = some i → u.rej.phaseUse = i.rej.slotPhase) ∧
        ∃ v, u = settle s (trackReady (startSafetyCues v)) ∧ v.bat.codeState = codeSeed s ∧ v.sm.cues = s.sm.cues ∧
          inShow v = true ∧
          ∀ (c : Nat) (x : HistChan), v.hist.chan.find c = some x → x.rPrev = 0 ∧ x.nfHist = [] ∧ x.nfCount = 0)) ∧
    (∀ m, inStandby s = true → s.pwr.showAt = some m → m ≤ tbUs (begin t s) → refuseShow s ≠ 0 →
      Yields (exec (.enterShow t) s) (fun u => u.pwr.mode = .standby ∧ u.pwr.showAt = none ∧ u.pwr.refuse = refuseShow s ∧
        u.cb.event.getLsbD evModeRefused = true ∧
        Leaves t s u (fun x => { x with cb := {}, pwr := { x.pwr with refuse := 0, showAt := none } }))) ∧
    (s.pwr.showAt.all (fun m => decide (tbUs (begin t s) < m)) = true →
      Yields (exec (.enterShow t) s) (fun u => Leaves t s u id)) ∧
    (inShow s = true → Yields (exec (.modeReqStandby t p) s) (fun u => u.pwr.mode = .standby ∧ u.saf.curtain = false ∧
      u.bat.emCmd = false ∧ u.bat.lsCmd = false ∧ u.bat.hsCmd = false ∧ u.bat.due = [])) ∧
    (live s = true → Yields (exec (.modeReqDark t p) s) (fun u => u.pwr.mode = .dark ∧ u.pwr.inReset = false ∧
      u.img = {} ∧ u.wq = {} ∧ u.cal = {} ∧ u.bat = {} ∧ u.hist = {} ∧ u.saf.curtain = false)) ∧
    (inStandby s = true → Yields (exec (.modeReqDark t p) s) (fun u => u.otp = s.otp ∧ u.gl.wake = s.gl.wake ∧
      u.gl.fails = s.gl.fails ∧ u.gl.darkSince = max s.now t)) ∧
    (inStandby s = true → Yields (exec (.modeReqStandby t p) s) (fun u => Leaves t s u id))) ∧
  (∀ (t c : Nat) (high : Bool) (s : State), resetDue t s = false → live s = false → c < 8 →
    let level := high && !s.th.railLow.getLsbD 1
    (s.gl.sinLevel.getLsbD c ≠ level →
      Yields (exec (.ghostLightSinChange t c high) s) (fun u => u.gl.sinLevel.getLsbD c = level ∧
        (∀ d < 8, d ≠ c → u.gl.sinLevel.getLsbD d = s.gl.sinLevel.getLsbD d) ∧
        u.gl.sinChanges = satAdd 24 s.gl.sinChanges 1 ∧
        Leaves t s u (fun x => { x with gl := { x.gl with sinLevel := 0, sinChanges := 0 } }))) ∧
    (s.gl.sinLevel.getLsbD c = level → Yields (exec (.ghostLightSinChange t c high) s) (fun u => Leaves t s u id)))

/-! ### The stage door -/

/-- R500 to R502: a door that is zeroised, not in Standby with the curtain down, or waiting refuses every operation
with RESULT 6, 1 or 7, and changes nothing but the door's own registers. R500, R501: 60 s after its issue a challenge
is no longer valid; a refusal period that has run out reads WAIT_S 0. -/
def Obligations.DoorShutAndTimers : Prop :=
  (∀ (t : Nat) (p : Path) (n : Nat) (b : Bool) (s : State), awake t s = true → doorShut (begin t s) ≠ 0 →
    (s.door.zeroised = true → doorShut (begin t s) = 6) ∧
    (s.door.zeroised = false → rwsOpen s = false → doorShut (begin t s) = 1) ∧
    ∀ c ∈ [Instr.doorChallenge t p n, .doorUnlockKey t p b, .doorUnlockPw t p b, .doorClose t p,
      .doorProgSlot t p n b, .doorRevoke t p n b, .doorRetire t p b],
      Yields (exec c s) (fun u => u.door.result = doorShut (begin t s) ∧
        Leaves t s u (fun x => { x with door := { x.door with ctrl := 0, result := 0, resp := [], data := [] } }))) ∧
  (∀ (t : Nat) (s : State), awake t s = true →
    (∀ c, s.door.chalAt = some c → c + 60 * secTicks ≤ max s.now t →
      Yields (exec (.challengeExpiry t) s) (fun u => u.door.chalAt = none ∧
        Leaves t s u (fun x => { x with door := { x.door with chalAt := none } }))) ∧
    (∀ c, s.door.chalAt = some c → max s.now t < c + 60 * secTicks →
      Yields (exec (.challengeExpiry t) s) (fun u => Leaves t s u id)) ∧
    (s.door.waitUntil ≤ max s.now t → Yields (exec (.doorWaitExpiry t) s) (fun u => u.door.waitUntil = 0 ∧
      Leaves t s u (fun x => { x with door := { x.door with waitUntil := 0 } }))))

/-- R500: from Locked, CHALLENGE gives a block of 32 bytes that begins with the UID and holds the scope, valid for 60
s. R500 to R502: an attempt by either credential. No valid challenge gives RESULT 3; a mismatch counts, spends the
challenge and closes the door for 1 s, or 60 s after 8 consecutive failures; a match opens the part for the scope
asked for, and with SCAN in it the secrets are zeroised first. -/
def Obligations.DoorUnlock : Prop :=
  (∀ (t : Nat) (p : Path) (scope : Nat) (s : State), resetDue t s = false → doorShut (begin t s) = 0 → lcState s = 1 →
    Yields (exec (.doorChallenge t p scope) s) (fun u => u.door.result = 0 ∧ u.door.chalScope = scope % 8 ∧
      u.door.chal.length = 32 ∧ u.door.chal.take 8 = leBytes 8 s.otp.uid.toNat ∧
      u.door.chal.getD 25 0 = BitVec.ofNat 8 (scope % 8) ∧ u.door.chalAt = some (max s.now t) ∧
      challengeValid u = true ∧ Leaves t s u (fun x => { x with door := {}, free := 0 }))) ∧
  (∀ (t : Nat) (p : Path) (b : Bool) (s : State), resetDue t s = false → doorShut (begin t s) = 0 → lcState s = 1 →
    ∀ q ∈ [(Instr.doorUnlockKey t p b, keyMatches s), (Instr.doorUnlockPw t p b, passwordMatches s)],
      (challengeValid (begin t s) = false → Yields (exec q.1 s) (fun u => u.door.result = 3 ∧ u.door.chalAt = none ∧
        u.gl = s.gl)) ∧
      (challengeValid (begin t s) = true → q.2 = false → Yields (exec q.1 s) (fun u => u.door.result = 2 ∧
        u.door.chalAt = none ∧ u.gl.fails = satAdd 16 s.gl.fails 1 ∧ u.gl.fieldOpened = s.gl.fieldOpened ∧
        u.door.waitUntil = max s.now t + (if u.gl.fails ≤ 8 then secTicks else 60 * secTicks))) ∧
      (challengeValid (begin t s) = true → q.2 = true → Yields (exec q.1 s) (fun u => u.gl.fieldOpened = true ∧
        lcState u = 2 ∧ u.gl.fails = 0 ∧ u.door.chalAt = none ∧
        (s.door.chalScope / 2 % 2 = 0 → u.door.result = 0 ∧ u.door.scope = s.door.chalScope ∧
          u.door.zeroised = s.door.zeroised) ∧
        (s.door.chalScope / 2 % 2 = 1 → b = true → u.door.result = 0 ∧ u.door.zeroised = true ∧
          u.door.closed = true ∧ u.door.chal = []) ∧
        (s.door.chalScope / 2 % 2 = 1 → b = false → u.door.result = 5 ∧ u.door.zeroised = false ∧
          u.door.closed = true))))

/-- R498, R499, R503: the operations of an open door: CLOSE returns it to Locked; with scope OTP, PROG_SLOT takes the
hash in PWR_DOOR_DATA into an empty slot, REVOKE revokes a slot and takes AUTH from an image it authenticated, RETIRE
erases the secrets. A failed readback gives RESULT 4 and spends the bits, which then fail for good (the model's
reading, notes/assumptions/40.md). Without that scope they give RESULT 1 and OTP stays. What the TAP and scan reach
follows Table 14.6. -/
def Obligations.DoorOtp : Prop :=
  ∀ (t : Nat) (p : Path) (n : Nat) (s : State), resetDue t s = false → doorShut (begin t s) = 0 →
    (lcState s = 2 → Yields (exec (.doorClose t p) s) (fun u => u.door.result = 0 ∧ lcState u = 1 ∧ u.door.scope = 0)) ∧
    (otpScope s = true → n < 4 → (s.otp.keys.get {} n).hash = none → (s.otp.keys.get {} n).spent = false →
      Yields (exec (.doorProgSlot t p n true) s) (fun u => u.door.result = 0 ∧
        (u.otp.keys.get {} n).hash = some (beNat (blockBytes s.door.data 8)) ∧
        (∀ k < 4, k ≠ n → u.otp.keys.get {} k = s.otp.keys.get {} k) ∧
        Leaves t s u (fun x => { x with door := {}, otp := { x.otp with keys := [] } }))) ∧
    (otpScope s = true → n < 4 → (s.otp.keys.get {} n).revokeSpent = false → Yields (exec (.doorRevoke t p n true) s) (fun u => u.door.result = 0 ∧
      (u.otp.keys.get {} n).revoked = true ∧ (s.img.keySlot = some n → u.img.auth = false) ∧
      (s.img.keySlot ≠ some n → u.img = s.img))) ∧
    (otpScope s = true → n < 4 → ∀ b, b = false ∨ (s.otp.keys.get {} n).revokeSpent = true →
      Yields (exec (.doorRevoke t p n b) s) (fun u => u.door.result = 4 ∧
        (u.otp.keys.get {} n).revokeSpent = true ∧ (u.otp.keys.get {} n).revoked = (s.otp.keys.get {} n).revoked)) ∧
    (otpScope s = true → n < 4 → (s.otp.keys.get {} n).hash = none → (s.otp.keys.get {} n).spent = false →
      Yields (exec (.doorProgSlot t p n false) s) (fun u => u.door.result = 4 ∧
        (u.otp.keys.get {} n).hash = none ∧ (u.otp.keys.get {} n).spent = true)) ∧
    (otpScope s = true → ∀ b, b = false ∨ s.otp.retireSpent = true → Yields (exec (.doorRetire t p b) s) (fun u =>
      u.door.result = 4 ∧ lcState u = 2 ∧ u.otp.devKey = none ∧ u.otp.password = none ∧ u.otp.retireSpent = true)) ∧
    (lcState s = 1 → tapOpen s = false ∧ scanOpen s = false) ∧
    (lcState s = 2 → tapOpen s = true ∧ scanOpen s = (s.door.zeroised && decide (s.door.scope / 2 % 2 = 1))) ∧
    (lcState s ≠ 1 → lcState s ≠ 2 → tapOpen s = true ∧ scanOpen s = true) ∧
    (otpScope s = true → s.otp.retireSpent = false → Yields (exec (.doorRetire t p true) s) (fun u => u.door.result = 0 ∧ lcState u = 3 ∧
      u.otp.devKey = none ∧ u.otp.password = none ∧ u.otp.keys = s.otp.keys)) ∧
    (otpScope s = false → ∀ c ∈ [Instr.doorProgSlot t p n true, .doorRevoke t p n true, .doorRetire t p true],
      Yields (exec c s) (fun u => u.door.result = 1 ∧ u.otp = s.otp ∧ u.gl = s.gl ∧ u.img = s.img))

/-! ### The image loader -/

/-- R62: a write to the load window stores four bytes, least significant first, at the selected area's offset and
leaves every other byte of both areas; while a load is checked, or beyond a patch's 64 KiB, it is discarded with a
violation. That beyond 64 KiB its kind is 4 is the model's choice (notes/assumptions/18.md). R63: GO hands the staged
bytes to the checks; while a load is checked it is discarded with a violation. ABORT ends a load with code 0x14 and
discards the staged image. CANCEL drops a pending patch, but in the core clock cycle of the scene change that applied
one (R69). -/
def Obligations.LoadWindowAndControl : Prop :=
  (∀ (t off : Nat) (p : Path) (v : W32) (s : State), awake t s = true → p ≠ .tap → BuffersSound s →
    let o := stagingOffset s (off % 0x100000 / 4 * 4)
    (s.img.load = none → s.img.kind = false → Yields (exec (.loadWindowWrite t p off v) s) (fun u =>
      BuffersSound u ∧ (∀ i < 4, (u.img.full.read (o + i)).toNat = v.toNat / 256 ^ i % 256) ∧
      (∀ a, a < o ∨ o + 4 ≤ a → u.img.full.read a = s.img.full.read a) ∧ u.img.patchArea = s.img.patchArea ∧
      Leaves t s u (fun x => { x with img := { x.img with full := [], stagedLen := 0 } }))) ∧
    (s.img.load = none → s.img.kind = true → off % 0x100000 < 65536 →
      Yields (exec (.loadWindowWrite t p off v) s) (fun u =>
        BuffersSound u ∧ (∀ i < 4, (u.img.patchArea.read (o + i)).toNat = v.toNat / 256 ^ i % 256) ∧
        (∀ a, a < o ∨ o + 4 ≤ a → u.img.patchArea.read a = s.img.patchArea.read a) ∧ u.img.full = s.img.full)) ∧
    (s.img.load ≠ none ∨ (s.img.kind = true ∧ 65536 ≤ off % 0x100000) →
      Yields (exec (.loadWindowWrite t p off v) s) (fun u => Leaves t s u boardOnly ∧
        u.cb.event.getLsbD evAccess = true ∧ u.cb.violKind = (if s.img.load = none then kindRule else kindBusy)))) ∧
  (∀ (t : Nat) (p : Path) (s : State), awake t s = true → p ≠ .tap →
    (s.img.load = none → Yields (exec (.imageGo t p) s) (fun u =>
      u.img.load = some
        { patch := s.img.kind, bytes := stagedBytes s, after := stagedAfter s, src := Path.code p, copy := 3
          first := firstCheck s.img.kind s } ∧
      u.cb.bootCopy = 3 ∧ Leaves t s u (fun x => { x with
        img := { x.img with load := none, waitLane := false }, cb := { x.cb with bootCopy := 0 } }))) ∧
    (s.img.load ≠ none → Yields (exec (.imageGo t p) s) (fun u => Leaves t s u boardOnly ∧
      u.cb.violKind = kindBusy ∧ u.cb.event.getLsbD evAccess = true)) ∧
    (s.img.load ≠ none → Yields (exec (.imageAbort t p) s) (fun u => u.img.load = none ∧ u.img.stagedLen = 0 ∧
      u.img.errCode = 0x14 ∧ u.cb.event.getLsbD evImageError = true ∧ u.img.active = s.img.active)) ∧
    (s.img.load = none → Yields (exec (.imageAbort t p) s) (fun u => u.img.stagedLen = 0 ∧
      Leaves t s u (fun x => { x with img := { x.img with stagedLen := 0 } }))) ∧
    (s.img.sceneAt.any (fun x => coreCycle x == coreCycle (max s.now t)) = false →
      Yields (exec (.patchCancel t p) s) (fun u => u.img.pending = none ∧ u.img.feWait = 0 ∧
        Leaves t s u (fun x => { x with img := { x.img with pending := none, feWait := 0 } }))) ∧
    (s.img.sceneAt.any (fun x => coreCycle x == coreCycle (max s.now t)) = true →
      Yields (exec (.patchCancel t p) s) (fun u => Leaves t s u id)))

/-- R63, R65, R522: the checks of a load end in image-done or image-error, and the loader is free again; a full image
outside Standby with the curtain down fails with code 0x01 and leaves the active image. Check 1 is made at GO: a patch
beside a pending one then fails with code 0x12. A boot copy that has been fetched is checked at once; one whose header
gives more than 2 MiB fails with code 0x05, the primary handing on to the secondary. That a copy without a magic loads
16 bytes is the model's choice (notes/assumptions/18.md). -/
def Obligations.LoaderEnds : Prop :=
  ∀ (t : Nat) (j : LoadJob) (s : State), awake t s = true →
    (s.img.load = some j → Yields (exec (.imageChecksEnd t) s) (fun u => u.img.load = none ∧ u.img.stagedLen = 0 ∧
      (u.cb.event.getLsbD evImageDone = true ∨ u.cb.event.getLsbD evImageError = true))) ∧
    (s.img.load = some j → j.patch = false → j.first ≤ 1 → rwsOpen s = false →
      Yields (exec (.imageChecksEnd t) s) (fun u => u.img.errCode = 1 ∧ u.img.active = s.img.active ∧
        u.cb.event.getLsbD evImageError = true)) ∧
    (s.img.load = some j → j.first ≠ 0 →
      Yields (exec (.imageChecksEnd t) s) (fun u => u.img.errCode = j.first ∧ u.img.active = s.img.active ∧
        u.img.pending = s.img.pending ∧ u.cb.event.getLsbD evImageError = true)) ∧
    (s.img.pending ≠ none → firstCheck true s = 0x12) ∧ (s.img.pending = none → firstCheck true s = 0) ∧
    (firstCheck false s = (if rwsOpen s then 0 else 1)) ∧
    (∀ (copy : Nat) (single : Bool) (bytes : List Byte), s.img.load = none → s.img.fetching = some copy →
      (fetchLength bytes).getD 16 ≤ 2097152 →
      Yields (exec (.bootFetchDone t copy single bytes) s) (fun u =>
        u.img.load = some
          { patch := false, bytes := bytes.take ((fetchLength bytes).getD 16), src := 3, copy := copy
            first := if rwsOpen s then 0 else 1 } ∧
        u.img.fetching = none ∧ u.cb.bootSingle = (single || (fetchLength bytes).isNone) ∧ u.cb.bootCopy = copy)) ∧
    (∀ (copy : Nat) (single : Bool) (bytes : List Byte), s.img.load = none → s.img.fetching = some copy →
      2097152 < (fetchLength bytes).getD 16 →
      Yields (exec (.bootFetchDone t copy single bytes) s) (fun u => u.img.load = none ∧ u.img.errCode = 5 ∧
        u.cb.event.getLsbD evImageError = true ∧ u.img.fetching = (if copy = 1 then some 2 else none)))

/-! ### Emission -/

/-- R138, R141, R143: HOLD ends one second after it was set. The closing sequence, where it may start, closes the low-
side switch when the inputs of step 1 lie as they must, 100 µs later the high-side switch by the inputs of step 2, and
has passed 200 µs after its start by that of step 4; any other reading gives SW_FAULT with both switches open. Where
it may not start, nothing happens. A readback sample shows the switches; a disagreement of more than 100 µs opens
them. What the inputs read in the steps comes with the command, the model's choice (notes/assumptions/12.md). -/
def Obligations.EmitterSupply : Prop :=
  ∀ (t : Nat) (s : State), awake t s = true →
    (s.bat.hold = true → s.bat.holdSince + secTicks ≤ max s.now t → Yields (exec (.holdExpiry t) s) (fun u =>
      u.bat.hold = false ∧ Leaves t s u (fun x => { x with bat := { x.bat with hold := false } }))) ∧
    (∀ a b c d e : Nat, closeReady s = true → (below25 a && above75 b) = true →
      Yields (exec (.emitterCloseStart t a b c d e) s) (fun u => u.bat.lsCmd = true ∧ u.bat.hsCmd = false ∧
        u.bat.closing = some { since := max s.now t, low30 := c, low31 := d, top30 := e } ∧
        u.bat.emCmd = s.bat.emCmd ∧ Leaves t s u (fun x => { x with bat := {} }))) ∧
    (∀ a b c d e : Nat, closeReady s = true → (below25 a && above75 b) = false →
      Yields (exec (.emitterCloseStart t a b c d e) s) (fun u => u.bat.swFault = true ∧ u.bat.lsCmd = false ∧
        u.bat.hsCmd = false ∧ u.bat.emCmd = false ∧ Leaves t s u (fun x => { calm x with bat := {} }))) ∧
    (∀ a b c d e : Nat, closeReady s = false →
      Yields (exec (.emitterCloseStart t a b c d e) s) (fun u => Leaves t s u id)) ∧
    (∀ k, s.bat.closing = some k → s.bat.hsCmd = false → s.bat.disagree = none →
      (∀ a b : Nat, max s.now t < k.since + 100 * usTicks → Yields (exec (.emitterReadbackSample t a b) s) (fun u =>
        u.bat.hsRb = above75 a ∧ u.bat.lsRb = below25 b ∧
        u.bat.closing = some { k with low30 := a, low31 := b } ∧ Leaves t s u (fun x => { x with bat := {} }))) ∧
      (k.since + 100 * usTicks ≤ max s.now t → (below25 k.low31 && below25 k.low30) = false →
        Yields (exec (.switchFault t) s) (fun u => u.bat.swFault = true ∧ u.bat.lsCmd = false ∧ u.bat.hsCmd = false ∧
          u.bat.emCmd = false ∧ Leaves t s u (fun x => { calm x with bat := {} }))) ∧
      ((below25 k.low31 && below25 k.low30) = true → k.since + 100 * usTicks ≤ max s.now t →
        (max s.now t < k.since + 200 * usTicks → Yields (exec (.switchFault t) s) (fun u => u.bat.hsCmd = true ∧
          u.bat.lsCmd = s.bat.lsCmd ∧ u.bat.emCmd = s.bat.emCmd ∧ u.bat.closing = some k ∧
          Leaves t s u (fun x => { x with bat := {} }))) ∧
        (k.since + 200 * usTicks ≤ max s.now t → above75 k.top30 = true →
          Yields (exec (.switchFault t) s) (fun u => u.bat.hsCmd = true ∧ u.bat.lsCmd = s.bat.lsCmd ∧
            u.bat.emCmd = s.bat.emCmd ∧ u.bat.closed = true ∧ u.bat.closing = none ∧
            Leaves t s u (fun x => { x with bat := {} }))) ∧
        (k.since + 200 * usTicks ≤ max s.now t → above75 k.top30 = false →
          Yields (exec (.switchFault t) s) (fun u => u.bat.swFault = true ∧ u.bat.lsCmd = false ∧ u.bat.hsCmd = false ∧
            u.bat.emCmd = false ∧ Leaves t s u (fun x => { calm x with bat := {} }))))) ∧
    (s.bat.closing = none → ∀ a b : Nat, Yields (exec (.emitterReadbackSample t a b) s) (fun u =>
      u.bat.hsRb = above75 a ∧ u.bat.lsRb = below25 b ∧
      (readbackAgrees s a b = true → u.bat.disagree = none) ∧
      Leaves t s u (fun x => { x with bat := { x.bat with hsRb := false, lsRb := false, disagree := none } }))) ∧
    (∀ x, s.bat.closing = none → s.bat.disagree = some x → x + 100 * usTicks < max s.now t → s.bat.cmdAt + 100 * usTicks < max s.now t →
      Yields (exec (.switchFault t) s) (fun u => u.bat.swFault = true ∧ u.bat.lsCmd = false ∧ u.bat.hsCmd = false ∧
        u.bat.emCmd = false ∧ Leaves t s u (fun x => { calm x with bat := {} })))

/-- R110, R113, R115, R141: at a slot boundary the slot counts, the code register steps once, after any load that
waits, BAT_CODE_STATE shows it, and a passed closing sequence lets battens fire. Without a batten fault to apply, the
slot's descriptor is issued: each place of a batten that may fire, at the boundary plus its jitter. R82, R113, R124,
R127, R203, R252, R458: a due shot of a batten starts: it is no longer due, and where it fires (a channel listens, its
cue fires without points, or its cue has ended since the slot began and it is kept under handle 0, the model's choice,
notes/assumptions/19.md) the batten takes its start and its level and, with the supply on, sends a pulse of its
record's WIDTH at that start. A ranging channel that takes part in act one and can listen begins the shot at tick 0
with the profile's gate. A work-light shot counts for its segment. A batten with no shot due does nothing. -/
def Obligations.SlotsAndShots : Prop :=
  (∀ (t : Nat) (s : State), resetDue t s = false → slotDue (begin t s) = true →
    Yields (exec (.slotBoundary t) s) (fun u => u.bat.slot = s.bat.slot + 1 ∧
      u.bat.codeState = codeStep (if s.bat.codeLoad then codeSeed s else s.bat.codeState) ∧
      u.bat.codeShown = u.bat.codeState ∧
      u.bat.codeSlot = (if s.bat.codeLoad then 1 else s.bat.codeSlot + 1) ∧
      (s.bat.closing = none → s.bat.closed = true → u.bat.emCmd = true ∧ u.bat.closed = false) ∧
      (s.bat.closing = none → s.bat.closed = false → u.bat.emCmd = s.bat.emCmd) ∧
      (s.bat.closing = none → (∀ (b : Nat) (v : Batten), s.bat.ch.find b = some v → v.faultWait = false) →
        u.bat.due = s.bat.due ++ descriptor (stepCode (begin t s)) s.bat.slot) ∧
      u.rx = s.rx ∧ u.img = s.img ∧ u.pwr = s.pwr)) ∧
  (∀ (t : Nat) (s : State), awake t s = true →
    (∀ (b : Nat) (q : Place × Nat), b < 64 → dueShot (begin t s) b = some q →
      Yields (exec (.shotStart t b) s) (fun u => u.bat.slot = s.bat.slot ∧ u.pwr = s.pwr ∧ u.img = s.img ∧
        (∀ r ∈ u.bat.due, r ∈ removeFirst q s.bat.due) ∧
        (∀ r ∈ removeFirst q s.bat.due, r.1.handle ≠ q.1.handle → r ∈ u.bat.due) ∧
        (q.1.handle = 0 ∨ q.1.kind = 4 ∨ placeChannels (begin t s) q.1 ≠ [] →
          (getBatten u b).starts =
            ((deviceOf (begin t s) q.2, s.bat.slot - 1) :: (getBatten s b).starts).take 64 ∧
          (getBatten u b).level = (takeLevel q.1 (getBatten s b)).level ∧
          (s.bat.emCmd = false → u.bat.fired = s.bat.fired) ∧
          (s.bat.emCmd = true → ∃ ph, u.bat.fired = s.bat.fired ++
              [{ batten := b, time := deviceOf (begin t s) q.2, phase := ph
                 cue := if q.1.kind = 4 then some q.1.handle else none
                 width := ((batRec s b).map BatRec.width).getD 0 }] ∧
            (s.bat.phLock = false → ph = 0) ∧
            (s.bat.phLock = true → q.1.handle = 0 ∨ placeChannels (begin t s) q.1 = [] →
              ph = bitrev5 (q.1.idx % 32)))) ∧
        (∀ (c : Nat) (p : Point), q.1.handle ≠ 0 → q.1.act = 1 → q.1.idx ≠ 0 → c < 1536 → c ∈ placeChannels (begin t s) q.1 →
          curPoint s c q.1.handle = some p → s.rx.biasOk = true → s.pwr.tpll = true → (getChan s c).gateLost = false →
          p.prof.coincK ≤ unmasked s c → (getChan s c).early.contains (q.1.batten, q.2) = false →
          ∃ x, (getChan u c).shot = some x ∧ x.start = deviceOf (begin t s) q.2 ∧ x.idx = q.1.idx ∧
            x.segs = [(p.prof.gateStart, p.prof.gateLen)] ∧ x.interval = some .tick0 ∧ x.launched = s.bat.emCmd))) ∧
    (∀ n : Nat, workLightOn s n = true → Yields (exec (.shotStart t (64 + n)) s) (fun u =>
      u.cal.wlShots.get 0 n = s.cal.wlShots.get 0 n + 1 ∧ u.bat = s.bat ∧ u.hist = s.hist)) ∧
    (∀ b : Nat, b < 64 → dueShot (begin t s) b = none → Yields (exec (.shotStart t b) s) (fun u => Leaves t s u id)))

/-- R129 to R132: a pulse reading belongs to the oldest pulse of its batten, 40 ns after that has ended; its peak is
shown, and a peak at OVER or above latches Over-current with the batten-fault event. The off-time samples come once a
slot, 1,600 ticks after its boundary; one over LEAK twice in a row latches Short and cuts the emitter supply. R133 to
R136: a window that a pulse takes to its limit trips the governor, which opens both switches; another batten that
reaches a limit in the same update sets MULTI, and the lowest batten is recorded. A bucket boundary moves every
batten's ring on by one. -/
def Obligations.CurrentSenseAndGovernor : Prop :=
  (∀ (t b : Nat) (s : State), awake t s = true →
    (∀ (f : Fired) (peak integral : Nat), s.bat.fired.find? (fun x => x.batten == b) = some f →
      f.readyAt ≤ max s.now t → Yields (exec (.pulseSenseReady t b peak integral) s) (fun u =>
        u.bat.fired = removeFirst f s.bat.fired ∧ (getBatten u b).peak = min peak 255 ∧
        (overThr s ≤ peak → (getBatten u b).overCur = true) ∧
        (overThr s ≤ peak → (getBatten s b).overCur = false → u.cb.event.getLsbD evBattenFault = true) ∧
        (openThr s ≤ peak → (getBatten u b).lowRun = 0))) ∧
    (∀ peak integral : Nat,
      (∀ f, s.bat.fired.find? (fun x => x.batten == b) = some f → max s.now t < f.readyAt) →
      Yields (exec (.pulseSenseReady t b peak integral) s) (fun u => Leaves t s u id)) ∧
    (∀ l, offDue (begin t s) = false → Yields (exec (.offTimeSample t l) s) (fun u => Leaves t s u id)) ∧
    (∀ level : Nat, b < 64 → offDue (begin t s) = true → leakThr s < level → 1 ≤ (getBatten s b).leakRun →
      (getBatten s b).short = false → Yields (exec (.offTimeSample t [(b, level)]) s) (fun u =>
        (getBatten u b).short = true ∧ u.bat.short = true ∧ u.bat.emCmd = false ∧ u.bat.lsCmd = false ∧
        u.bat.hsCmd = false ∧ u.cb.event.getLsbD evBattenFault = true ∧ u.bat.offSlot = s.bat.slot ∧
        Leaves t s u (fun x => { x with bat := {}, cb := {} }))) ∧
    (∀ level : Nat, b < 64 → offDue (begin t s) = true → level ≤ leakThr s →
      Yields (exec (.offTimeSample t [(b, level)]) s) (fun u => (getBatten u b).leakRun = 0 ∧ u.bat.offSlot = s.bat.slot ∧
        u.bat.short = s.bat.short ∧ Leaves t s u (fun x => { x with bat := {} })))) ∧
  ((∀ (t b l : Nat) (f : Fired) (peak integral : Nat) (s : State), awake t s = true →
    s.bat.fired.find? (fun x => x.batten == b) = some f → f.readyAt ≤ max s.now t → govLimit s b 0 = some l →
    l ≤ ringSum (ringAdd (getBatten s b).ringS (min integral 65535)) 32 →
    (s.bat.govTrip = true → s.bat.tripAt = max s.now t → s.bat.tripBat ≠ b →
      Yields (exec (.pulseSenseReady t b peak integral) s) (fun u => u.bat.govTrip = true ∧ u.bat.tripMulti = true ∧
        u.bat.tripBat = min b s.bat.tripBat ∧ u.bat.lsCmd = s.bat.lsCmd ∧ u.bat.hsCmd = s.bat.hsCmd)) ∧
    (s.bat.govTrip = false → Yields (exec (.pulseSenseReady t b peak integral) s) (fun u => u.bat.govTrip = true ∧ u.bat.tripBat = b ∧
      u.bat.tripWin = 0 ∧ u.bat.emCmd = false ∧ u.bat.lsCmd = false ∧ u.bat.hsCmd = false ∧ u.bat.due = []))) ∧
  (∀ (t w : Nat) (s : State), awake t s = true → bucketDue (begin t s) w = true →
    Yields (exec (.govBucketAdvance t w) s) (fun u => bucketsPassed u w = bucketsPassed s w + 1 ∧
      (∀ (b : Nat) (v : Batten), s.bat.ch.find b = some v → ∃ x, u.bat.ch.find b = some x ∧
        x.ringS = (if w = 0 then ringNext v.ringS 32 else v.ringS) ∧
        x.ringM = (if w = 1 then ringNext v.ringM 100 else v.ringM) ∧
        x.ringL = (if w = 2 then ringNext v.ringL 100 else v.ringL)) ∧
      Leaves t s u (fun x => { x with bat := {} }))) ∧
  (∀ (t w : Nat) (s : State), awake t s = true → bucketDue (begin t s) w = false →
    Yields (exec (.govBucketAdvance t w) s) (fun u => Leaves t s u id)))

/-- R125 to R128: an update of a group computes the next level of each of its battens from the batten's record and the
temperature of its source; the level in use changes only with a shot. -/
def Obligations.DriveLevels : Prop :=
  ∀ (t b : Nat) (r : BatRec) (s : State), awake t s = true → b < 64 → batRec s b = some r →
    Yields (exec (.driveLevelUpdate t (b / 8)) s) (fun u =>
      (getBatten u b).nextLevel = (driveLevel s r (sourceTemp s (battenSource s b))).1 ∧
      (getBatten u b).nextDer = (driveLevel s r (sourceTemp s (battenSource s b))).2 ∧
      (getBatten u b).level = (getBatten s b).level ∧
      (getBatten u b).wlOob = wavelengthOob s r (sourceTemp s (battenSource s b)) (getBatten s b).wlOob ∧
      Leaves t s u (fun x => { calm x with bat := { x.bat with ch := [] } }))

/-- R131, R137, R143, R150: the clears of BAT_FAULT_CLR act in Standby with the curtain down; elsewhere they are
discarded with a violation. Its KIND, which R150 leaves open, is 4: the bits are WO, and KIND 0 is that of RWS fields
(the model's choice, notes/assumptions/11.md). GOV_TRIP clears only while every window lies below its limit. The stage
door does not reach the register (R506). -/
def Obligations.FaultClears : Prop :=
  ∀ (t : Nat) (p : Path) (s : State), resetDue t s = false → p ≠ .tap →
    (rwsOpen s = true → Yields (exec (.batCsClr t p) s) (fun u => u.bat.short = false ∧
      (∀ (b : Nat) (v : Batten), u.bat.ch.find b = some v → v.faulted = false) ∧
      Leaves t s u (fun x => { x with bat := { x.bat with short := false, ch := [] } }))) ∧
    (rwsOpen s = true → Yields (exec (.batSwClr t p) s) (fun u => u.bat.swFault = false ∧
      Leaves t s u (fun x => { x with bat := { x.bat with swFault := false } }))) ∧
    (rwsOpen s = true → (∀ b < 64, ∀ w < 3, overLimit s b w = false) →
      Yields (exec (.batGovClr t p) s) (fun u => u.bat.govTrip = false ∧ u.bat.tripMulti = false ∧
        Leaves t s u (fun x => { x with bat := {} }))) ∧
    (∀ b w : Nat, rwsOpen s = true → b < 64 → w < 3 → overLimit s b w = true →
      Yields (exec (.batGovClr t p) s) (fun u => u.bat.govTrip = s.bat.govTrip ∧ Leaves t s u id)) ∧
    (awake t s = true → rwsOpen s = false → ∀ c ∈ [Instr.batCsClr t p, .batSwClr t p, .batGovClr t p],
      Yields (exec c s) (fun u => Leaves t s u boardOnly ∧ u.cb.violKind = kindRule ∧
        u.cb.event.getLsbD evAccess = true))

/-- R119, R122, R457, R466: PH_LOCK rises after 4,096 good comparisons, with a code-density run unless AUTO is clear
in Show, and falls after 4 bad ones, which counts, sets the event and voids the run. A point in act one or act two at
a rise stays coarse. R99: a loss of the TPLL lock, or of BIAS_OK, ends every shot in progress; the TPLL takes PH_LOCK
with it. A channel's own clock gate ends that channel's shot. Their return lets channels listen again; BIAS_OK returns
only while the bias has a target. -/
def Obligations.Locks : Prop :=
  (∀ (t n : Nat) (s : State), awake t s = true →
    (s.bat.phLock = false → s.pwr.tpll = true → 4096 ≤ n → Yields (exec (.phLockRise t n) s) (fun u =>
      u.bat.phLock = true ∧ (calibrating s = true → u.cal.tapRun = true ∧ u.cal.tapFirst = none ∧ u.cal.tapAt = max s.now t) ∧
      (calibrating s = false → u.cal = s.cal) ∧
      (∀ (c : Nat) (v : HistChan), u.hist.chan.find c = some v → ∀ p ∈ v.cur, p.state = 1 ∨ p.state = 2 → p.coarse = true) ∧
      Leaves t s u (fun x => { x with bat := { x.bat with phLock := false },
                                      rx := { x.rx with chan := [] }, hist := { x.hist with chan := [] },
                                      cal := { x.cal with tapRun := false, tapFirst := none, tapAt := 0 } }))) ∧
    (s.bat.phLock = true ∨ s.pwr.tpll = false ∨ n < 4096 →
      Yields (exec (.phLockRise t n) s) (fun u => Leaves t s u id)) ∧
    (s.bat.phLock = true → 4 ≤ n → Yields (exec (.phLockFall t n) s) (fun u => u.bat.phLock = false ∧
      u.bat.unlocks = inc32 s.bat.unlocks ∧ u.cb.event.getLsbD evPhaseUnlock = true ∧ u.cal.tapRun = false ∧
      Leaves t s u (fun x => { calm x with bat := {}, rx := {}, cal := {} }))) ∧
    (n < 4 → Yields (exec (.phLockFall t n) s) (fun u => Leaves t s u id))) ∧
  (∀ (t : Nat) (s : State), awake t s = true →
    Yields (exec (.tpllUnlock ⟨t, none⟩) s) (fun u => u.pwr.tpll = false ∧ u.rx.tickLock = false ∧ u.bat.phLock = false ∧
      ∀ c, (getChan u c).shot = none) ∧
    (∀ c, c < 1552 → Yields (exec (.tpllUnlock ⟨t, some c⟩) s) (fun u => u.rx.tickLock = false ∧
      (getChan u c).shot = none ∧ (getChan u c).gateLost = true ∧ (∀ d, d ≠ c → getChan u d = getChan s d) ∧
      u.pwr = s.pwr ∧ u.bat = s.bat)) ∧
    Yields (exec (.biasOkFall t) s) (fun u => u.rx.biasOk = false ∧ (∀ c, (getChan u c).shot = none) ∧ u.bat = s.bat ∧
      u.pwr = s.pwr) ∧
    Yields (exec (.tickLockRise t) s) (fun u => u.pwr.tpll = true ∧ u.rx.tickLock = true ∧
      (∀ c, (getChan u c).gateLost = false ∧ (getChan u c).shot = (getChan s c).shot) ∧
      Leaves t s u (fun x => { x with
        pwr := { x.pwr with tpll := false }, rx := { x.rx with tickLock := false, chan := [] } })) ∧
    (s.pwr.releasedAt + 16 * msTicks ≤ max s.now t → s.cal.bdRun = false → Yields (exec (.biasOkRise t) s) (fun u =>
      u.rx.biasOk = true ∧ Leaves t s u (fun x => { x with rx := { x.rx with biasOk := false } }))) ∧
    (s.cal.bdRun = true → Yields (exec (.biasOkRise t) s) (fun u => Leaves t s u id)))

/-! ### Receive channels -/

/-- R82, R89, R91, R209: the tick-0 window opens with a cleared detector and a segment that touches no earlier one
does too; the end of RING_HOLD and of a blanking interval clear the detector. Nothing but that channel changes. R93,
R76, R80, R81, R92: a shot with no stop by the end of its last segment ends No return; an avalanche of a masked or
blind SPAD does nothing; any other makes its SPAD blind. In the gate after RING_HOLD it enters the coincidence
detector in place of an earlier event of its SPAD. With K = 1 it is the stop, at the counter's value. With K above 1,
fewer than K distinct SPADs leave the shot running; the K latest events are the stop where they span less than WIN
half-ticks, and are none where they span more, each by 62.5 ps at least: between those R81 leaves it open (a free
value decides, notes/assumptions/7.md). R106: a write to RX_CNT_SEL in range selects and clears the six counters; out
of range it is a violation. -/
def Obligations.ShotResults : Prop :=
  (∀ (t c : Nat) (x : Shot) (s : State), awake t s = true → (getChan s c).shot = some x →
    (x.counter (max s.now t) = 0 → isReference c = false → Yields (exec (.listenOpen t c .tick0) s) (fun u =>
      (getChan u c).shot = some { x with interval := some .tick0, detector := [] } ∧
      Leaves t s u (fun y => { y with rx := { y.rx with chan := [] } }))) ∧
    (∀ g, segmentOf x.segs (x.counter (max s.now t)) = some g → x.touches g = false →
      Yields (exec (.listenOpen t c (.segment g)) s) (fun u =>
        (getChan u c).shot = some { x with interval := some (.segment g), detector := [] } ∧
        Leaves t s u (fun y => { y with rx := { y.rx with chan := [] } }))) ∧
    (x.counter (max s.now t) = x.hold → Yields (exec (.ringHoldEnd t c) s) (fun u =>
      (getChan u c).shot = some { x with detector := [] } ∧
      (∀ d, d ≠ c → getChan u d = getChan s d) ∧ Leaves t s u (fun y => { y with rx := { y.rx with chan := [] } }))) ∧
    (∀ b ∈ x.blanks, x.counter (max s.now t) = (b.2 : Int) + 1 → Yields (exec (.blankIntervalEnd t c) s) (fun u =>
      (getChan u c).shot = some { x with detector := [] } ∧
      (∀ d, d ≠ c → getChan u d = getChan s d) ∧ Leaves t s u (fun y => { y with rx := { y.rx with chan := [] } })))) ∧
  (∀ (t c : Nat) (s : State), awake t s = true →
    (∀ x, (getChan s c).shot = some x → (x.lastTick : Int) < x.counter (max s.now t) →
      Yields (exec (.shotTimeout t c) s) (fun u => (getChan u c).shot = none ∧
        (getChan u c).results.length = (getChan s c).results.length + 1 ∧
        ((getChan u c).results.getLast?.map (fun r => wordOutcome r.word)) = some outNoReturn)) ∧
    (∀ n sub, n < 16 → c < 1552 → (maskOf s c).getLsbD n = true →
      Yields (exec (.spadEvent t c n sub) s) (fun u => Leaves t s u id)) ∧
    (∀ n sub, n < 16 → c < 1552 → 1024 * max s.now t + sub % 1024 < (getChan s c).blind.get 0 n →
      Yields (exec (.spadEvent t c n sub) s) (fun u => Leaves t s u id)) ∧
    (∀ n sub, n < 16 → c < 1552 → (maskOf s c).getLsbD n = false →
      (getChan s c).blind.get 0 n ≤ 1024 * max s.now t + sub % 1024 →
      Yields (exec (.spadEvent t c n sub) s) (fun u =>
        (getChan u c).blind.get 0 n = 1024 * max s.now t + sub % 1024 + blindTime s c ∧
        (∀ x g, (getChan s c).shot = some x → x.interval = some (.segment g) → x.k ≤ 1 → 0 < x.counter (max s.now t) →
          segmentOf x.segs (x.counter (max s.now t)) = some g → (x.hold : Int) ≤ x.counter (max s.now t) →
          x.blankedAt (x.counter (max s.now t)) = false → (getChan u c).shot = none ∧
          ((getChan u c).results.getLast?.map (fun r => r.word)) =
            some (resultWord c x outStop g (x.counter (max s.now t)).toNat)) ∧
        (∀ x g, (getChan s c).shot = some x → x.interval = some (.segment g) → 1 < x.k → 0 < x.counter (max s.now t) →
          segmentOf x.segs (x.counter (max s.now t)) = some g → (x.hold : Int) ≤ x.counter (max s.now t) →
          x.blankedAt (x.counter (max s.now t)) = false →
          (eventSpan (takeEvent x.detector n (1024 * max s.now t + sub % 1024)) x.k = none →
            (getChan u c).shot = some { x with detector := takeEvent x.detector n (1024 * max s.now t + sub % 1024) } ∧
            (getChan u c).results = (getChan s c).results) ∧
          (∀ span, eventSpan (takeEvent x.detector n (1024 * max s.now t + sub % 1024)) x.k = some span →
            (512 * x.win + 256 ≤ span →
              (getChan u c).shot = some { x with detector := takeEvent x.detector n (1024 * max s.now t + sub % 1024) } ∧
              (getChan u c).results = (getChan s c).results) ∧
            (span + 256 ≤ 512 * x.win → (getChan u c).shot = none ∧
              ((getChan u c).results.getLast?.map (fun r => r.word)) =
                some (resultWord c x outStop g (x.counter (max s.now t)).toNat))))))) ∧
  (∀ (t : Nat) (p : Path) (v : W32) (s : State), awake t s = true → p ≠ .tap →
    (fld v 10 0 ≤ 1551 → Yields (exec (.rxCntSelWrite t p v) s) (fun u =>
      u.rx.cntSel = merge 0x800007FF#32 s.rx.cntSel v ∧ u.rx.cntStop = 0 ∧ u.rx.cntNoret = 0 ∧ u.rx.cntCut = 0 ∧
      u.rx.cntVoid = 0 ∧ u.rx.cntWref = 0 ∧ u.rx.cntPre = 0 ∧
      Leaves t s u (fun x => { x with rx := { x.rx with
        cntSel := 0, cntStop := 0, cntNoret := 0, cntCut := 0, cntVoid := 0, cntWref := 0, cntPre := 0 } }))) ∧
    (1551 < fld v 10 0 → Yields (exec (.rxCntSelWrite t p v) s) (fun u => Leaves t s u boardOnly ∧
      u.cb.violKind = kindRange ∧ u.cb.violAddr = 0x00020010#32)))

/-! ### Points -/

/-- R160, R173 to R177: the oldest result of a channel is taken; the point that has waited longest goes to the lowest
free engine; an engine that finishes is free, and stops where STOP asks for it. STOP is set and cleared bit by bit, an
idle engine stops at once. R158, R160, R161, R165: the result of an act-one shot adds 1 to bin floor((STOP −
GATE_START) / 8) of its point, or to FAR from bin 1,024 on; that of an act-two shot adds 1 to the fine bin of its stop
and phase in the window that holds the stop, and to C1 in the first half of the act, to C2 in the second. A stop at 0,
and every other outcome, enters no histogram. Nothing but the point's frame changes. R173, R178 to R181, R187: what a
filter engine forms of a window. An output is the exact sum of the set's words with the samples around it (0 outside
the window), shifted down by 18 and saturated. The peak is the lowest of the largest outputs; the arrival is the
centroid of the outputs above 0 over the span; the other fields come of the unfiltered window. A window below Q_MIN,
without a centroid or escaped, yields no return, and every other one 8 bytes with its TOF. R155, R168, R181, R186,
R188, R189, R193: an engine that finishes forms its point with the set it held at the point's first shot. Without a
return, with EMPTY_PTS 0 and no window escaped, it is counted and no point record commits; else one point record
commits to the cue's queue, its header with the returns in window order or with the empty entry. With HREC 1 or 2 the
histogram record commits to the cue's histogram queue. The point's bank is released. R205 to R208: a gate that has
ended closes, and no gate with an end at or before its own is left; its fits join those that wait, which apply in
their order when they are done. With FTA_TRAINS 0 nothing is fitted. -/
def Obligations.PointEngines : Prop :=
  (∀ (t n : Nat) (p : Path) (s : State), awake t s = true → p ≠ .tap →
    (∀ (c : Nat) (r : ShotResult) (rest : List ShotResult), (getChan s c).results = r :: rest →
      Yields (exec (.shotResultAccumulate t c) s) (fun u => (getChan u c).results = rest ∧
        (∀ d, d ≠ c → getChan u d = getChan s d))) ∧
    (∀ (q : Nat × Nat × Nat) (rest : List (Nat × Nat × Nat)), s.hist.waiting = q :: rest → freeEngine s = some n →
      Yields (exec (.filterStart t) s) (fun u => u.hist.waiting = rest ∧
        (u.hist.engines.get {} n).busy = some (q.2.1, q.2.2) ∧
        Leaves t s u (fun x => { x with
          hist := { x.hist with waiting := [], engines := [], chan := [] }, wq := {}, free := 0 }))) ∧
    (∀ q, (s.hist.engines.get {} n).busy = some q → Yields (exec (.filterDone t n) s) (fun u =>
      (u.hist.engines.get {} n).busy = none ∧
      (s.hist.feStop.getLsbD n = true → (u.hist.engines.get {} n).stopped = true))) ∧
    (n < 8 → Yields (exec (.feStopSet t p n) s) (fun u => u.hist.feStop = s.hist.feStop ||| (1#8 <<< n) ∧
      ((s.hist.engines.get {} n).busy = none → (u.hist.engines.get {} n).stopped = true))) ∧
    (n < 8 → Yields (exec (.feStopClear t p n) s) (fun u => u.hist.feStop = s.hist.feStop &&& ~~~(1#8 <<< n) ∧
      (inShow s = true → (u.hist.engines.get {} n).stopped = false) ∧ Leaves t s u calm)) ∧
    (s.hist.feStop.getLsbD n = true → (s.hist.engines.get {} n).busy = none →
      Yields (exec (.filterEngineStopped t n) s) (fun u => (u.hist.engines.get {} n).stopped = true))) ∧
  (∀ (t c : Nat) (r : ShotResult) (rest : List ShotResult) (p : Point) (s : State), awake t s = true → c < 1536 →
    (getChan s c).results = r :: rest → r.workLight = false → curPoint s c r.handle = some p →
    (r.act = 1 → p.state = 1 → p.shotsDone + 1 < p.prof.shots1 → Yields (exec (.shotResultAccumulate t c) s) (fun u =>
      ∃ q, curPoint u c r.handle = some q ∧ q.state = 1 ∧ q.shotsDone = p.shotsDone + 1 ∧
        q.preshow = satAdd 32 p.preshow (wordPreshow r.word) ∧ q.wref = satAdd 16 p.wref (bn (wordWref r.word)) ∧
        (wordOutcome r.word ≠ outStop ∨ wordStop r.word = 0 → q.h1 = p.h1 ∧ q.far = p.far) ∧
        (wordOutcome r.word = outStop → 0 < wordStop r.word →
          (1024 ≤ (wordStop r.word - p.prof.gateStart) / 8 → q.h1 = p.h1 ∧ q.far = satAdd 16 p.far 1) ∧
          ((wordStop r.word - p.prof.gateStart) / 8 < 1024 → q.far = p.far ∧ ∀ a, q.h1.get 0 a =
            if a = (wordStop r.word - p.prof.gateStart) / 8 then satAdd 12 (p.h1.get 0 a) 1 else p.h1.get 0 a)) ∧
        (∀ d, d ≠ c → getHist u d = getHist s d) ∧
        Leaves t s u (fun x => { x with rx := { x.rx with chan := [] }, hist := { x.hist with chan := [] } }))) ∧
    (r.act = 2 → p.state = 2 → p.shotsDone + 1 < p.shots2 → Yields (exec (.shotResultAccumulate t c) s) (fun u =>
      ∃ q, curPoint u c r.handle = some q ∧ q.state = 2 ∧ q.shotsDone = p.shotsDone + 1 ∧ q.h1 = p.h1 ∧
        q.noret = satAdd 16 p.noret (bn (wordOutcome r.word == outNoReturn)) ∧ q.windows.length = p.windows.length ∧
        (∀ (w : Nat) (x : Window), p.windows[w]? = some x → ∃ y, q.windows[w]? = some y ∧ y.w0 = x.w0 ∧
          (wordOutcome r.word = outStop → p.overrun = false → 0 < wordStop r.word → x.w0 ≤ wordStop r.word →
            wordStop r.word < x.w0 + 8 →
            (∀ b, y.bins.get 0 b = if b = 32 * (wordStop r.word - x.w0) + 31 - r.phase
              then satAdd 16 (x.bins.get 0 b) 1 else x.bins.get 0 b) ∧
            (r.idx < 16 * p.prof.phaseReps → y.c1 = satAdd 16 x.c1 1 ∧ y.c2 = x.c2) ∧
            (16 * p.prof.phaseReps ≤ r.idx → y.c1 = x.c1 ∧ y.c2 = satAdd 16 x.c2 1)) ∧
          (wordOutcome r.word ≠ outStop ∨ p.overrun = true ∨ wordStop r.word = 0 ∨ wordStop r.word < x.w0 ∨
            x.w0 + 8 ≤ wordStop r.word → y.bins = x.bins ∧ y.c1 = x.c1 ∧ y.c2 = x.c2)) ∧
        (∀ d, d ≠ c → getHist u d = getHist s d) ∧
        Leaves t s u (fun x => { x with
          rx := { x.rx with chan := [] }, hist := { x.hist with chan := [] }, rej := { x.rej with cntBlank := 0 } })))) ∧
  (∀ (p : Point) (w : Nat) (x : Window) (y lo hi : Nat → Int) (sum : (Int → Int) → Int),
    (∀ n, y n = clampInt (-(2 ^ 31)) (2 ^ 31 - 1) (Int.fdiv (sumInt ((List.range p.fset.coefs.length).map (fun (i : Nat) =>
      let b : Int := n + i - ((p.fset.coefs.length - 1) / 2 : Nat)
      p.fset.coefs.getD i 0 * (if 0 ≤ b ∧ b < 256 then 256 * (x.bins.get 0 b.toNat : Int) - p.amb2 else 0)))) (2 ^ 18))) →
    (∀ n, lo n = max 0 ((n : Int) - fld p.ptCfg 6 0)) → (∀ n, hi n = min 255 ((n : Int) + fld p.ptCfg 6 0)) →
    (∀ f, sum f = sumInt ((List.range 256).map (fun b =>
      if lo (formWindow p w x).peak ≤ b ∧ (b : Int) ≤ hi (formWindow p w x).peak then f b else 0))) →
    (formWindow p w x).peak < 256 ∧
    (∀ b < 256, (formWindow p w x).ys.getD b 0 = y b ∧ y b ≤ y (formWindow p w x).peak) ∧
    (∀ b < (formWindow p w x).peak, y b < y (formWindow p w x).peak) ∧
    (sum (fun b => max 0 (y b.toNat)) = 0 → (formWindow p w x).tf = none ∧ returnOf p x (formWindow p w x) = none) ∧
    (sum (fun b => max 0 (y b.toNat)) ≠ 0 → (formWindow p w x).tf = some (divRound
      (sum (fun b => binPos p.taps x.w0 b.toNat * max 0 (y b.toNat))) (sum (fun b => max 0 (y b.toNat))).toNat)) ∧
    (formWindow p w x).amp =
      min 65535 ((65536 * sum (fun b => max 0 (256 * (x.bins.get 0 b.toNat : Int) - p.amb2))).toNat / (256 * p.exposed w)) ∧
    ((formWindow p w x).width : Int) = sum (fun b => if y (formWindow p w x).peak ≤ 2 * y b.toNat then 1 else 0) ∧
    (∀ t, (formWindow p w x).tf = some t →
      ((formWindow p w x).quality < fld p.ptCfg 31 24 ∨ escaped p x (formWindow p w x) = true →
        returnOf p x (formWindow p w x) = none) ∧
      (fld p.ptCfg 31 24 ≤ (formWindow p w x).quality → escaped p x (formWindow p w x) = false →
        ∃ tof flags, returnOf p x (formWindow p w x) = some (tof, (formWindow p w x).amp,
          leBytes 3 tof ++ leBytes 2 (formWindow p w x).amp ++ leBytes 1 (formWindow p w x).width
            ++ leBytes 1 (formWindow p w x).quality ++ leBytes 1 flags) ∧
        (tof : Int) = clampInt 0 0xFFFFFF (t - p.edelay - p.skew) ∧
        flags / 4 % 2 = bn (decide (t - p.edelay - p.skew < 0 ∨ 0xFFFFFF < t - p.edelay - p.skew)) ∧
        flags / 2 % 2 = bn (decide ((formWindow p w x).peak < (p.fset.coefs.length - 1) / 2
          ∨ 255 < (formWindow p w x).peak + (p.fset.coefs.length - 1 - (p.fset.coefs.length - 1) / 2)))))) ∧
  (∀ (t n c h : Nat) (p q : Point) (e : CueEntry) (s : State), awake t s = true →
    (s.hist.engines.get {} n).busy = some (c, h) → (getHist s c).forming.find? (fun x => x.engine == some n) = some p →
    findCue s p.handle = some e → e.state ≠ 4 → 2 ≤ e.left.get 0 c → p.overrun = false → s.img.feWait.getLsbD n = false →
    q = { p with fset := p.sets.getD n p.fset } → (∀ f ∈ formAll q, escaped q f.1 f.2 = false) →
    s.wq.used.Pairwise (fun a b => a < b) → s.wq.pool.wf = true →
    (fld p.ptCfg 17 16 = 0 → (formAll q).filterMap (fun f => returnOf q f.1 f.2) = [] → flag p.ptCfg 8 = false →
      Yields (exec (.filterDone t n) s) (fun u => (∀ k, (getQueue u k).items = (getQueue s k).items ∧
          (getQueue u k).tail = (getQueue s k).tail) ∧
        u.hist.cntPoints = s.hist.cntPoints ∧ u.hist.cntEmpty = satAdd 32 s.hist.cntEmpty 1 ∧
        (getHist u c).forming = removeFirst p (getHist s c).forming ∧
        (∀ b, p.bank = some b → b ∉ (getHist u c).held))) ∧
    (∀ r, fld p.ptCfg 17 16 = 0 →
      ((formAll q).filterMap (fun f => returnOf q f.1 f.2) ≠ [] ∨ flag p.ptCfg 8 = true) →
      queueRec s e.cue.queue = some r → r.consumer ≠ 4 → 1 ≤ r.maxItem → (getQueue s e.cue.queue).occupancy + 1 ≤ r.quota →
      Yields (exec (.filterDone t n) s) (fun u => ∃ it,
        (getQueue u e.cue.queue).items = (getQueue s e.cue.queue).items ++ [it] ∧
        it.seq = (getQueue s e.cue.queue).tail ∧ it.kind = 0 ∧
        itemBytes u it = pointHeader c q ((formAll q).filterMap (fun f => returnOf q f.1 f.2)).length
            (lateCode s { handle := p.handle, channel := c, engine := some n, queues := [e.cue.queue, e.cue.hqueue] }
              (p.conds ++ condsNow s)) false
          ++ (if (formAll q).filterMap (fun f => returnOf q f.1 f.2) = [] then emptyEntry
              else ((formAll q).filterMap (fun f => returnOf q f.1 f.2)).flatMap (fun x => x.2.2)) ∧
        u.hist.cntPoints = inc32 s.hist.cntPoints ∧
        (getHist u c).forming = removeFirst p (getHist s c).forming ∧
        (∀ b, p.bank = some b → b ∉ (getHist u c).held))) ∧
    (∀ r, fld p.ptCfg 17 16 = 1 ∨ fld p.ptCfg 17 16 = 2 →
      (formAll q).filterMap (fun f => returnOf q f.1 f.2) = [] → flag p.ptCfg 8 = false →
      e.cue.hqueue ≠ 0xFFFF → queueRec s e.cue.hqueue = some r → r.consumer ≠ 4 →
      (∀ o ∈ (getQueue s e.cue.hqueue).opens, o.owner ≠ n) →
      ceilDiv (histogramRecord c q (fld p.ptCfg 17 16) (formAll q)).length 64 ≤ r.maxItem →
      (getQueue s e.cue.hqueue).occupancy + ceilDiv (histogramRecord c q (fld p.ptCfg 17 16) (formAll q)).length 64 ≤ r.quota →
      Yields (exec (.filterDone t n) s) (fun u => ∃ it,
        (getQueue u e.cue.hqueue).items = (getQueue s e.cue.hqueue).items ++ [it] ∧
        it.seq = (getQueue s e.cue.hqueue).tail ∧ it.kind = 1 ∧
        itemBytes u it = histogramRecord c q (fld p.ptCfg 17 16) (formAll q) ∧ u.hist.cntPoints = s.hist.cntPoints))) ∧
  (∀ (t : Nat) (s : State), awake t s = true →
    (∀ r, rejParams s = some r → gateDue (begin t s) r = true → Yields (exec (.ftaGateClose t) s) (fun u =>
      (∀ g, g ∈ u.rej.gates ↔ g ∈ s.rej.gates ∧ gateEnd r s < g.stop) ∧ (0 < gateTicks r → gateEnd r s < gateEnd r u) ∧
      (r.ftaTrains = 0 → u.rej.fits = s.rej.fits) ∧
      (r.ftaTrains ≠ 0 → ∃ ts, u.rej.fits = s.rej.fits ++ [ts]) ∧ u.rej.trains = s.rej.trains ∧
      Leaves t s u (fun x => { x with rej := { x.rej with gates := [], nextGate := 0, fits := [] } }))) ∧
    (∀ r, rejParams s = some r → gateDue (begin t s) r = false →
      Yields (exec (.ftaGateClose t) s) (fun u => Leaves t s u id)) ∧
    (∀ ts rest, s.rej.fits = ts :: rest → Yields (exec (.ftaFitDone t) s) (fun u => u.rej.trains = ts ∧
      u.rej.fits = rest ∧ Leaves t s u (fun x => { x with rej := { x.rej with trains := [], fits := [] } }))) ∧
    (s.rej.fits = [] → Yields (exec (.ftaFitDone t) s) (fun u => Leaves t s u id)))

/-! ### Calibration and rehearsal -/

/-- R457, R460, R462, R466: the RUN bits of CAL_CTRL start their runs, RUN_SKEW and RUN_BD only in Standby; a search
takes BIAS_OK away; a tap recalibration that is due starts a run. RUN_TAP during a run leaves the run as it is (the
model's choice, notes/assumptions/25.md). R456, R459, R460, R464, R466: while the device calibrates (outside Show, or
with AUTO set) an entry whose coarse pass saw no stop is judged as a rejection and a due remeasurement starts its
entry anew; else neither happens. The bias target follows hotspot 2; the unit of the temperature coefficient in it is
the model's choice (notes/assumptions/25.md). An ACTIVE lane takes the smallest of its eyes, three at a PAM4 rate, at
most every 100 ms. -/
def Obligations.CalibrationRunsAndUpdates : Prop :=
  (∀ (t : Nat) (p : Path) (s : State), awake t s = true → p ≠ .tap →
    Yields (exec (.calRunTap t p) s) (fun u => u.cal.tapRun = true ∧
      (s.cal.tapRun = true → u.cal = s.cal) ∧ Leaves t s u (fun x => { x with cal := {} })) ∧
    Yields (exec (.calRunConv t p) s) (fun u => u.cal.convRun = true ∧ u.cal.convCodes = [] ∧
      Leaves t s u (fun x => { x with cal := { x.cal with convRun := false, convCodes := [], convFirst := [] } })) ∧
    (inStandby s = true → Yields (exec (.calRunSkew t p) s) (fun u => u.cal.skewRun = true ∧ u.cal.wlShots = [] ∧
      Leaves t s u (fun x => { x with cal := { x.cal with skewRun := false, wlShots := [], entries := [] } }))) ∧
    (inStandby s = true → Yields (exec (.calRunBd t p) s) (fun u => u.cal.bdRun = true ∧ u.rx.biasOk = false ∧
      ∀ c, (getChan u c).shot = none)) ∧
    (inStandby s = false → ∀ c ∈ [Instr.calRunSkew t p, .calRunBd t p], Yields (exec c s) (fun u =>
      Leaves t s u boardOnly ∧ u.cb.violKind = kindRule ∧ u.cb.violAddr = 0x000D0000#32)) ∧
    (tapRecalDue (begin t s) = true → Yields (exec (.tapRecalTrigger t) s) (fun u => u.cal.tapRun = true ∧
      u.cal.tapFirst = none ∧ Leaves t s u (fun x => { x with cal := {} }))) ∧
    (tapRecalDue (begin t s) = false → Yields (exec (.tapRecalTrigger t) s) (fun u => Leaves t s u id))) ∧
  (∀ (t : Nat) (s : State), awake t s = true →
    (∀ k, 64 ≤ k → k < 1616 → calibrating s = true → (s.cal.entries.get {} k).blind = true →
      Yields (exec (.calEntryComplete t k) s) (fun u => (u.cal.entries.get {} k).state = 3 ∧
        u.cal.lastRej.getLsbD 2 = true ∧ u.cal.cntRej = inc32 s.cal.cntRej ∧
        u.cb.event.getLsbD evCalibration = true ∧ Leaves t s u (fun x => { x with cal := {}, cb := {} }))) ∧
    (∀ k, calibrating s = false → Yields (exec (.calEntryComplete t k) s) (fun u => Leaves t s u id)) ∧
    (∀ b, calibrating s = false → Yields (exec (.edelayRemeasure t b) s) (fun u => Leaves t s u id)) ∧
    (∀ b, b < 64 → calibrating s = true → remeasureDue (begin t s) b = true → Yields (exec (.edelayRemeasure t b) s) (fun u =>
      u.cal.entries.get {} b = {} ∧ u.cal.edelay = s.cal.edelay ∧
      Leaves t s u (fun x => { x with cal := { x.cal with entries := [] } }))) ∧
    (biasDue (begin t s) = true → (s.th.spots.get {} 2).broken = false → Yields (exec (.biasTargetUpdate t) s) (fun u =>
      u.cal.biasMv = 16 * vbdInUse s + s.otp.tc * ((s.th.spots.get {} 2).tj - 400) + 1600 * fld s.rx.cfg 23 16 ∧
      u.cal.biasAt = max s.now t ∧
      Leaves t s u (fun x => { x with cal := { x.cal with biasMv := 0, biasAt := 0 } }))) ∧
    (∀ (l : Nat) (w h : List Nat) (a b : Nat), l < 4 → (getLane s l).state = .active →
      (∀ e, (getLane s l).eyeAt = some e → e < (getLane s l).since ∨ e + 100 * msTicks ≤ max s.now t) →
      w.length = (if (getLane s l).rate = 0 then 1 else 3) → h.length = w.length →
      a ∈ w → (∀ x ∈ w, a ≤ x) → b ∈ h → (∀ x ∈ h, b ≤ x) → Yields (exec (.eyeMonitor t l w h) s) (fun u =>
      (getLane u l).eyeW = min a 65535 ∧ (getLane u l).eyeH = min b 65535 ∧ (getLane u l).eyeAt = some (max s.now t) ∧
      (∀ m, m ≠ l → getLane u m = getLane s m) ∧ Leaves t s u (fun x => { x with ln := { x.ln with lanes := [] } }))) ∧
    (∀ (l : Nat) (w h : List Nat) (e : Nat), (getLane s l).eyeAt = some e → (getLane s l).since ≤ e →
      max s.now t < e + 100 * msTicks → Yields (exec (.eyeMonitor t l w h) s) (fun u => Leaves t s u id)))

/-- R451, R457, R460, R465: a run's first result waits for its repeat; the two are judged together. A rejected pair
counts, marks its quantity and leaves the value in use; the second result ends the run. A breakdown search finds the
first of its 61 steps of 50 mV, from 1.5 V below the factory value on, at which half of the unmasked SPADs fired. -/
def Obligations.CalibrationJudged : Prop :=
  ∀ (t : Nat) (s : State), awake t s = true →
    (∀ counts, s.cal.tapRun = true → s.cal.tapFirst = none → Yields (exec (.codeDensityRunEnd t counts) s) (fun u =>
      u.cal.tapFirst = some (tapsOfCounts counts) ∧ u.cal.tapRun = true ∧ u.cal.taps = s.cal.taps ∧
      Leaves t s u (fun x => { x with cal := { x.cal with tapFirst := none, tapCounts := [] } }))) ∧
    (∀ counts a, s.cal.tapRun = true → s.cal.tapFirst = some a → tapsPlausible (tapsOfCounts counts) = false →
      Yields (exec (.codeDensityRunEnd t counts) s) (fun u => u.cal.tapRun = false ∧ u.cal.taps = s.cal.taps ∧
        u.cal.cntRej = inc32 s.cal.cntRej ∧ u.cal.lastRej.getLsbD 0 = true ∧
        u.cb.event.getLsbD evCalibration = true ∧ Leaves t s u (fun x => { x with cal := {}, cb := {} }))) ∧
    (∀ counts a, s.cal.tapRun = true → s.cal.tapFirst = some a → a = tapsOfCounts counts → tapsPlausible a = true →
      s.fs.sceneRun = false → Yields (exec (.codeDensityRunEnd t counts) s) (fun u => u.cal.tapRun = false ∧
        u.cal.valid.getLsbD 0 = true ∧ u.cal.pendingQ.getLsbD 0 = false ∧
        (∀ p < 32, u.cal.taps.get 0 p = meanOf (a.getD p 0) (a.getD p 0)))) ∧
    (∀ (fired : List Nat), s.cal.bdRun = true → s.cal.bdFirst = none →
      (∀ (i f : Nat), i < 61 → fired[i]? = some f → 2 * f < unmaskedSpads s) →
      Yields (exec (.breakdownSearchEnd t fired) s) (fun u => u.cal.bdRun = false ∧ u.cal.vbd = s.cal.vbd ∧ u.cal.cntRej = inc32 s.cal.cntRej ∧
      u.cal.lastRej.getLsbD 3 = true)) ∧
    (∀ (fired : List Nat) (i f : Nat), s.cal.bdRun = true → s.cal.bdFirst = none → i < 61 → fired[i]? = some f → unmaskedSpads s ≤ 2 * f →
      (∀ (j g : Nat), j < i → fired[j]? = some g → 2 * g < unmaskedSpads s) →
      Yields (exec (.breakdownSearchEnd t fired) s) (fun u => u.cal.bdFirst =
        some (some (referBreakdown s (s.otp.vbd - 1500 + 50 * (i : Int)) (s.th.spots.get {} 2).tj)) ∧ u.cal.bdRun = true ∧
      Leaves t s u (fun x => { x with cal := { x.cal with bdFirst := none } })))

/-- R249, R469 to R472: a slice begins on the next instance whose capacity is free. When it has taken its time it is
judged by the check of its kind: each enabled channel of a work-light slice stops in at least 1/8 of its counted
shots; a converter's first codes are plausible, and its repeat in the next slice agrees with them; an excitation's
current lies within 2 % plus 2 µA with compliance not reached; a lane has no uncorrectable codeword; a safe output's
comparators read open at 3 V and closed at VDD_SAFE − 3 V. It completes, counts, and after a failure its instance
comes next again; a second consecutive failure has the effect of its kind. Its last reading belongs to the slice from
the next core clock cycle on (R472; that, and that the failed instance comes before the others, are the model's
choices, notes/assumptions/25.md and notes/assumptions/29.md). A service request ends a slice of any kind but the
converter's, discards its shots and places it again; an instance unchecked for 10 s is starved. -/
def Obligations.RehearsalSlices : Prop :=
  ∀ (t k i : Nat) (s : State), awake t s = true → k < 5 →
    (sliceDue (begin t s) k i = true →
      Yields (exec (.sliceStart t k i) s) (fun u => (getKind u k).running = some i ∧ (getKind u k).placed = none ∧
        (getKind u k).since = max s.now t ∧ (getKind u k).next = (i + 1) % max 1 (sliceInstances k) ∧
        (∀ j, j ≠ k → getKind u j = getKind s j) ∧ u.bat = s.bat ∧ u.rx = s.rx ∧
        (2 ≤ k → Leaves t s u (fun x => { x with rh := { x.rh with kinds := [] } })))) ∧
    (sliceDue (begin t s) k i = false → Yields (exec (.sliceStart t k i) s) (fun u => Leaves t s u id)) ∧
    ((getKind s k).running = none → ∀ r p c, Yields (exec (.sliceEnd t k r p c) s) (fun u => Leaves t s u id)) ∧
    ((getKind s k).running = some i → sliceOver (begin t s) k i = false →
      ∀ r p c, Yields (exec (.sliceEnd t k r p c) s) (fun u => Leaves t s u id)) ∧
    (∀ (readings : List Nat) (pass ok : Bool) (codes : Option ConvCodes), (getKind s k).running = some i →
      sliceOver (begin t s) k i = true →
      (k = 0 → (ok = true ↔ ∀ c ∈ sliceChannels i, (chEntry s c).any ChEntry.enable = true →
        (s.rh.tally.get (0, 0) c).1 ≤ 8 * (s.rh.tally.get (0, 0) c).2)) →
      (k = 1 → ∃ c, codes = some c ∧
        (s.rh.convFirst.find i = none → ok = convPlausible c) ∧
        (∀ a, s.rh.convFirst.find i = some a → ok = convAccepted a c)) →
      (k = 2 → ∃ want nA, readings = [want, nA] ∧ ok = (pass && !currentFar want nA)) →
      (k = 3 → (ok = true ↔ ∀ n ∈ readings, n = 0)) → (k = 4 → (ok = true ↔ readings = [0, 0, 1, 1])) →
      Yields (exec (.sliceEnd t k readings pass codes) s) (fun u => (getKind u k).running = none ∧
        (getKind u k).doneAt.get 0 i = max s.now t ∧ i ∉ (getKind u k).starved ∧ u.rh.cntSlice = inc32 s.rh.cntSlice ∧
        (ok = true → (getKind u k).last = 1 ∧ (getKind u k).fails.get 0 i = 0 ∧ (getKind u k).next = (getKind s k).next ∧
          u.rh.cntFail = satAdd 32 s.rh.cntFail 0 ∧
          (k = 0 → ∀ c ∈ sliceChannels i, c ∉ u.rh.failChan) ∧ (k = 1 → i ∉ u.rh.failConv) ∧ (k = 2 → i ∉ u.rh.failExc)) ∧
        (ok = false → (getKind u k).last = 2 ∧ (getKind u k).fails.get 0 i = (getKind s k).fails.get 0 i + 1 ∧
          (getKind u k).next = i ∧ u.rh.cntFail = satAdd 32 s.rh.cntFail 1 ∧
          (∀ g, i < sliceInstances k → sliceFree u k g i = true → nextInstance u k g = some i) ∧
          (1 ≤ (getKind s k).fails.get 0 i →
            (k = 0 → ∀ c ∈ sliceChannels i, (chEntry s c).any ChEntry.enable = true →
              8 * (s.rh.tally.get (0, 0) c).2 < (s.rh.tally.get (0, 0) c).1 → c ∈ u.rh.failChan) ∧
            (k = 1 → i ∈ u.rh.failConv ∧ u.cb.event.getLsbD evDisagree = true) ∧
            (k = 2 → i ∈ u.rh.failExc ∧ (i < 4 → u.hk.excFault.getLsbD i = true) ∧
              u.cb.event.getLsbD evAuxFault = true) ∧
            (k = 3 → (getLane u i).fail = true ∧ (getLane u i).state = .off) ∧
            (k = 4 → u.saf.causes.getLsbD 0x0A = true))) ∧
        (k = 1 → ∀ c, codes = some c →
          (s.rh.convFirst.find i = none → u.rh.convFirst.find i = some c ∧ u.cal = s.cal) ∧
          (∀ a, s.rh.convFirst.find i = some a → u.rh.convFirst.find i = none ∧
            (calibrating s = false → u.cal = s.cal) ∧
            (calibrating s = true → ok = true → s.fs.sceneRun = false →
              u.cal.conv.find i = some (meanOf a.c0 c.c0, meanOf a.c100 c.c100)))) ∧
        (k ≠ 1 → ok = true ∨ (getKind s k).fails.get 0 i = 0 →
          Leaves t s u (fun x => { x with rh := {}, sm := { x.sm with books := [] } })))) ∧
    (k ≠ 1 → (getKind s k).running = some i → Yields (exec (.slicePreempt t k) s) (fun u =>
      (getKind u k).running = none ∧ (getKind u k).last = 3 ∧ (getKind u k).next = i ∧
      u.rh.cntPre = inc32 s.rh.cntPre ∧ u.rh.cntSlice = s.rh.cntSlice ∧ u.bat = s.bat ∧
      (k = 0 → s.rh.saved.Pairwise (fun a b => a.1 ≠ b.1) →
        ∀ q ∈ s.rh.saved, u.cal.entries.get {} q.1 = q.2) ∧
      (k = 0 → ∀ c, (∀ x, (getChan u c).shot = some x → x.workLight = false) ∧
        ∀ r ∈ (getChan u c).results, r.workLight = false) ∧
      (k ≠ 0 → u.rx = s.rx ∧ u.cal = s.cal))) ∧
    (k = 1 ∨ (getKind s k).running = none → Yields (exec (.slicePreempt t k) s) (fun u => Leaves t s u id)) ∧
    (starvedNow (begin t s) k i = true → (getKind s k).starved.contains i = false →
      Yields (exec (.sliceStarved t k i) s) (fun u => i ∈ (getKind u k).starved ∧
        u.cb.event.getLsbD evRehearsal = true ∧
        Leaves t s u (fun x => { x with cb := {}, rh := { x.rh with kinds := [] } }))) ∧
    (starvedNow (begin t s) k i = false → Yields (exec (.sliceStarved t k i) s) (fun u => Leaves t s u id))

/-! ### The stage manager -/

/-- R227, R228, R267, R371, R372: a GO while no submission is undecided hands the record, or the template, to the
queue of the stage manager; a GO while BUSY reads 1 is a violation. A CUE message joins the same queue, and a calendar
of records does once the unpacker has finished with it; on a link of version 1.0 a calendar is a bad frame, answered
with NAK. That a calendar on a link of version 1.0 counts as a bad frame is the model's choice
(notes/assumptions/35.md). -/
def Obligations.Submissions : Prop :=
  ∀ (t : Nat) (p : Path) (s : State), awake t s = true → p ≠ .tap →
    (s.sm.resBusy = false → Yields (exec (.cueSubmit t p) s) (fun u => u.sm.resBusy = true ∧
      u.sm.fifo = s.sm.fifo ++ [{ cue := cueOfWords s.sm.submit, source := .port p }] ∧
      Leaves t s u (fun x => { x with sm := { x.sm with subCtrl := 0, resBusy := false, fifo := [] } }))) ∧
    (∀ i m c, s.sm.resBusy = false → i < 1024 → s.img.active = some m → m.templates[i]? = some c →
      Yields (exec (.cueSubmitTemplate t p i) s) (fun u => u.sm.resBusy = true ∧
        u.sm.fifo = s.sm.fifo ++ [{ cue := c, source := .template }] ∧
        Leaves t s u (fun x => { x with free := 0, sm := { x.sm with subCtrl := 0, resBusy := false, fifo := [] } }))) ∧
    (∀ i, s.sm.resBusy = true → ∀ c ∈ [Instr.cueSubmit t p, .cueSubmitTemplate t p i], Yields (exec c s) (fun u =>
      u.cb.violKind = kindBusy ∧ u.cb.violAddr = 0x00010120#32 ∧ u.cb.event.getLsbD evAccess = true ∧
      Leaves t s u (fun x => { x with free := 0, cb := {}, sm := { x.sm with subCtrl := 0 } }))) ∧
    (∀ l c, fromHouse s l = true → Yields (exec (.laneCue t l c) s) (fun u =>
      u.sm.fifo = s.sm.fifo ++ [{ cue := c, source := .lane l }] ∧
      (getLane u l).rxSeq = ((getLane s l).rxSeq + framesOf (getLane s l) 1 32) % 256 ∧
      Leaves t s u (fun x => lanesOnly { x with sm := { x.sm with fifo := [] } }))) ∧
    (∀ l bs, fromHouse s l = true → 0x11 ≤ (getLane s l).ver → Yields (exec (.laneCalendar t l bs) s) (fun u =>
      u.pk.waiting = s.pk.waiting ++ [(l, bs)] ∧
      Leaves t s u (fun x => lanesOnly { x with pk := { x.pk with waiting := [] } }))) ∧
    (∀ l bs, fromHouse s l = true → (getLane s l).ver < 0x11 → Yields (exec (.laneCalendar t l bs) s) (fun u =>
      (getLane u l).cntFrameErr = inc32 (getLane s l).cntFrameErr ∧
      (getLane u l).block =
        some (blockCredit, ((creditBits 0 0 (((getLane s l).rxSeq + 255) % 256) false true : Nat) : Int)) ∧
      Leaves t s u lanesOnly)) ∧
    (∀ l bs r, s.pk.waiting = (l, bs) :: r →
      (∀ cs, unwrapCalendar bs = .ok cs → Yields (exec (.unpackDone t) s) (fun u => u.pk.waiting = r ∧ u.pk.unpCode = 0 ∧
        u.sm.fifo = s.sm.fifo ++ cs.map (fun c => { cue := c, source := .calendar l }) ∧
        Leaves t s u (fun x => { x with pk := {}, sm := { x.sm with fifo := [] } }))) ∧
      (∀ c, unwrapCalendar bs = .error c → Yields (exec (.unpackDone t) s) (fun u => u.pk.waiting = r ∧
        u.pk.unpCode = c ∧ u.sm = s.sm ∧ Leaves t s u (fun x => { x with pk := {} }))))

/-- R229, R230, R237, R241: the submission that came first is decided, unless a split cue still waits. Outside Show,
without an image or with EN clear it is refused with reason 0x0F; one that a check of R237 refuses carries that
check's reason and resource; an armed cue is accepted and waits; any other is accepted with the start at which it
could be placed. -/
def Obligations.Admission : Prop :=
  ∀ (t : Nat) (s : State), awake t s = true →
    (s.sm.deciding.isSome = true ∨ s.sm.fifo = [] →
      Yields (exec (.admissionDecision t) s) (fun u => Leaves t s u id)) ∧
    (∀ (x : Submission) (r : List Submission) (p : Path), s.sm.deciding = none → s.sm.fifo = x :: r → x.source = .port p →
      let v := begin t { s with sm := { s.sm with fifo := r } }
      let e := entryFor v x.cue x.source
      (shutOut s = true → Yields (exec (.admissionDecision t) s) (fun u => u.sm.fifo = r ∧ u.sm.resBusy = false ∧
        u.sm.resAccept = false ∧ u.sm.resReason = 0x0F ∧ u.sm.resResource = 0 ∧
        u.sm.cntReject = satAdd 32 s.sm.cntReject 1 ∧ u.sm.cues = s.sm.cues ∧ u.sm.books = s.sm.books ∧
        Leaves t s u (fun y => { y with sm := {} }))) ∧
      (∀ a b, shutOut s = false → linkCount s ≠ 0 → judge v e = (a, b) → a ≠ 0 →
        Yields (exec (.admissionDecision t) s) (fun u => u.sm.fifo = r ∧ u.sm.resBusy = false ∧ u.sm.resAccept = false ∧
          u.sm.resReason = a ∧ u.sm.resResource = b ∧ u.sm.cntReject = satAdd 32 s.sm.cntReject 1 ∧
          u.sm.cues = s.sm.cues ∧ u.sm.books = s.sm.books ∧ Leaves t s u (fun y => { y with sm := {} }))) ∧
      (∀ b, shutOut s = false → linkCount s ≠ 0 → judge v e = (0, b) → e.guests = [] → cueArmed x.cue = true →
        Yields (exec (.admissionDecision t) s) (fun u => u.sm.fifo = r ∧ u.sm.resBusy = false ∧ u.sm.resAccept = true ∧
          u.sm.resHandle = (enterCue { e with state := 1 } v).1 ∧ u.sm.cntAccept = satAdd 32 s.sm.cntAccept 1 ∧
          (findCue u u.sm.resHandle).map CueEntry.state = some 1 ∧ u.sm.books = s.sm.books ∧
          Leaves t s u (fun y => { y with free := 0, sm := {} }))) ∧
      (∀ b w st, shutOut s = false → linkCount s ≠ 0 → judge v e = (0, b) → e.guests = [] → cueArmed x.cue = false →
        placeFirst (enterCue e v).1 e (enterCue e v).2 = .ok (w, st) →
        (findCue w (enterCue e v).1).map CueEntry.guests = some [] →
        Yields (exec (.admissionDecision t) s) (fun u => u.sm.resBusy = false ∧ u.sm.resAccept = true ∧
          u.sm.resReason = 0 ∧ u.sm.resHandle = (enterCue e v).1 ∧ u.sm.subStart = BitVec.ofNat 32 st)))

/-- R252, R253, R269, R270, R405: an abort of a running cue gives RESULT 0: the cue is Aborted, and its bookings and
its shots not launched leave the calendar, but for those of the slot that runs, which are kept under handle 0 (the
model's choice, notes/assumptions/19.md); one whose guests have not decided yet gives its bookings up now and ends
with their decisions; an abort of one that has ended gives RESULT 1, of an unknown handle RESULT 2. The result is set
within 2 µs, and a write before that is discarded with a violation. An ABORT from the house link does the same and is
answered with the result. The windows SM_CAL and SM_CUE show the group and the entry that their selectors name. -/
def Obligations.AbortsAndViews : Prop :=
  ∀ (t h : Nat) (p : Path) (s : State), awake t s = true → p ≠ .tap →
    let k := h % 65536
    let result := fun (x : Stage) => { x with abortRes := 0, abortWas := 0, abortDone := 0 }
    (max s.now t < s.sm.abortDone → Yields (exec (.cueAbort t p h) s) (fun u => Leaves t s u boardOnly ∧
      u.cb.violKind = kindBusy ∧ u.cb.violAddr = 0x00010130#32)) ∧
    (s.sm.abortDone ≤ max s.now t →
      Yields (exec (.cueAbort t p h) s) (fun u => u.sm.abortDone ≤ max s.now t + 2 * usTicks ∧
        u.sm.abortWas = s.sm.abortRes) ∧
      (findCue s k = none → endedCue s k = false → Yields (exec (.cueAbort t p h) s) (fun u =>
        u.sm.abortRes = 2 ∧ Leaves t s u (fun x => { x with free := 0, sm := result x.sm }))) ∧
      (endedCue s k = true → Yields (exec (.cueAbort t p h) s) (fun u =>
        u.sm.abortRes = 1 ∧ u.sm.cntAbortLost = inc32 s.sm.cntAbortLost ∧
        Leaves t s u (fun x => { x with free := 0, sm := { result x.sm with cntAbortLost := 0 } }))) ∧
      (∀ e, findCue s k = some e → s.sm.deciding.any (fun d => d.1 == k) = true →
        Yields (exec (.cueAbort t p h) s) (fun u => u.sm.abortRes = 0 ∧ (∀ b ∈ u.sm.books, b.handle ≠ k) ∧
          (findCue u k).map (fun x => (x.state, x.status)) = some (e.state, some (1, 1, 0)) ∧
          u.sm.deciding = s.sm.deciding ∧ Leaves t s u calm)) ∧
      (∀ e, findCue s k = some e → s.sm.deciding.any (fun d => d.1 == k) = false → e.state ≠ 4 →
        Yields (exec (.cueAbort t p h) s) (fun u =>
        u.sm.abortRes = 0 ∧ (∀ b ∈ u.sm.books, b.handle ≠ k) ∧ (∀ q ∈ u.bat.due, q.1.handle ≠ 0 → q.1.handle ≠ k) ∧
        (∀ x, findCue u k = some x → x.state = 4 ∧ x.status = some (1, 1, 0)) ∧ Leaves t s u calm)) ∧
      (∀ e, findCue s k = some e → s.sm.deciding.any (fun d => d.1 == k) = false → e.state = 4 →
        Yields (exec (.cueAbort t p h) s) (fun u =>
        u.sm.abortRes = 0 ∧ (findCue u k).map (fun x => (x.state, x.abortMet, x.status)) = some (4, true, some (1, 1, 0)) ∧
        Leaves t s u (fun x => { x with free := 0, sm := { result x.sm with cues := [] } })))) ∧
    (∀ l, fromHouse s l = true →
      let v := takeMessage l 1 4 (begin t s)
      (findCue s k = none → endedCue s k = false → Yields (exec (.laneAbort t l h) s) (fun u =>
        u.ln = (sendHouse 1 0x05 (leBytes 4 2) v).ln ∧ u.sm = s.sm ∧ Leaves t s u lanesOnly)) ∧
      (endedCue s k = true → Yields (exec (.laneAbort t l h) s) (fun u =>
        u.ln = (sendHouse 1 0x05 (leBytes 4 1) v).ln ∧ u.sm.cntAbortLost = inc32 s.sm.cntAbortLost ∧
        Leaves t s u (fun x => lanesOnly { x with sm := { x.sm with cntAbortLost := 0 } }))) ∧
      (∀ e, findCue s k = some e → s.sm.deciding.any (fun d => d.1 == k) = false → e.state ≠ 4 →
        Yields (exec (.laneAbort t l h) s) (fun u =>
        u.ln = (sendHouse 1 0x05 (leBytes 4 0) (endCue k 1 1 0 v)).ln ∧
        (∀ b ∈ u.sm.books, b.handle ≠ k) ∧ (∀ q ∈ u.bat.due, q.1.handle ≠ 0 → q.1.handle ≠ k) ∧
        (∀ x, findCue u k = some x → x.state = 4 ∧ x.status = some (1, 1, 0)) ∧ Leaves t s u calm)) ∧
      (∀ e, findCue s k = some e → s.sm.deciding.any (fun d => d.1 == k) = false → e.state = 4 →
        Yields (exec (.laneAbort t l h) s) (fun u =>
        u.ln = (sendHouse 1 0x05 (leBytes 4 0) v).ln ∧
        (findCue u k).map (fun x => (x.state, x.abortMet, x.status)) = some (4, true, some (1, 1, 0)) ∧
        Leaves t s u (fun x => lanesOnly { x with sm := { x.sm with cues := [] } })))) ∧
    (∀ l, fromHouse s l = false → Yields (exec (.laneAbort t l h) s) (fun u => Leaves t s u id)) ∧
    Yields (exec (.calendarSelect t p h) s) (fun u => u.sm.calSel = BitVec.ofNat 32 (h % 4096) ∧
      (∀ i < 16, u.sm.calData.get 0 i =
        BitVec.ofNat 32 (le (groupRecord (begin t s) (groupNow (begin t s) + h % 4096)) (4 * i) 4)) ∧
      Leaves t s u (fun x => { x with sm := { x.sm with calSel := 0, calData := [] } })) ∧
    Yields (exec (.cueSelect t p h) s) (fun u => u.sm.cueSel = BitVec.ofNat 32 (h % 4096) ∧
      (∀ i < 8, u.sm.cueData.get 0 i = BitVec.ofNat 32 (le (entryRecord s (h % 4096)) (4 * i) 4)) ∧
      Leaves t s u (fun x => { x with sm := { x.sm with cueSel := 0, cueData := [] } }))

/-- R236, R243, R245: the horizon takes in the next group; a capacity measured below the published one is published at
once, a higher one after sixteen in a row, the lowest of them; a condition that has held again for 1 ms ends. The unit
in which a measured capacity comes is the model's choice (notes/assumptions/28.md). -/
def Obligations.CalendarAndCapacity : Prop :=
  ∀ (t : Nat) (s : State), awake t s = true →
    (inShow s = true → s.sm.entered + 1 < groupNow (begin t s) + 4096 →
      Yields (exec (.calendarAdvance t) s) (fun u => u.sm.entered = s.sm.entered + 1)) ∧
    (inShow s = false ∨ groupNow (begin t s) + 4096 ≤ s.sm.entered + 1 →
      Yields (exec (.calendarAdvance t) s) (fun u => Leaves t s u id)) ∧
    (∀ r n, r < 25 → let c := s.sm.caps.get { cap := nominalCap r } r
      Yields (exec (.capacityMeasure t r n) s) (fun u =>
        (measuredCap r n < c.cap → (u.sm.caps.get {} r).cap = measuredCap r n) ∧
        (c.cap < measuredCap r n → c.runs.length < 15 → (u.sm.caps.get {} r).cap = c.cap) ∧
        (c.cap < measuredCap r n → c.runs.length = 15 →
          (u.sm.caps.get {} r).cap = (c.runs ++ [measuredCap r n]).foldl min (measuredCap r n)) ∧
        (∀ q, q ≠ r → u.sm.caps.find q = s.sm.caps.find q) ∧ Leaves t s u calm)) ∧
    (∀ r n, 25 ≤ r → Yields (exec (.capacityMeasure t r n) s) (fun u => Leaves t s u id)) ∧
    (∀ code, Yields (exec (.promiseConditionClear t code) s) (fun u =>
      (∀ k v, s.sm.conds.find k = some v → u.sm.conds.find k =
        some (if k / 100 = code ∧ v.okSince.any (fun a => decide (a + msTicks ≤ max s.now t)) then {} else v)) ∧
      Leaves t s u (fun x => { x with sm := { x.sm with conds := [] } })))

/-- R255, R258, R259, R262: at a calendar-slot boundary the units sample; an enabled cue-bus unit whose code came, and
an enabled software unit that was triggered, fire. A unit without a firing for AUTO_TO fires by itself at the
boundary; the cue bus takes one code per boundary. SM_TRIG_SW reaches only an enabled unit of source 3. That a timeout
evaluates its boundary with every unit whose time is out is the model's choice (notes/assumptions/26.md). -/
def Obligations.Triggers : Prop :=
  ∀ (t n : Nat) (p : Path) (s : State), awake t s = true → p ≠ .tap →
    (sampleDue (begin t s) = true → Yields (exec (.triggerSample t) s) (fun u =>
      u.sm.busCodes = [] ∧ u.sm.swFired = [] ∧ u.sm.sampleAt = tbUs (begin t s) ∧
      (n < 64 → trigEnabled s n = true →
        ((trigSrc s n = 2 ∧ trigId s n ∈ s.sm.busCodes ++ s.sm.busOut.toList) ∨ (trigSrc s n = 3 ∧ n ∈ s.sm.swFired)) →
        u.sm.trigStat.getLsbD n = true ∧ (u.sm.trig.get {} n).since = tbUs (begin t s)) ∧
      (timeoutDue (begin t s) n = true →
        u.sm.trigStat.getLsbD n = true ∧ (u.sm.trig.get {} n).since = tbUs (begin t s)))) ∧
    (timeoutDue (begin t s) n = true → sampleDue (begin t s) = true →
      exec (.triggerTimeout t n) s = exec (.triggerSample t) s) ∧
    (timeoutDue (begin t s) n = true → sampleDue (begin t s) = false → s.sm.busOut.isSome = true →
      Yields (exec (.triggerTimeout t n) s) (fun u => u.sm.busOut = s.sm.busOut ∧ u.sm.sampleAt = s.sm.sampleAt)) ∧
    (sampleDue (begin t s) = true → (∀ m < 64, trigEnabled s m = false) → Yields (exec (.triggerSample t) s) (fun u =>
      u.sm.busOut = none ∧ u.sm.trigStat = s.sm.trigStat ∧
      Leaves t s u (fun x => { x with sm := { x.sm with busCodes := [], busOut := none, swFired := [], sampleAt := 0 } }))) ∧
    (sampleDue (begin t s) = false → Yields (exec (.triggerSample t) s) (fun u => Leaves t s u id)) ∧
    (timeoutDue (begin t s) n = true → Yields (exec (.triggerTimeout t n) s) (fun u =>
      u.sm.trigStat.getLsbD n = true ∧ (u.sm.trig.get {} n).since = tbUs (begin t s))) ∧
    (timeoutDue (begin t s) n = false → Yields (exec (.triggerTimeout t n) s) (fun u => Leaves t s u id)) ∧
    (trigEnabled s (n % 64) = true → trigSrc s (n % 64) = 3 → Yields (exec (.triggerSoftware t p n) s) (fun u =>
      n % 64 ∈ u.sm.swFired ∧ Leaves t s u (fun x => { x with sm := { x.sm with swFired := [] } }))) ∧
    (trigEnabled s (n % 64) = false ∨ trigSrc s (n % 64) ≠ 3 →
      Yields (exec (.triggerSoftware t p n) s) (fun u => Leaves t s u id))

/-! ### The follow spot -/

/-- R279 to R284, R291, R295: HOLD holds the loop at its last drive code, unless a scan cue is Booked or Running; its
release waits for the next loop boundary and needs a usable set, no fault, and Standby or Show. RUN starts and stops
the program. A fault clears while HELD reads 1, and latches again where its cause is still present. The program's
first scene starts at its instant, a multiple of 80 µs at least 32 µs after its conditions came together. That
FE_FAULT sets HOLD, and when scenes are planned from, are the model's choices (notes/assumptions/23.md). -/
def Obligations.FollowSpotControl : Prop :=
  ∀ (t : Nat) (p : Path) (s : State), awake t s = true → p ≠ .tap →
    (scanActive s = false → Yields (exec (.fsHold t p) s) (fun u => u.fs.hold = true ∧ u.fs.held = true ∧
      u.fs.release = false ∧ u.fs.drv = s.fs.drv ∧ u.fs.out = (if s.fs.held then s.fs.out else s.fs.drv) ∧
      u.fs.run = s.fs.run ∧ Leaves t s u (fun x => { x with fs := {} }))) ∧
    (scanActive s = true → Yields (exec (.fsHold t p) s) (fun u => Leaves t s u boardOnly ∧ u.cb.violKind = kindRule ∧
      u.cb.violAddr = 0x00060000#32)) ∧
    (s.fs.hold = true → releasable s = true → Yields (exec (.fsRelease t p) s) (fun u => u.fs.hold = false ∧
      u.fs.release = true ∧ u.fs.held = s.fs.held ∧
      Leaves t s u (fun x => { x with fs := { x.fs with hold := false, release := false } }))) ∧
    (s.fs.hold = true → releasable s = false → Yields (exec (.fsRelease t p) s) (fun u =>
      Leaves t s u boardOnly ∧ u.cb.violKind = kindRule ∧ u.cb.violAddr = 0x00060000#32)) ∧
    (s.fs.hold = false → Yields (exec (.fsRelease t p) s) (fun u => Leaves t s u id)) ∧
    Yields (exec (.fsRunSet t p) s) (fun u => u.fs.run = true ∧ u.fs.drv = s.fs.drv ∧ u.fs.held = s.fs.held ∧
      (s.fs.held = false → inShow s = true → s.fs.sceneRun = false ∨ s.fs.stop = true →
        u.fs.readyAt = some (s.fs.readyAt.getD (tbTick (begin t s)))) ∧
      Leaves t s u (fun x => { x with fs := {} })) ∧
    Yields (exec (.fsRunClear t p) s) (fun u => u.fs.run = false ∧ u.fs.stop = s.fs.sceneRun ∧ u.fs.readyAt = none ∧
      u.fs.drv = s.fs.drv ∧ Leaves t s u (fun x => { x with fs := {} })) ∧
    (s.fs.held = true → s.fs.fault = 0 ∨ s.fs.rangeRun < 2 → Yields (exec (.fsFeClr t p) s) (fun u => u.fs.fault = 0 ∧
      u.fs.feTimer = 0 ∧ u.fs.held = true ∧ Leaves t s u (fun x => { x with fs := {} }))) ∧
    (s.fs.held = true → s.fs.fault ≠ 0 → 2 ≤ s.fs.rangeRun → Yields (exec (.fsFeClr t p) s) (fun u => u.fs.fault = 2 ∧
      u.fs.cntFe = inc32 s.fs.cntFe ∧ u.cb.event.getLsbD evFollowSpot = true)) ∧
    (s.fs.held = false → Yields (exec (.fsFeClr t p) s) (fun u => Leaves t s u id)) ∧
    (∀ r, s.fs.readyAt = some r → sceneReady s = true → sceneStartUs r ≤ tbUs (begin t s) →
      Yields (exec (.sceneProgramStart t) s) (fun u => u.fs.sceneRun = true ∧ u.fs.readyAt = none ∧
        u.fs.scene = (if s.fs.ranBefore then (s.fs.scene + 1) % 65536 else s.fs.scene) ∧
        Leaves t s u (fun x => { x with fs := {} }))) ∧
    (∀ r, s.fs.readyAt = some r → r + 32 * usTicks ≤ usTicks * sceneStartUs r ∧ sceneStartUs r % 80 = 0) ∧
    (s.fs.readyAt = none ∨ sceneReady s = false ∨ s.fs.readyAt.any (fun r => decide (tbUs (begin t s) < sceneStartUs r)) →
      Yields (exec (.sceneProgramStart t) s) (fun u => Leaves t s u id))

/-- R276 to R278, R288, R289, R291, R465: the code of a period in which the compensator runs. v[k] comes of the last
four errors and the last three values by the set in use, with histories of 0 and of the held code after a release; a
code beyond FS_DRV_LIM is clamped, v[k] goes back to the clamped code, SAT reads 1 and the clamp counts. At a scene
change with no patch waiting, accepted corrections of earlier core clock cycles apply, the next fixed scene runs and
SCENE counts; where its set differs from the old one, the drive repeats its code for the period, the histories start
anew, HELD stays 0 and the transfer counts. The end of a stopped scene is no scene change. R273 to R278, R283: a loop
period takes the position sample; a held loop outputs its last code, or the park code after a fault, with nothing
clamped; a released loop forms its drive code d[k] within the limits of FS_DRV_LIM and outputs it, and a period whose
word was missed repeats the code of the output and counts. That misses count only while the loop runs, and a free v[k]
under FORM 0 and 3, are the model's choices (notes/assumptions/23.md). -/
def Obligations.LoopPeriods : Prop :=
  (∀ (t pos k n : Nat) (m : Bool) (e accB accA v d : Int) (eH vH : List Int) (s : State), awake t s = true →
    loopDue (begin t s) = true → k = tbTick (begin t s) / 20000 →
    (s.fs.stop = false → sceneOver s k = false →
      (s.fs.held = false ∧ s.fs.release = false ∧ eH = s.fs.eHist ∧ vH = s.fs.vHist ∨
        s.fs.held = true ∧ s.fs.release = true ∧ s.fs.fault = 0 ∧ (inShow s = true ∨ inStandby s = true) ∧
          eH = [0, 0, 0] ∧ vH = List.replicate 3 (((s.fs.out : Int) - 32768) * 256)) →
      fld s.fs.drvLim 15 0 ≤ fld s.fs.drvLim 31 16 → n = setInUse s → formDefined s n = true →
      e = setpointAt s k - (min pos 65535 : Nat) →
      accB = mantB s n 0 * e + mantB s n 1 * eH.getD 0 0 + mantB s n 2 * eH.getD 1 0 + mantB s n 3 * eH.getD 2 0 →
      accA = mantA s n 1 * vH.getD 0 0 + mantA s n 2 * vH.getD 1 0 + mantA s n 3 * vH.getD 2 0 →
      v = clampInt (-(2 ^ 31)) (2 ^ 31 - 1)
        (shrRound accB (38 - (fld (compWord s n 0) 5 0 : Int)) - shrRound accA (46 - (fld (compWord s n 0) 13 8 : Int))) →
      d = 32768 + Int.fdiv (v + 128) 256 →
      Yields (exec (.loopPeriod t pos m) s) (fun u => u.fs.eHist = (e :: eH).take 3 ∧
        u.fs.out = (if m then s.fs.out else u.fs.drv) ∧
        ((fld s.fs.drvLim 15 0 : Int) ≤ d → d ≤ fld s.fs.drvLim 31 16 → (u.fs.drv : Int) = d ∧
          u.fs.vHist = (v :: vH).take 3 ∧ u.fs.sat = false ∧ u.fs.cntSat = satAdd 32 s.fs.cntSat 0) ∧
        (d < fld s.fs.drvLim 15 0 ∨ (fld s.fs.drvLim 31 16 : Int) < d →
          u.fs.drv = (if d < fld s.fs.drvLim 15 0 then fld s.fs.drvLim 15 0 else fld s.fs.drvLim 31 16) ∧
          u.fs.vHist = ((((u.fs.drv : Int) - 32768) * 256) :: vH).take 3 ∧ u.fs.sat = true ∧
          u.fs.cntSat = satAdd 32 s.fs.cntSat 1))) ∧
    (∀ f g r, s.fs.stop = false → s.fs.release = false → s.fs.held = false → s.fs.sceneRun = true →
      s.img.pending = none → s.fs.cur = some f → f.stop ≤ k → s.fs.fixed = g :: r →
      Yields (exec (.loopPeriod t pos m) s) (fun u => u.fs.scene = (s.fs.scene + 1) % 65536 ∧ u.fs.cur = some g ∧
        u.fs.step = g.step ∧ u.fs.rep = g.rep ∧ u.hist.ptUse = s.hist.ptCfg ∧ u.rej.cfgUse = s.rej.cfg ∧
        (∀ b c x, s.cal.newEd.find b = some (c, x) → c < coreCycle (max s.now t) → u.cal.edelay.find b = some x) ∧
        (∀ b c x, s.cal.newEd.find b = some (c, x) → coreCycle (max s.now t) ≤ c →
          u.cal.newEd.find b = some (c, x) ∧ u.cal.edelay.find b = s.cal.edelay.find b) ∧
        (f.prof.comp = g.prof.comp → u.fs.cntXfer = satAdd 32 s.fs.cntXfer 0) ∧
        (f.prof.comp ≠ g.prof.comp → u.fs.cntXfer = satAdd 32 s.fs.cntXfer 1 ∧ u.fs.drv = s.fs.out ∧
          u.fs.out = s.fs.out ∧ u.fs.eHist = [0, 0, 0] ∧
          u.fs.vHist = List.replicate 3 (((s.fs.out : Int) - 32768) * 256) ∧
          (u.fs.fault = s.fs.fault → u.fs.held = false)))) ∧
    (s.fs.stop = true → Yields (exec (.loopPeriod t pos m) s) (fun u => u.fs.scene = s.fs.scene ∧
      u.fs.sceneRun = false ∧ u.fs.stop = false ∧ u.cal.newEd = [] ∧ u.fs.cntXfer = s.fs.cntXfer))) ∧
  (∀ (t pos : Nat) (m : Bool) (s : State), awake t s = true →
    (loopDue (begin t s) = true → Yields (exec (.loopPeriod t pos m) s) (fun u => u.fs.pos = min pos 65535 ∧
      u.fs.posPrev = s.fs.pos ∧ u.fs.k = tbTick (begin t s) / 20000 + 1)) ∧
    (loopDue (begin t s) = true → s.fs.held = true → s.fs.release = false →
      Yields (exec (.loopPeriod t pos m) s) (fun u => u.fs.cntMiss = s.fs.cntMiss ∧ u.fs.missRun = 0 ∧
        u.fs.drv = (if s.fs.parkNext then fld s.fs.park 15 0 else s.fs.out) ∧ u.fs.out = u.fs.drv ∧
        u.fs.sat = false)) ∧
    (loopDue (begin t s) = true → s.fs.held = false → s.fs.release = false → s.fs.stop = false →
      sceneOver s (tbTick (begin t s) / 20000) = false →
      Yields (exec (.loopPeriod t pos m) s) (fun u =>
        (fld s.fs.drvLim 15 0 ≤ fld s.fs.drvLim 31 16 →
          fld s.fs.drvLim 15 0 ≤ u.fs.drv ∧ u.fs.drv ≤ fld s.fs.drvLim 31 16) ∧
        (m = false → u.fs.missRun = 0 ∧ u.fs.out = u.fs.drv ∧ u.fs.cntMiss = s.fs.cntMiss) ∧
        (m = true → u.fs.out = s.fs.out ∧ u.fs.cntMiss = inc32 s.fs.cntMiss ∧ u.fs.missRun = s.fs.missRun + 1) ∧
        (s.fs.sceneRun = false →
          u.fs.eHist = ((((fld s.fs.setpt 15 0 : Nat) : Int) - ((min pos 65535 : Nat) : Int)) :: s.fs.eHist).take 3))) ∧
    (loopDue (begin t s) = false → Yields (exec (.loopPeriod t pos m) s) (fun u => Leaves t s u id)))

/-! ### Machine safety -/

/-- R303, R305, R308: a safety boundary ends its period; outside Show no permit outlasts it, and a copy of the block
that fails its CRC latches cause 0x13; outside Show a spike counts as seen where class S data of the period give its
position (R302, R341). A permit message carries the main evaluator's verdict and spike positions, and the flyman takes
the verdict of one with its own period number; one without a valid copy is not accepted. A message that is missing for
500 µs or mismatched withdraws both permits with cause 0x0E, and the fourth in a row resets the block as the flyman
watchdog. What a permit carries, and that a message after its timeout is ignored, are the model's choices
(notes/assumptions/31.md). -/
def Obligations.SafetyBoundaries : Prop :=
  ∀ (t : Nat) (s : State), awake t s = true →
    (∀ a b, safetyDue (begin t s) = true → Yields (exec (.safetyBoundary t a b) s) (fun u =>
      u.saf.boundary = s.saf.boundary - 1 + 2 ∧ u.saf.period = inc32 s.saf.period ∧ u.saf.boundaryAt = max s.now t ∧
      u.saf.gotPermit = false ∧ u.saf.mainData = [] ∧ u.saf.flyData = [] ∧
      ((a && b) = false → u.saf.causes.getLsbD 0x13 = true) ∧
      (inShow s = false → u.saf.main.permit = false ∧ u.saf.fly.permit = false ∧
        (s.saf.mainData = [] → ∀ i, (u.saf.main.spikes.get {} i).seen = false) ∧
        (s.saf.flyData = [] → ∀ i, (u.saf.fly.spikes.get {} i).seen = false) ∧
        (∀ b, safetyBlock s = some b → ∀ k ∈ b.spikes,
          (∀ x, mainPosition (begin t s) k = some x → (u.saf.main.spikes.get {} k.spikeId).seen = true) ∧
          (∀ x, flyPosition (begin t s) b k = some x → (u.saf.fly.spikes.get {} k.spikeId).seen = true))) ∧
      Leaves t s u (fun x => lanesOnly { x with cb := {}, saf := {} }))) ∧
    (∀ a b, safetyDue (begin t s) = false → Yields (exec (.safetyBoundary t a b) s) (fun u => Leaves t s u id)) ∧
    (∀ n x, x = false ∨ s.saf.gotPermit = true ∨ safetyP s = 0 ∨ linkCount s = 0 →
      Yields (exec (.permitMessage t n x) s) (fun u => Leaves t s u id)) ∧
    (∀ n, s.saf.gotPermit = false → safetyP s ≠ 0 → linkCount s ≠ 0 → n % 2 ^ 24 = flyPeriod s →
      Yields (exec (.permitMessage t n true) s) (fun u => u.saf.gotPermit = true ∧ u.saf.missing = 0 ∧
        u.saf.main.permit = s.saf.verdict ∧
        u.saf.message = some { period := n % 2 ^ 24, permit := s.saf.verdict, spikes := sentSpikes s } ∧ u.saf.causes = s.saf.causes ∧ Leaves t s u (fun x => { x with saf := {} }))) ∧
    (∀ n, s.saf.gotPermit = false → safetyP s ≠ 0 → linkCount s ≠ 0 → n % 2 ^ 24 ≠ flyPeriod s → s.saf.missing < 3 →
      Yields (exec (.permitMessage t n true) s) (fun u => u.saf.gotPermit = true ∧ u.saf.missing = s.saf.missing + 1 ∧
        u.saf.main.permit = false ∧ u.saf.fly.permit = false ∧ u.saf.causes.getLsbD 0x0E = true ∧
        Leaves t s u (fun x => { x with cb := {}, saf := {} }))) ∧
    (∀ n, s.saf.gotPermit = false → safetyP s ≠ 0 → linkCount s ≠ 0 → n % 2 ^ 24 ≠ flyPeriod s → 3 ≤ s.saf.missing →
      Yields (exec (.permitMessage t n true) s) (fun u => ResetBy 4 holdWatchdog t s u)) ∧
    (permitLate (begin t s) = true → s.saf.missing < 3 → Yields (exec (.permitTimeout t) s) (fun u =>
      u.saf.gotPermit = true ∧ u.saf.missing = s.saf.missing + 1 ∧ u.saf.main.permit = false ∧
      u.saf.fly.permit = false ∧ u.saf.causes.getLsbD 0x0E = true ∧
      Leaves t s u (fun x => { x with cb := {}, saf := {} }))) ∧
    (permitLate (begin t s) = true → 3 ≤ s.saf.missing →
      Yields (exec (.permitTimeout t) s) (fun u => ResetBy 4 holdWatchdog t s u)) ∧
    (permitLate (begin t s) = false → Yields (exec (.permitTimeout t) s) (fun u => Leaves t s u id))

/-- R321 to R323, R325 to R328: the curtain rises where Table 9.1 allows it, no test pulse is under way and both
outputs read right in steps 2 and 4; a wrong reading leaves all four switches open with cause 0x0A. No pulse comes
during a raise. A test pulse is judged, or discarded where a curtain-down command interrupted it, which drops the
curtain. More than 700 mA for 20 µs opens the output. A guard or emergency-stop input that a sample shows open latches
its cause (while VDD_SAFE is absent, which the model takes as its rail's reset threshold, every input reads low; R495,
notes/assumptions/45.md), and a discrepancy that has lasted latches 0x09. -/
def Obligations.SafeOutputsAndInputs : Prop :=
  ∀ (t o : Nat) (s : State), awake t s = true →
    (∀ a1 b1 a2 b2, raiseFree (begin t s) = true →
      (raiseStep2 a1 && raiseStep2 b1 && raiseStep4 a2 && raiseStep4 b2) = true → Yields (exec (.curtainRaise t a1 b1 a2 b2) s) (fun u =>
        u.saf.curtain = true ∧ u.saf.everUp = true ∧ u.saf.raiseEnd = max s.now t + 350 * usTicks ∧
        u.saf.outA.hs = true ∧ u.saf.outA.ls = true ∧ u.saf.outB.hs = true ∧ u.saf.outB.ls = true ∧
        u.cb.event.getLsbD evCurtain = true ∧ u.saf.causes = s.saf.causes)) ∧
    (∀ a1 b1 a2 b2, raiseFree (begin t s) = true →
      (raiseStep2 a1 && raiseStep2 b1 && raiseStep4 a2 && raiseStep4 b2) = false →
      Yields (exec (.curtainRaise t a1 b1 a2 b2) s) (fun u => u.saf.curtain = false ∧
        u.saf.raiseEnd = max s.now t + (if raiseStep2 a1 && raiseStep2 b1 then 350 else 150) * usTicks ∧ u.saf.outA.hs = false ∧
        u.saf.outA.ls = false ∧ u.saf.outB.hs = false ∧ u.saf.outB.ls = false ∧ u.saf.causes.getLsbD 0x0A = true)) ∧
    (∀ a1 b1 a2 b2, raiseFree (begin t s) = false →
      Yields (exec (.curtainRaise t a1 b1 a2 b2) s) (fun u => Leaves t s u id)) ∧
    (∀ p q, pulseDue (begin t s) o = true → Yields (exec (.testPulse t o p q true) s) (fun u =>
      u.saf.cntTpDisc = inc32 s.saf.cntTpDisc ∧ (getOut u o).lastTest = 3 ∧ u.saf.curtain = false ∧
      u.saf.pulseEnd = max s.now t + 250 * usTicks ∧
      (s.saf.curtain = true → (getOut u o).hs = false ∧ (getOut u o).ls = false) ∧
      (getOut u o).tests = (getOut s o).tests + 1 ∧ u.saf.causes = s.saf.causes)) ∧
    (∀ p q, pulseDue (begin t s) o = true → Yields (exec (.testPulse t o p q false) s) (fun u =>
      u.saf.cntTp = inc32 s.saf.cntTp ∧ u.saf.pulseEnd = max s.now t + 250 * usTicks ∧ (getOut u o).tests = (getOut s o).tests + 1 ∧
      (testPasses (getOut s o) p q = true → (getOut u o).lastTest = 1 ∧ u.saf.causes = s.saf.causes) ∧
      (testPasses (getOut s o) p q = false → (getOut u o).lastTest = 2 ∧ (getOut u o).fault = true ∧
        u.saf.causes.getLsbD 0x0A = true))) ∧
    (∀ p q i, pulseDue (begin t s) o = false → Yields (exec (.testPulse t o p q i) s) (fun u => Leaves t s u id)) ∧
    (max s.now t < s.saf.raiseEnd → pulseDue (begin t s) o = false ∧
      ∀ p q i, Yields (exec (.testPulse t o p q i) s) (fun u => Leaves t s u id)) ∧
    (∀ ma d, o < 2 → 700 < ma → 20 * usTicks ≤ d → Yields (exec (.safeOutputOvercurrent t o ma d) s) (fun u =>
      (getOut u o).hs = false ∧ (getOut u o).ls = false ∧ u.saf.causes.getLsbD 0x0A = true ∧
      Leaves t s u (fun x => { x with cb := {}, saf := {} }))) ∧
    (∀ ma d, ma ≤ 700 ∨ d < 20 * usTicks → Yields (exec (.safeOutputOvercurrent t o ma d) s) (fun u => Leaves t s u id)) ∧
    (∀ q : PinRead, o < 2 → Yields (exec (.safeOutputReadbackSample t o q) s) (fun u =>
      (getOut u o).hsHigh = q.hs ∧ (getOut u o).lsHigh = q.ls ∧
      ((getOut s o).hs = false → (getOut s o).ls = false → q.hs = true → u.saf.causes.getLsbD 0x0A = true) ∧
      (q.hs = false ∨ (getOut s o).hs = true ∨ (getOut s o).ls = true → u.saf.causes = s.saf.causes) ∧
      Leaves t s u (fun x => { x with cb := {}, saf := {} }))) ∧
    (∀ (levels : List Bool) (b : SafetyBlock) (i : Nat) (c : SinCfg), safetyBlock s = some b → i < 4 → b.sin[i]? = some c →
      let pin := fun (n : Nat) => levels.getD n false && !s.th.railLow.getLsbD 1
      let v := (s.saf.inputs.get {} i).sample (max s.now t) c s.rh.drPass (pin (2 * i)) (pin (2 * i + 1))
      Yields (exec (.safetyInputSample t levels) s) (fun u =>
        (∀ n, n < 8 → u.gl.sinLevel.getLsbD n = pin n) ∧ (u.saf.inputs.get {} i).a = pin (2 * i) ∧
        (u.saf.inputs.get {} i).b = pin (2 * i + 1) ∧ (u.saf.inputs.get {} i).state = v.1.state ∧
        (c.role = 1 → v.1.state = some .opened → u.saf.causes.getLsbD 0x07 = true) ∧
        (c.role = 2 → v.1.state = some .opened → u.saf.causes.getLsbD 0x08 = true) ∧
        (c.role = 3 → v.2 = true → u.saf.resetReq = true) ∧
        Leaves t s u (fun x => { x with cb := {}, saf := {}, gl := { x.gl with sinLevel := 0 } }))) ∧
    (∀ i, discDue (begin t s) i = true → Yields (exec (.sinDiscrepancy t i) s) (fun u =>
      (u.saf.inputs.get {} i).fault = true ∧ u.saf.causes.getLsbD 0x09 = true ∧
      Leaves t s u (fun x => { x with cb := {}, saf := {} }))) ∧
    (∀ i, discDue (begin t s) i = false → Yields (exec (.sinDiscrepancy t i) s) (fun u => Leaves t s u id))

/-- R331 to R334, R336: a Sirel frame with a wrong SCODE counts and does nothing else; a COMMAND of the peer brings
the connection up with its RUN and RESET; a repeated SEQ is discarded, a frame that is not the peer's latches 0x0C and
restarts the connection, and so does silence with 0x0B. A PREPARE that passes Table 9.12 opens the 60 s window, the
CONFIRM that repeats what was proposed, after the pressed and released reset, programs the slot; any other programs
nothing. That a repeated SEQ is looked at first, and what RESULT carries without a slot, are the model's choices
(notes/assumptions/32.md). -/
def Obligations.SirelFrames : Prop :=
  ∀ (t l : Nat) (bs : List Byte) (rb : Bool) (b : SafetyBlock) (s : State), awake t s = true → safetyBlock s = some b →
    let f := sirelOfBytes bs
    let blank := fun x : State => lanesOnly { x with free := 0, saf := { x.saf with sirel := {} } }
    (fromHouse s l = true → f.scode = false →
      ∀ c ∈ [Instr.sirelCommand t l bs, .sirelPrepare t l bs, .sirelConfirm t l bs rb], Yields (exec c s) (fun u =>
        u.saf.cntCrc = inc32 s.saf.cntCrc ∧ u.saf.sirel = s.saf.sirel ∧ u.otp = s.otp ∧
        Leaves t s u (fun x => lanesOnly { x with free := 0, saf := { x.saf with cntCrc := 0 } }))) ∧
    (fromHouse s l = true → b.peerId ≠ 0 → sirelTaken s b f = true → f.type = 2 →
      Yields (exec (.sirelCommand t l bs) s) (fun u => u.saf.sirel.up = true ∧
        u.saf.sirel.run = (byteAt f.payload 0 % 2 == 1) ∧ u.saf.sirel.reset = (byteAt f.payload 0 / 2 % 2 == 1) ∧
        u.saf.sirel.lastSeq = some f.seq ∧ u.saf.sirel.lastAt = max s.now t ∧
        (byteAt f.payload 0 % 2 = 0 → u.saf.causes.getLsbD 0x0D = true) ∧
        (byteAt f.payload 0 / 2 % 2 = 1 → s.saf.sirel.reset = false → u.saf.resetReq = true))) ∧
    (fromHouse s l = true → b.peerId ≠ 0 → f.scode = true → s.saf.sirel.lastSeq = some f.seq →
      Yields (exec (.sirelCommand t l bs) s) (fun u => u.saf.sirel = s.saf.sirel ∧ Leaves t s u blank)) ∧
    (fromHouse s l = true → b.peerId ≠ 0 → f.scode = true → s.saf.sirel.lastSeq ≠ some f.seq → sirelTaken s b f = false →
      Yields (exec (.sirelCommand t l bs) s) (fun u => u.saf.causes.getLsbD 0x0C = true ∧ u.saf.sirel.up = false ∧
        u.saf.sirel.lastSeq = none ∧ u.saf.sirel.txSeq = 0)) ∧
    (fromHouse s l = true → sirelTaken s b f = true → f.type = 0x10 →
      prepareCheck s b (le f.payload 0 4) (le f.payload 4 4) = 0 →
      Yields (exec (.sirelPrepare t l bs) s) (fun u => u.saf.sirel.commWait = true ∧
        u.saf.sirel.commCrc = le f.payload 0 4 ∧ u.saf.sirel.commSer = le f.payload 4 4 ∧
        some u.saf.sirel.commSlot = freeSlot s ∧ u.saf.sirel.openedAt = max s.now t ∧
        u.saf.sirel.released = false ∧ u.otp = s.otp ∧ Leaves t s u blank)) ∧
    (fromHouse s l = true → sirelTaken s b f = true → f.type = 0x10 →
      prepareCheck s b (le f.payload 0 4) (le f.payload 4 4) ≠ 0 →
      Yields (exec (.sirelPrepare t l bs) s) (fun u => u.saf.sirel.commWait = false ∧ u.otp = s.otp ∧
        Leaves t s u blank)) ∧
    (fromHouse s l = true → sirelTaken s b f = true → f.type = 0x12 → s.saf.sirel.commWait = true →
      let c := s.saf.sirel
      let good := f.payload = leBytes 4 c.commCrc ++ leBytes 1 c.commSlot ++ leBytes 3 0 ++ leBytes 4 c.nonce
      (good → c.released = true → max s.now t ≤ c.openedAt + 60 * secTicks →
        Yields (exec (.sirelConfirm t l bs rb) s) (fun u => u.saf.sirel.commWait = false ∧
          u.otp.comm = s.otp.comm.set c.commSlot { crc := c.commCrc, serial := c.commSer, confirmed := rb } ∧
          Leaves t s u (fun x => blank { x with otp := { x.otp with comm := [] } }))) ∧
      (¬ good ∨ c.released = false ∨ c.openedAt + 60 * secTicks < max s.now t →
        Yields (exec (.sirelConfirm t l bs rb) s) (fun u => u.saf.sirel.commWait = false ∧ u.otp = s.otp ∧
          Leaves t s u blank))) ∧
    (sirelLapsed (begin t s) = true → Yields (exec (.sirelTimeout t) s) (fun u => u.saf.causes.getLsbD 0x0B = true ∧
      u.saf.sirel.up = false ∧ u.saf.sirel.started = true ∧ u.saf.sirel.lastSeq = none ∧
      Leaves t s u (fun x => { x with cb := {}, saf := {} }))) ∧
    (sirelLapsed (begin t s) = false → Yields (exec (.sirelTimeout t) s) (fun u => Leaves t s u id)) ∧
    (windowLapsed (begin t s) = true → Yields (exec (.commissionWindowExpiry t) s) (fun u =>
      u.saf.sirel.commWait = false ∧ u.otp = s.otp ∧ Leaves t s u blank)) ∧
    (windowLapsed (begin t s) = false → Yields (exec (.commissionWindowExpiry t) s) (fun u => Leaves t s u id))

/-! ### Die-to-die links -/

/-- R15 to R19: a word that fails its CRC counts; the first copy of a message is accepted and the second discarded;
eight failures in a row, or 4 µs of silence, lose the link. While the other link is up that is the link-degraded
event; the loss of both latches cause 0x10 and opens the emitter switches. 64 idle words bring a lost link back. Of
which messages a second copy is awaited is inferred (notes/assumptions/43.md). -/
def Obligations.DieLinks : Prop :=
  ∀ (t : Nat) (l m : Link) (s : State), awake t s = true →
    (∀ i q, Yields (exec (.d2dMessage t l i false q) s) (fun u => (getLink u l).crcRun = (getLink s l).crcRun + 1 ∧
      (getLink u l).crcErr = satAdd 8 (getLink s l).crcErr 1 ∧ (m ≠ l → getLink u m = getLink s m) ∧
      u.d2d.accepted = s.d2d.accepted ∧ Leaves t s u (fun x => { x with d2d := {} }))) ∧
    (∀ q, Yields (exec (.d2dMessage t l true true q) s) (fun u => (getLink u l).crcRun = 0 ∧
      (getLink u l).lastValid = max s.now t ∧
      (getLink u l).idleRun = (if (getLink s l).up then 0 else (getLink s l).idleRun + 1) ∧
      u.d2d.accepted = s.d2d.accepted ∧ Leaves t s u (fun x => { x with d2d := {} }))) ∧
    (∀ q, Yields (exec (.d2dMessage t l false true q) s) (fun u => (getLink u l).lastValid = max s.now t ∧
      (getLink u l).up = (getLink s l).up ∧
      (q % 65536 ∉ s.d2d.got → u.d2d.accepted = s.d2d.accepted + 1 ∧ q % 65536 ∈ u.d2d.got) ∧
      (q % 65536 ∈ s.d2d.got → u.d2d.accepted = s.d2d.accepted ∧ q % 65536 ∉ u.d2d.got) ∧
      Leaves t s u (fun x => { x with d2d := {} }))) ∧
    (∀ c, ((c = Instr.d2dLinkLost t l ∧ 8 ≤ (getLink s l).crcRun) ∨
        (c = .d2dLinkTimeout t l ∧ (getLink s l).lastValid + 4 * usTicks ≤ max s.now t)) → (getLink s l).up = true →
      (linkCount s = 2 → Yields (exec c s) (fun u => (getLink u l).up = false ∧ linkCount u = 1 ∧
        u.cb.event.getLsbD evLinkDegraded = true ∧ u.bat = s.bat ∧ Leaves t s u (fun x => calm { x with d2d := {} }))) ∧
      (linkCount s = 1 → Yields (exec c s) (fun u => (getLink u l).up = false ∧ linkCount u = 0 ∧
        u.d2d.bothLost = true ∧ u.saf.causes.getLsbD 0x10 = true ∧ u.saf.guardDone = false ∧ u.bat.lsCmd = false ∧
        u.bat.hsCmd = false ∧ u.bat.emCmd = false))) ∧
    (∀ c, ((c = Instr.d2dLinkLost t l ∧ (getLink s l).crcRun < 8) ∨
        (c = .d2dLinkTimeout t l ∧ max s.now t < (getLink s l).lastValid + 4 * usTicks)) →
      Yields (exec c s) (fun u => Leaves t s u id)) ∧
    ((getLink s l).up = false → 64 ≤ (getLink s l).idleRun → Yields (exec (.d2dLinkUp t l) s) (fun u =>
      (getLink u l).up = true ∧ (m ≠ l → getLink u m = getLink s m) ∧ Leaves t s u (fun x => { x with d2d := {} }))) ∧
    ((getLink s l).up = true ∨ (getLink s l).idleRun < 64 →
      Yields (exec (.d2dLinkUp t l) s) (fun u => Leaves t s u id))

/-! ### Wings and packer -/

/-- R351, R352, R355 to R360, R365, R375: the commands of WQ_CMD on a queue. FLUSH empties it but for an item pinned
on a lane, for which it waits; MARK and REWIND keep and take the position; RELEASE frees items up to RD and the mark;
a safety-evaluator queue takes none of the last three. A command while BUSY is discarded, and a queue that does not
exist gives RESULT 1. RESYNC makes the queue's next group carry RESET. That a discarded command is recorded as an
access violation of kind 2 (R512 gives its event; R375 only the discard), and that REL names the oldest item still
held, are the model's choices (notes/assumptions/17.md). R343, R344, R347, R349, R353 to R355: the commit of an item
of a queue, as one step. It takes `max 1 (ceil(n / 64))` free cells of the pool, the next number of the queue, its
kind, its size in bytes and the time, and its bytes read back from the cells; the cells of other items stay as they
are. A queue at its quota gives up its oldest item that is not pinned, which counts as lost and takes RD and a mark on
it along. Where nothing can be overwritten, and where the item needs more than MAX_ITEM cells, the item is lost, takes
no number and leaves no cell taken. A safety evaluator takes its item at once. An item that its producer has open
keeps the cells it has, and is dropped where it was discarded before its commit. Which free cells an item takes is a
free value (notes/assumptions/8.md). -/
def Obligations.WingQueues : Prop :=
  (∀ (t q n : Nat) (p : Path) (s : State), awake t s = true → p ≠ .tap → q < 4096 →
    let v := getQueue s q
    let blank := fun x : State => { x with wq := {} }
    (s.wq.resBusy = true → ∀ c ∈ [Instr.wqFlush t p q, .wqMark t p q, .wqClearMark t p q, .wqRewind t p q,
      .wqRelease t p q n, .wqRead t p q, .wqDone t p q], Yields (exec c s) (fun u => u.cb.violKind = kindBusy ∧
        u.cb.violAddr = 0x00080040#32 ∧ u.cb.event.getLsbD evAccess = true ∧ u.wq.resBusy = true ∧
        u.wq.queues = s.wq.queues ∧
        Leaves t s u (fun x => boardOnly { x with wq := { x.wq with cmdArg := 0 } }))) ∧
    (s.wq.resBusy = false → consumerOf s q = none → ∀ c ∈ [Instr.wqFlush t p q, .wqMark t p q, .wqClearMark t p q,
      .wqRewind t p q, .wqRelease t p q n, .wqRead t p q, .wqDone t p q], Yields (exec c s) (fun u => u.wq.result = 1 ∧
        Leaves t s u (fun x => { x with wq := { x.wq with result := 0, cmdArg := 0 } }))) ∧
    (s.wq.resBusy = false → consumerOf s q = some 4 → ∀ c ∈ [Instr.wqMark t p q, .wqRewind t p q, .wqRelease t p q n],
      Yields (exec c s) (fun u => u.wq.result = 4 ∧
        Leaves t s u (fun x => { x with wq := { x.wq with result := 0, cmdArg := 0 } }))) ∧
    (s.wq.resBusy = false → consumerOf s q ≠ none → laneQueue s q = false ∨ v.pinned = none →
      Yields (exec (.wqFlush t p q) s) (fun u => u.wq.result = 0 ∧ (getQueue u q).items = [] ∧
        (getQueue u q).tail = v.tail ∧ (getQueue u q).rd = v.tail ∧ (getQueue u q).rel = v.tail ∧
        (getQueue u q).markValid = false ∧ (getQueue u q).flushed = satAdd 32 v.flushed v.items.length ∧
        (getQueue u q).reset = true ∧ (∀ k, k ≠ q → getQueue u k = getQueue s k) ∧ Leaves t s u blank)) ∧
    (∀ it, s.wq.resBusy = false → laneQueue s q = true → v.pinned = some it.seq → it ∈ v.items →
      Yields (exec (.wqFlush t p q) s) (fun u => u.wq.resBusy = true ∧ (getQueue u q).waitCmd = some 1 ∧
        it ∈ (getQueue u q).items ∧ (∀ i ∈ (getQueue u q).items, i.seq = it.seq) ∧
        (∀ k, k ≠ q → getQueue u k = getQueue s k) ∧ Leaves t s u blank)) ∧
    (s.wq.resBusy = false → consumerOf s q ≠ none → consumerOf s q ≠ some 4 →
      Yields (exec (.wqMark t p q) s) (fun u => u.wq.result = 0 ∧
        getQueue u q = { v with mark := v.rd, markValid := true, markLost := false } ∧
        Leaves t s u (fun x => { x with wq := { x.wq with result := 0, queues := [] } }))) ∧
    (s.wq.resBusy = false → consumerOf s q ≠ none → Yields (exec (.wqClearMark t p q) s) (fun u => u.wq.result = 0 ∧
      getQueue u q = { v with markValid := false, markLost := false } ∧
      Leaves t s u (fun x => { x with wq := { x.wq with result := 0, queues := [] } }))) ∧
    (s.wq.resBusy = false → consumerOf s q ≠ none → consumerOf s q ≠ some 4 → v.pinned = none →
      Yields (exec (.wqRewind t p q) s) (fun u =>
        (v.markValid = true → u.wq.result = 0 ∧ (getQueue u q).rd = v.mark ∧ (getQueue u q).reset = true) ∧
        (v.markValid = false → v.markLost = true → u.wq.result = 2 ∧ (getQueue u q).rd = v.rel ∧
          (getQueue u q).markLost = false ∧ u.wq.resLost = min 0xFFFFF ((v.rel + 2 ^ 32 - v.mark % 2 ^ 32) % 2 ^ 32)) ∧
        (v.markValid = false → v.markLost = false → u.wq.result = 3 ∧ (getQueue u q).rd = v.rd) ∧
        (getQueue u q).items = v.items ∧ (∀ k, k ≠ q → getQueue u k = getQueue s k) ∧ Leaves t s u blank)) ∧
    (s.wq.resBusy = false → consumerOf s q ≠ none → consumerOf s q ≠ some 4 → v.pinned ≠ none →
      Yields (exec (.wqRewind t p q) s) (fun u => (getQueue u q).waitCmd = some 4 ∧ u.wq.resBusy = laneQueue s q ∧
        (getQueue u q).rd = v.rd ∧ Leaves t s u blank)) ∧
    (s.wq.resBusy = false → consumerOf s q ≠ none → consumerOf s q ≠ some 4 → v.above v.tail < v.above n →
      Yields (exec (.wqRelease t p q n) s) (fun u => u.wq.result = 6 ∧ getQueue u q = v ∧
        Leaves t s u (fun x => { x with wq := { x.wq with result := 0, cmdArg := 0 } }))) ∧
    (s.wq.resBusy = false → consumerOf s q ≠ none → consumerOf s q ≠ some 4 → v.above n ≤ v.above v.tail →
      Yields (exec (.wqRelease t p q n) s) (fun u => u.wq.result = 0 ∧
        (getQueue u q).rel = (v.rel + v.releaseLimit n) % 2 ^ 32 ∧ (getQueue u q).rd = v.rd ∧ (getQueue u q).tail = v.tail ∧
        (∀ i, i ∈ (getQueue u q).items ↔ i ∈ v.items ∧ v.releaseLimit n ≤ v.above i.seq) ∧
        (∀ k, k ≠ q → getQueue u k = getQueue s k) ∧ Leaves t s u blank)) ∧
    (consumerOf s (fld s.wq.qsel 11 0) ≠ none → Yields (exec (.wqResync t p) s) (fun u =>
      getQueue u (fld s.wq.qsel 11 0) = { getQueue s (fld s.wq.qsel 11 0) with reset := true } ∧
      Leaves t s u (fun x => { x with wq := { x.wq with queues := [] } }))) ∧
    (consumerOf s (fld s.wq.qsel 11 0) = none → Yields (exec (.wqResync t p) s) (fun u => Leaves t s u id))) ∧
  (∀ (q kind : Nat) (bs : List Byte) (s : State),
    let v := getQueue s q
    let n := max 1 (ceilDiv bs.length 64)
    let x := commitItem q kind bs s
    let w := getQueue x.2 q
    let rest := fun (y : State) => { y with wq := {}, cb := {}, free := 0, recent := {} }
    let item := fun (cells : List Nat) =>
      ({ seq := v.tail, kind := kind, bytes := bs.length, time := tbUs s % 2 ^ 32, cells := cells } : Item)
    (queueRec s q = none → x = (false, s)) ∧
    (∀ r, queueRec s q = some r → s.wq.used.Pairwise (· < ·) → s.wq.used.length + n ≤ 131072 → s.wq.pool.wf = true →
      v.tail < 2 ^ 32 →
      (∀ k, k ≠ q → getQueue x.2 k = getQueue s k) ∧ rest x.2 = rest s ∧
      (v.occupancy + n ≤ r.quota → n ≤ r.maxItem → r.consumer ≠ 4 → x.1 = true ∧ ∃ cells : List Nat,
        cells.length = n ∧ cells.Nodup ∧ (∀ c ∈ cells, c ∉ s.wq.used) ∧
        w = { v with items := v.items ++ [item cells], tail := (v.tail + 1) % 2 ^ 32 } ∧
        (∀ c, c ∈ x.2.wq.used ↔ c ∈ s.wq.used ∨ c ∈ cells) ∧ itemBytes x.2 (item cells) = bs ∧
        (∀ o : Item, (∀ c ∈ o.cells, c ∈ s.wq.used) → itemBytes x.2 o = itemBytes s o) ∧
        x.2.wq.cntLost = s.wq.cntLost ∧
        x.2.cb.event = s.cb.event ||| (if r.consumer = 2 then bit32 evHpQueue else 0)) ∧
      (v.occupancy + n ≤ r.quota → n ≤ r.maxItem → r.consumer = 4 → v.items = [] → v.pinned = none → v.markValid = false →
        x.1 = true ∧ w.items = [] ∧ w.tail = (v.tail + 1) % 2 ^ 32 ∧ w.rd = w.tail ∧ w.rel = w.tail ∧
        (∀ c, c ∈ x.2.wq.used ↔ c ∈ s.wq.used)) ∧
      (∀ old, v.oldestFree = some old → (v.items.map Item.seq).Nodup → old.cells.Nodup →
        (∀ c ∈ old.cells, c ∈ s.wq.used) → r.quota < v.occupancy + n → v.occupancy + n ≤ r.quota + old.cells.length →
        n ≤ r.maxItem → r.consumer ≠ 4 → x.1 = true ∧ ∃ cells : List Nat, cells.length = n ∧ cells.Nodup ∧
          w.items = v.items.filter (fun i => i.seq != old.seq) ++ [item cells] ∧ w.tail = (v.tail + 1) % 2 ^ 32 ∧
          w.rd = (if seqGe old.seq v.rd then (old.seq + 1) % 2 ^ 32 else v.rd) ∧
          (v.markValid = true → v.mark = old.seq → w.markValid = false ∧ w.markLost = true) ∧
          (v.mark ≠ old.seq → w.markValid = v.markValid ∧ w.markLost = v.markLost) ∧ w.pinned = v.pinned ∧
          (∀ c, c ∈ x.2.wq.used ↔ (c ∈ s.wq.used ∧ c ∉ old.cells) ∨ c ∈ cells) ∧ itemBytes x.2 (item cells) = bs ∧
          w.lost = inc32 v.lost ∧ x.2.wq.cntLost = inc32 s.wq.cntLost ∧ x.2.cb.event.getLsbD evWingsLoss = true) ∧
      ((v.oldestFree = none ∧ r.quota < v.occupancy + n) ∨ (r.maxItem < n ∧ v.occupancy + r.maxItem ≤ r.quota) →
        x.1 = false ∧ w = { v with lost := inc32 v.lost } ∧ x.2.wq.cntLost = inc32 s.wq.cntLost ∧
        x.2.cb.event.getLsbD evWingsLoss = true ∧ (∀ c, c ∈ x.2.wq.used ↔ c ∈ s.wq.used)) ∧
      (∀ owner o, v.opens.filter (fun y => y.owner == owner) = [o] →
        let y := commitOpen q owner kind bs s
        let z := getQueue y.2 q
        z.opens = v.opens.filter (fun y => y.owner != owner) ∧
        (o.dead = true → y.1 = false ∧ z.items = v.items ∧ z.tail = v.tail ∧ z.lost = v.lost ∧ y.2.wq.used = s.wq.used) ∧
        (o.dead = false → o.cells.length ≤ n → v.occupancy + (n - o.cells.length) ≤ r.quota → n ≤ r.maxItem →
          r.consumer ≠ 4 → y.1 = true ∧ ∃ cells : List Nat, cells.length + o.cells.length = n ∧
            z.items = v.items ++ [item (o.cells ++ cells)] ∧ z.tail = (v.tail + 1) % 2 ^ 32))))

/-- R349, R350, R357, R359, R361, R362, R375: READ pins the item at RD in the view and advances RD, DONE ends its
read; both are for house-port queues. An idle packer on a trained lane takes the oldest head item and pins it; its
read is complete when the group's last frame is in the replay buffer. A command that waited for a pinned item proceeds
when it is free. That a queue with a waiting command gives the packer no item is the model's choice
(notes/assumptions/17.md). -/
def Obligations.WingReads : Prop :=
  ∀ (t q l : Nat) (a b : Bool) (p : Path) (s : State), awake t s = true → p ≠ .tap → q < 4096 →
    let v := getQueue s q
    (s.wq.resBusy = false → consumerOf s q ≠ none → consumerOf s q ≠ some 2 →
      ∀ c ∈ [Instr.wqRead t p q, .wqDone t p q], Yields (exec c s) (fun u => u.wq.result = 4 ∧
        Leaves t s u (fun x => { x with wq := { x.wq with result := 0 } }))) ∧
    (s.wq.resBusy = false → consumerOf s q = some 2 → viewElsewhere s q = true →
      ∀ c ∈ [Instr.wqRead t p q, .wqDone t p q], Yields (exec c s) (fun u => u.wq.result = 7 ∧
        Leaves t s u (fun x => { x with wq := { x.wq with result := 0 } }))) ∧
    (∀ it, s.wq.resBusy = false → consumerOf s q = some 2 → s.wq.view = none → v.next = some it →
      Yields (exec (.wqRead t p q) s) (fun u => u.wq.result = 0 ∧ u.wq.view = some (q, it) ∧
        u.wq.viewBytes = itemBytes s it ∧ (getQueue u q).pinned = some it.seq ∧
        (getQueue u q).rd = (it.seq + 1) % 2 ^ 32 ∧ (getQueue u q).items = v.items ∧
        (∀ k, k ≠ q → getQueue u k = getQueue s k) ∧ Leaves t s u (fun x => { x with wq := {} }))) ∧
    (s.wq.resBusy = false → consumerOf s q = some 2 → s.wq.view = none → v.next = none →
      Yields (exec (.wqRead t p q) s) (fun u => u.wq.result = 5 ∧
        Leaves t s u (fun x => { x with wq := { x.wq with result := 0 } }))) ∧
    (s.wq.resBusy = false → consumerOf s q = some 2 → viewElsewhere s q = false →
      Yields (exec (.wqDone t p q) s) (fun u => u.wq.result = 0 ∧ u.wq.view = none ∧
        (s.wq.view ≠ none → (getQueue u q).pinned = none ∧ u.wq.viewBytes = []) ∧
        (∀ k, k ≠ q → getQueue u k = getQueue s k) ∧ Leaves t s u (fun x => { x with wq := {} }))) ∧
    (v.pinned ≠ none ∨ v.waitCmd = none → Yields (exec (.pinnedCommandResume t q) s) (fun u => Leaves t s u id)) ∧
    (v.pinned = none → v.waitCmd = some 4 → v.markValid = true → Yields (exec (.pinnedCommandResume t q) s) (fun u =>
      u.wq.resBusy = false ∧ u.wq.result = 0 ∧ (getQueue u q).waitCmd = none ∧ (getQueue u q).rd = v.mark ∧
      Leaves t s u (fun x => { x with wq := {} }))) ∧
    (v.pinned = none → v.waitCmd = some 1 → Yields (exec (.pinnedCommandResume t q) s) (fun u =>
      u.wq.resBusy = false ∧ u.wq.result = 0 ∧ getQueue u q = { v with waitCmd := none } ∧
      Leaves t s u (fun x => { x with wq := {} }))) ∧
    (∀ r it, laneTrained s l = true → (s.pk.lanes.get {} l).group = none →
      (laneHeads s l).foldl oldestHead none = some (r, it) → Yields (exec (.packerGroupStart t l a b) s) (fun u =>
        (∃ k, (u.pk.lanes.get {} l).group = some (r.queue, it.seq, k)) ∧
        (getQueue u r.queue).pinned = some it.seq ∧ (getQueue u r.queue).rd = (it.seq + 1) % 2 ^ 32 ∧
        (getQueue u r.queue).reset = false ∧ (getQueue u r.queue).lastLane = some l ∧
        (∀ k, k ≠ r.queue → getQueue u k = getQueue s k) ∧
        Leaves t s u (fun x => lanesOnly { x with free := 0, cb := {}, pk := {}, wq := { x.wq with queues := [] } }))) ∧
    (laneTrained s l = false ∨ (s.pk.lanes.get {} l).group ≠ none ∨ (laneHeads s l).foldl oldestHead none = none →
      Yields (exec (.packerGroupStart t l a b) s) (fun u => Leaves t s u id)) ∧
    (∀ k m n, (s.pk.lanes.get {} l).group = some (k, m, n) → groupWaits s l = false →
      Yields (exec (.readComplete t l) s) (fun u => (u.pk.lanes.get {} l).group = none ∧
        (u.pk.lanes.get {} l).cntGroups = inc32 (s.pk.lanes.get {} l).cntGroups ∧
        (getQueue u k).pinned = none ∧ (getQueue u k).lastSeq = some m ∧
        (∀ j, j ≠ k → getQueue u j = getQueue s j) ∧ Leaves t s u (fun x => { x with pk := {}, wq := {} }))) ∧
    ((s.pk.lanes.get {} l).group = none ∨ groupWaits s l = true →
      Yields (exec (.readComplete t l) s) (fun u => Leaves t s u id))

/-! ### Zitlane -/

/-- Table 11.2, R380 to R390: the path of a lane from OFF to ACTIVE, with its timeouts, the HALT codes of a failed
agreement, the lower trial rate, and the way back from RETRAIN. In BASE, at 10.3125 Gb/s, 64 valid headers give lock
and 16 inverted TRAIN blocks set RX_INV; with lock, 16 TRAIN blocks with READY end it. A trial rate is accepted, and a
RETRAIN ends, on a lock that is good by R386. In every later state 64 valid headers give a lost lock back. A lane that
DISABLE, the plan or dress rehearsal keeps from training leaves neither DETECT nor BASE, and a probe that finds a
partner ends a loop-back slice on its lane (R472). A stage lane whose child has reported a subtree already is
addressed at once (`Addressing`), so here it has none. The order of the HALT codes, and from when the 10 ms and the
lock of RETRAIN count, are the model's choices (notes/assumptions/35.md). -/
def Obligations.LaneTraining : Prop :=
  ∀ (t l : Nat) (s : State), awake t s = true → l < 4 →
    let v := getLane s l
    let n := max s.now t
    (v.state = .off → laneMayTrain v = true → Yields (exec (.laneLeaveOff t l) s) (LaneWent t l .detect s)) ∧
    (v.state ≠ .off ∨ laneMayTrain v = false → Yields (exec (.laneLeaveOff t l) s) (fun u => Leaves t s u id)) ∧
    (v.state = .detect → laneMayTrain v = true → Yields (exec (.laneDetectProbe t l true) s) (fun u =>
      (getLane u l).state = .base ∧ (getLane u l).since = n ∧ (getLane u l).rate = 3 ∧ (getLane u l).lock = false ∧
      (∀ m, m ≠ l → getLane u m = getLane s m) ∧ (getKind u 3).running ≠ some l ∧
      ((getKind s 3).running ≠ some l → Leaves t s u calm) ∧
      ((getKind s 3).running = some l → u.rh.cntPre = inc32 s.rh.cntPre ∧ Leaves t s u (fun x => calm { x with rh := {} })))) ∧
    (v.state ≠ .detect ∨ laneMayTrain v = false →
      Yields (exec (.laneDetectProbe t l true) s) (fun u => Leaves t s u id)) ∧
    Yields (exec (.laneDetectProbe t l false) s) (fun u => Leaves t s u id) ∧
    (∀ (x : TrainSeen) (r : Bool) (k : Nat), v.state = .base →
      let lock := v.lock || decide (64 ≤ x.headers)
      let inv := v.rxInv || (r && decide (16 ≤ x.trains))
      ((laneMayTrain v && lock && x.ready && decide (16 ≤ x.trains)) = true → Yields (exec (.laneBaseLock t l x r k) s) (fun u =>
        LaneWent t l .exchange s u ∧ (getLane u l).lock = true ∧ (getLane u l).rxInv = inv ∧
        (l < 2 → (getLane u l).logical = k % 2 ∧ (getLane u l).reversed = decide (k % 2 ≠ l)) ∧
        (2 ≤ l → (getLane u l).logical = 0))) ∧
      ((laneMayTrain v && lock && x.ready && decide (16 ≤ x.trains)) = false → Yields (exec (.laneBaseLock t l x r k) s) (fun u =>
        getLane u l = { v with lock := lock, rxInv := inv } ∧ (∀ m, m ≠ l → getLane u m = getLane s m) ∧
        Leaves t s u lanesOnly))) ∧
    (∀ x r k, v.state ≠ .base → v.state.signalled = true → Yields (exec (.laneBaseLock t l x r k) s) (fun u =>
      getLane u l = { v with lock := v.lock || decide (64 ≤ x.headers) } ∧ (∀ m, m ≠ l → getLane u m = getLane s m) ∧
      Leaves t s u lanesOnly)) ∧
    (∀ x r k, v.state.signalled = false → Yields (exec (.laneBaseLock t l x r k) s) (fun u => Leaves t s u id)) ∧
    (v.state = .base → v.since + 20 * msTicks ≤ n → Yields (exec (.laneBaseTimeout t l) s) (LaneWent t l .detect s)) ∧
    (n < v.since + 20 * msTicks → Yields (exec (.laneBaseTimeout t l) s) (fun u => Leaves t s u id)) ∧
    (∀ c k, v.state = .exchange → capsFail s l c ≠ 0 → Yields (exec (.laneCaps t l c k) s) (fun u =>
      LaneWent t l .halt s u ∧ (getLane u l).haltCode = capsFail s l c ∧ (getLane u l).partner = c.linkId)) ∧
    (∀ c, v.state = .exchange → capsFail s l c = 0 → Yields (exec (.laneCaps t l c true) s) (fun u =>
      LaneWent t l .rate s u ∧ (getLane u l).ver = min 0x12 c.verHi ∧
      (getLane u l).rate = (commonRates v.plan c).headD 0 ∧ (getLane u l).caps = some c)) ∧
    (∀ c, v.state = .exchange → capsFail s l c = 0 → Yields (exec (.laneCaps t l c false) s) (fun u =>
      (getLane u l).state = .exchange ∧ (getLane u l).caps = some c ∧ Leaves t s u lanesOnly)) ∧
    (v.state = .exchange → v.since + 10 * msTicks ≤ n →
      Yields (exec (.laneExchangeTimeout t l) s) (LaneWent t l .detect s)) ∧
    (∀ o, v.state = .rate → v.since + 10 * msTicks ≤ n → n ≤ v.since + 50 * msTicks → lockGood o v.rate = true →
      cleanSince v (n - 10 * msTicks) = true →
      Yields (exec (.laneRateAccept t ⟨l, o⟩) s) (fun u => LaneWent t l .delay s u ∧ (getLane u l).lock = true)) ∧
    (∀ o, v.state ≠ .rate ∨ n < v.since + 10 * msTicks ∨ v.since + 50 * msTicks < n ∨ lockGood o v.rate = false ∨
        cleanSince v (n - 10 * msTicks) = false →
      Yields (exec (.laneRateAccept t ⟨l, o⟩) s) (fun u => Leaves t s u id)) ∧
    (∀ r rest, v.state = .rate → v.since + 50 * msTicks ≤ n → v.rates.tail = r :: rest →
      Yields (exec (.laneRateTimeout t l) s) (fun u => LaneWent t l .rate s u ∧ (getLane u l).rate = r ∧
        (getLane u l).rates = r :: rest)) ∧
    (v.state = .rate → v.since + 50 * msTicks ≤ n → v.rates.tail = [] →
      Yields (exec (.laneRateTimeout t l) s) (fun u => LaneWent t l .halt s u ∧ (getLane u l).haltCode = 2)) ∧
    (v.state = .delay → 16 ≤ v.trips → otherPartner s l v.partner = true →
      Yields (exec (.laneDelayDone t l) s) (fun u => LaneWent t l .halt s u ∧ (getLane u l).haltCode = 4)) ∧
    (v.state = .delay → 16 ≤ v.trips → otherPartner s l v.partner = false → l < 2 ∨ v.childSize = 0 →
      Yields (exec (.laneDelayDone t l) s) (fun u => (getLane u l).state = .active ∧ (getLane u l).since = n ∧
        (getLane u l).rxSeq = 0 ∧ Leaves t s u calm)) ∧
    (v.trips < 16 → Yields (exec (.laneDelayDone t l) s) (fun u => Leaves t s u id)) ∧
    (∀ o, v.state = .retrain → n ≤ v.since + 2 * msTicks → lockGood o v.rate = true →
      Yields (exec (.retrainLock t ⟨l, o⟩) s) (fun u => LaneWent t l .active s u ∧ (getLane u l).lock = true)) ∧
    (∀ o, v.state ≠ .retrain ∨ v.since + 2 * msTicks < n ∨ lockGood o v.rate = false →
      Yields (exec (.retrainLock t ⟨l, o⟩) s) (fun u => Leaves t s u id)) ∧
    (v.state = .retrain → v.since + 2 * msTicks ≤ n → Yields (exec (.retrainTimeout t l) s) (fun u =>
      (getLane u l).state = .base ∧ (getLane u l).since = n ∧ (getLane u l).replay = [] ∧ (getLane u l).rate = 3 ∧
      (getLane u l).ver = 0 ∧ (getLane u l).caps = none ∧ Leaves t s u calm))

/-- R381, R384, R385, R387, R415, R417: RETRAIN, RETRY and DISABLE of LN_CTRL; a loss of signal of 10 µs, a lost block
lock, eight uncorrectable codewords and a returned termination. A lane that leaves the trained states discards its
replay buffer and counts what it discarded. What FEC_UNC_LIMIT and BLOCK_LOCK_LOSS bring is the model's choice
(notes/assumptions/35.md). -/
def Obligations.LaneFailures : Prop :=
  ∀ (t l n : Nat) (p : Path) (s : State), awake t s = true → p ≠ .tap → l < 4 →
    let v := getLane s l
    (v.state = .active → v.disable = false → Yields (exec (.laneRetrain t p l) s) (fun u =>
      LaneWent t l .retrain s u ∧ (getLane u l).cntRetrain = inc32 v.cntRetrain ∧ (getLane u l).replay = v.replay)) ∧
    (v.state = .halt → laneMayTrain v = true → Yields (exec (.laneRetry t p l) s) (fun u =>
      LaneWent t l .detect s u ∧ (getLane u l).haltCode = 0 ∧ (getLane u l).caps = none ∧ (getLane u l).reversed = false)) ∧
    (v.state ≠ .halt ∨ laneMayTrain v = false → v.disable = false → Yields (exec (.laneRetry t p l) s) (fun u =>
      getLane u l = v ∧ Leaves t s u lanesOnly)) ∧
    Yields (exec (.laneDisable t p l) s) (fun u => (getLane u l).state = .off ∧ (getLane u l).disable = true ∧
      Leaves t s u calm) ∧
    (v.state.signalled = true → 10 * usTicks ≤ n → Yields (exec (.laneSignalLoss t l n) s) (fun u =>
      (getLane u l).state = .detect ∧ (getLane u l).since = max s.now t ∧ (getLane u l).caps = none ∧
      (v.state.trained = true → (getLane u l).replay = [] ∧
        (getLane u l).cntDiscard = satAdd 32 v.cntDiscard v.replay.length) ∧ Leaves t s u calm)) ∧
    (v.state.signalled = false ∨ n < 10 * usTicks →
      Yields (exec (.laneSignalLoss t l n) s) (fun u => Leaves t s u id)) ∧
    (v.state = .halt → Yields (exec (.laneTerminationChange t l) s) (LaneWent t l .detect s)) ∧
    (v.state ≠ .halt → Yields (exec (.laneTerminationChange t l) s) (fun u => Leaves t s u id)) ∧
    (v.lock = true → 16 ≤ n → v.state = .active → Yields (exec (.blockLockLoss t l n) s) (fun u =>
      LaneWent t l .retrain s u ∧ (getLane u l).lock = false)) ∧
    (v.lock = true → 16 ≤ n → v.state ≠ .active → Yields (exec (.blockLockLoss t l n) s) (fun u =>
      getLane u l = { v with lock := false } ∧ Leaves t s u lanesOnly)) ∧
    (v.lock = false ∨ n < 16 → Yields (exec (.blockLockLoss t l n) s) (fun u => Leaves t s u id)) ∧
    (∀ k, fecRuns v = true → n < 8 ∨ v.state ≠ .active → Yields (exec (.fecUncLimit t l ⟨n, k⟩) s) (fun u =>
      (getLane u l).cntFecUnc = satAdd 32 v.cntFecUnc n ∧ (getLane u l).cntFecCorr = satAdd 32 v.cntFecCorr k ∧
      (getLane u l).state = v.state ∧ Leaves t s u lanesOnly)) ∧
    (∀ k, fecRuns v = true → v.state = .active → 8 ≤ n → Yields (exec (.fecUncLimit t l ⟨n, k⟩) s) (fun u =>
      (getLane u l).cntFecUnc = satAdd 32 v.cntFecUnc n ∧ LaneWent t l .retrain s u)) ∧
    (∀ k, fecRuns v = false → Yields (exec (.fecUncLimit t l ⟨n, k⟩) s) (fun u => Leaves t s u id))

/-- R392 to R394, R397 to R401: a bad control block only counts; a bad frame counts and is answered with NAK and the
last good FSEQ; a segment is acknowledged with its credits, and one without its FIRST, or a FIRST while its message is
open, counts as discarded. A CREDIT block gives credits back up to the partner's offer, acknowledges frames, and with
NAK replays the others; 64 µs without an acknowledgement replay all; the fourth replay of a frame retrains the lane.
The frames that wait for credits are looked at apart: here none waits. From when the 64 µs count is the model's choice
(notes/assumptions/35.md). -/
def Obligations.LaneCredits : Prop :=
  ∀ (t l vc n a : Nat) (s : State), awake t s = true → l < 4 →
    let v := getLane s l
    (v.state.signalled = true →
      Yields (exec (.laneBadFrame t l .block) s) (fun u => getLane u l = { v with cntFrameErr := inc32 v.cntFrameErr } ∧
        (∀ m, m ≠ l → getLane u m = getLane s m) ∧ Leaves t s u lanesOnly) ∧
      Yields (exec (.laneBadFrame t l .frame) s) (fun u => (getLane u l).cntFrameErr = inc32 v.cntFrameErr ∧
        (getLane u l).block = some (blockCredit, ((creditBits 0 0 ((v.rxSeq + 255) % 256) false true : Nat) : Int)) ∧
        (∀ m, m ≠ l → getLane u m = getLane s m) ∧ Leaves t s u lanesOnly) ∧
      (∀ x : Segment, v.rxSeq < 256 → Yields (exec (.laneBadFrame t l (.segment x)) s) (fun u =>
        let k := messageKey x.vc x.src x.inner
        (getLane u l).rxSeq = (v.rxSeq + 1) % 256 ∧
        (getLane u l).block =
          some (blockCredit, ((creditBits x.vc (ceilDiv x.len 128) v.rxSeq true false : Nat) : Int)) ∧
        (getLane u l).cntFrameErr =
          (if v.opens.contains k = (x.seg == 1) then inc32 v.cntFrameErr else v.cntFrameErr) ∧
        (x.seg = 1 → k ∈ (getLane u l).opens) ∧ (x.seg = 3 → k ∉ (getLane u l).opens) ∧
        (x.seg ≠ 1 → x.seg ≠ 3 → (getLane u l).opens = v.opens) ∧ (∀ m, m ≠ l → getLane u m = getLane s m) ∧
        Leaves t s u lanesOnly))) ∧
    (∀ x, v.state.signalled = false → Yields (exec (.laneBadFrame t l x) s) (fun u => Leaves t s u id)) ∧
    (∀ x y, laneTrained s l = true → 6 ≤ vc → Yields (exec (.laneCredit t l vc n a x y) s) (fun u =>
      (getLane u l).cntFrameErr = inc32 v.cntFrameErr ∧ Leaves t s u lanesOnly)) ∧
    (∀ k, laneTrained s l = true → v.waiting = [] → vc < 6 → 0 < n → n < 256 → v.credits.length = 6 →
      Yields (exec (.laneCredit t l vc n a k false) s) (fun u =>
        (getLane u l).credits.getD vc 0 =
          min ((v.caps.map (fun c => c.credits.getD vc 0)).getD 0) (v.credits.getD vc 0 + n) ∧
        (∀ w, w ≠ vc → (getLane u l).credits.getD w 0 = v.credits.getD w 0) ∧
        (getLane u l).replay = (if k then v.replay.filter (fun f => !ackedBy a f.fseq) else v.replay) ∧
        (∀ m, m ≠ l → getLane u m = getLane s m) ∧ Leaves t s u calm)) ∧
    (laneTrained s l = true → v.waiting = [] → vc < 6 → (∀ f ∈ v.replay, f.replays < 3) →
      Yields (exec (.laneCredit t l vc 0 a false true) s) (fun u =>
        (getLane u l).cntReplay = satAdd 32 v.cntReplay (v.replay.filter (fun f => !ackedBy a f.fseq)).length ∧
        (getLane u l).replay = v.replay.map (fun f => if ackedBy a f.fseq then f else { f with replays := f.replays + 1 }) ∧
        (getLane u l).state = v.state ∧ Leaves t s u lanesOnly)) ∧
    (laneTrained s l = false → ∀ x y, Yields (exec (.laneCredit t l vc n a x y) s) (fun u => Leaves t s u id)) ∧
    (v.state = .active → ackLapsed (begin t s) l = true → Yields (exec (.replayTimeout t l) s) (fun u =>
      (getLane u l).cntReplay = satAdd 32 v.cntReplay v.replay.length ∧ (getLane u l).replay.length = v.replay.length ∧
      ((∃ f ∈ v.replay, 3 ≤ f.replays) → (getLane u l).state = .retrain) ∧
      ((∀ f ∈ v.replay, f.replays < 3) → (getLane u l).state = .active) ∧ Leaves t s u calm)) ∧
    (v.state ≠ .active ∨ ackLapsed (begin t s) l = false →
      Yields (exec (.replayTimeout t l) s) (fun u => Leaves t s u id))

/-- Table 11.8, R391: the messages of a house lane that reach the register space. READ answers the words that reads
give, or status 1; WRITE writes each word and answers; QCMD is a write of WQ_CMD_ARG and WQ_CMD with the result as its
answer; IMAGE writes the load window, whose discarded words each count with their own address. From a lane that is not
a trained house lane nothing of it happens. That a word beyond a patch's 64 KiB is of kind 4 is the model's choice
(notes/assumptions/18.md). -/
def Obligations.LaneMessages : Prop :=
  ∀ (t l : Nat) (s : State), awake t s = true →
    let v := takeMessage l 0 8 (begin t s)
    (∀ a n, fromHouse s l = true → 1 ≤ n → n ≤ 64 → a < 2 ^ 32 → (∀ i < n, addressOk (a + 4 * i) = true) →
      Yields (exec (.laneRead t l a n) s) (fun u =>
        (readWords a n v).1.length = n ∧ (readWords a n v).1.head? = some (peek v a) ∧
        u = settle s (sendHouse 0 0x02 (leBytes 4 a ++ leBytes 4 0 ++ wordBytes (readWords a n v).1) (readWords a n v).2))) ∧
    (∀ a n, fromHouse s l = true → (n = 0 ∨ 64 < n ∨ addressOk (a % 2 ^ 32) = false) →
      Yields (exec (.laneRead t l a n) s) (fun u =>
        u.ln = (sendHouse 0 0x02 (leBytes 4 (a % 2 ^ 32) ++ leBytes 4 1) v).ln ∧ Leaves t s u lanesOnly)) ∧
    (∀ q ∈ rwRegisters, ∀ w : W32, fromHouse s l = true → q.2.ok (merge q.2.rw (q.2.get s) w) = true →
      Yields (exec (.laneWrite t l q.1 [w]) s) (fun u => q.2.get u = merge q.2.rw (q.2.get s) w ∧
        Leaves t s u (fun x => lanesOnly (q.2.put 0 x)))) ∧
    (∀ a w, fromHouse s l = true → addressOk (a % 2 ^ 32) = false →
      Yields (exec (.laneWrite t l a [w]) s) (fun u =>
        u.ln = (sendHouse 0 0x04 (leBytes 4 (a % 2 ^ 32) ++ leBytes 4 1) v).ln ∧ Leaves t s u lanesOnly)) ∧
    (∀ cmd arg, fromHouse s l = true → qcmdOk s l cmd = true → Yields (exec (.laneQcmd t l cmd arg) s) (fun u =>
      u.wq = (wqCommand (lanePath l) cmd { v with wq := { v.wq with cmdArg := arg } }).2.wq ∧
      Leaves t s u (fun x => lanesOnly { x with cb := {}, wq := {} }))) ∧
    (∀ cmd arg, fromHouse s l = true → qcmdOk s l cmd = false → Yields (exec (.laneQcmd t l cmd arg) s) (fun u =>
      (getLane u l).cntFrameErr = inc32 (getLane s l).cntFrameErr ∧
      (getLane u l).block =
        some (blockCredit, ((creditBits 0 0 (((getLane s l).rxSeq + 255) % 256) false true : Nat) : Int)) ∧ Leaves t s u lanesOnly)) ∧
    (∀ o bs, fromHouse s l = true → BuffersSound s → s.img.load = none → s.img.kind = false → o + bs.length ≤ 0x100000 →
      bs ≠ [] → Yields (exec (.laneImage t l o bs) s) (fun u => BuffersSound u ∧
        (∀ i < bs.length, u.img.full.read (stagingOffset s o + i) = bs.getD i 0) ∧
        (∀ a, a < stagingOffset s o ∨ stagingOffset s o + bs.length ≤ a → u.img.full.read a = s.img.full.read a) ∧
        Leaves t s u (fun x => lanesOnly { x with img := { x.img with full := [], stagedLen := 0 } }))) ∧
    (∀ o bs, fromHouse s l = true → s.img.load ≠ none → bs ≠ [] → Yields (exec (.laneImage t l o bs) s) (fun u =>
      u.cb.violKind = kindBusy ∧ u.img = s.img ∧
      u.cb.violAddr = BitVec.ofNat 32 (loadBase + 4 * ((o + bs.length - 1) / 4)) ∧
      u.cb.violCount = satAdd 16 s.cb.violCount ((o + bs.length + 3) / 4 - o / 4) ∧
      Leaves t s u (fun x => lanesOnly { x with cb := {} }))) ∧
    (∀ o bs, fromHouse s l = true → BuffersSound s → s.img.load = none → s.img.kind = true → bs ≠ [] → 0x10000 ≤ o →
      Yields (exec (.laneImage t l o bs) s) (fun u => u.img = s.img ∧ u.cb.violKind = kindRule ∧
        u.cb.violAddr = BitVec.ofNat 32 (loadBase + 4 * ((o + bs.length - 1) / 4)) ∧
        u.cb.violCount = satAdd 16 s.cb.violCount ((o + bs.length + 3) / 4 - o / 4) ∧
        Leaves t s u (fun x => lanesOnly { x with cb := {} }))) ∧
    (∀ (cmd arg a : Nat) (c d : W32) (ws : List W32) (bs : List Byte), fromHouse s l = false →
      ∀ k ∈ [Instr.laneRead t l a arg, .laneWrite t l a ws, .laneQcmd t l c d, .laneImage t l cmd bs],
        Yields (exec k s) (fun u => Leaves t s u id))

/-- R395, R402 to R404, R494: TOPO_UP changes the size of the subtree behind a stage lane, which halts where the
system would be too deep; ADDR gives a device that is not the root its address, epoch, version and depth. A routed
frame for this device acts as a native one, one for the child goes on as a native one, and one with another epoch, for
an address nowhere below, or to a device without an address is dropped, each of its frames counted; on a link of
version 1.0 VC5 is invalid. A child's own frame goes upstream in VC5, and its routed frames go on with one more hop;
its RESET is discarded. When addresses go out again is the model's choice (notes/assumptions/36.md). -/
def Obligations.Addressing : Prop :=
  ∀ (t l n : Nat) (s : State), awake t s = true →
    (2 ≤ l → l < 4 → laneTrained s l = true → (getLane s l).childSize = n % 65536 →
      Yields (exec (.laneTopoUp t l n) s) (fun u =>
        (getLane u l).rxSeq = ((getLane s l).rxSeq + framesOf (getLane s l) 0 4) % 256 ∧ Leaves t s u lanesOnly)) ∧
    (2 ≤ l → l < 4 → laneTrained s l = true → (getLane s l).childSize ≠ n % 65536 → s.ln.depth < 31 →
      s.ln.addr + 1 + (if l = 3 then (getLane s 2).childSize else 0) ≤ 1023 →
      Yields (exec (.laneTopoUp t l n) s) (fun u => (getLane u l).childSize = n % 65536 ∧
        (getLane u l).state = (getLane s l).state ∧ u.ln.root = isRoot s ∧ Leaves t s u (fun x => calm x))) ∧
    (2 ≤ l → l < 4 → laneTrained s l = true → (getLane s l).childSize ≠ n % 65536 → isRoot s = false →
      s.ln.addressed = true → s.ln.root = false → 31 ≤ s.ln.depth → 0 < n % 65536 →
      Yields (exec (.laneTopoUp t l n) s) (fun u =>
        (getLane u l).state = .halt ∧ (getLane u l).haltCode = 5 ∧ (getLane u l).childSize = 0 ∧ Leaves t s u calm)) ∧
    (∀ a e h d, fromHouse s l = true → s.ln.root = false → Yields (exec (.laneAddr t l a e h d) s) (fun u =>
      u.ln.addr = a % 1024 ∧ u.ln.epoch = e % 256 ∧ u.ln.hostVer = h % 256 ∧ u.ln.depth = d % 32 ∧
      u.ln.addressed = true ∧ Leaves t s u calm)) ∧
    (∀ a e h d, fromHouse s l = false ∨ s.ln.root = true →
      Yields (exec (.laneAddr t l a e h d) s) (fun u => Leaves t s u id)) ∧
    (∀ (r : Route) bs, l < 4 → laneTrained s l = true → routedOk s l = false →
      Yields (exec (.laneRouted t l r bs) s) (fun u =>
        (getLane u l).cntFrameErr = inc32 (getLane s l).cntFrameErr ∧ Leaves t s u lanesOnly)) ∧
    (∀ (r : Route) bs, fromHouse s l = true → routedOk s l = true → s.ln.addressed = true → r.epoch = s.ln.epoch →
      r.dest = s.ln.addr → r.innerVc = 1 → r.innerType = 1 → Yields (exec (.laneRouted t l r bs) s) (fun u =>
        u.sm.fifo = s.sm.fifo ++ [{ cue := cueOfBytes bs, source := .lane l }] ∧
        Leaves t s u (fun x => lanesOnly { x with sm := { x.sm with fifo := [] } }))) ∧
    (∀ (r : Route) bs k, fromHouse s l = true → routedOk s l = true → s.ln.addressed = true → r.epoch = s.ln.epoch →
      r.dest ≠ s.ln.addr → routeTo s r.dest = some k → r.dest = (getLane s k).childAddr → Yields (exec (.laneRouted t l r bs) s) (fun u =>
        getLane u k = getLane (sendMsg k r.innerVc r.innerType bs (begin t s)) k ∧ Leaves t s u lanesOnly)) ∧
    (∀ (r : Route) bs, fromHouse s l = true → routedOk s l = true →
      s.ln.addressed = false ∨ r.epoch ≠ s.ln.epoch ∨ (r.dest ≠ s.ln.addr ∧ routeTo s r.dest = none) →
      Yields (exec (.laneRouted t l r bs) s) (fun u =>
        (getLane u l).cntRoute = satAdd 32 (getLane s l).cntRoute (framesOf (getLane s l) 5 bs.length) ∧
        Leaves t s u lanesOnly)) ∧
    (∀ (r : Route) bs, 2 ≤ l → l < 4 → laneTrained s l = true → routedOk s l = true →
      upstreamLane s = none ∨ s.ln.addressed = false → Yields (exec (.laneRouted t l r bs) s) (fun u =>
        (getLane u l).cntRoute = satAdd 32 (getLane s l).cntRoute (framesOf (getLane s l) 5 bs.length) ∧
        Leaves t s u lanesOnly)) ∧
    (∀ (r : Route) bs k, 2 ≤ l → l < 4 → laneTrained s l = true → routedOk s l = true → upstreamLane s = some k →
      s.ln.addressed = true → Yields (exec (.laneRouted t l r bs) s) (fun u =>
        getLane u k = getLane (sendRouted k { r with hops := (r.hops + 1) % 256 } bs (begin t s)) k ∧
        (getLane u l).cntRoute = (getLane s l).cntRoute ∧ Leaves t s u lanesOnly)) ∧
    (∀ k vc ty bs, 2 ≤ l → l < 4 → laneTrained s l = true → typeOk vc ty = true → 2 ≤ vc → vc < 5 → upstreamLane s = some k →
      s.ln.addressed = true →
      Yields (exec (.laneChildFrame t l vc ty bs) s) (fun u =>
        getLane u k = getLane (sendRouted k (childRoute s l vc ty) bs (begin t s)) k ∧
        Leaves t s u (fun x => lanesOnly { x with free := 0 }))) ∧
    (∀ bs, 2 ≤ l → l < 4 → laneTrained s l = true → Yields (exec (.laneChildFrame t l 0 0x0B bs) s) (fun u =>
      (getLane u l).cntRoute = satAdd 32 (getLane s l).cntRoute (framesOf (getLane s l) 0 8) ∧ u.pwr = s.pwr ∧ Leaves t s u lanesOnly)) ∧
    (∀ vc ty bs, 2 ≤ l → l < 4 → laneTrained s l = true → typeOk vc ty = false →
      Yields (exec (.laneChildFrame t l vc ty bs) s) (fun u =>
        (getLane u l).cntFrameErr = inc32 (getLane s l).cntFrameErr ∧ Leaves t s u lanesOnly))

/-- R404 to R407: the last decision of the guests ends the wait of a split cue, and its sender gets an answer; a guest
that refuses refuses the cue with its reason and resource 0xFF. A decision on a cue that was dropped while it waited
aborts the part it accepts, and the CUE_END of that part asks for nothing. A guest's CUE_END adds its counts to the
parent's, and the last one completes a parent whose own part is over. How the device tells such decisions and records
apart is the model's choice (notes/assumptions/36.md). -/
def Obligations.GuestAnswers : Prop :=
  ∀ (t l : Nat) (s : State), awake t s = true → 2 ≤ l → l < 4 → laneTrained s l = true →
    let v := getLane s l
    (∀ w a k, v.lateDec = 0 → s.sm.deciding = none → Yields (exec (.laneDecision t l w a k) s) (fun u =>
      (getLane u l).rxSeq = (v.rxSeq + framesOf v 1 16) % 256 ∧ Leaves t s u lanesOnly)) ∧
    (∀ w a k, 0 < v.lateDec → Yields (exec (.laneDecision t l w a k) s) (fun u =>
      (getLane u l).lateDec = v.lateDec - 1 ∧
      (flag w 30 = true → (getLane u l).deadEnds = v.deadEnds ++ [fld w 15 0] ∧ (getLane u l).owed = v.owed + 1) ∧
      (flag w 30 = false → (getLane u l).deadEnds = v.deadEnds ∧ (getLane u l).owed = v.owed) ∧ Leaves t s u lanesOnly)) ∧
    (∀ w a k h p e, v.lateDec = 0 → s.sm.deciding = some (h, .port p) → findCue s h = some e →
      (∀ g ∈ e.guests, g.accepted = none → g.lane = l) → Yields (exec (.laneDecision t l w a k) s) (fun u =>
        u.sm.deciding = none ∧ u.sm.resBusy = false ∧
        ((∃ g ∈ e.guests, g.accepted = none) → (∀ g ∈ e.guests, g.accepted ≠ some false) → flag w 30 = false →
          u.sm.resAccept = false ∧ u.sm.resReason = fld w 29 24 ∧ u.sm.resResource = 0xFF ∧
          u.sm.cntReject = satAdd 32 s.sm.cntReject 1 ∧ findCue u h = none))) ∧
    (∀ w a k h src e g, v.lateDec = 0 → s.sm.deciding = some (h, src) → findCue s h = some e → g ∈ e.guests →
      g.accepted = none → g.lane ≠ l → Yields (exec (.laneDecision t l w a k) s) (fun u => u.sm.deciding = s.sm.deciding ∧
        Leaves t s u (fun x => lanesOnly { x with sm := { x.sm with cues := [] } }))) ∧
    (∀ r, v.deadEnds.contains r.handle = true → Yields (exec (.laneCueEnd t l r) s) (fun u =>
      (getLane u l).deadEnds = removeFirst r.handle v.deadEnds ∧ Leaves t s u lanesOnly)) ∧
    (∀ r h e, v.deadEnds.contains r.handle = false →
      (handles s).find? (fun k => (findCue s k).any (fun x => x.guests.any (GuestPart.isRunning l r.handle))) = some h →
      findCue s h = some e →
        (e.state = 2 → e.players ≠ [] → Yields (exec (.laneCueEnd t l r) s) (fun u => findCue u h = some (e.addGuest l r) ∧
          Leaves t s u (fun x => lanesOnly { x with sm := { x.sm with cues := [] } }))) ∧
        (e.state = 3 → allOccurred e = true → noneLeft e = true → pointsLive s h = false →
          (e.addGuest l r).guests.any GuestPart.runs = false → Yields (exec (.laneCueEnd t l r) s) (fun u =>
            findCue u h = none ∧ Leaves t s u calm)) ∧
        (e.state = 2 → e.players = [] → allOccurred e = true → noneLeft e = true → pointsLive s h = false →
          (e.addGuest l r).guests.any GuestPart.runs = false → Yields (exec (.laneCueEnd t l r) s) (fun u =>
            findCue u h = none ∧ Leaves t s u calm))) ∧
    (∀ r, v.deadEnds.contains r.handle = false →
      (handles s).find? (fun k => (findCue s k).any (fun x => x.guests.any (GuestPart.isRunning l r.handle))) = none →
      Yields (exec (.laneCueEnd t l r) s) (fun u =>
        (getLane u l).rxSeq = (v.rxSeq + framesOf v 1 32) % 256 ∧ Leaves t s u lanesOnly))

/-- R408 to R414: SYNC is stamped and answered with DREQ; DRSP completes the round trip, and sixteen measurements of
the time source steer the timebase, by a step in Standby or by at most 200 ppm. A stage lane answers DREQ with DRSP
and sends SYNC. A sound word on the cue bus joins the next sample, any other counts. That a step empties the list of
measurements is inferred (notes/assumptions/34.md), and the amounts that the rules leave open are free values
(notes/assumptions/8.md). -/
def Obligations.TimeAndCueBus : Prop :=
  ∀ (t l : Nat) (s : State), awake t s = true →
    let v := getLane s l
    (∀ a, l < 2 → laneTimed s l = true → Yields (exec (.timeSync t l a) s) (fun u => (getLane u l).t1 = a ∧
      (getLane u l).t2 = tb64 (begin t s) ∧ (getLane u l).block = some (0x99, (getLane u l).t3) ∧ (getLane u l).asked = true ∧
      u.tbOffset = s.tbOffset ∧ Leaves t s u (fun x => lanesOnly { x with free := 0 }))) ∧
    (∀ a, 2 ≤ l ∨ laneTimed s l = false → Yields (exec (.timeSync t l a) s) (fun u => Leaves t s u id)) ∧
    (∀ a, l < 2 → laneTimed s l = true → v.asked = true → Yields (exec (.timeDrsp t l a) s) (fun u =>
      (getLane u l).rtd = unsigned 32 (roundTrip v a) ∧ (getLane u l).trips = v.trips + 1 ∧ (getLane u l).asked = false ∧
      (followsLane s l = false → Leaves t s u lanesOnly) ∧
      (followsLane s l = true → s.ln.thetas.length < 15 → u.ln.thetas = twiceTheta v a :: s.ln.thetas ∧
        u.tbOffset = s.tbOffset) ∧
      (followsLane s l = true → 15 ≤ s.ln.thetas.length →
        let sum := sumInt ((twiceTheta v a :: s.ln.thetas).take 16)
        (inStandby s = true → meanAbove sum 64 = true → u.ln.thetas = [] ∧ u.ln.steeredAt = max s.now t ∧
          u.fs.k = ceilDiv (tbTick u) 20000) ∧
        (inStandby s = false ∨ meanAbove sum 64 = false →
          (u.tbOffset - s.tbOffset).natAbs * 5000 ≤ 64 * (max s.now t - s.ln.steeredAt) ∧
          (0 < sum → u.tbOffset ≤ s.tbOffset) ∧ (sum < 0 → s.tbOffset ≤ u.tbOffset)) ∧
        (meanAbove sum 16 = true → u.ln.timeOk = false)))) ∧
    (∀ a, 2 ≤ l ∨ laneTimed s l = false ∨ v.asked = false →
      Yields (exec (.timeDrsp t l a) s) (fun u => Leaves t s u id)) ∧
    (∀ a, 2 ≤ l → l < 4 → laneTimed s l = true → Yields (exec (.timeDreq t l a) s) (fun u =>
      (getLane u l).block = some (0x9C, stampOf v (tb64 (begin t s))) ∧ (getLane u l).trips = v.trips + 1 ∧
      (∀ m, m ≠ l → getLane u m = getLane s m) ∧ Leaves t s u lanesOnly)) ∧
    (∀ a, l < 2 ∨ laneTimed s l = false → Yields (exec (.timeDreq t l a) s) (fun u => Leaves t s u id)) ∧
    Yields (exec (.syncSend t) s) (fun u => Leaves t s u lanesOnly ∧
      (l = 2 ∨ l = 3 → laneTimed s l = true → (getLane u l).block = some (0x96, stampOf v (tb64 (begin t s)))) ∧
      (laneTimed s l = false ∨ l < 2 → getLane u l = v)) ∧
    (∀ k c b x, busOn s = true → busWordOk k c b x = true → Yields (exec (.cueBusWord t k c b x) s) (fun u =>
      u.sm.busCodes = s.sm.busCodes ++ [c % 256] ∧
      Leaves t s u (fun y => { y with sm := { y.sm with busCodes := [] } }))) ∧
    (∀ k c b x, busOn s = true → busWordOk k c b x = false → Yields (exec (.cueBusWord t k c b x) s) (fun u =>
      u.ln.cntCbErr = inc32 s.ln.cntCbErr ∧ Leaves t s u (fun y => { y with ln := { y.ln with cntCbErr := 0 } }))) ∧
    (∀ k c b x, busOn s = false → Yields (exec (.cueBusWord t k c b x) s) (fun u => Leaves t s u id))

/-! ### Housekeeping, heat and supplies -/

/-- R421 to R429, R471: a conversion takes place when its turn has come by the order of R423, and not before. It
serves the device's own sample that is due, else the plan's: its accumulator publishes four times the sum over 2^n
after 2^n samples, with DISAGREE where a slice has found the converter failing. An urgent request is dropped and
counted while the lead converts or starts up, and otherwise takes four conversions, whose sum is the result. Where in
a group the booked conversions stand is the model's choice (notes/assumptions/37.md). -/
def Obligations.Converters : Prop :=
  ∀ (t i code : Nat) (o m : Bool) (p : Path) (s : State), awake t s = true → p ≠ .tap → i < 32 →
    let b := begin t s
    (ownDue b i = true → mayConvert b 0 i = true → Yields (exec (.hkConversion t 0 i code o m) s) (fun u =>
      u.hk.own.get 0 i = code % 16384 ∧ u.hk.leadBusy = m ∧ u.hk.therm.get 0 i = tbUs b + ownPeriod s i ∧
      (i = 30 → u.bat.hsRb = above75 (code % 16384)) ∧ (i = 31 → u.bat.lsRb = below25 (code % 16384)) ∧
      (i ≠ 30 → u.bat.hsRb = s.bat.hsRb) ∧ (i ≠ 31 → u.bat.lsRb = s.bat.lsRb) ∧
      (o = true ↔ i ∈ u.hk.ownOvr) ∧ u.hk.lead = s.hk.lead ∧
      Leaves t s u (fun x => { x with hk := {}, bat := { x.bat with hsRb := false, lsRb := false } }))) ∧
    (∀ v, v < 2 → v = 1 ∨ ownDue b i = false → planDue b v i = true → mayConvert b v i = true →
      s.hk.restart.contains i = false →
      let a := accOf s v i
      let n := 2 ^ (hkInput s i).accShift
      let sum := a.sum + sampleCode s v (code % 16384) o
      Yields (exec (.hkConversion t v i code o m) s) (fun u =>
        (a.count + 1 < n → (accOf u v i).sum = sum ∧ (accOf u v i).count = a.count + 1 ∧ (accOf u v i).res = a.res) ∧
        (n ≤ a.count + 1 → (accOf u v i).res = 4 * sum / n ∧ (accOf u v i).valid = true ∧ (accOf u v i).count = 0 ∧
          (accOf u v i).sum = 0 ∧ (accOf u v i).ovr = (a.ovrIn || o) ∧ (failingConv s v = true → (accOf u v i).dis = true) ∧
          (accOf u v i).min = min a.min (4 * sum / n) ∧ (accOf u v i).max = max a.max (4 * sum / n)) ∧
        u.hk.cntOvr = satAdd 32 s.hk.cntOvr (bn o) ∧ Leaves t s u (fun x => { x with hk := {}, cb := {} }))) ∧
    (ownDue b i = false → planDue b 0 i = false → cueTarget b 0 i = none → calConvWants b 0 i = false →
      mayConvert b 0 i = true → 0 < s.hk.urgLeft → s.hk.urgNow = i →
      Yields (exec (.hkConversion t 0 i code o m) s) (fun u =>
        u.hk.urgSum = s.hk.urgSum + sampleCode s 0 (code % 16384) o ∧ u.hk.urgLeft = s.hk.urgLeft - 1 ∧
        (s.hk.urgLeft = 1 → u.hk.urgBusy = false ∧ u.hk.urgResult = u.hk.urgSum) ∧
        (1 < s.hk.urgLeft → u.hk.urgBusy = true ∧ u.hk.urgResult = s.hk.urgResult) ∧
        Leaves t s u (fun x => { x with hk := {} }))) ∧
    (∀ v, 2 ≤ v ∨ mayConvert b v i = false →
      Yields (exec (.hkConversion t v i code o m) s) (fun u => Leaves t s u id)) ∧
    (leadIdle b = false → Yields (exec (.hkUrgentRequest t p i) s) (fun u =>
      u.hk.urgDropped = true ∧ u.hk.cntDrop = inc32 s.hk.cntDrop ∧ u.hk.urgBusy = s.hk.urgBusy ∧
      u.hk.urgLeft = s.hk.urgLeft ∧ u.hk.urgNow = s.hk.urgNow ∧ u.hk.urgInput = i ∧
      Leaves t s u (fun x => { x with hk := {} }))) ∧
    (leadIdle b = true → Yields (exec (.hkUrgentRequest t p i) s) (fun u =>
      u.hk.urgBusy = true ∧ u.hk.urgDropped = false ∧ u.hk.urgNow = i ∧ u.hk.urgInput = i ∧ u.hk.urgLeft = 4 ∧
      u.hk.urgSum = 0 ∧ u.hk.cntDrop = s.hk.cntDrop ∧ Leaves t s u (fun x => { x with hk := {} })))

/-- R431 to R436, R438 to R440: a turn breaks the source before it and makes its own 25 µs later, with the measurement
of its record; an intermediate sample counts after the three discarded ones, and none counts between break and make.
The end of the last measurement publishes the output and breaks the source, the first of a three-wire input leaves the
lead's voltage. A source at its compliance limit turns off with the aux-fault event. The loop's current lies from 3.8
to 20.5 mA for a sound source and at 3.5 or 21.5 mA otherwise; the code of input 21 gives the measured current in µA,
whose rounding is free, and ten measurements more than 100 µA off latch the loop fault, which CLR ends. That the make
comes with the first intermediate sample from then on is the model's choice (notes/assumptions/37.md). -/
def Obligations.AuxAndLoop : Prop :=
  ∀ (t : Nat) (p : Path) (s : State), awake t s = true → p ≠ .tap →
    let now := max s.now t
    (∀ c o k g r n, s.hk.turn = some n → s.hk.makeAt = none → auxRec s n = some r → r.excI = s.hk.excI → sourceOf r = none →
      Yields (exec (.auxSample t c o k g) s) (fun u =>
        (s.hk.taken < 3 → u.hk.taken = s.hk.taken + 1 ∧ u.hk.auxSum = s.hk.auxSum) ∧
        (3 ≤ s.hk.taken → s.hk.taken < 3 + s.hk.samples →
          u.hk.taken = s.hk.taken + 1 ∧ u.hk.auxSum = s.hk.auxSum + c ∧ u.hk.auxOvr = (s.hk.auxOvr || o)) ∧
        (3 + s.hk.samples ≤ s.hk.taken → u.hk = s.hk) ∧
        Leaves t s u (fun x => { x with hk := { x.hk with taken := 0, auxSum := 0, auxOvr := false } }))) ∧
    (∀ c o k g r n e, s.hk.turn = some n → s.hk.makeAt = none → auxRec s n = some r → sourceOf r = some e → e < 4 →
      s.hk.excOn.getLsbD e = true → g.getD e false = true → Yields (exec (.auxSample t c o k g) s) (fun u =>
        u.hk.excOn.getLsbD e = false ∧ u.hk.excFault.getLsbD e = true ∧ (u.hk.aux.get {} n).excFault = true ∧
        u.hk.disturbed = true ∧ u.cb.event.getLsbD evAuxFault = true)) ∧
    (∀ c o k g n, s.hk.turn = none → nextTurn s none = some n →
      Yields (exec (.auxSample t c o k g) s) (fun u => u.hk.turn = some n ∧ u.hk.excOn = 0 ∧
        u.hk.makeAt = some (now + 25 * usTicks))) ∧
    (∀ c o k g n m, s.hk.turn = some n → s.hk.makeAt = some m → now < m → auxRec s n ≠ none →
      Yields (exec (.auxSample t c o k g) s) (fun u => Leaves t s u id)) ∧
    (∀ c o k g n m r, s.hk.turn = some n → s.hk.makeAt = some m → m ≤ now → s.hk.turnRec = none → auxRec s n = some r →
      (∀ e, sourceOf r = some e → g.getD e false = false) →
      Yields (exec (.auxSample t c o k g) s) (fun u => u.hk.turn = some n ∧ u.hk.makeAt = none ∧ u.hk.taken = 1 ∧
        u.hk.auxSum = 0 ∧ u.hk.second = false ∧ u.hk.samples = notchSamples r.notch ∧ u.hk.excI = r.excI ∧
        u.hk.excOn = (match sourceOf r with | some e => 1#4 <<< e | none => 0))) ∧
    (∀ n, s.hk.turn = some n → auxRec s n ≠ none → s.hk.makeAt ≠ none ∨ s.hk.taken < 3 + s.hk.samples →
      Yields (exec (.auxMeasurementEnd t) s) (fun u => Leaves t s u id)) ∧
    (∀ r n, s.hk.turn = some n → s.hk.makeAt = none → auxRec s n = some r → 3 + s.hk.samples ≤ s.hk.taken →
      (s.hk.aux.get {} n).wiring = 1 → s.hk.second = false → Yields (exec (.auxMeasurementEnd t) s) (fun u =>
        u.hk.second = true ∧ u.hk.taken = 0 ∧ u.hk.auxSum = 0 ∧ u.hk.turn = some n ∧ u.hk.aux = s.hk.aux ∧
        u.hk.samples = notchSamples r.notch ∧ Leaves t s u (fun x => { x with hk := {} }))) ∧
    (∀ r n, s.hk.turn = some n → s.hk.makeAt = none → auxRec s n = some r → 3 + s.hk.samples ≤ s.hk.taken →
      (s.hk.aux.get {} n).wiring ≠ 1 ∨ s.hk.second = true → Yields (exec (.auxMeasurementEnd t) s) (fun u =>
        (u.hk.aux.get {} n).valid = true ∧ (u.hk.aux.get {} n).unsettled = s.hk.disturbed ∧
        (u.hk.aux.get {} n).ovr = s.hk.auxOvr ∧ u.hk.turn = nextTurn s (some n) ∧ u.hk.excOn = 0 ∧
        (s.hk.disturbed = true → (u.hk.aux.get {} n).settled = (s.hk.aux.get {} n).settled ∧
          (u.hk.aux.get {} n).temp = (s.hk.aux.get {} n).temp ∧
          (u.hk.aux.get {} n).setBroken = (s.hk.aux.get {} n).setBroken))) ∧
    (∀ code, Yields (exec (.loopUpdate t code) s) (fun u =>
      let x := correctCode s (if (hkInput s 21).conv = 1 then 1 else 0) (code % 16384) * 30000
      let m := u.hk.loopMeas
      (m = x / 16383 ∨ (x % 16383 ≠ 0 ∧ m = x / 16383 + 1)) ∧
      (u.hk.loopLevel = false → 3800 ≤ u.hk.loopCmd ∧ u.hk.loopCmd ≤ 20500) ∧
      (u.hk.loopLevel = true → u.hk.loopCmd = 3500 ∨ u.hk.loopCmd = 21500) ∧
      (u.hk.loopFault = true ∨ s.img.active = none → u.hk.loopLevel = true) ∧
      (100 < max m s.hk.loopCmd - min m s.hk.loopCmd → u.hk.loopRun = s.hk.loopRun + 1 ∧
        (9 ≤ s.hk.loopRun → u.hk.loopFault = true) ∧ (s.hk.loopRun < 9 → u.hk.loopFault = s.hk.loopFault)) ∧
      (max m s.hk.loopCmd - min m s.hk.loopCmd ≤ 100 → u.hk.loopRun = 0 ∧ u.hk.loopFault = s.hk.loopFault) ∧
      Leaves t s u (fun x => { x with free := 0, cb := {}, hk := {} }))) ∧
    Yields (exec (.loopFaultClear t p) s) (fun u => u.hk.loopFault = false ∧ u.hk.loopCmd = s.hk.loopCmd ∧
      Leaves t s u (fun x => { x with hk := { x.hk with loopFault := false, loopRun := 0 } }))

/-- R441 to R448, R496: a thermal step takes each hotspot anew, a broken one at 150 °C; WARN and THROTTLE follow the
highest junction temperature, and 160 °C on a hotspot that is not broken latches the shutdown and ends Show. A rail
beyond a warning threshold of Table 12.7 for 1 µs counts, sets the event and stays so in the record, and one well
inside for 1 µs leaves the warning; VDD_IO below 1.2 V lets PRESENT_N go. VDD_CORE stretches the clocks by Table 12.8,
and s rises one eighth at a time, 1 µs after the last fall and raise, where the rail has kept 5 mV above the step's
boundary for that time. How the thermal stages round is free (notes/assumptions/8.md). -/
def Obligations.HeatAndSupplies : Prop :=
  ∀ (t mv : Nat) (p : Path) (r : Rail) (x : Sag) (s : State), p ≠ .tap →
    let level := fun u : State => presentLow u = (if r = .vddIo then decide (1200 ≤ x.mv) else presentLow s)
    (awake t s = true → Yields (exec (.thermalStep t) s) (fun u =>
      (∀ h < 4, hotspotBad s (hotspotDef h) = true →
        (u.th.spots.get {} h).tj = 2400 ∧ (u.th.spots.get {} h).broken = true) ∧
      u.th.warn = decide (warnPoint s ≤ topTj u) ∧ u.th.throttle = decide (throttlePoint s ≤ topTj u) ∧
      (∀ h < 4, spotBroken u h = false → 2560 ≤ spotTj u h → u.th.shutdown = true ∧ inShow u = false) ∧
      (s.th.shutdown = true → u.th.shutdown = true))) ∧
    (awake t s = true → (∀ h < 4, spotBroken s h = false ∧ spotTj s h ≤ throttlePoint s - 160) →
      Yields (exec (.thermalShutdownClear t p) s) (fun u => u.th.shutdown = false ∧
        Leaves t s u (fun x => { x with th := { x.th with shutdown := false } }))) ∧
    (awake t s = true → ∀ h < 4, spotBroken s h = true ∨ throttlePoint s - 160 < spotTj s h →
      Yields (exec (.thermalShutdownClear t p) s) (fun u => Leaves t s u id)) ∧
    (awake t s = true → usTicks ≤ x.ticks → beyondWarning r x.mv = true → s.th.supLive.getLsbD (Rail.bit r) = false →
      Yields (exec (.supplyWarningEnter t r x) s) (fun u => u.th.supLive.getLsbD (Rail.bit r) = true ∧ level u ∧
        u.th.supWarn.getLsbD (Rail.bit r) = true ∧ u.th.cntWarn = inc32 s.th.cntWarn ∧
        u.cb.event.getLsbD evSupply = true ∧ Leaves t s u (fun x => calm { x with th := {} }))) ∧
    (live s = false → resetDue t s = false → usTicks ≤ x.ticks → beyondWarning r x.mv = true →
      s.th.supLive.getLsbD (Rail.bit r) = false →
      Yields (exec (.supplyWarningEnter t r x) s) (fun u => u.th.supLive.getLsbD (Rail.bit r) = true ∧ level u ∧
        u.th.supWarn = s.th.supWarn ∧ u.th.cntWarn = s.th.cntWarn)) ∧
    (resetDue t s = false → x.ticks < usTicks ∨ beyondWarning r x.mv = false ∨ s.th.supLive.getLsbD (Rail.bit r) = true →
      Yields (exec (.supplyWarningEnter t r x) s) (fun u => level u ∧
        Leaves t s u (fun x => { x with th := { x.th with ioOff := false } }))) ∧
    (resetDue t s = false → usTicks ≤ x.ticks → wellInside r x.mv = true →
      Yields (exec (.supplyWarningLeave t r x) s) (fun u => u.th.supLive.getLsbD (Rail.bit r) = false ∧ level u ∧
        u.th.supWarn = s.th.supWarn ∧ u.th.railLow.getLsbD (Rail.bit r) = false ∧
        Leaves t s u (fun x => calm { x with th := {} }))) ∧
    (resetDue t s = false → x.ticks < usTicks ∨ wellInside r x.mv = false →
      Yields (exec (.supplyWarningLeave t r x) s) (fun u => level u ∧
        u.th.railLow.getLsbD (Rail.bit r) = (s.th.railLow.getLsbD (Rail.bit r) && belowReset r x.mv) ∧
        Leaves t s u (fun x => { x with th := { x.th with ioOff := false, railLow := 0 } }))) ∧
    (awake t s = true → stretchOf mv < s.th.s → Yields (exec (.droopFall t mv) s) (fun u => u.th.s = stretchOf mv ∧
      u.th.minS = min s.th.minS (stretchOf mv) ∧ u.th.coreAt = max s.now t ∧
      u.th.cntDroop = satAdd 32 s.th.cntDroop (bn (s.th.s == 8)) ∧ Leaves t s u (fun x => calm { x with th := {} }))) ∧
    (awake t s = true → s.th.s ≤ stretchOf mv → Yields (exec (.droopFall t mv) s) (fun u => Leaves t s u id)) ∧
    (awake t s = true → raiseDue mv (begin t s) = true → Yields (exec (.droopRaise ⟨t, mv⟩) s) (fun u =>
      u.th.s = s.th.s + 1 ∧ u.th.raisedAt = max s.now t ∧ Leaves t s u (fun x => calm { x with th := {} }))) ∧
    (awake t s = true → raiseDue mv (begin t s) = false →
      Yields (exec (.droopRaise ⟨t, mv⟩) s) (fun u => Leaves t s u id))
end

