-- ==== Sys2Proof/Laws/State.lean ====
section
/-! SUPPORT. What the named updates of State leave alone: one lemma per update and field, each by rfl, so that no proof
unfolds a record update. -/

namespace Sys2Proof.Machine

@[simp] theorem begin_pending (t : Nat) (s : State) : (begin t s).pending = s.pending := rfl
@[simp] theorem begin_tbOffset (t : Nat) (s : State) : (begin t s).tbOffset = s.tbOffset := rfl
@[simp] theorem begin_free (t : Nat) (s : State) : (begin t s).free = s.free := rfl
@[simp] theorem begin_cb (t : Nat) (s : State) : (begin t s).cb = s.cb := rfl
@[simp] theorem begin_port (t : Nat) (s : State) : (begin t s).port = s.port := rfl
@[simp] theorem begin_d2d (t : Nat) (s : State) : (begin t s).d2d = s.d2d := rfl
@[simp] theorem begin_otp (t : Nat) (s : State) : (begin t s).otp = s.otp := rfl
@[simp] theorem begin_gl (t : Nat) (s : State) : (begin t s).gl = s.gl := rfl
@[simp] theorem begin_door (t : Nat) (s : State) : (begin t s).door = s.door := rfl
@[simp] theorem begin_pwr (t : Nat) (s : State) : (begin t s).pwr = s.pwr := rfl
@[simp] theorem begin_img (t : Nat) (s : State) : (begin t s).img = s.img := rfl
@[simp] theorem begin_rx (t : Nat) (s : State) : (begin t s).rx = s.rx := rfl
@[simp] theorem begin_bat (t : Nat) (s : State) : (begin t s).bat = s.bat := rfl
@[simp] theorem begin_hist (t : Nat) (s : State) : (begin t s).hist = s.hist := rfl
@[simp] theorem begin_rej (t : Nat) (s : State) : (begin t s).rej = s.rej := rfl
@[simp] theorem begin_sm (t : Nat) (s : State) : (begin t s).sm = s.sm := rfl
@[simp] theorem begin_fs (t : Nat) (s : State) : (begin t s).fs = s.fs := rfl
@[simp] theorem begin_saf (t : Nat) (s : State) : (begin t s).saf = s.saf := rfl
@[simp] theorem begin_wq (t : Nat) (s : State) : (begin t s).wq = s.wq := rfl
@[simp] theorem begin_pk (t : Nat) (s : State) : (begin t s).pk = s.pk := rfl
@[simp] theorem begin_ln (t : Nat) (s : State) : (begin t s).ln = s.ln := rfl
@[simp] theorem begin_hk (t : Nat) (s : State) : (begin t s).hk = s.hk := rfl
@[simp] theorem begin_th (t : Nat) (s : State) : (begin t s).th = s.th := rfl
@[simp] theorem begin_cal (t : Nat) (s : State) : (begin t s).cal = s.cal := rfl
@[simp] theorem begin_rh (t : Nat) (s : State) : (begin t s).rh = s.rh := rfl

@[simp] theorem tookFree_pending (s : State) : (tookFree s).pending = s.pending := rfl
@[simp] theorem tookFree_now (s : State) : (tookFree s).now = s.now := rfl
@[simp] theorem tookFree_tbOffset (s : State) : (tookFree s).tbOffset = s.tbOffset := rfl
@[simp] theorem tookFree_cb (s : State) : (tookFree s).cb = s.cb := rfl
@[simp] theorem tookFree_port (s : State) : (tookFree s).port = s.port := rfl
@[simp] theorem tookFree_d2d (s : State) : (tookFree s).d2d = s.d2d := rfl
@[simp] theorem tookFree_otp (s : State) : (tookFree s).otp = s.otp := rfl
@[simp] theorem tookFree_gl (s : State) : (tookFree s).gl = s.gl := rfl
@[simp] theorem tookFree_door (s : State) : (tookFree s).door = s.door := rfl
@[simp] theorem tookFree_pwr (s : State) : (tookFree s).pwr = s.pwr := rfl
@[simp] theorem tookFree_img (s : State) : (tookFree s).img = s.img := rfl
@[simp] theorem tookFree_rx (s : State) : (tookFree s).rx = s.rx := rfl
@[simp] theorem tookFree_bat (s : State) : (tookFree s).bat = s.bat := rfl
@[simp] theorem tookFree_hist (s : State) : (tookFree s).hist = s.hist := rfl
@[simp] theorem tookFree_rej (s : State) : (tookFree s).rej = s.rej := rfl
@[simp] theorem tookFree_sm (s : State) : (tookFree s).sm = s.sm := rfl
@[simp] theorem tookFree_fs (s : State) : (tookFree s).fs = s.fs := rfl
@[simp] theorem tookFree_saf (s : State) : (tookFree s).saf = s.saf := rfl
@[simp] theorem tookFree_wq (s : State) : (tookFree s).wq = s.wq := rfl
@[simp] theorem tookFree_pk (s : State) : (tookFree s).pk = s.pk := rfl
@[simp] theorem tookFree_ln (s : State) : (tookFree s).ln = s.ln := rfl
@[simp] theorem tookFree_hk (s : State) : (tookFree s).hk = s.hk := rfl
@[simp] theorem tookFree_th (s : State) : (tookFree s).th = s.th := rfl
@[simp] theorem tookFree_cal (s : State) : (tookFree s).cal = s.cal := rfl
@[simp] theorem tookFree_rh (s : State) : (tookFree s).rh = s.rh := rfl

@[simp] theorem setEvent_pending (i : Nat) (s : State) : (setEvent i s).pending = s.pending := rfl
@[simp] theorem setEvent_now (i : Nat) (s : State) : (setEvent i s).now = s.now := rfl
@[simp] theorem setEvent_tbOffset (i : Nat) (s : State) : (setEvent i s).tbOffset = s.tbOffset := rfl
@[simp] theorem setEvent_free (i : Nat) (s : State) : (setEvent i s).free = s.free := rfl
@[simp] theorem setEvent_port (i : Nat) (s : State) : (setEvent i s).port = s.port := rfl
@[simp] theorem setEvent_d2d (i : Nat) (s : State) : (setEvent i s).d2d = s.d2d := rfl
@[simp] theorem setEvent_otp (i : Nat) (s : State) : (setEvent i s).otp = s.otp := rfl
@[simp] theorem setEvent_gl (i : Nat) (s : State) : (setEvent i s).gl = s.gl := rfl
@[simp] theorem setEvent_door (i : Nat) (s : State) : (setEvent i s).door = s.door := rfl
@[simp] theorem setEvent_pwr (i : Nat) (s : State) : (setEvent i s).pwr = s.pwr := rfl
@[simp] theorem setEvent_img (i : Nat) (s : State) : (setEvent i s).img = s.img := rfl
@[simp] theorem setEvent_rx (i : Nat) (s : State) : (setEvent i s).rx = s.rx := rfl
@[simp] theorem setEvent_bat (i : Nat) (s : State) : (setEvent i s).bat = s.bat := rfl
@[simp] theorem setEvent_hist (i : Nat) (s : State) : (setEvent i s).hist = s.hist := rfl
@[simp] theorem setEvent_rej (i : Nat) (s : State) : (setEvent i s).rej = s.rej := rfl
@[simp] theorem setEvent_sm (i : Nat) (s : State) : (setEvent i s).sm = s.sm := rfl
@[simp] theorem setEvent_fs (i : Nat) (s : State) : (setEvent i s).fs = s.fs := rfl
@[simp] theorem setEvent_saf (i : Nat) (s : State) : (setEvent i s).saf = s.saf := rfl
@[simp] theorem setEvent_wq (i : Nat) (s : State) : (setEvent i s).wq = s.wq := rfl
@[simp] theorem setEvent_pk (i : Nat) (s : State) : (setEvent i s).pk = s.pk := rfl
@[simp] theorem setEvent_ln (i : Nat) (s : State) : (setEvent i s).ln = s.ln := rfl
@[simp] theorem setEvent_hk (i : Nat) (s : State) : (setEvent i s).hk = s.hk := rfl
@[simp] theorem setEvent_th (i : Nat) (s : State) : (setEvent i s).th = s.th := rfl
@[simp] theorem setEvent_cal (i : Nat) (s : State) : (setEvent i s).cal = s.cal := rfl
@[simp] theorem setEvent_rh (i : Nat) (s : State) : (setEvent i s).rh = s.rh := rfl

@[simp] theorem violation_pending (p : Path) (a k : Nat) (s : State) : (violation p a k s).pending = s.pending := rfl
@[simp] theorem violation_now (p : Path) (a k : Nat) (s : State) : (violation p a k s).now = s.now := rfl
@[simp] theorem violation_tbOffset (p : Path) (a k : Nat) (s : State) : (violation p a k s).tbOffset = s.tbOffset := rfl
@[simp] theorem violation_free (p : Path) (a k : Nat) (s : State) : (violation p a k s).free = s.free := rfl
@[simp] theorem violation_port (p : Path) (a k : Nat) (s : State) : (violation p a k s).port = s.port := rfl
@[simp] theorem violation_d2d (p : Path) (a k : Nat) (s : State) : (violation p a k s).d2d = s.d2d := rfl
@[simp] theorem violation_otp (p : Path) (a k : Nat) (s : State) : (violation p a k s).otp = s.otp := rfl
@[simp] theorem violation_gl (p : Path) (a k : Nat) (s : State) : (violation p a k s).gl = s.gl := rfl
@[simp] theorem violation_door (p : Path) (a k : Nat) (s : State) : (violation p a k s).door = s.door := rfl
@[simp] theorem violation_pwr (p : Path) (a k : Nat) (s : State) : (violation p a k s).pwr = s.pwr := rfl
@[simp] theorem violation_img (p : Path) (a k : Nat) (s : State) : (violation p a k s).img = s.img := rfl
@[simp] theorem violation_rx (p : Path) (a k : Nat) (s : State) : (violation p a k s).rx = s.rx := rfl
@[simp] theorem violation_bat (p : Path) (a k : Nat) (s : State) : (violation p a k s).bat = s.bat := rfl
@[simp] theorem violation_hist (p : Path) (a k : Nat) (s : State) : (violation p a k s).hist = s.hist := rfl
@[simp] theorem violation_rej (p : Path) (a k : Nat) (s : State) : (violation p a k s).rej = s.rej := rfl
@[simp] theorem violation_sm (p : Path) (a k : Nat) (s : State) : (violation p a k s).sm = s.sm := rfl
@[simp] theorem violation_fs (p : Path) (a k : Nat) (s : State) : (violation p a k s).fs = s.fs := rfl
@[simp] theorem violation_saf (p : Path) (a k : Nat) (s : State) : (violation p a k s).saf = s.saf := rfl
@[simp] theorem violation_wq (p : Path) (a k : Nat) (s : State) : (violation p a k s).wq = s.wq := rfl
@[simp] theorem violation_pk (p : Path) (a k : Nat) (s : State) : (violation p a k s).pk = s.pk := rfl
@[simp] theorem violation_ln (p : Path) (a k : Nat) (s : State) : (violation p a k s).ln = s.ln := rfl
@[simp] theorem violation_hk (p : Path) (a k : Nat) (s : State) : (violation p a k s).hk = s.hk := rfl
@[simp] theorem violation_th (p : Path) (a k : Nat) (s : State) : (violation p a k s).th = s.th := rfl
@[simp] theorem violation_cal (p : Path) (a k : Nat) (s : State) : (violation p a k s).cal = s.cal := rfl
@[simp] theorem violation_rh (p : Path) (a k : Nat) (s : State) : (violation p a k s).rh = s.rh := rfl

@[simp] theorem openSwitches_pending (s : State) : (openSwitches s).pending = s.pending := rfl
@[simp] theorem openSwitches_now (s : State) : (openSwitches s).now = s.now := rfl
@[simp] theorem openSwitches_tbOffset (s : State) : (openSwitches s).tbOffset = s.tbOffset := rfl
@[simp] theorem openSwitches_free (s : State) : (openSwitches s).free = s.free := rfl
@[simp] theorem openSwitches_cb (s : State) : (openSwitches s).cb = s.cb := rfl
@[simp] theorem openSwitches_port (s : State) : (openSwitches s).port = s.port := rfl
@[simp] theorem openSwitches_d2d (s : State) : (openSwitches s).d2d = s.d2d := rfl
@[simp] theorem openSwitches_otp (s : State) : (openSwitches s).otp = s.otp := rfl
@[simp] theorem openSwitches_gl (s : State) : (openSwitches s).gl = s.gl := rfl
@[simp] theorem openSwitches_door (s : State) : (openSwitches s).door = s.door := rfl
@[simp] theorem openSwitches_pwr (s : State) : (openSwitches s).pwr = s.pwr := rfl
@[simp] theorem openSwitches_img (s : State) : (openSwitches s).img = s.img := rfl
@[simp] theorem openSwitches_rx (s : State) : (openSwitches s).rx = s.rx := rfl
@[simp] theorem openSwitches_hist (s : State) : (openSwitches s).hist = s.hist := rfl
@[simp] theorem openSwitches_rej (s : State) : (openSwitches s).rej = s.rej := rfl
@[simp] theorem openSwitches_sm (s : State) : (openSwitches s).sm = s.sm := rfl
@[simp] theorem openSwitches_fs (s : State) : (openSwitches s).fs = s.fs := rfl
@[simp] theorem openSwitches_saf (s : State) : (openSwitches s).saf = s.saf := rfl
@[simp] theorem openSwitches_wq (s : State) : (openSwitches s).wq = s.wq := rfl
@[simp] theorem openSwitches_pk (s : State) : (openSwitches s).pk = s.pk := rfl
@[simp] theorem openSwitches_ln (s : State) : (openSwitches s).ln = s.ln := rfl
@[simp] theorem openSwitches_hk (s : State) : (openSwitches s).hk = s.hk := rfl
@[simp] theorem openSwitches_th (s : State) : (openSwitches s).th = s.th := rfl
@[simp] theorem openSwitches_cal (s : State) : (openSwitches s).cal = s.cal := rfl
@[simp] theorem openSwitches_rh (s : State) : (openSwitches s).rh = s.rh := rfl

@[simp] theorem setChan_pending (c : Nat) (v : Channel) (s : State) : (setChan c v s).pending = s.pending := rfl
@[simp] theorem setChan_now (c : Nat) (v : Channel) (s : State) : (setChan c v s).now = s.now := rfl
@[simp] theorem setChan_tbOffset (c : Nat) (v : Channel) (s : State) : (setChan c v s).tbOffset = s.tbOffset := rfl
@[simp] theorem setChan_free (c : Nat) (v : Channel) (s : State) : (setChan c v s).free = s.free := rfl
@[simp] theorem setChan_cb (c : Nat) (v : Channel) (s : State) : (setChan c v s).cb = s.cb := rfl
@[simp] theorem setChan_port (c : Nat) (v : Channel) (s : State) : (setChan c v s).port = s.port := rfl
@[simp] theorem setChan_d2d (c : Nat) (v : Channel) (s : State) : (setChan c v s).d2d = s.d2d := rfl
@[simp] theorem setChan_otp (c : Nat) (v : Channel) (s : State) : (setChan c v s).otp = s.otp := rfl
@[simp] theorem setChan_gl (c : Nat) (v : Channel) (s : State) : (setChan c v s).gl = s.gl := rfl
@[simp] theorem setChan_door (c : Nat) (v : Channel) (s : State) : (setChan c v s).door = s.door := rfl
@[simp] theorem setChan_pwr (c : Nat) (v : Channel) (s : State) : (setChan c v s).pwr = s.pwr := rfl
@[simp] theorem setChan_img (c : Nat) (v : Channel) (s : State) : (setChan c v s).img = s.img := rfl
@[simp] theorem setChan_bat (c : Nat) (v : Channel) (s : State) : (setChan c v s).bat = s.bat := rfl
@[simp] theorem setChan_hist (c : Nat) (v : Channel) (s : State) : (setChan c v s).hist = s.hist := rfl
@[simp] theorem setChan_rej (c : Nat) (v : Channel) (s : State) : (setChan c v s).rej = s.rej := rfl
@[simp] theorem setChan_sm (c : Nat) (v : Channel) (s : State) : (setChan c v s).sm = s.sm := rfl
@[simp] theorem setChan_fs (c : Nat) (v : Channel) (s : State) : (setChan c v s).fs = s.fs := rfl
@[simp] theorem setChan_saf (c : Nat) (v : Channel) (s : State) : (setChan c v s).saf = s.saf := rfl
@[simp] theorem setChan_wq (c : Nat) (v : Channel) (s : State) : (setChan c v s).wq = s.wq := rfl
@[simp] theorem setChan_pk (c : Nat) (v : Channel) (s : State) : (setChan c v s).pk = s.pk := rfl
@[simp] theorem setChan_ln (c : Nat) (v : Channel) (s : State) : (setChan c v s).ln = s.ln := rfl
@[simp] theorem setChan_hk (c : Nat) (v : Channel) (s : State) : (setChan c v s).hk = s.hk := rfl
@[simp] theorem setChan_th (c : Nat) (v : Channel) (s : State) : (setChan c v s).th = s.th := rfl
@[simp] theorem setChan_cal (c : Nat) (v : Channel) (s : State) : (setChan c v s).cal = s.cal := rfl
@[simp] theorem setChan_rh (c : Nat) (v : Channel) (s : State) : (setChan c v s).rh = s.rh := rfl

@[simp] theorem setBatten_pending (b : Nat) (v : Batten) (s : State) : (setBatten b v s).pending = s.pending := rfl
@[simp] theorem setBatten_now (b : Nat) (v : Batten) (s : State) : (setBatten b v s).now = s.now := rfl
@[simp] theorem setBatten_tbOffset (b : Nat) (v : Batten) (s : State) : (setBatten b v s).tbOffset = s.tbOffset := rfl
@[simp] theorem setBatten_free (b : Nat) (v : Batten) (s : State) : (setBatten b v s).free = s.free := rfl
@[simp] theorem setBatten_cb (b : Nat) (v : Batten) (s : State) : (setBatten b v s).cb = s.cb := rfl
@[simp] theorem setBatten_port (b : Nat) (v : Batten) (s : State) : (setBatten b v s).port = s.port := rfl
@[simp] theorem setBatten_d2d (b : Nat) (v : Batten) (s : State) : (setBatten b v s).d2d = s.d2d := rfl
@[simp] theorem setBatten_otp (b : Nat) (v : Batten) (s : State) : (setBatten b v s).otp = s.otp := rfl
@[simp] theorem setBatten_gl (b : Nat) (v : Batten) (s : State) : (setBatten b v s).gl = s.gl := rfl
@[simp] theorem setBatten_door (b : Nat) (v : Batten) (s : State) : (setBatten b v s).door = s.door := rfl
@[simp] theorem setBatten_pwr (b : Nat) (v : Batten) (s : State) : (setBatten b v s).pwr = s.pwr := rfl
@[simp] theorem setBatten_img (b : Nat) (v : Batten) (s : State) : (setBatten b v s).img = s.img := rfl
@[simp] theorem setBatten_rx (b : Nat) (v : Batten) (s : State) : (setBatten b v s).rx = s.rx := rfl
@[simp] theorem setBatten_hist (b : Nat) (v : Batten) (s : State) : (setBatten b v s).hist = s.hist := rfl
@[simp] theorem setBatten_rej (b : Nat) (v : Batten) (s : State) : (setBatten b v s).rej = s.rej := rfl
@[simp] theorem setBatten_sm (b : Nat) (v : Batten) (s : State) : (setBatten b v s).sm = s.sm := rfl
@[simp] theorem setBatten_fs (b : Nat) (v : Batten) (s : State) : (setBatten b v s).fs = s.fs := rfl
@[simp] theorem setBatten_saf (b : Nat) (v : Batten) (s : State) : (setBatten b v s).saf = s.saf := rfl
@[simp] theorem setBatten_wq (b : Nat) (v : Batten) (s : State) : (setBatten b v s).wq = s.wq := rfl
@[simp] theorem setBatten_pk (b : Nat) (v : Batten) (s : State) : (setBatten b v s).pk = s.pk := rfl
@[simp] theorem setBatten_ln (b : Nat) (v : Batten) (s : State) : (setBatten b v s).ln = s.ln := rfl
@[simp] theorem setBatten_hk (b : Nat) (v : Batten) (s : State) : (setBatten b v s).hk = s.hk := rfl
@[simp] theorem setBatten_th (b : Nat) (v : Batten) (s : State) : (setBatten b v s).th = s.th := rfl
@[simp] theorem setBatten_cal (b : Nat) (v : Batten) (s : State) : (setBatten b v s).cal = s.cal := rfl
@[simp] theorem setBatten_rh (b : Nat) (v : Batten) (s : State) : (setBatten b v s).rh = s.rh := rfl

@[simp] theorem setHist_pending (c : Nat) (v : HistChan) (s : State) : (setHist c v s).pending = s.pending := rfl
@[simp] theorem setHist_now (c : Nat) (v : HistChan) (s : State) : (setHist c v s).now = s.now := rfl
@[simp] theorem setHist_tbOffset (c : Nat) (v : HistChan) (s : State) : (setHist c v s).tbOffset = s.tbOffset := rfl
@[simp] theorem setHist_free (c : Nat) (v : HistChan) (s : State) : (setHist c v s).free = s.free := rfl
@[simp] theorem setHist_cb (c : Nat) (v : HistChan) (s : State) : (setHist c v s).cb = s.cb := rfl
@[simp] theorem setHist_port (c : Nat) (v : HistChan) (s : State) : (setHist c v s).port = s.port := rfl
@[simp] theorem setHist_d2d (c : Nat) (v : HistChan) (s : State) : (setHist c v s).d2d = s.d2d := rfl
@[simp] theorem setHist_otp (c : Nat) (v : HistChan) (s : State) : (setHist c v s).otp = s.otp := rfl
@[simp] theorem setHist_gl (c : Nat) (v : HistChan) (s : State) : (setHist c v s).gl = s.gl := rfl
@[simp] theorem setHist_door (c : Nat) (v : HistChan) (s : State) : (setHist c v s).door = s.door := rfl
@[simp] theorem setHist_pwr (c : Nat) (v : HistChan) (s : State) : (setHist c v s).pwr = s.pwr := rfl
@[simp] theorem setHist_img (c : Nat) (v : HistChan) (s : State) : (setHist c v s).img = s.img := rfl
@[simp] theorem setHist_rx (c : Nat) (v : HistChan) (s : State) : (setHist c v s).rx = s.rx := rfl
@[simp] theorem setHist_bat (c : Nat) (v : HistChan) (s : State) : (setHist c v s).bat = s.bat := rfl
@[simp] theorem setHist_rej (c : Nat) (v : HistChan) (s : State) : (setHist c v s).rej = s.rej := rfl
@[simp] theorem setHist_sm (c : Nat) (v : HistChan) (s : State) : (setHist c v s).sm = s.sm := rfl
@[simp] theorem setHist_fs (c : Nat) (v : HistChan) (s : State) : (setHist c v s).fs = s.fs := rfl
@[simp] theorem setHist_saf (c : Nat) (v : HistChan) (s : State) : (setHist c v s).saf = s.saf := rfl
@[simp] theorem setHist_wq (c : Nat) (v : HistChan) (s : State) : (setHist c v s).wq = s.wq := rfl
@[simp] theorem setHist_pk (c : Nat) (v : HistChan) (s : State) : (setHist c v s).pk = s.pk := rfl
@[simp] theorem setHist_ln (c : Nat) (v : HistChan) (s : State) : (setHist c v s).ln = s.ln := rfl
@[simp] theorem setHist_hk (c : Nat) (v : HistChan) (s : State) : (setHist c v s).hk = s.hk := rfl
@[simp] theorem setHist_th (c : Nat) (v : HistChan) (s : State) : (setHist c v s).th = s.th := rfl
@[simp] theorem setHist_cal (c : Nat) (v : HistChan) (s : State) : (setHist c v s).cal = s.cal := rfl
@[simp] theorem setHist_rh (c : Nat) (v : HistChan) (s : State) : (setHist c v s).rh = s.rh := rfl

@[simp] theorem setLane_pending (l : Nat) (v : Lane) (s : State) : (setLane l v s).pending = s.pending := rfl
@[simp] theorem setLane_now (l : Nat) (v : Lane) (s : State) : (setLane l v s).now = s.now := rfl
@[simp] theorem setLane_tbOffset (l : Nat) (v : Lane) (s : State) : (setLane l v s).tbOffset = s.tbOffset := rfl
@[simp] theorem setLane_free (l : Nat) (v : Lane) (s : State) : (setLane l v s).free = s.free := rfl
@[simp] theorem setLane_cb (l : Nat) (v : Lane) (s : State) : (setLane l v s).cb = s.cb := rfl
@[simp] theorem setLane_port (l : Nat) (v : Lane) (s : State) : (setLane l v s).port = s.port := rfl
@[simp] theorem setLane_d2d (l : Nat) (v : Lane) (s : State) : (setLane l v s).d2d = s.d2d := rfl
@[simp] theorem setLane_otp (l : Nat) (v : Lane) (s : State) : (setLane l v s).otp = s.otp := rfl
@[simp] theorem setLane_gl (l : Nat) (v : Lane) (s : State) : (setLane l v s).gl = s.gl := rfl
@[simp] theorem setLane_door (l : Nat) (v : Lane) (s : State) : (setLane l v s).door = s.door := rfl
@[simp] theorem setLane_pwr (l : Nat) (v : Lane) (s : State) : (setLane l v s).pwr = s.pwr := rfl
@[simp] theorem setLane_img (l : Nat) (v : Lane) (s : State) : (setLane l v s).img = s.img := rfl
@[simp] theorem setLane_rx (l : Nat) (v : Lane) (s : State) : (setLane l v s).rx = s.rx := rfl
@[simp] theorem setLane_bat (l : Nat) (v : Lane) (s : State) : (setLane l v s).bat = s.bat := rfl
@[simp] theorem setLane_hist (l : Nat) (v : Lane) (s : State) : (setLane l v s).hist = s.hist := rfl
@[simp] theorem setLane_rej (l : Nat) (v : Lane) (s : State) : (setLane l v s).rej = s.rej := rfl
@[simp] theorem setLane_sm (l : Nat) (v : Lane) (s : State) : (setLane l v s).sm = s.sm := rfl
@[simp] theorem setLane_fs (l : Nat) (v : Lane) (s : State) : (setLane l v s).fs = s.fs := rfl
@[simp] theorem setLane_saf (l : Nat) (v : Lane) (s : State) : (setLane l v s).saf = s.saf := rfl
@[simp] theorem setLane_wq (l : Nat) (v : Lane) (s : State) : (setLane l v s).wq = s.wq := rfl
@[simp] theorem setLane_pk (l : Nat) (v : Lane) (s : State) : (setLane l v s).pk = s.pk := rfl
@[simp] theorem setLane_hk (l : Nat) (v : Lane) (s : State) : (setLane l v s).hk = s.hk := rfl
@[simp] theorem setLane_th (l : Nat) (v : Lane) (s : State) : (setLane l v s).th = s.th := rfl
@[simp] theorem setLane_cal (l : Nat) (v : Lane) (s : State) : (setLane l v s).cal = s.cal := rfl
@[simp] theorem setLane_rh (l : Nat) (v : Lane) (s : State) : (setLane l v s).rh = s.rh := rfl

@[simp] theorem updLane_pending (l : Nat) (f : Lane → Lane) (s : State) : (updLane l f s).pending = s.pending := rfl
@[simp] theorem updLane_now (l : Nat) (f : Lane → Lane) (s : State) : (updLane l f s).now = s.now := rfl
@[simp] theorem updLane_tbOffset (l : Nat) (f : Lane → Lane) (s : State) : (updLane l f s).tbOffset = s.tbOffset := rfl
@[simp] theorem updLane_free (l : Nat) (f : Lane → Lane) (s : State) : (updLane l f s).free = s.free := rfl
@[simp] theorem updLane_cb (l : Nat) (f : Lane → Lane) (s : State) : (updLane l f s).cb = s.cb := rfl
@[simp] theorem updLane_port (l : Nat) (f : Lane → Lane) (s : State) : (updLane l f s).port = s.port := rfl
@[simp] theorem updLane_d2d (l : Nat) (f : Lane → Lane) (s : State) : (updLane l f s).d2d = s.d2d := rfl
@[simp] theorem updLane_otp (l : Nat) (f : Lane → Lane) (s : State) : (updLane l f s).otp = s.otp := rfl
@[simp] theorem updLane_gl (l : Nat) (f : Lane → Lane) (s : State) : (updLane l f s).gl = s.gl := rfl
@[simp] theorem updLane_door (l : Nat) (f : Lane → Lane) (s : State) : (updLane l f s).door = s.door := rfl
@[simp] theorem updLane_pwr (l : Nat) (f : Lane → Lane) (s : State) : (updLane l f s).pwr = s.pwr := rfl
@[simp] theorem updLane_img (l : Nat) (f : Lane → Lane) (s : State) : (updLane l f s).img = s.img := rfl
@[simp] theorem updLane_rx (l : Nat) (f : Lane → Lane) (s : State) : (updLane l f s).rx = s.rx := rfl
@[simp] theorem updLane_bat (l : Nat) (f : Lane → Lane) (s : State) : (updLane l f s).bat = s.bat := rfl
@[simp] theorem updLane_hist (l : Nat) (f : Lane → Lane) (s : State) : (updLane l f s).hist = s.hist := rfl
@[simp] theorem updLane_rej (l : Nat) (f : Lane → Lane) (s : State) : (updLane l f s).rej = s.rej := rfl
@[simp] theorem updLane_sm (l : Nat) (f : Lane → Lane) (s : State) : (updLane l f s).sm = s.sm := rfl
@[simp] theorem updLane_fs (l : Nat) (f : Lane → Lane) (s : State) : (updLane l f s).fs = s.fs := rfl
@[simp] theorem updLane_saf (l : Nat) (f : Lane → Lane) (s : State) : (updLane l f s).saf = s.saf := rfl
@[simp] theorem updLane_wq (l : Nat) (f : Lane → Lane) (s : State) : (updLane l f s).wq = s.wq := rfl
@[simp] theorem updLane_pk (l : Nat) (f : Lane → Lane) (s : State) : (updLane l f s).pk = s.pk := rfl
@[simp] theorem updLane_hk (l : Nat) (f : Lane → Lane) (s : State) : (updLane l f s).hk = s.hk := rfl
@[simp] theorem updLane_th (l : Nat) (f : Lane → Lane) (s : State) : (updLane l f s).th = s.th := rfl
@[simp] theorem updLane_cal (l : Nat) (f : Lane → Lane) (s : State) : (updLane l f s).cal = s.cal := rfl
@[simp] theorem updLane_rh (l : Nat) (f : Lane → Lane) (s : State) : (updLane l f s).rh = s.rh := rfl

@[simp] theorem setQueue_pending (q : Nat) (v : Queue) (s : State) : (setQueue q v s).pending = s.pending := rfl
@[simp] theorem setQueue_now (q : Nat) (v : Queue) (s : State) : (setQueue q v s).now = s.now := rfl
@[simp] theorem setQueue_tbOffset (q : Nat) (v : Queue) (s : State) : (setQueue q v s).tbOffset = s.tbOffset := rfl
@[simp] theorem setQueue_free (q : Nat) (v : Queue) (s : State) : (setQueue q v s).free = s.free := rfl
@[simp] theorem setQueue_cb (q : Nat) (v : Queue) (s : State) : (setQueue q v s).cb = s.cb := rfl
@[simp] theorem setQueue_port (q : Nat) (v : Queue) (s : State) : (setQueue q v s).port = s.port := rfl
@[simp] theorem setQueue_d2d (q : Nat) (v : Queue) (s : State) : (setQueue q v s).d2d = s.d2d := rfl
@[simp] theorem setQueue_otp (q : Nat) (v : Queue) (s : State) : (setQueue q v s).otp = s.otp := rfl
@[simp] theorem setQueue_gl (q : Nat) (v : Queue) (s : State) : (setQueue q v s).gl = s.gl := rfl
@[simp] theorem setQueue_door (q : Nat) (v : Queue) (s : State) : (setQueue q v s).door = s.door := rfl
@[simp] theorem setQueue_pwr (q : Nat) (v : Queue) (s : State) : (setQueue q v s).pwr = s.pwr := rfl
@[simp] theorem setQueue_img (q : Nat) (v : Queue) (s : State) : (setQueue q v s).img = s.img := rfl
@[simp] theorem setQueue_rx (q : Nat) (v : Queue) (s : State) : (setQueue q v s).rx = s.rx := rfl
@[simp] theorem setQueue_bat (q : Nat) (v : Queue) (s : State) : (setQueue q v s).bat = s.bat := rfl
@[simp] theorem setQueue_hist (q : Nat) (v : Queue) (s : State) : (setQueue q v s).hist = s.hist := rfl
@[simp] theorem setQueue_rej (q : Nat) (v : Queue) (s : State) : (setQueue q v s).rej = s.rej := rfl
@[simp] theorem setQueue_sm (q : Nat) (v : Queue) (s : State) : (setQueue q v s).sm = s.sm := rfl
@[simp] theorem setQueue_fs (q : Nat) (v : Queue) (s : State) : (setQueue q v s).fs = s.fs := rfl
@[simp] theorem setQueue_saf (q : Nat) (v : Queue) (s : State) : (setQueue q v s).saf = s.saf := rfl
@[simp] theorem setQueue_pk (q : Nat) (v : Queue) (s : State) : (setQueue q v s).pk = s.pk := rfl
@[simp] theorem setQueue_ln (q : Nat) (v : Queue) (s : State) : (setQueue q v s).ln = s.ln := rfl
@[simp] theorem setQueue_hk (q : Nat) (v : Queue) (s : State) : (setQueue q v s).hk = s.hk := rfl
@[simp] theorem setQueue_th (q : Nat) (v : Queue) (s : State) : (setQueue q v s).th = s.th := rfl
@[simp] theorem setQueue_cal (q : Nat) (v : Queue) (s : State) : (setQueue q v s).cal = s.cal := rfl
@[simp] theorem setQueue_rh (q : Nat) (v : Queue) (s : State) : (setQueue q v s).rh = s.rh := rfl

@[simp] theorem doorDone_pending (r : Nat) (s : State) : (doorDone r s).pending = s.pending := rfl
@[simp] theorem doorDone_now (r : Nat) (s : State) : (doorDone r s).now = s.now := rfl
@[simp] theorem doorDone_tbOffset (r : Nat) (s : State) : (doorDone r s).tbOffset = s.tbOffset := rfl
@[simp] theorem doorDone_free (r : Nat) (s : State) : (doorDone r s).free = s.free := rfl
@[simp] theorem doorDone_cb (r : Nat) (s : State) : (doorDone r s).cb = s.cb := rfl
@[simp] theorem doorDone_port (r : Nat) (s : State) : (doorDone r s).port = s.port := rfl
@[simp] theorem doorDone_d2d (r : Nat) (s : State) : (doorDone r s).d2d = s.d2d := rfl
@[simp] theorem doorDone_otp (r : Nat) (s : State) : (doorDone r s).otp = s.otp := rfl
@[simp] theorem doorDone_gl (r : Nat) (s : State) : (doorDone r s).gl = s.gl := rfl
@[simp] theorem doorDone_pwr (r : Nat) (s : State) : (doorDone r s).pwr = s.pwr := rfl
@[simp] theorem doorDone_img (r : Nat) (s : State) : (doorDone r s).img = s.img := rfl
@[simp] theorem doorDone_rx (r : Nat) (s : State) : (doorDone r s).rx = s.rx := rfl
@[simp] theorem doorDone_bat (r : Nat) (s : State) : (doorDone r s).bat = s.bat := rfl
@[simp] theorem doorDone_hist (r : Nat) (s : State) : (doorDone r s).hist = s.hist := rfl
@[simp] theorem doorDone_rej (r : Nat) (s : State) : (doorDone r s).rej = s.rej := rfl
@[simp] theorem doorDone_sm (r : Nat) (s : State) : (doorDone r s).sm = s.sm := rfl
@[simp] theorem doorDone_fs (r : Nat) (s : State) : (doorDone r s).fs = s.fs := rfl
@[simp] theorem doorDone_saf (r : Nat) (s : State) : (doorDone r s).saf = s.saf := rfl
@[simp] theorem doorDone_wq (r : Nat) (s : State) : (doorDone r s).wq = s.wq := rfl
@[simp] theorem doorDone_pk (r : Nat) (s : State) : (doorDone r s).pk = s.pk := rfl
@[simp] theorem doorDone_ln (r : Nat) (s : State) : (doorDone r s).ln = s.ln := rfl
@[simp] theorem doorDone_hk (r : Nat) (s : State) : (doorDone r s).hk = s.hk := rfl
@[simp] theorem doorDone_th (r : Nat) (s : State) : (doorDone r s).th = s.th := rfl
@[simp] theorem doorDone_cal (r : Nat) (s : State) : (doorDone r s).cal = s.cal := rfl
@[simp] theorem doorDone_rh (r : Nat) (s : State) : (doorDone r s).rh = s.rh := rfl

@[simp] theorem updKind_pending (k : Nat) (f : SliceKind → SliceKind) (s : State) : (updKind k f s).pending = s.pending := rfl
@[simp] theorem updKind_now (k : Nat) (f : SliceKind → SliceKind) (s : State) : (updKind k f s).now = s.now := rfl
@[simp] theorem updKind_tbOffset (k : Nat) (f : SliceKind → SliceKind) (s : State) : (updKind k f s).tbOffset = s.tbOffset := rfl
@[simp] theorem updKind_free (k : Nat) (f : SliceKind → SliceKind) (s : State) : (updKind k f s).free = s.free := rfl
@[simp] theorem updKind_cb (k : Nat) (f : SliceKind → SliceKind) (s : State) : (updKind k f s).cb = s.cb := rfl
@[simp] theorem updKind_port (k : Nat) (f : SliceKind → SliceKind) (s : State) : (updKind k f s).port = s.port := rfl
@[simp] theorem updKind_d2d (k : Nat) (f : SliceKind → SliceKind) (s : State) : (updKind k f s).d2d = s.d2d := rfl
@[simp] theorem updKind_otp (k : Nat) (f : SliceKind → SliceKind) (s : State) : (updKind k f s).otp = s.otp := rfl
@[simp] theorem updKind_gl (k : Nat) (f : SliceKind → SliceKind) (s : State) : (updKind k f s).gl = s.gl := rfl
@[simp] theorem updKind_door (k : Nat) (f : SliceKind → SliceKind) (s : State) : (updKind k f s).door = s.door := rfl
@[simp] theorem updKind_pwr (k : Nat) (f : SliceKind → SliceKind) (s : State) : (updKind k f s).pwr = s.pwr := rfl
@[simp] theorem updKind_img (k : Nat) (f : SliceKind → SliceKind) (s : State) : (updKind k f s).img = s.img := rfl
@[simp] theorem updKind_rx (k : Nat) (f : SliceKind → SliceKind) (s : State) : (updKind k f s).rx = s.rx := rfl
@[simp] theorem updKind_bat (k : Nat) (f : SliceKind → SliceKind) (s : State) : (updKind k f s).bat = s.bat := rfl
@[simp] theorem updKind_hist (k : Nat) (f : SliceKind → SliceKind) (s : State) : (updKind k f s).hist = s.hist := rfl
@[simp] theorem updKind_rej (k : Nat) (f : SliceKind → SliceKind) (s : State) : (updKind k f s).rej = s.rej := rfl
@[simp] theorem updKind_sm (k : Nat) (f : SliceKind → SliceKind) (s : State) : (updKind k f s).sm = s.sm := rfl
@[simp] theorem updKind_fs (k : Nat) (f : SliceKind → SliceKind) (s : State) : (updKind k f s).fs = s.fs := rfl
@[simp] theorem updKind_saf (k : Nat) (f : SliceKind → SliceKind) (s : State) : (updKind k f s).saf = s.saf := rfl
@[simp] theorem updKind_wq (k : Nat) (f : SliceKind → SliceKind) (s : State) : (updKind k f s).wq = s.wq := rfl
@[simp] theorem updKind_pk (k : Nat) (f : SliceKind → SliceKind) (s : State) : (updKind k f s).pk = s.pk := rfl
@[simp] theorem updKind_ln (k : Nat) (f : SliceKind → SliceKind) (s : State) : (updKind k f s).ln = s.ln := rfl
@[simp] theorem updKind_hk (k : Nat) (f : SliceKind → SliceKind) (s : State) : (updKind k f s).hk = s.hk := rfl
@[simp] theorem updKind_th (k : Nat) (f : SliceKind → SliceKind) (s : State) : (updKind k f s).th = s.th := rfl
@[simp] theorem updKind_cal (k : Nat) (f : SliceKind → SliceKind) (s : State) : (updKind k f s).cal = s.cal := rfl

end Sys2Proof.Machine
end

