-- ==== Sys2Proof/Laws/Settle.lean ====
section
/-! SUPPORT. What a dropped curtain and the end of every command (`settle`) leave alone, and that the end of every
command restores the invariant. -/

namespace Sys2Proof.Machine

/-! ### A dropped curtain -/

@[simp] theorem dropCurtain_pending (s : State) : (dropCurtain s).pending = s.pending := by
  unfold dropCurtain; split <;> rfl
@[simp] theorem dropCurtain_now (s : State) : (dropCurtain s).now = s.now := by
  unfold dropCurtain; split <;> rfl
@[simp] theorem dropCurtain_tbOffset (s : State) : (dropCurtain s).tbOffset = s.tbOffset := by
  unfold dropCurtain; split <;> rfl
@[simp] theorem dropCurtain_free (s : State) : (dropCurtain s).free = s.free := by
  unfold dropCurtain; split <;> rfl
@[simp] theorem dropCurtain_port (s : State) : (dropCurtain s).port = s.port := by
  unfold dropCurtain; split <;> rfl
@[simp] theorem dropCurtain_d2d (s : State) : (dropCurtain s).d2d = s.d2d := by
  unfold dropCurtain; split <;> rfl
@[simp] theorem dropCurtain_otp (s : State) : (dropCurtain s).otp = s.otp := by
  unfold dropCurtain; split <;> rfl
@[simp] theorem dropCurtain_gl (s : State) : (dropCurtain s).gl = s.gl := by
  unfold dropCurtain; split <;> rfl
@[simp] theorem dropCurtain_door (s : State) : (dropCurtain s).door = s.door := by
  unfold dropCurtain; split <;> rfl
@[simp] theorem dropCurtain_pwr (s : State) : (dropCurtain s).pwr = s.pwr := by
  unfold dropCurtain; split <;> rfl
@[simp] theorem dropCurtain_img (s : State) : (dropCurtain s).img = s.img := by
  unfold dropCurtain; split <;> rfl
@[simp] theorem dropCurtain_rx (s : State) : (dropCurtain s).rx = s.rx := by
  unfold dropCurtain; split <;> rfl
@[simp] theorem dropCurtain_bat (s : State) : (dropCurtain s).bat = s.bat := by
  unfold dropCurtain; split <;> rfl
@[simp] theorem dropCurtain_hist (s : State) : (dropCurtain s).hist = s.hist := by
  unfold dropCurtain; split <;> rfl
@[simp] theorem dropCurtain_rej (s : State) : (dropCurtain s).rej = s.rej := by
  unfold dropCurtain; split <;> rfl
@[simp] theorem dropCurtain_sm (s : State) : (dropCurtain s).sm = s.sm := by
  unfold dropCurtain; split <;> rfl
@[simp] theorem dropCurtain_fs (s : State) : (dropCurtain s).fs = s.fs := by
  unfold dropCurtain; split <;> rfl
@[simp] theorem dropCurtain_wq (s : State) : (dropCurtain s).wq = s.wq := by
  unfold dropCurtain; split <;> rfl
@[simp] theorem dropCurtain_pk (s : State) : (dropCurtain s).pk = s.pk := by
  unfold dropCurtain; split <;> rfl
@[simp] theorem dropCurtain_ln (s : State) : (dropCurtain s).ln = s.ln := by
  unfold dropCurtain; split <;> rfl
@[simp] theorem dropCurtain_hk (s : State) : (dropCurtain s).hk = s.hk := by
  unfold dropCurtain; split <;> rfl
@[simp] theorem dropCurtain_th (s : State) : (dropCurtain s).th = s.th := by
  unfold dropCurtain; split <;> rfl
@[simp] theorem dropCurtain_cal (s : State) : (dropCurtain s).cal = s.cal := by
  unfold dropCurtain; split <;> rfl
@[simp] theorem dropCurtain_rh (s : State) : (dropCurtain s).rh = s.rh := by
  unfold dropCurtain; split <;> rfl
@[simp] theorem dropCurtain_saf_cause (s : State) : (dropCurtain s).saf.cause = s.saf.cause := by
  unfold dropCurtain; split <;> rfl
@[simp] theorem dropCurtain_saf_causes (s : State) : (dropCurtain s).saf.causes = s.saf.causes := by
  unfold dropCurtain; split <;> rfl
@[simp] theorem dropCurtain_saf_everUp (s : State) : (dropCurtain s).saf.everUp = s.saf.everUp := by
  unfold dropCurtain; split <;> rfl
@[simp] theorem dropCurtain_saf_guardDone (s : State) : (dropCurtain s).saf.guardDone = s.saf.guardDone := by
  unfold dropCurtain; split <;> rfl
@[simp] theorem dropCurtain_saf_verdict (s : State) : (dropCurtain s).saf.verdict = s.saf.verdict := by
  unfold dropCurtain; split <;> rfl
@[simp] theorem dropCurtain_saf_gotPermit (s : State) : (dropCurtain s).saf.gotPermit = s.saf.gotPermit := by
  unfold dropCurtain; split <;> rfl
@[simp] theorem dropCurtain_saf_missing (s : State) : (dropCurtain s).saf.missing = s.saf.missing := by
  unfold dropCurtain; split <;> rfl
@[simp] theorem dropCurtain_saf_good (s : State) : (dropCurtain s).saf.good = s.saf.good := by
  unfold dropCurtain; split <;> rfl
@[simp] theorem dropCurtain_saf_period (s : State) : (dropCurtain s).saf.period = s.saf.period := by
  unfold dropCurtain; split <;> rfl
@[simp] theorem dropCurtain_saf_boundary (s : State) : (dropCurtain s).saf.boundary = s.saf.boundary := by
  unfold dropCurtain; split <;> rfl
@[simp] theorem dropCurtain_saf_boundaryAt (s : State) : (dropCurtain s).saf.boundaryAt = s.saf.boundaryAt := by
  unfold dropCurtain; split <;> rfl
@[simp] theorem dropCurtain_saf_spikeViol (s : State) : (dropCurtain s).saf.spikeViol = s.saf.spikeViol := by
  unfold dropCurtain; split <;> rfl
@[simp] theorem dropCurtain_saf_fieldViol (s : State) : (dropCurtain s).saf.fieldViol = s.saf.fieldViol := by
  unfold dropCurtain; split <;> rfl
@[simp] theorem dropCurtain_saf_fieldAct (s : State) : (dropCurtain s).saf.fieldAct = s.saf.fieldAct := by
  unfold dropCurtain; split <;> rfl
@[simp] theorem dropCurtain_saf_cntXchk (s : State) : (dropCurtain s).saf.cntXchk = s.saf.cntXchk := by
  unfold dropCurtain; split <;> rfl
@[simp] theorem dropCurtain_saf_cntCrc (s : State) : (dropCurtain s).saf.cntCrc = s.saf.cntCrc := by
  unfold dropCurtain; split <;> rfl
@[simp] theorem dropCurtain_saf_cntTp (s : State) : (dropCurtain s).saf.cntTp = s.saf.cntTp := by
  unfold dropCurtain; split <;> rfl
@[simp] theorem dropCurtain_saf_cntTpDisc (s : State) : (dropCurtain s).saf.cntTpDisc = s.saf.cntTpDisc := by
  unfold dropCurtain; split <;> rfl
@[simp] theorem dropCurtain_saf_cntLate (s : State) : (dropCurtain s).saf.cntLate = s.saf.cntLate := by
  unfold dropCurtain; split <;> rfl
@[simp] theorem dropCurtain_saf_xchkRun (s : State) : (dropCurtain s).saf.xchkRun = s.saf.xchkRun := by
  unfold dropCurtain; split <;> rfl
@[simp] theorem dropCurtain_saf_inputs (s : State) : (dropCurtain s).saf.inputs = s.saf.inputs := by
  unfold dropCurtain; split <;> rfl
@[simp] theorem dropCurtain_saf_sirel (s : State) : (dropCurtain s).saf.sirel = s.saf.sirel := by
  unfold dropCurtain; split <;> rfl
@[simp] theorem dropCurtain_saf_mainData (s : State) : (dropCurtain s).saf.mainData = s.saf.mainData := by
  unfold dropCurtain; split <;> rfl
@[simp] theorem dropCurtain_saf_flyData (s : State) : (dropCurtain s).saf.flyData = s.saf.flyData := by
  unfold dropCurtain; split <;> rfl
@[simp] theorem dropCurtain_saf_resetReq (s : State) : (dropCurtain s).saf.resetReq = s.saf.resetReq := by
  unfold dropCurtain; split <;> rfl
@[simp] theorem dropCurtain_saf_present (s : State) : (dropCurtain s).saf.present = s.saf.present := by
  unfold dropCurtain; split <;> rfl
@[simp] theorem dropCurtain_saf_absent (s : State) : (dropCurtain s).saf.absent = s.saf.absent := by
  unfold dropCurtain; split <;> rfl
@[simp] theorem dropCurtain_saf_showAt (s : State) : (dropCurtain s).saf.showAt = s.saf.showAt := by
  unfold dropCurtain; split <;> rfl
@[simp] theorem dropCurtain_cb_mask (s : State) : (dropCurtain s).cb.mask = s.cb.mask := by
  unfold dropCurtain; split <;> rfl
@[simp] theorem dropCurtain_cb_violAddr (s : State) : (dropCurtain s).cb.violAddr = s.cb.violAddr := by
  unfold dropCurtain; split <;> rfl
@[simp] theorem dropCurtain_cb_violCount (s : State) : (dropCurtain s).cb.violCount = s.cb.violCount := by
  unfold dropCurtain; split <;> rfl
@[simp] theorem dropCurtain_cb_violPath (s : State) : (dropCurtain s).cb.violPath = s.cb.violPath := by
  unfold dropCurtain; split <;> rfl
@[simp] theorem dropCurtain_cb_violKind (s : State) : (dropCurtain s).cb.violKind = s.cb.violKind := by
  unfold dropCurtain; split <;> rfl
@[simp] theorem dropCurtain_cb_hpCfg (s : State) : (dropCurtain s).cb.hpCfg = s.cb.hpCfg := by
  unfold dropCurtain; split <;> rfl
@[simp] theorem dropCurtain_cb_hpErr (s : State) : (dropCurtain s).cb.hpErr = s.cb.hpErr := by
  unfold dropCurtain; split <;> rfl
@[simp] theorem dropCurtain_cb_bootSingle (s : State) : (dropCurtain s).cb.bootSingle = s.cb.bootSingle := by
  unfold dropCurtain; split <;> rfl
@[simp] theorem dropCurtain_cb_bootCopy (s : State) : (dropCurtain s).cb.bootCopy = s.cb.bootCopy := by
  unfold dropCurtain; split <;> rfl
@[simp] theorem dropCurtain_cb_strap (s : State) : (dropCurtain s).cb.strap = s.cb.strap := by
  unfold dropCurtain; split <;> rfl

@[simp] theorem dropCurtain_curtain (s : State) : (dropCurtain s).saf.curtain = false := by
  unfold dropCurtain; split
  · rfl
  · simpa using ‹¬ s.saf.curtain = true›

/-- A curtain that is down stays as it is. -/
theorem dropCurtain_of_down {s : State} (h : s.saf.curtain = false) : dropCurtain s = s := by
  simp [dropCurtain, h]

/-! ### CB_FIRST -/

@[simp] theorem follow_event (b : W32) (c : CallBoard) : (c.follow b).event = c.event := by
  unfold CallBoard.follow; split; · rfl
  split <;> rfl
@[simp] theorem follow_mask (b : W32) (c : CallBoard) : (c.follow b).mask = c.mask := by
  unfold CallBoard.follow; split; · rfl
  split <;> rfl
@[simp] theorem follow_violAddr (b : W32) (c : CallBoard) : (c.follow b).violAddr = c.violAddr := by
  unfold CallBoard.follow; split; · rfl
  split <;> rfl
@[simp] theorem follow_violCount (b : W32) (c : CallBoard) : (c.follow b).violCount = c.violCount := by
  unfold CallBoard.follow; split; · rfl
  split <;> rfl
@[simp] theorem follow_violPath (b : W32) (c : CallBoard) : (c.follow b).violPath = c.violPath := by
  unfold CallBoard.follow; split; · rfl
  split <;> rfl
@[simp] theorem follow_violKind (b : W32) (c : CallBoard) : (c.follow b).violKind = c.violKind := by
  unfold CallBoard.follow; split; · rfl
  split <;> rfl
@[simp] theorem follow_hpCfg (b : W32) (c : CallBoard) : (c.follow b).hpCfg = c.hpCfg := by
  unfold CallBoard.follow; split; · rfl
  split <;> rfl
@[simp] theorem follow_hpErr (b : W32) (c : CallBoard) : (c.follow b).hpErr = c.hpErr := by
  unfold CallBoard.follow; split; · rfl
  split <;> rfl
@[simp] theorem follow_bootSingle (b : W32) (c : CallBoard) : (c.follow b).bootSingle = c.bootSingle := by
  unfold CallBoard.follow; split; · rfl
  split <;> rfl
@[simp] theorem follow_bootCopy (b : W32) (c : CallBoard) : (c.follow b).bootCopy = c.bootCopy := by
  unfold CallBoard.follow; split; · rfl
  split <;> rfl
@[simp] theorem follow_strap (b : W32) (c : CallBoard) : (c.follow b).strap = c.strap := by
  unfold CallBoard.follow; split; · rfl
  split <;> rfl

@[simp] theorem follow_pendingWord (b : W32) (c : CallBoard) : (c.follow b).pendingWord = c.pendingWord := by
  simp [CallBoard.pendingWord]

/-- R519: after it, VALID reads 1 exactly while CB_PENDING is not 0. -/
theorem follow_valid (b : W32) (c : CallBoard) : (c.follow b).firstValid = true ↔ c.pendingWord ≠ 0 := by
  unfold CallBoard.follow
  by_cases h : c.pendingWord = 0#32
  · simp [h]
  · by_cases hb : b = 0#32 <;> cases hv : c.firstValid <;> simp [h, hb, hv]

/-! ### The end of every command -/

@[simp] theorem settle_pending (b s : State) : (settle b s).pending = s.pending := by
  unfold settle; split <;> simp
@[simp] theorem settle_now (b s : State) : (settle b s).now = s.now := by
  unfold settle; split <;> simp
@[simp] theorem settle_tbOffset (b s : State) : (settle b s).tbOffset = s.tbOffset := by
  unfold settle; split <;> simp
@[simp] theorem settle_free (b s : State) : (settle b s).free = s.free := by
  unfold settle; split <;> simp
@[simp] theorem settle_port (b s : State) : (settle b s).port = s.port := by
  unfold settle; split <;> simp
@[simp] theorem settle_d2d (b s : State) : (settle b s).d2d = s.d2d := by
  unfold settle; split <;> simp
@[simp] theorem settle_otp (b s : State) : (settle b s).otp = s.otp := by
  unfold settle; split <;> simp
@[simp] theorem settle_gl (b s : State) : (settle b s).gl = s.gl := by
  unfold settle; split <;> simp
@[simp] theorem settle_door (b s : State) : (settle b s).door = s.door := by
  unfold settle; split <;> simp
@[simp] theorem settle_pwr (b s : State) : (settle b s).pwr = s.pwr := by
  unfold settle; split <;> simp
@[simp] theorem settle_img (b s : State) : (settle b s).img = s.img := by
  unfold settle; split <;> simp
@[simp] theorem settle_rx (b s : State) : (settle b s).rx = s.rx := by
  unfold settle; split <;> simp
@[simp] theorem settle_bat (b s : State) : (settle b s).bat = s.bat := by
  unfold settle; split <;> simp
@[simp] theorem settle_hist (b s : State) : (settle b s).hist = s.hist := by
  unfold settle; split <;> simp
@[simp] theorem settle_rej (b s : State) : (settle b s).rej = s.rej := by
  unfold settle; split <;> simp
@[simp] theorem settle_sm (b s : State) : (settle b s).sm = s.sm := by
  unfold settle; split <;> simp
@[simp] theorem settle_fs (b s : State) : (settle b s).fs = s.fs := by
  unfold settle; split <;> simp
@[simp] theorem settle_wq (b s : State) : (settle b s).wq = s.wq := by
  unfold settle; split <;> simp
@[simp] theorem settle_pk (b s : State) : (settle b s).pk = s.pk := by
  unfold settle; split <;> simp
@[simp] theorem settle_ln (b s : State) : (settle b s).ln = s.ln := by
  unfold settle; split <;> simp
@[simp] theorem settle_hk (b s : State) : (settle b s).hk = s.hk := by
  unfold settle; split <;> simp
@[simp] theorem settle_th (b s : State) : (settle b s).th = s.th := by
  unfold settle; split <;> simp
@[simp] theorem settle_cal (b s : State) : (settle b s).cal = s.cal := by
  unfold settle; split <;> simp
@[simp] theorem settle_rh (b s : State) : (settle b s).rh = s.rh := by
  unfold settle; split <;> simp
@[simp] theorem settle_saf_cause (b s : State) : (settle b s).saf.cause = s.saf.cause := by
  unfold settle; split <;> simp
@[simp] theorem settle_saf_causes (b s : State) : (settle b s).saf.causes = s.saf.causes := by
  unfold settle; split <;> simp
@[simp] theorem settle_saf_everUp (b s : State) : (settle b s).saf.everUp = s.saf.everUp := by
  unfold settle; split <;> simp
@[simp] theorem settle_saf_guardDone (b s : State) : (settle b s).saf.guardDone = s.saf.guardDone := by
  unfold settle; split <;> simp
@[simp] theorem settle_saf_verdict (b s : State) : (settle b s).saf.verdict = s.saf.verdict := by
  unfold settle; split <;> simp
@[simp] theorem settle_saf_gotPermit (b s : State) : (settle b s).saf.gotPermit = s.saf.gotPermit := by
  unfold settle; split <;> simp
@[simp] theorem settle_saf_missing (b s : State) : (settle b s).saf.missing = s.saf.missing := by
  unfold settle; split <;> simp
@[simp] theorem settle_saf_good (b s : State) : (settle b s).saf.good = s.saf.good := by
  unfold settle; split <;> simp
@[simp] theorem settle_saf_period (b s : State) : (settle b s).saf.period = s.saf.period := by
  unfold settle; split <;> simp
@[simp] theorem settle_saf_boundary (b s : State) : (settle b s).saf.boundary = s.saf.boundary := by
  unfold settle; split <;> simp
@[simp] theorem settle_saf_boundaryAt (b s : State) : (settle b s).saf.boundaryAt = s.saf.boundaryAt := by
  unfold settle; split <;> simp
@[simp] theorem settle_saf_spikeViol (b s : State) : (settle b s).saf.spikeViol = s.saf.spikeViol := by
  unfold settle; split <;> simp
@[simp] theorem settle_saf_fieldViol (b s : State) : (settle b s).saf.fieldViol = s.saf.fieldViol := by
  unfold settle; split <;> simp
@[simp] theorem settle_saf_fieldAct (b s : State) : (settle b s).saf.fieldAct = s.saf.fieldAct := by
  unfold settle; split <;> simp
@[simp] theorem settle_saf_cntXchk (b s : State) : (settle b s).saf.cntXchk = s.saf.cntXchk := by
  unfold settle; split <;> simp
@[simp] theorem settle_saf_cntCrc (b s : State) : (settle b s).saf.cntCrc = s.saf.cntCrc := by
  unfold settle; split <;> simp
@[simp] theorem settle_saf_cntTp (b s : State) : (settle b s).saf.cntTp = s.saf.cntTp := by
  unfold settle; split <;> simp
@[simp] theorem settle_saf_cntTpDisc (b s : State) : (settle b s).saf.cntTpDisc = s.saf.cntTpDisc := by
  unfold settle; split <;> simp
@[simp] theorem settle_saf_cntLate (b s : State) : (settle b s).saf.cntLate = s.saf.cntLate := by
  unfold settle; split <;> simp
@[simp] theorem settle_saf_xchkRun (b s : State) : (settle b s).saf.xchkRun = s.saf.xchkRun := by
  unfold settle; split <;> simp
@[simp] theorem settle_saf_inputs (b s : State) : (settle b s).saf.inputs = s.saf.inputs := by
  unfold settle; split <;> simp
@[simp] theorem settle_saf_sirel (b s : State) : (settle b s).saf.sirel = s.saf.sirel := by
  unfold settle; split <;> simp
@[simp] theorem settle_saf_mainData (b s : State) : (settle b s).saf.mainData = s.saf.mainData := by
  unfold settle; split <;> simp
@[simp] theorem settle_saf_flyData (b s : State) : (settle b s).saf.flyData = s.saf.flyData := by
  unfold settle; split <;> simp
@[simp] theorem settle_saf_resetReq (b s : State) : (settle b s).saf.resetReq = s.saf.resetReq := by
  unfold settle; split <;> simp
@[simp] theorem settle_saf_present (b s : State) : (settle b s).saf.present = s.saf.present := by
  unfold settle; split <;> simp
@[simp] theorem settle_saf_absent (b s : State) : (settle b s).saf.absent = s.saf.absent := by
  unfold settle; split <;> simp
@[simp] theorem settle_saf_showAt (b s : State) : (settle b s).saf.showAt = s.saf.showAt := by
  unfold settle; split <;> simp
@[simp] theorem settle_cb_mask (b s : State) : (settle b s).cb.mask = s.cb.mask := by
  unfold settle; split <;> simp
@[simp] theorem settle_cb_violAddr (b s : State) : (settle b s).cb.violAddr = s.cb.violAddr := by
  unfold settle; split <;> simp
@[simp] theorem settle_cb_violCount (b s : State) : (settle b s).cb.violCount = s.cb.violCount := by
  unfold settle; split <;> simp
@[simp] theorem settle_cb_violPath (b s : State) : (settle b s).cb.violPath = s.cb.violPath := by
  unfold settle; split <;> simp
@[simp] theorem settle_cb_violKind (b s : State) : (settle b s).cb.violKind = s.cb.violKind := by
  unfold settle; split <;> simp
@[simp] theorem settle_cb_hpCfg (b s : State) : (settle b s).cb.hpCfg = s.cb.hpCfg := by
  unfold settle; split <;> simp
@[simp] theorem settle_cb_hpErr (b s : State) : (settle b s).cb.hpErr = s.cb.hpErr := by
  unfold settle; split <;> simp
@[simp] theorem settle_cb_bootSingle (b s : State) : (settle b s).cb.bootSingle = s.cb.bootSingle := by
  unfold settle; split <;> simp
@[simp] theorem settle_cb_bootCopy (b s : State) : (settle b s).cb.bootCopy = s.cb.bootCopy := by
  unfold settle; split <;> simp
@[simp] theorem settle_cb_strap (b s : State) : (settle b s).cb.strap = s.cb.strap := by
  unfold settle; split <;> simp

/-- `settle` as two cases. -/
theorem settle_cases (b s : State) :
    (curtainAllowed s = true ∧ settle b s = { s with cb := s.cb.follow b.cb.pendingWord }) ∨
    (curtainAllowed s = false ∧
      settle b s = { dropCurtain s with cb := (dropCurtain s).cb.follow b.cb.pendingWord }) := by
  cases h : curtainAllowed s with
  | true => exact .inl ⟨rfl, by simp [settle, h]⟩
  | false => exact .inr ⟨rfl, by simp [settle, h]⟩

/-- The curtain's conditions do not read the call board. -/
theorem curtainAllowed_cb (s : State) (c : CallBoard) : curtainAllowed { s with cb := c } = curtainAllowed s := rfl

/-- The curtain after a command: up only where it was up and every condition still holds. -/
theorem settle_curtain (b s : State) : (settle b s).saf.curtain = (s.saf.curtain && curtainAllowed s) := by
  rcases settle_cases b s with ⟨h, e⟩ | ⟨h, e⟩ <;> simp [e, h]

/-- A curtain that is down leaves everything but CB_FIRST to the command itself. -/
theorem settle_saf_of_down {b s : State} (h : s.saf.curtain = false) : (settle b s).saf = s.saf := by
  rcases settle_cases b s with ⟨_, e⟩ | ⟨_, e⟩
  · simp [e]
  · simp [e, dropCurtain_of_down h]

theorem settle_event_of_down {b s : State} (h : s.saf.curtain = false) : (settle b s).cb.event = s.cb.event := by
  rcases settle_cases b s with ⟨_, e⟩ | ⟨_, e⟩
  · simp [e]
  · simp [e, dropCurtain_of_down h]

/-- `settle` clears no event. -/
theorem settle_keeps_event {b s : State} {i : Nat} (h : s.cb.event.getLsbD i = true) :
    (settle b s).cb.event.getLsbD i = true := by
  rcases settle_cases b s with ⟨_, e⟩ | ⟨_, e⟩
  · simpa [e] using h
  · simp only [e, follow_event]
    unfold dropCurtain
    split
    · simp [setEvent, h]
    · exact h

/-- The command ends with the invariant in force, whatever it did. -/
theorem settle_inv (b s : State) : Inv (settle b s) := by
  rcases settle_cases b s with ⟨h, e⟩ | ⟨h, e⟩
  · refine ⟨fun _ => by rw [e]; exact h, ?_⟩
    rw [BoardSound, e]; simpa using follow_valid _ _
  · refine ⟨fun hc => ?_, ?_⟩
    · rw [e] at hc; simp at hc
    · rw [BoardSound, e]; simpa using follow_valid _ _

/-! ### How a command completes -/

theorem yields_next {u : State} {P : State → Prop} (h : P u) : Yields (.next u) P := ⟨u, rfl, h⟩

@[simp] theorem yields_next_iff {u : State} {P : State → Prop} : Yields (.next u) P ↔ P u :=
  ⟨fun ⟨_, e, h⟩ => by cases e; exact h, yields_next⟩

@[simp] theorem live_begin (t : Nat) (s : State) : live (begin t s) = live s := rfl

/-- Where no lane-commanded reset has come due, only time has passed. -/
theorem arrive_of_not_due {t : Nat} {s : State} (h : resetDue t s = false) : arrive t s = begin t s := by
  simp [arrive, h]

/-- Where none waits, none is due. -/
@[simp] theorem resetDue_of_none {t : Nat} {s : State} (h : s.pwr.resetAt = none) : resetDue t s = false := by
  simp [resetDue, h]

/-- A command that needs the logic running, where it runs. -/
theorem act_live {t : Nat} {s : State} {f : State → State} (hl : live s = true) (hd : resetDue t s = false) :
    act t s f = .next (settle s (f (begin t s))) := by simp [act, arrive_of_not_due hd, hl]

/-- The same command in reset or in Dark: only time passes. -/
theorem act_dead {t : Nat} {s : State} {f : State → State} (hl : live s = false) (hd : resetDue t s = false) :
    act t s f = .next (settle s (begin t s)) := by simp [act, arrive_of_not_due hd, hl]

/-- A command that takes place in every mode. -/
theorem actAlways_next {t : Nat} {s : State} {f : State → State} (hd : resetDue t s = false) :
    actAlways t s f = .next (settle s (f (begin t s))) := by simp [actAlways, arrive_of_not_due hd]

theorem act_inv {t : Nat} {s u : State} {f : State → State} (h : act t s f = .next u) : Inv u := by
  simp only [act, Host.Outcome.next.injEq] at h; subst h; exact settle_inv _ _

theorem actAlways_inv {t : Nat} {s u : State} {f : State → State} (h : actAlways t s f = .next u) : Inv u := by
  simp only [actAlways, Host.Outcome.next.injEq] at h; subst h; exact settle_inv _ _

end Sys2Proof.Machine
end

