-- ==== Sys2Proof/Laws/Table.lean ====
section
/-! SUPPORT. What the containers' operations do: a table reads back what was set and nothing else changes, and byte
memory keeps its canonical form under every write. -/

namespace Sys2Proof.Machine

/-! ### Sparse tables -/

@[simp] theorem Tab.get_nil {α : Type} (d : α) (k : Nat) : Tab.get ([] : Tab α) d k = d := rfl
@[simp] theorem Tab.find_nil {α : Type} (k : Nat) : Tab.find ([] : Tab α) k = none := rfl

@[simp] theorem Tab.get_set_same {α : Type} (t : Tab α) (d v : α) (k : Nat) : (t.set k v).get d k = v := by
  induction t with
  | nil => simp [Tab.set, Tab.get]
  | cons q r ih =>
    obtain ⟨j, w⟩ := q
    by_cases h : j = k
    · simp [Tab.set, Tab.get, h]
    · by_cases h' : k < j <;> simp [Tab.set, Tab.get, h, h', ih]

theorem Tab.get_set_other {α : Type} (t : Tab α) (d v : α) {k n : Nat} (hn : n ≠ k) :
    (t.set k v).get d n = t.get d n := by
  induction t with
  | nil => simp [Tab.set, Tab.get, Ne.symm hn]
  | cons q r ih =>
    obtain ⟨j, w⟩ := q
    by_cases h : j = k
    · subst h; simp [Tab.set, Tab.get, Ne.symm hn]
    · by_cases h' : k < j <;> simp [Tab.set, Tab.get, h, h', ih, Ne.symm hn]

@[simp] theorem Tab.find_set_same {α : Type} (t : Tab α) (v : α) (k : Nat) : (t.set k v).find k = some v := by
  induction t with
  | nil => simp [Tab.set, Tab.find]
  | cons q r ih =>
    obtain ⟨j, w⟩ := q
    by_cases h : j = k
    · simp [Tab.set, Tab.find, h]
    · by_cases h' : k < j <;> simp [Tab.set, Tab.find, h, h', ih]

theorem Tab.find_set_other {α : Type} (t : Tab α) (v : α) {k n : Nat} (hn : n ≠ k) :
    (t.set k v).find n = t.find n := by
  induction t with
  | nil => simp [Tab.set, Tab.find, Ne.symm hn]
  | cons q r ih =>
    obtain ⟨j, w⟩ := q
    by_cases h : j = k
    · subst h; simp [Tab.set, Tab.find, Ne.symm hn]
    · by_cases h' : k < j <;> simp [Tab.set, Tab.find, h, h', ih, Ne.symm hn]

@[simp] theorem Tab.get_upd_same {α : Type} (t : Tab α) (d : α) (k : Nat) (f : α → α) :
    (t.upd d k f).get d k = f (t.get d k) := Tab.get_set_same t d _ k

theorem Tab.get_upd_other {α : Type} (t : Tab α) (d : α) (f : α → α) {k n : Nat} (hn : n ≠ k) :
    (t.upd d k f).get d n = t.get d n := Tab.get_set_other t d _ hn

@[simp] theorem Tab.find_drop_same {α : Type} (t : Tab α) (k : Nat) : (t.drop k).find k = none := by
  induction t with
  | nil => rfl
  | cons q r ih =>
    obtain ⟨j, w⟩ := q
    by_cases h : j = k <;> simp [Tab.drop, Tab.find, h, ih]

@[simp] theorem Tab.get_drop_same {α : Type} (t : Tab α) (d : α) (k : Nat) : (t.drop k).get d k = d := by
  induction t with
  | nil => rfl
  | cons q r ih =>
    obtain ⟨j, w⟩ := q
    by_cases h : j = k <;> simp [Tab.drop, Tab.get, h, ih]

/-! ### Byte memory -/

theorem Memory.wfFrom_mono {m : Memory} {lo lo' : Nat} (h : lo' ≤ lo) (hm : m.wfFrom lo = true) :
    m.wfFrom lo' = true := by
  cases m with
  | nil => rfl
  | cons q r =>
    obtain ⟨j, v⟩ := q
    simp [Memory.wfFrom] at hm ⊢
    exact ⟨⟨by omega, hm.1.2⟩, hm.2⟩

theorem Memory.write_wfFrom (m : Memory) (lo a : Nat) (v : Byte) (ha : lo ≤ a) (hm : m.wfFrom lo = true) :
    (m.write a v).wfFrom lo = true := by
  induction m generalizing lo with
  | nil => by_cases hv : v = 0#8 <;> simp [Memory.write, Memory.wfFrom, hv, ha]
  | cons q r ih =>
    obtain ⟨j, w⟩ := q
    simp only [Memory.wfFrom, Bool.and_eq_true, decide_eq_true_eq] at hm
    obtain ⟨⟨hlo, hw⟩, hr⟩ := hm
    replace hw : ¬ w = 0#8 := hw
    rcases Nat.lt_trichotomy a j with h | h | h
    · by_cases hv : v = 0#8
      · simp [Memory.write, Memory.wfFrom, h, hv, hlo, hw, hr]
      · simp [Memory.write, Memory.wfFrom, hv, ha, hw, hr, h, Nat.succ_le_of_lt h]
    · subst h
      by_cases hv : v = 0#8
      · simpa [Memory.write, hv] using Memory.wfFrom_mono (by omega) hr
      · simp [Memory.write, Memory.wfFrom, hv, ha, hr]
    · have h1 : ¬ a < j := by omega
      have h2 : ¬ j = a := by omega
      simp [Memory.write, Memory.wfFrom, h1, h2, hlo, hw, ih (j + 1) (by omega) hr]

/-- A byte write keeps the canonical form. -/
theorem Memory.write_wf (m : Memory) (a : Nat) (v : Byte) (h : m.wf = true) : (m.write a v).wf = true :=
  Memory.write_wfFrom m 0 a v (Nat.zero_le a) h

/-- So does a write of many bytes. -/
theorem Memory.writeList_wf (bs : List Byte) (m : Memory) (a : Nat) (h : m.wf = true) : (m.writeList a bs).wf = true := by
  induction bs generalizing m a with
  | nil => exact h
  | cons b r ih => exact ih (m.write a b) (a + 1) (Memory.write_wf m a b h)

theorem Memory.read_below {m : Memory} {lo a : Nat} (h : a < lo) (hm : m.wfFrom lo = true) : m.read a = 0 := by
  cases m with
  | nil => rfl
  | cons q r =>
    obtain ⟨j, v⟩ := q
    simp [Memory.wfFrom] at hm
    simp [Memory.read, show a < j by omega]

theorem Memory.read_write_same_from (m : Memory) (lo a : Nat) (v : Byte) (hm : m.wfFrom lo = true) :
    (m.write a v).read a = v := by
  induction m generalizing lo with
  | nil => by_cases hv : v = 0#8 <;> simp [Memory.write, Memory.read, hv]
  | cons q r ih =>
    obtain ⟨j, w⟩ := q
    simp only [Memory.wfFrom, Bool.and_eq_true, decide_eq_true_eq] at hm
    obtain ⟨⟨hlo, hw⟩, hr⟩ := hm
    replace hw : ¬ w = 0#8 := hw
    rcases Nat.lt_trichotomy a j with h | h | h
    · by_cases hv : v = 0#8 <;> simp [Memory.write, Memory.read, h, hv]
    · subst h
      by_cases hv : v = 0#8
      · simpa [Memory.write, hv] using Memory.read_below (by omega) hr
      · simp [Memory.write, Memory.read, hv]
    · have h1 : ¬ a < j := by omega
      have h2 : ¬ j = a := by omega
      simp [Memory.write, Memory.read, h1, h2, ih (j + 1) hr]

/-- A read after a write to the same address gives the byte written. -/
theorem Memory.read_write_same (m : Memory) (a : Nat) (v : Byte) (h : m.wf = true) : (m.write a v).read a = v :=
  Memory.read_write_same_from m 0 a v h

theorem Memory.read_write_other_from (m : Memory) (lo a n : Nat) (v : Byte) (hn : n ≠ a) (hm : m.wfFrom lo = true) :
    (m.write a v).read n = m.read n := by
  induction m generalizing lo with
  | nil =>
    by_cases hv : v = 0#8
    · simp [Memory.write, hv]
    · by_cases h : n < a <;> simp [Memory.write, Memory.read, hv, h, Ne.symm hn]
  | cons q r ih =>
    obtain ⟨j, w⟩ := q
    simp only [Memory.wfFrom, Bool.and_eq_true, decide_eq_true_eq] at hm
    obtain ⟨⟨hlo, hw⟩, hr⟩ := hm
    replace hw : ¬ w = 0#8 := hw
    rcases Nat.lt_trichotomy a j with h | h | h
    · by_cases hv : v = 0#8
      · simp [Memory.write, h, hv]
      · by_cases hna : n < a
        · simp [Memory.write, Memory.read, h, hv, hna, show n < j by omega]
        · simp [Memory.write, Memory.read, h, hv, hna, Ne.symm hn]
    · subst h
      by_cases hv : v = 0#8
      · by_cases hna : n < a
        · simpa [Memory.write, Memory.read, hv, hna] using Memory.read_below (by omega) hr
        · simp [Memory.write, Memory.read, hv, hna, Ne.symm hn]
      · simp [Memory.write, Memory.read, hv, Ne.symm hn]
    · have h1 : ¬ a < j := by omega
      have h2 : ¬ j = a := by omega
      simp [Memory.write, Memory.read, h1, h2, ih (j + 1) hr]

/-- A write leaves every other address alone. -/
theorem Memory.read_write_other (m : Memory) {a n : Nat} (v : Byte) (hn : n ≠ a) (h : m.wf = true) :
    (m.write a v).read n = m.read n := Memory.read_write_other_from m 0 a n v hn h

/-- A write of many bytes leaves every address outside them alone. -/
theorem Memory.read_writeList_other (bs : List Byte) (m : Memory) (a n : Nat) (h : m.wf = true)
    (hn : n < a ∨ a + bs.length ≤ n) : (m.writeList a bs).read n = m.read n := by
  induction bs generalizing m a with
  | nil => rfl
  | cons b r ih =>
    simp only [List.length_cons] at hn
    rw [Memory.writeList, ih (m.write a b) (a + 1) (Memory.write_wf m a b h) (by omega)]
    exact Memory.read_write_other m b (by omega) h

/-- Each of the bytes written reads back. -/
theorem Memory.read_writeList_inside (bs : List Byte) (m : Memory) (a i : Nat) (h : m.wf = true) (hi : i < bs.length) :
    (m.writeList a bs).read (a + i) = bs[i] := by
  induction bs generalizing m a i with
  | nil => simp at hi
  | cons b r ih =>
    rw [Memory.writeList]
    have hw := Memory.write_wf m a b h
    cases i with
    | zero =>
      rw [Memory.read_writeList_other r _ (a + 1) (a + 0) hw (by omega)]
      exact Memory.read_write_same m a b h
    | succ i =>
      have := ih (m.write a b) (a + 1) i hw (by simpa using hi)
      simpa [Nat.add_assoc, Nat.add_comm 1 i] using this

/-! ### The pass over byte memory -/

/-- From entries at `a` or above, the pass gives what a read of each byte gives. -/
theorem Memory.sweepFrom_eq (m : Memory) (a n : Nat) (h : m.wfFrom a = true) : m.sweepFrom a n = m.readList a n := by
  induction n generalizing m a with
  | zero => rfl
  | succ n ih =>
    cases m with
    | nil => simp [Memory.sweepFrom, Memory.readList, Memory.read, ih [] (a + 1) rfl]
    | cons q r =>
      obtain ⟨j, v⟩ := q
      simp only [Memory.wfFrom, Bool.and_eq_true, decide_eq_true_eq] at h
      obtain ⟨⟨hlo, hw⟩, hr⟩ := h
      by_cases hj : j = a
      · subst hj
        have hs : ∀ (k b : Nat), j < b → Memory.readList ((j, v) :: r) b k = Memory.readList r b k := by
          intro k
          induction k with
          | zero => intros; rfl
          | succ k ik =>
            intro b hb
            simp [Memory.readList, Memory.read, show ¬ b < j by omega, show ¬ j = b by omega, ik (b + 1) (by omega)]
        simp [Memory.sweepFrom, Memory.readList, Memory.read, ih r (j + 1) hr, hs n (j + 1) (by omega)]
      · have hlt : a < j := by omega
        have hn : Memory.wfFrom (a + 1) ((j, v) :: r) = true := by
          simp only [Memory.wfFrom, Bool.and_eq_true, decide_eq_true_eq]; exact ⟨⟨hlt, hw⟩, hr⟩
        simp [Memory.sweepFrom, Memory.readList, Memory.read, hj, hlt, ih _ (a + 1) hn]

theorem Memory.from_wfFrom (m : Memory) (lo a : Nat) (h : m.wfFrom lo = true) : (m.from a).wfFrom a = true := by
  induction m generalizing lo with
  | nil => rfl
  | cons q r ih =>
    obtain ⟨j, v⟩ := q
    simp only [Memory.wfFrom, Bool.and_eq_true, decide_eq_true_eq] at h
    obtain ⟨⟨hlo, hw⟩, hr⟩ := h
    by_cases hj : j < a
    · simpa [Memory.from, hj] using ih (j + 1) hr
    · simp only [Memory.from, List.dropWhile, hj, decide_false, Memory.wfFrom, Bool.and_eq_true, decide_eq_true_eq]
      exact ⟨⟨by omega, hw⟩, hr⟩

theorem Memory.from_read (m : Memory) (a n : Nat) (h : a ≤ n) : (m.from a).read n = m.read n := by
  induction m with
  | nil => rfl
  | cons q r ih =>
    obtain ⟨j, v⟩ := q
    by_cases hj : j < a
    · have e : Memory.from ((j, v) :: r) a = Memory.from r a := by simp [Memory.from, hj]
      rw [e, ih]; simp [Memory.read, show ¬ n < j by omega, show ¬ j = n by omega]
    · simp [Memory.from, hj]

theorem Memory.from_readList (m : Memory) (a b n : Nat) (h : a ≤ b) : (m.from a).readList b n = m.readList b n := by
  induction n generalizing b with
  | zero => rfl
  | succ n ih => simp [Memory.readList, Memory.from_read m a b h, ih (b + 1) (by omega)]

/-- The pass gives what a read of each byte gives. -/
theorem Memory.sweep_eq (m : Memory) (a n : Nat) (h : m.wf = true) : m.sweep a n = m.readList a n := by
  rw [Memory.sweep, Memory.sweepFrom_eq _ a n (Memory.from_wfFrom m 0 a h), Memory.from_readList m a a n (Nat.le_refl a)]

end Sys2Proof.Machine
end

