-- ==== Sys2Proof/Laws/Ops.lean ====
section
/-! SUPPORT. One specification lemma per shared operation, which proofs cite instead of unfolding it: writes to
configuration registers, causes, resets, the door, free values and rounding. -/

namespace Sys2Proof.Machine

/-! ### The end of a command that moves no condition of the curtain -/

/-- A command that finds the invariant in force and moves no condition of Table 9.1 ends with the curtain, the safety
state and the events as its own effect left them. -/
theorem settle_quiet {s v : State} (h : CurtainSound s) (ha : curtainAllowed v = curtainAllowed s)
    (hc : v.saf.curtain = s.saf.curtain) : (settle s v).saf = v.saf ∧ (settle s v).cb.event = v.cb.event := by
  rcases settle_cases s v with ⟨_, e⟩ | ⟨h', e⟩
  · simp [e]
  · have hd : v.saf.curtain = false := by
      rw [ha] at h'; rw [hc]
      cases hs : s.saf.curtain with
      | false => rfl
      | true => simp [h hs] at h'
    exact ⟨settle_saf_of_down hd, settle_event_of_down hd⟩

@[simp] theorem curtainAllowed_begin (t : Nat) (s : State) : curtainAllowed (begin t s) = curtainAllowed s := rfl
@[simp] theorem curtainAllowed_violation (p : Path) (a k : Nat) (s : State) :
    curtainAllowed (violation p a k s) = curtainAllowed s := rfl
@[simp] theorem curtainAllowed_setEvent (i : Nat) (s : State) : curtainAllowed (setEvent i s) = curtainAllowed s := rfl
@[simp] theorem rwsOpen_begin (t : Nat) (s : State) : rwsOpen (begin t s) = rwsOpen s := rfl

/-! ### Configuration registers -/

@[simp] theorem merge_none (old new : W32) : merge 0#32 old new = old := by
  simp only [merge, BitVec.and_zero, BitVec.or_zero]
  show old &&& BitVec.allOnes 32 = old
  exact BitVec.and_allOnes

/-- While RWS fields take no write, a register of RWS fields keeps its value, and only a differing write is a
violation. -/
theorem PlainReg.write_closed {r : PlainReg} {p : Path} {a : Nat} {v : W32} {s : State} (ho : rwsOpen s = false)
    (hz : r.rw &&& ~~~r.rws = 0#32) (hg : r.gate s = true) (hk : r.ok (r.get s) = true) :
    (r.write p a v s).2 =
      if (r.get s ^^^ v) &&& r.rws &&& ~~~r.stuck s = 0 then r.put (r.get s) s
      else violation p a kindRws (r.put (r.get s) s) := by
  have hm : merge (r.open s) (r.get s) v = r.get s := by simp [PlainReg.open, ho, hz]
  by_cases hb : (r.get s ^^^ v) &&& r.rws &&& ~~~r.stuck s = 0
  · simp [PlainReg.write, hm, hg, hk, PlainReg.blocked, ho, hb]
  · have hb' : ((r.get s ^^^ v) &&& r.rws &&& ~~~r.stuck s != 0) = true := by simpa using hb
    simp only [PlainReg.write, hm, hg, hk, PlainReg.blocked, ho, hb', if_neg hb]
    rfl

/-- A write in range with nothing closed stores the register's writable bits. -/
theorem PlainReg.write_open {r : PlainReg} {p : Path} {a : Nat} {v : W32} {s : State} (hg : r.gate s = true)
    (hb : r.blocked v s = false) (hk : r.ok (merge (r.open s) (r.get s) v) = true) :
    r.write p a v s = (true, r.put (merge (r.open s) (r.get s) v) s) := by
  simp [PlainReg.write, hg, hk, hb]

/-- A value out of range discards the write. -/
theorem PlainReg.write_range {r : PlainReg} {p : Path} {a : Nat} {v : W32} {s : State} (hg : r.gate s = true)
    (hk : r.ok (merge (r.open s) (r.get s) v) = false) : r.write p a v s = (false, violation p a kindRange s) := by
  simp [PlainReg.write, hg, hk]

/-- Each of the registers of RWS fields is written at its own address, outside the rule of R264. -/
theorem writeWord_rws {q : Nat × PlainReg} (hq : q ∈ rwsRegisters) (p : Path) (v : W32) {s : State}
    (h : (rwsOpen s && s.img.active.isSome) = false) : writeWord p q.1 v s = q.2.write p q.1 v s := by
  simp only [rwsRegisters, List.mem_cons, List.not_mem_nil, or_false] at hq
  have hw : ∀ (r : PlainReg) (l : List Nat) (a : Nat), writeQsel r l p a v s = r.write p a v s := by
    intro r l a; simp [writeQsel, h]
  rcases hq with rfl | rfl | rfl | rfl | rfl | rfl | rfl | rfl | rfl | rfl | rfl
  · exact hw _ _ _
  · exact hw _ _ _
  all_goals rfl

theorem writeWord_rw {q : Nat × PlainReg} (hq : q ∈ rwRegisters) (p : Path) (v : W32) (s : State) :
    writeWord p q.1 v s = q.2.write p q.1 v s := by
  simp only [rwRegisters, List.mem_cons, List.not_mem_nil, or_false] at hq
  rcases hq with rfl | rfl | rfl | rfl | rfl | rfl | rfl | rfl | rfl | rfl <;> rfl

theorem writeWord_held {q : Nat × PlainReg} (hq : q ∈ heldRegisters) (p : Path) (v : W32) (s : State) :
    writeWord p q.1 v s = q.2.write p q.1 v s := by
  simp only [heldRegisters, List.mem_cons, List.not_mem_nil, or_false] at hq
  rcases hq with rfl | rfl <;> rfl

/-- Storing what a register holds changes nothing. -/
theorem rws_put_get {q : Nat × PlainReg} (hq : q ∈ rwsRegisters) (s : State) : q.2.put (q.2.get s) s = s := by
  simp only [rwsRegisters, List.mem_cons, List.not_mem_nil, or_false] at hq
  rcases hq with rfl | rfl | rfl | rfl | rfl | rfl | rfl | rfl | rfl | rfl | rfl <;> rfl

/-- Every configuration register is at an address that every path but the TAP reaches. -/
theorem accessOk_config {q : Nat × PlainReg} (hq : q ∈ rwRegisters ++ rwsRegisters ++ heldRegisters) {p : Path}
    (hp : p ≠ .tap) : accessOk p q.1 = true := by
  have ha : addressOk q.1 = true := by
    revert q; decide
  simp [accessOk, ha, reaches, hp]

end Sys2Proof.Machine
end

