-- ==== Sys2Proof/Laws/Calm.lean ====
section
/-! SUPPORT. The frame of the cue bookkeeping (`calm`): one lemma per shared operation that ends, counts, delivers or
reports a cue, so that a proof about a command reads every other group of State through it without unfolding. -/

namespace Sys2Proof.Machine

/-! ### What `calm` keeps -/

theorem calm_fields {u s : State} (h : calm u = calm s) :
    u.pending = s.pending ∧ u.now = s.now ∧ u.tbOffset = s.tbOffset ∧ u.port = s.port ∧ u.d2d = s.d2d ∧ u.otp = s.otp ∧
    u.gl = s.gl ∧ u.door = s.door ∧ u.pwr = s.pwr ∧ u.img = s.img ∧ u.rx = s.rx ∧ { u.bat with due := [] } = { s.bat with due := [] } ∧ u.rej = s.rej ∧
    u.fs = s.fs ∧ u.saf = s.saf ∧ u.hk = s.hk ∧ u.th = s.th ∧ u.cal = s.cal ∧ u.rh = s.rh := by
  simpa [calm] using h

theorem calm_bat {u s : State} (h : calm u = calm s) : { u.bat with due := [] } = { s.bat with due := [] } := by
  have := congrArg State.bat h; exact this
theorem calm_rx {u s : State} (h : calm u = calm s) : u.rx = s.rx := by
  have := congrArg State.rx h; exact this
theorem calm_pwr {u s : State} (h : calm u = calm s) : u.pwr = s.pwr := by
  have := congrArg State.pwr h; exact this
theorem calm_img {u s : State} (h : calm u = calm s) : u.img = s.img := by
  have := congrArg State.img h; exact this
theorem calm_otp {u s : State} (h : calm u = calm s) : u.otp = s.otp := by
  have := congrArg State.otp h; exact this
theorem calm_saf {u s : State} (h : calm u = calm s) : u.saf = s.saf := by
  have := congrArg State.saf h; exact this
theorem calm_fs {u s : State} (h : calm u = calm s) : u.fs = s.fs := by
  have := congrArg State.fs h; exact this
theorem calm_cal {u s : State} (h : calm u = calm s) : u.cal = s.cal := by
  have := congrArg State.cal h; exact this
theorem calm_hk {u s : State} (h : calm u = calm s) : u.hk = s.hk := by
  have := congrArg State.hk h; exact this
theorem calm_th {u s : State} (h : calm u = calm s) : u.th = s.th := by
  have := congrArg State.th h; exact this
theorem calm_rh {u s : State} (h : calm u = calm s) : u.rh = s.rh := by
  have := congrArg State.rh h; exact this
theorem calm_now {u s : State} (h : calm u = calm s) : u.now = s.now := by
  have := congrArg State.now h; exact this
theorem calm_d2d {u s : State} (h : calm u = calm s) : u.d2d = s.d2d := by
  have := congrArg State.d2d h; exact this

/-- A fold keeps what every step of it keeps. -/
theorem foldl_calm {α : Type} (g : State → α → State) (h : ∀ u a, calm (g u a) = calm u) (l : List α) (s : State) :
    calm (l.foldl g s) = calm s := by
  induction l generalizing s with
  | nil => rfl
  | cons a r ih => exact (ih (g s a)).trans (h s a)

/-! ### Updates of single groups -/

@[simp] theorem setEvent_calm (i : Nat) (s : State) : calm (setEvent i s) = calm s := rfl
@[simp] theorem tookFree_calm (s : State) : calm (tookFree s) = calm s := rfl
@[simp] theorem violation_calm (p : Path) (a k : Nat) (s : State) : calm (violation p a k s) = calm s := rfl
@[simp] theorem setLane_calm (l : Nat) (v : Lane) (s : State) : calm (setLane l v s) = calm s := rfl
@[simp] theorem updLane_calm (l : Nat) (f : Lane → Lane) (s : State) : calm (updLane l f s) = calm s := rfl
@[simp] theorem pumpLane_calm (l : Nat) (s : State) : calm (pumpLane l s) = calm s := rfl
@[simp] theorem setQueue_calm (q : Nat) (v : Queue) (s : State) : calm (setQueue q v s) = calm s := rfl
@[simp] theorem setHist_calm (c : Nat) (v : HistChan) (s : State) : calm (setHist c v s) = calm s := rfl
@[simp] theorem freeCells_calm (cs : List Nat) (s : State) : calm (freeCells cs s) = calm s := rfl
@[simp] theorem countLost_calm (q : Nat) (s : State) : calm (countLost q s) = calm s := rfl
@[simp] theorem releaseItems_calm (q : Nat) (g : List Item) (s : State) : calm (releaseItems q g s) = calm s := rfl
@[simp] theorem autoRelease_calm (q : Nat) (s : State) : calm (autoRelease q s) = calm s := rfl
@[simp] theorem releaseCue_calm (h : Nat) (s : State) : calm (releaseCue h s) = calm s := rfl
@[simp] theorem discardUnfired_calm (h : Nat) (s : State) : calm (discardUnfired h s) = calm s := rfl
@[simp] theorem noteWorst_calm (s : State) : calm (noteWorst s) = calm s := rfl
@[simp] theorem notePoints_calm (k : Nat) (s : State) : calm (notePoints k s) = calm s := rfl
@[simp] theorem clearCond_calm (c : Nat) (s : State) : calm (clearCond c s) = calm s := rfl

@[simp] theorem eventIf_calm (b : Bool) (i : Nat) (s : State) : calm (eventIf b i s) = calm s := by
  cases b <;> rfl

@[simp] theorem updCue_calm (h : Nat) (f : CueEntry → CueEntry) (s : State) : calm (updCue h f s) = calm s := by
  unfold updCue; split <;> rfl

/-! ### Messages -/

@[simp] theorem sendMsg_calm (l vc ty : Nat) (bs : List Byte) (s : State) : calm (sendMsg l vc ty bs s) = calm s := by
  unfold sendMsg; split <;> simp

@[simp] theorem sendHouse_calm (vc ty : Nat) (bs : List Byte) (s : State) : calm (sendHouse vc ty bs s) = calm s := by
  unfold sendHouse; split <;> simp

@[simp] theorem sendRouted_calm (l : Nat) (r : Route) (bs : List Byte) (s : State) :
    calm (sendRouted l r bs s) = calm s := by
  unfold sendRouted; split <;> simp

/-! ### Items -/

@[simp] theorem takeCell_calm (q quota own : Nat) (ready : List Nat) (s : State) :
    calm (takeCell q quota own ready s).2 = calm s := by
  unfold takeCell
  extract_lets room gone u take
  have hu : calm u = calm s := by
    simp only [u]
    clear_value gone
    cases gone <;> rfl
  split
  · split <;> exact hu
  · exact hu

@[simp] theorem takeItemCells_calm (q quota n : Nat) (ready got : List Nat) (s : State) :
    calm (takeItemCells q quota n ready got s).2 = calm s := by
  induction n generalizing ready got s with
  | zero => rfl
  | succ n ih =>
    have h := takeCell_calm q quota got.length ready s
    unfold takeItemCells
    split
    · rename_i c u e; rw [e] at h; exact (ih _ _ u).trans h
    · rename_i u e; rw [e] at h; exact h

@[simp] theorem commitFrom_calm (q k : Nat) (bs : List Byte) (got : List Nat) (s : State) :
    calm (commitFrom q k bs got s).2 = calm s := by
  unfold commitFrom
  split
  · rfl
  · rename_i r _
    extract_lets n
    have h := (takeItemCells_calm q r.quota (min n r.maxItem - got.length) [] (got.take n) (freeCells (got.drop n) s)).trans
      (freeCells_calm (got.drop n) s)
    split
    · rename_i u e; rw [e] at h; simpa using h
    · rename_i cells u e
      rw [e] at h
      extract_lets v it w src x
      have hx : calm x = calm s := h
      split
      · simpa using h
      · split
        · simpa using hx
        · split
          · simpa using hx
          · exact hx

@[simp] theorem commitItem_calm (q k : Nat) (bs : List Byte) (s : State) : calm (commitItem q k bs s).2 = calm s :=
  commitFrom_calm q k bs [] s

@[simp] theorem commitDevice_calm (q : Option Nat) (k : Nat) (bs : List Byte) (s : State) :
    calm (commitDevice q k bs s) = calm s := by
  unfold commitDevice; split
  · simp
  · rfl

/-! ### Cues and promise conditions -/

@[simp] theorem completeCue_calm (h : Nat) (s : State) : calm (completeCue h s) = calm s := by
  unfold completeCue
  split
  · rfl
  · split
    · simp
    · simp only [releaseCue_calm, updCue_calm]
      split <;> simp

@[simp] theorem keepIssued_calm (h : Nat) (s : State) : calm (keepIssued h s) = calm s := rfl

@[simp] theorem abortGuest_calm (l k : Nat) (s : State) : calm (abortGuest l k s) = calm s := by
  unfold abortGuest; split <;> simp

@[simp] theorem abortGuests_calm (gs : List GuestPart) (s : State) : calm (abortGuests gs s) = calm s :=
  foldl_calm _ (fun u g => by split <;> simp) gs s

@[simp] theorem endCue_calm (h a b c : Nat) (s : State) : calm (endCue h a b c s) = calm s := by
  unfold endCue
  split
  · rfl
  · split
    · split <;> simp
    · simp only
      split <;> simp

@[simp] theorem endCues_calm (p : CueEntry → Bool) (a b c : Nat) (s : State) : calm (endCues p a b c s) = calm s :=
  foldl_calm _ (fun u h => by split <;> (try split) <;> simp) _ s

@[simp] theorem endAllCues_calm (a b c : Nat) (s : State) : calm (endAllCues a b c s) = calm s := endCues_calm _ _ _ _ s
@[simp] theorem cutCues_calm (f : Nat) (s : State) : calm (cutCues f s) = calm s := endCues_calm _ _ _ _ s
@[simp] theorem failBatten_calm (b : Nat) (s : State) : calm (failBatten b s) = calm s := endCues_calm _ _ _ _ s

@[simp] theorem lateItem_calm (code : Nat) (it : Item) (s : State) : calm (lateItem code it s) = calm s := by
  unfold lateItem
  split
  · rfl
  · simp only
    split
    · rfl
    · exact (updCue_calm _ _ _).trans rfl

@[simp] theorem noteQueued_calm (k : Nat) (s : State) : calm (noteQueued k s) = calm s :=
  foldl_calm _ (fun u _ => foldl_calm _ (fun v it => lateItem_calm _ it v) _ u) _ s

@[simp] theorem setCond_calm (c u : Nat) (b : Bool) (s : State) : calm (setCond c u b s) = calm s := by
  unfold setCond
  simp only
  split
  · split
    · rfl
    · simp only [noteWorst_calm, noteQueued_calm, notePoints_calm, setEvent_calm]
      rfl
  · split <;> rfl

@[simp] theorem refreshConds_calm (s : State) : calm (refreshConds s) = calm s := by
  unfold refreshConds
  exact (foldl_calm _ (fun u r => by simp) _ _).trans (by simp)

/-! ### Lanes -/

@[simp] theorem abandonRead_calm (q : Nat) (s : State) : calm (abandonRead q s) = calm s := by
  unfold abandonRead; simp only; split
  · rfl
  · split <;> rfl

@[simp] theorem abandonGroup_calm (l : Nat) (s : State) : calm (abandonGroup l s) = calm s := by
  unfold abandonGroup; split
  · rfl
  · simp only [abandonRead_calm]; rfl

@[simp] theorem enterLane_calm (l : Nat) (x : LaneState) (s : State) : calm (enterLane l x s) = calm s := by
  unfold enterLane
  simp only [eventIf_calm]
  split <;> simp

@[simp] theorem haltLane_calm (l r : Nat) (s : State) : calm (haltLane l r s) = calm s := by simp [haltLane]
@[simp] theorem laneOff_calm (l : Nat) (s : State) : calm (laneOff l s) = calm s := by simp [laneOff]

@[simp] theorem addressChild_calm (k : Nat) (s : State) : calm (addressChild k s) = calm s := by
  unfold addressChild; simp only; split
  · split
    · simp
    · split <;> simp
  · rfl

@[simp] theorem rootTopology_calm (s : State) : calm (rootTopology s) = calm s := by
  unfold rootTopology
  simp only [setEvent_calm]
  split
  · rename_i l _
    exact sendMsg_calm l 0 0x0A _ _
  · rfl

@[simp] theorem reportTree_calm (s : State) : calm (reportTree s) = calm s := by
  unfold reportTree; split
  · simp
  · split <;> simp

@[simp] theorem addressTree_calm (n : Nat) (s : State) : calm (addressTree n s) = calm s := by
  induction n generalizing s with
  | zero => simp [addressTree]
  | succ n ih => unfold addressTree; simp only; split <;> simp [ih]

@[simp] theorem topologyChanged_calm (s : State) : calm (topologyChanged s) = calm s := by
  unfold topologyChanged
  extract_lets root ver src u
  have hu : calm u = calm s := rfl
  simpa using hu

@[simp] theorem houseChanged_calm (s : State) : calm (houseChanged s) = calm s := by
  unfold houseChanged
  extract_lets root ver src u v
  have hu : calm u = calm s := rfl
  have hv : calm v = calm s := by
    simp only [v]
    split
    · split
      · exact hu
      · simpa using hu
    · split
      · simpa using hu
      · exact hu
  split
  · exact hv
  · simpa using hv

@[simp] theorem linkMoved_calm (b s : State) : calm (linkMoved b s) = calm s := by
  unfold linkMoved
  simp only
  split
  · simp
  · split <;> simp

end Sys2Proof.Machine
end

