-- ==== Sys2Proof/WellFormed.lean ====
section
/-! DEFINITION. Which commands are well formed: every operand lies in the range that the manual's field for it has. The
meanings do not rest on it; an operand outside its range is taken modulo the field or names nothing. -/

namespace Sys2Proof

/-- The fields of a discarded segment lie in their ranges. -/
def BadIn.wf (x : BadIn) : Bool :=
  match x with
  | .block => true
  | .frame => true
  | .segment x => decide (x.vc < 8) && decide (x.src < 1024) && decide (x.inner < 8) && decide (x.seg < 4) && decide (x.len < 1024)

/-- Every operand lies in the range of its field. -/
def Instr.wf (i : Instr) : Bool :=
  match i with
  | .registerWrite _ _ addr _ => decide (addr < 2 ^ 32)
  | .readClear _ _ addr => decide (addr < 2 ^ 32)
  | .wideReadCapture _ _ addr => decide (addr < 2 ^ 32)
  | .powerOnReset _ => true
  | .supplyReset _ _ _ => true
  | .resetNAssert _ _ => true
  | .resetRelease _ strap _ _ => decide (strap < 4)
  | .dressRehearsalEnd _ => true
  | .resetHeldTimeout _ _ => true
  | .softwareReset _ _ _ => true
  | .laneReset _ lane zlVer _ => decide (lane < 4) && decide (zlVer < 256)
  | .referenceWindow _ _ _ => true
  | .referenceLoss _ _ => true
  | .clockCheck _ _ _ => true
  | .modeReqShow _ _ => true
  | .modeReqStandby _ _ => true
  | .modeReqDark _ _ => true
  | .enterShow _ => true
  | .wakeHousePort _ _ => true
  | .wakeSafetyInput _ _ => true
  | .wakeTimer _ => true
  | .holdExpiry _ => true
  | .emitterCloseStart _ _ _ _ _ _ => true
  | .emitterReadbackSample _ _ _ => true
  | .switchFault _ => true
  | .doorChallenge _ _ scope => decide (scope < 8)
  | .doorUnlockKey _ _ _ => true
  | .doorUnlockPw _ _ _ => true
  | .doorClose _ _ => true
  | .doorProgSlot _ _ slot _ => decide (slot < 4)
  | .doorRevoke _ _ slot _ => decide (slot < 4)
  | .doorRetire _ _ _ => true
  | .challengeExpiry _ => true
  | .doorWaitExpiry _ => true
  | .loadWindowWrite _ _ offset _ => decide (offset < 2 ^ 20)
  | .imageGo _ _ => true
  | .imageAbort _ _ => true
  | .patchCancel _ _ => true
  | .imageChecksEnd _ => true
  | .bootFetchDone _ copy _ _ => decide (1 ≤ copy ∧ copy ≤ 2)
  | .laneImage _ lane offset bytes => decide (lane < 4) && decide (offset < 2 ^ 20) && decide (1 ≤ bytes.length ∧ bytes.length ≤ 1016)
  | .calRunTap _ _ => true
  | .calRunConv _ _ => true
  | .calRunSkew _ _ => true
  | .calRunBd _ _ => true
  | .codeDensityRunEnd _ _ => true
  | .breakdownSearchEnd _ _ => true
  | .calEntryComplete _ entry => decide (entry < 1616)
  | .edelayRemeasure _ batten => decide (batten < 64)
  | .tapRecalTrigger _ => true
  | .biasTargetUpdate _ => true
  | .eyeMonitor _ lane _ _ => decide (lane < 4)
  | .sliceStart _ kind _ => decide (kind < 5)
  | .sliceEnd _ kind _ _ _ => decide (kind < 5)
  | .slicePreempt _ kind => decide (kind < 5)
  | .sliceStarved _ kind _ => decide (kind < 5)
  | .slotBoundary _ => true
  | .shotStart _ batten => decide (batten < 81)
  | .listenOpen _ channel _ => decide (channel < 1552)
  | .spadEvent _ channel spad sub => decide (channel < 1552) && decide (spad < 16) && decide (sub < 1024)
  | .ringHoldEnd _ channel => decide (channel < 1552)
  | .blankIntervalEnd _ channel => decide (channel < 1552)
  | .shotTimeout _ channel => decide (channel < 1552)
  | .tpllUnlock _ => true
  | .biasOkFall _ => true
  | .rxCntSelWrite _ _ _ => true
  | .phLockRise _ _ => true
  | .phLockFall _ _ => true
  | .pulseSenseReady _ batten peak _ => decide (batten < 64) && decide (peak < 256)
  | .offTimeSample _ _ => true
  | .govBucketAdvance _ window => decide (window < 3)
  | .driveLevelUpdate _ group => decide (group < 8)
  | .batCsClr _ _ => true
  | .batSwClr _ _ => true
  | .batGovClr _ _ => true
  | .shotResultAccumulate _ channel => decide (channel < 1552)
  | .filterStart _ => true
  | .filterDone _ engine => decide (engine < 8)
  | .feStopSet _ _ engine => decide (engine < 8)
  | .feStopClear _ _ engine => decide (engine < 8)
  | .filterEngineStopped _ engine => decide (engine < 8)
  | .ftaGateClose _ => true
  | .ftaFitDone _ => true
  | .cueSubmit _ _ => true
  | .cueSubmitTemplate _ _ idx => decide (idx < 1024)
  | .admissionDecision _ => true
  | .laneCue _ lane _ => decide (lane < 4)
  | .laneCalendar _ lane _ => decide (lane < 4)
  | .unpackDone _ => true
  | .cueAbort _ _ handle => decide (handle < 65536)
  | .laneAbort _ lane handle => decide (lane < 4) && decide (handle < 65536)
  | .calendarAdvance _ => true
  | .triggerSample _ => true
  | .triggerTimeout _ unit => decide (unit < 64)
  | .triggerSoftware _ _ unit => decide (unit < 64)
  | .capacityMeasure _ resource _ => decide (resource < 31)
  | .promiseConditionClear _ code => decide (1 ≤ code ∧ code ≤ 5)
  | .calendarSelect _ _ group => decide (group < 4096)
  | .cueSelect _ _ index => decide (index < 4096)
  | .loopPeriod _ pos _ => decide (pos < 65536)
  | .sceneProgramStart _ => true
  | .fsHold _ _ => true
  | .fsRelease _ _ => true
  | .fsRunSet _ _ => true
  | .fsRunClear _ _ => true
  | .fsFeClr _ _ => true
  | .safetyBoundary _ _ _ => true
  | .permitMessage _ period _ => decide (period < 2 ^ 32)
  | .permitTimeout _ => true
  | .curtainRaise _ _ _ _ _ => true
  | .testPulse _ output _ _ _ => decide (output < 2)
  | .safeOutputOvercurrent _ output _ _ => decide (output < 2)
  | .safetyInputSample _ levels => decide (levels.length = 8)
  | .sinDiscrepancy _ input => decide (input < 4)
  | .sirelCommand _ lane _ => decide (lane < 4)
  | .sirelPrepare _ lane _ => decide (lane < 4)
  | .sirelConfirm _ lane _ _ => decide (lane < 4)
  | .sirelTimeout _ => true
  | .commissionWindowExpiry _ => true
  | .d2dMessage _ _ _ _ seq => decide (seq < 65536)
  | .d2dLinkLost _ _ => true
  | .d2dLinkTimeout _ _ => true
  | .d2dLinkUp _ _ => true
  | .wqFlush _ _ queue => decide (queue < 4096)
  | .wqMark _ _ queue => decide (queue < 4096)
  | .wqClearMark _ _ queue => decide (queue < 4096)
  | .wqRewind _ _ queue => decide (queue < 4096)
  | .wqRelease _ _ queue n => decide (queue < 4096) && decide (n < 2 ^ 32)
  | .wqRead _ _ queue => decide (queue < 4096)
  | .wqDone _ _ queue => decide (queue < 4096)
  | .wqResync _ _ => true
  | .pinnedCommandResume _ queue => decide (queue < 4096)
  | .packerGroupStart _ lane _ _ => decide (lane < 4)
  | .readComplete _ lane => decide (lane < 4)
  | .laneLeaveOff _ lane => decide (lane < 4)
  | .laneDetectProbe _ lane _ => decide (lane < 4)
  | .laneBaseLock _ lane _ _ index => decide (lane < 4) && decide (index < 2)
  | .laneBaseTimeout _ lane => decide (lane < 4)
  | .laneCaps _ lane _ _ => decide (lane < 4)
  | .laneExchangeTimeout _ lane => decide (lane < 4)
  | .laneRateAccept _ lock => decide (lock.lane < 4)
  | .laneRateTimeout _ lane => decide (lane < 4)
  | .laneDelayDone _ lane => decide (lane < 4)
  | .laneRetrain _ _ lane => decide (lane < 4)
  | .laneRetry _ _ lane => decide (lane < 4)
  | .laneDisable _ _ lane => decide (lane < 4)
  | .laneSignalLoss _ lane _ => decide (lane < 4)
  | .laneTerminationChange _ lane => decide (lane < 4)
  | .blockLockLoss _ lane _ => decide (lane < 4)
  | .fecUncLimit _ lane _ => decide (lane < 4)
  | .retrainLock _ lock => decide (lock.lane < 4)
  | .retrainTimeout _ lane => decide (lane < 4)
  | .laneBadFrame _ lane what => decide (lane < 4) && decide (what.wf = true)
  | .laneCredit _ lane vc count afseq _ _ => decide (lane < 4) && decide (vc < 8) && decide (count < 256) && decide (afseq < 256)
  | .replayTimeout _ lane => decide (lane < 4)
  | .laneRead _ lane addr words => decide (lane < 4) && decide (addr < 2 ^ 32) && decide (1 ≤ words ∧ words ≤ 64)
  | .laneWrite _ lane addr words => decide (lane < 4) && decide (addr < 2 ^ 32) && decide (1 ≤ words.length ∧ words.length ≤ 64)
  | .laneQcmd _ lane _ _ => decide (lane < 4)
  | .laneTopoUp _ lane size => decide (lane < 4) && decide (size < 65536)
  | .laneAddr _ lane addr epoch hostVer depth => decide (lane < 4) && decide (addr < 1024) && decide (epoch < 256) && decide (hostVer < 256) && decide (depth < 32)
  | .laneRouted _ lane route _ => decide (lane < 4) && decide (route.dest < 1024 ∧ route.innerVc < 8 ∧ route.innerType < 32)
  | .laneChildFrame _ lane vc type _ => decide (lane < 4) && decide (vc < 8) && decide (type < 32)
  | .laneDecision _ lane _ _ _ => decide (lane < 4)
  | .laneCueEnd _ lane _ => decide (lane < 4)
  | .timeSync _ lane _ => decide (lane < 4)
  | .timeDreq _ lane _ => decide (lane < 4)
  | .timeDrsp _ lane _ => decide (lane < 4)
  | .syncSend _ => true
  | .cueBusWord _ window code _ pos => decide (window < 32) && decide (code < 256) && decide (pos < 4)
  | .hkConversion _ conv input code _ _ => decide (conv < 2) && decide (input < 32) && decide (code < 16384)
  | .hkUrgentRequest _ _ input => decide (input < 32)
  | .auxSample _ _ _ _ _ => true
  | .auxMeasurementEnd _ => true
  | .loopUpdate _ code => decide (code < 16384)
  | .loopFaultClear _ _ => true
  | .thermalStep _ => true
  | .thermalShutdownClear _ _ => true
  | .supplyWarningEnter _ _ _ => true
  | .supplyWarningLeave _ _ _ => true
  | .droopFall _ _ => true
  | .droopRaise _ => true
  | .hpRead _ _ addr _ => decide (addr < 2 ^ 32)
  | .hpWrite _ _ addr _ data _ => decide (addr < 2 ^ 32) && decide (1 ≤ data.length ∧ data.length ≤ 64)
  | .hpRepeat _ _ addr _ => decide (addr < 2 ^ 32)
  | .hpInvalidOp _ _ addr _ => decide (addr < 2 ^ 32)
  | .hpCsRise _ => true
  | .safeOutputReadbackSample _ output _ => decide (output < 2)
  | .ghostLightSinChange _ channel _ => decide (channel < 8)
  | .tickLockRise _ => true
  | .biasOkRise _ => true

/-- The device time at which the command comes. -/
def Instr.time (i : Instr) : Nat :=
  match i with
  | .registerWrite t _ _ _ => t
  | .readClear t _ _ => t
  | .wideReadCapture t _ _ => t
  | .powerOnReset t => t
  | .supplyReset t _ _ => t
  | .resetNAssert t _ => t
  | .resetRelease t _ _ _ => t
  | .dressRehearsalEnd t => t
  | .resetHeldTimeout t _ => t
  | .softwareReset t _ _ => t
  | .laneReset t _ _ _ => t
  | .referenceWindow t _ _ => t
  | .referenceLoss t _ => t
  | .clockCheck t _ _ => t
  | .modeReqShow t _ => t
  | .modeReqStandby t _ => t
  | .modeReqDark t _ => t
  | .enterShow t => t
  | .wakeHousePort t _ => t
  | .wakeSafetyInput t _ => t
  | .wakeTimer t => t
  | .holdExpiry t => t
  | .emitterCloseStart t _ _ _ _ _ => t
  | .emitterReadbackSample t _ _ => t
  | .switchFault t => t
  | .doorChallenge t _ _ => t
  | .doorUnlockKey t _ _ => t
  | .doorUnlockPw t _ _ => t
  | .doorClose t _ => t
  | .doorProgSlot t _ _ _ => t
  | .doorRevoke t _ _ _ => t
  | .doorRetire t _ _ => t
  | .challengeExpiry t => t
  | .doorWaitExpiry t => t
  | .loadWindowWrite t _ _ _ => t
  | .imageGo t _ => t
  | .imageAbort t _ => t
  | .patchCancel t _ => t
  | .imageChecksEnd t => t
  | .bootFetchDone t _ _ _ => t
  | .laneImage t _ _ _ => t
  | .calRunTap t _ => t
  | .calRunConv t _ => t
  | .calRunSkew t _ => t
  | .calRunBd t _ => t
  | .codeDensityRunEnd t _ => t
  | .breakdownSearchEnd t _ => t
  | .calEntryComplete t _ => t
  | .edelayRemeasure t _ => t
  | .tapRecalTrigger t => t
  | .biasTargetUpdate t => t
  | .eyeMonitor t _ _ _ => t
  | .sliceStart t _ _ => t
  | .sliceEnd t _ _ _ _ => t
  | .slicePreempt t _ => t
  | .sliceStarved t _ _ => t
  | .slotBoundary t => t
  | .shotStart t _ => t
  | .listenOpen t _ _ => t
  | .spadEvent t _ _ _ => t
  | .ringHoldEnd t _ => t
  | .blankIntervalEnd t _ => t
  | .shotTimeout t _ => t
  | .tpllUnlock loss => loss.t
  | .biasOkFall t => t
  | .rxCntSelWrite t _ _ => t
  | .phLockRise t _ => t
  | .phLockFall t _ => t
  | .pulseSenseReady t _ _ _ => t
  | .offTimeSample t _ => t
  | .govBucketAdvance t _ => t
  | .driveLevelUpdate t _ => t
  | .batCsClr t _ => t
  | .batSwClr t _ => t
  | .batGovClr t _ => t
  | .shotResultAccumulate t _ => t
  | .filterStart t => t
  | .filterDone t _ => t
  | .feStopSet t _ _ => t
  | .feStopClear t _ _ => t
  | .filterEngineStopped t _ => t
  | .ftaGateClose t => t
  | .ftaFitDone t => t
  | .cueSubmit t _ => t
  | .cueSubmitTemplate t _ _ => t
  | .admissionDecision t => t
  | .laneCue t _ _ => t
  | .laneCalendar t _ _ => t
  | .unpackDone t => t
  | .cueAbort t _ _ => t
  | .laneAbort t _ _ => t
  | .calendarAdvance t => t
  | .triggerSample t => t
  | .triggerTimeout t _ => t
  | .triggerSoftware t _ _ => t
  | .capacityMeasure t _ _ => t
  | .promiseConditionClear t _ => t
  | .calendarSelect t _ _ => t
  | .cueSelect t _ _ => t
  | .loopPeriod t _ _ => t
  | .sceneProgramStart t => t
  | .fsHold t _ => t
  | .fsRelease t _ => t
  | .fsRunSet t _ => t
  | .fsRunClear t _ => t
  | .fsFeClr t _ => t
  | .safetyBoundary t _ _ => t
  | .permitMessage t _ _ => t
  | .permitTimeout t => t
  | .curtainRaise t _ _ _ _ => t
  | .testPulse t _ _ _ _ => t
  | .safeOutputOvercurrent t _ _ _ => t
  | .safetyInputSample t _ => t
  | .sinDiscrepancy t _ => t
  | .sirelCommand t _ _ => t
  | .sirelPrepare t _ _ => t
  | .sirelConfirm t _ _ _ => t
  | .sirelTimeout t => t
  | .commissionWindowExpiry t => t
  | .d2dMessage t _ _ _ _ => t
  | .d2dLinkLost t _ => t
  | .d2dLinkTimeout t _ => t
  | .d2dLinkUp t _ => t
  | .wqFlush t _ _ => t
  | .wqMark t _ _ => t
  | .wqClearMark t _ _ => t
  | .wqRewind t _ _ => t
  | .wqRelease t _ _ _ => t
  | .wqRead t _ _ => t
  | .wqDone t _ _ => t
  | .wqResync t _ => t
  | .pinnedCommandResume t _ => t
  | .packerGroupStart t _ _ _ => t
  | .readComplete t _ => t
  | .laneLeaveOff t _ => t
  | .laneDetectProbe t _ _ => t
  | .laneBaseLock t _ _ _ _ => t
  | .laneBaseTimeout t _ => t
  | .laneCaps t _ _ _ => t
  | .laneExchangeTimeout t _ => t
  | .laneRateAccept t _ => t
  | .laneRateTimeout t _ => t
  | .laneDelayDone t _ => t
  | .laneRetrain t _ _ => t
  | .laneRetry t _ _ => t
  | .laneDisable t _ _ => t
  | .laneSignalLoss t _ _ => t
  | .laneTerminationChange t _ => t
  | .blockLockLoss t _ _ => t
  | .fecUncLimit t _ _ => t
  | .retrainLock t _ => t
  | .retrainTimeout t _ => t
  | .laneBadFrame t _ _ => t
  | .laneCredit t _ _ _ _ _ _ => t
  | .replayTimeout t _ => t
  | .laneRead t _ _ _ => t
  | .laneWrite t _ _ _ => t
  | .laneQcmd t _ _ _ => t
  | .laneTopoUp t _ _ => t
  | .laneAddr t _ _ _ _ _ => t
  | .laneRouted t _ _ _ => t
  | .laneChildFrame t _ _ _ _ => t
  | .laneDecision t _ _ _ _ => t
  | .laneCueEnd t _ _ => t
  | .timeSync t _ _ => t
  | .timeDreq t _ _ => t
  | .timeDrsp t _ _ => t
  | .syncSend t => t
  | .cueBusWord t _ _ _ _ => t
  | .hkConversion t _ _ _ _ _ => t
  | .hkUrgentRequest t _ _ => t
  | .auxSample t _ _ _ _ => t
  | .auxMeasurementEnd t => t
  | .loopUpdate t _ => t
  | .loopFaultClear t _ => t
  | .thermalStep t => t
  | .thermalShutdownClear t _ => t
  | .supplyWarningEnter t _ _ => t
  | .supplyWarningLeave t _ _ => t
  | .droopFall t _ => t
  | .droopRaise level => level.t
  | .hpRead t _ _ _ => t
  | .hpWrite t _ _ _ _ _ => t
  | .hpRepeat t _ _ _ => t
  | .hpInvalidOp t _ _ _ => t
  | .hpCsRise t => t
  | .safeOutputReadbackSample t _ _ => t
  | .ghostLightSinChange t _ _ => t
  | .tickLockRise t => t
  | .biasOkRise t => t

/-- The lane that a command comes through or acts on: 0 and 1 house, 2 and 3 stage. -/
def Instr.laneOf (i : Instr) : Option Nat :=
  match i with
  | .registerWrite _ _ _ _ => none
  | .readClear _ _ _ => none
  | .wideReadCapture _ _ _ => none
  | .powerOnReset _ => none
  | .supplyReset _ _ _ => none
  | .resetNAssert _ _ => none
  | .resetRelease _ _ _ _ => none
  | .dressRehearsalEnd _ => none
  | .resetHeldTimeout _ _ => none
  | .softwareReset _ _ _ => none
  | .laneReset _ lane _ _ => some lane
  | .referenceWindow _ _ _ => none
  | .referenceLoss _ _ => none
  | .clockCheck _ _ _ => none
  | .modeReqShow _ _ => none
  | .modeReqStandby _ _ => none
  | .modeReqDark _ _ => none
  | .enterShow _ => none
  | .wakeHousePort _ _ => none
  | .wakeSafetyInput _ _ => none
  | .wakeTimer _ => none
  | .holdExpiry _ => none
  | .emitterCloseStart _ _ _ _ _ _ => none
  | .emitterReadbackSample _ _ _ => none
  | .switchFault _ => none
  | .doorChallenge _ _ _ => none
  | .doorUnlockKey _ _ _ => none
  | .doorUnlockPw _ _ _ => none
  | .doorClose _ _ => none
  | .doorProgSlot _ _ _ _ => none
  | .doorRevoke _ _ _ _ => none
  | .doorRetire _ _ _ => none
  | .challengeExpiry _ => none
  | .doorWaitExpiry _ => none
  | .loadWindowWrite _ _ _ _ => none
  | .imageGo _ _ => none
  | .imageAbort _ _ => none
  | .patchCancel _ _ => none
  | .imageChecksEnd _ => none
  | .bootFetchDone _ _ _ _ => none
  | .laneImage _ lane _ _ => some lane
  | .calRunTap _ _ => none
  | .calRunConv _ _ => none
  | .calRunSkew _ _ => none
  | .calRunBd _ _ => none
  | .codeDensityRunEnd _ _ => none
  | .breakdownSearchEnd _ _ => none
  | .calEntryComplete _ _ => none
  | .edelayRemeasure _ _ => none
  | .tapRecalTrigger _ => none
  | .biasTargetUpdate _ => none
  | .eyeMonitor _ lane _ _ => some lane
  | .sliceStart _ _ _ => none
  | .sliceEnd _ _ _ _ _ => none
  | .slicePreempt _ _ => none
  | .sliceStarved _ _ _ => none
  | .slotBoundary _ => none
  | .shotStart _ _ => none
  | .listenOpen _ _ _ => none
  | .spadEvent _ _ _ _ => none
  | .ringHoldEnd _ _ => none
  | .blankIntervalEnd _ _ => none
  | .shotTimeout _ _ => none
  | .tpllUnlock _ => none
  | .biasOkFall _ => none
  | .rxCntSelWrite _ _ _ => none
  | .phLockRise _ _ => none
  | .phLockFall _ _ => none
  | .pulseSenseReady _ _ _ _ => none
  | .offTimeSample _ _ => none
  | .govBucketAdvance _ _ => none
  | .driveLevelUpdate _ _ => none
  | .batCsClr _ _ => none
  | .batSwClr _ _ => none
  | .batGovClr _ _ => none
  | .shotResultAccumulate _ _ => none
  | .filterStart _ => none
  | .filterDone _ _ => none
  | .feStopSet _ _ _ => none
  | .feStopClear _ _ _ => none
  | .filterEngineStopped _ _ => none
  | .ftaGateClose _ => none
  | .ftaFitDone _ => none
  | .cueSubmit _ _ => none
  | .cueSubmitTemplate _ _ _ => none
  | .admissionDecision _ => none
  | .laneCue _ lane _ => some lane
  | .laneCalendar _ lane _ => some lane
  | .unpackDone _ => none
  | .cueAbort _ _ _ => none
  | .laneAbort _ lane _ => some lane
  | .calendarAdvance _ => none
  | .triggerSample _ => none
  | .triggerTimeout _ _ => none
  | .triggerSoftware _ _ _ => none
  | .capacityMeasure _ _ _ => none
  | .promiseConditionClear _ _ => none
  | .calendarSelect _ _ _ => none
  | .cueSelect _ _ _ => none
  | .loopPeriod _ _ _ => none
  | .sceneProgramStart _ => none
  | .fsHold _ _ => none
  | .fsRelease _ _ => none
  | .fsRunSet _ _ => none
  | .fsRunClear _ _ => none
  | .fsFeClr _ _ => none
  | .safetyBoundary _ _ _ => none
  | .permitMessage _ _ _ => none
  | .permitTimeout _ => none
  | .curtainRaise _ _ _ _ _ => none
  | .testPulse _ _ _ _ _ => none
  | .safeOutputOvercurrent _ _ _ _ => none
  | .safetyInputSample _ _ => none
  | .sinDiscrepancy _ _ => none
  | .sirelCommand _ lane _ => some lane
  | .sirelPrepare _ lane _ => some lane
  | .sirelConfirm _ lane _ _ => some lane
  | .sirelTimeout _ => none
  | .commissionWindowExpiry _ => none
  | .d2dMessage _ _ _ _ _ => none
  | .d2dLinkLost _ _ => none
  | .d2dLinkTimeout _ _ => none
  | .d2dLinkUp _ _ => none
  | .wqFlush _ _ _ => none
  | .wqMark _ _ _ => none
  | .wqClearMark _ _ _ => none
  | .wqRewind _ _ _ => none
  | .wqRelease _ _ _ _ => none
  | .wqRead _ _ _ => none
  | .wqDone _ _ _ => none
  | .wqResync _ _ => none
  | .pinnedCommandResume _ _ => none
  | .packerGroupStart _ lane _ _ => some lane
  | .readComplete _ lane => some lane
  | .laneLeaveOff _ lane => some lane
  | .laneDetectProbe _ lane _ => some lane
  | .laneBaseLock _ lane _ _ _ => some lane
  | .laneBaseTimeout _ lane => some lane
  | .laneCaps _ lane _ _ => some lane
  | .laneExchangeTimeout _ lane => some lane
  | .laneRateAccept _ lock => some lock.lane
  | .laneRateTimeout _ lane => some lane
  | .laneDelayDone _ lane => some lane
  | .laneRetrain _ _ lane => some lane
  | .laneRetry _ _ lane => some lane
  | .laneDisable _ _ lane => some lane
  | .laneSignalLoss _ lane _ => some lane
  | .laneTerminationChange _ lane => some lane
  | .blockLockLoss _ lane _ => some lane
  | .fecUncLimit _ lane _ => some lane
  | .retrainLock _ lock => some lock.lane
  | .retrainTimeout _ lane => some lane
  | .laneBadFrame _ lane _ => some lane
  | .laneCredit _ lane _ _ _ _ _ => some lane
  | .replayTimeout _ lane => some lane
  | .laneRead _ lane _ _ => some lane
  | .laneWrite _ lane _ _ => some lane
  | .laneQcmd _ lane _ _ => some lane
  | .laneTopoUp _ lane _ => some lane
  | .laneAddr _ lane _ _ _ _ => some lane
  | .laneRouted _ lane _ _ => some lane
  | .laneChildFrame _ lane _ _ _ => some lane
  | .laneDecision _ lane _ _ _ => some lane
  | .laneCueEnd _ lane _ => some lane
  | .timeSync _ lane _ => some lane
  | .timeDreq _ lane _ => some lane
  | .timeDrsp _ lane _ => some lane
  | .syncSend _ => none
  | .cueBusWord _ _ _ _ _ => none
  | .hkConversion _ _ _ _ _ _ => none
  | .hkUrgentRequest _ _ _ => none
  | .auxSample _ _ _ _ _ => none
  | .auxMeasurementEnd _ => none
  | .loopUpdate _ _ => none
  | .loopFaultClear _ _ => none
  | .thermalStep _ => none
  | .thermalShutdownClear _ _ => none
  | .supplyWarningEnter _ _ _ => none
  | .supplyWarningLeave _ _ _ => none
  | .droopFall _ _ => none
  | .droopRaise _ => none
  | .hpRead _ _ _ _ => none
  | .hpWrite _ _ _ _ _ _ => none
  | .hpRepeat _ _ _ _ => none
  | .hpInvalidOp _ _ _ _ => none
  | .hpCsRise _ => none
  | .safeOutputReadbackSample _ _ _ => none
  | .ghostLightSinChange _ _ _ => none
  | .tickLockRise _ => none
  | .biasOkRise _ => none

/-- The channel that a command acts on. -/
def Instr.channelOf (i : Instr) : Option Nat :=
  match i with
  | .registerWrite _ _ _ _ => none
  | .readClear _ _ _ => none
  | .wideReadCapture _ _ _ => none
  | .powerOnReset _ => none
  | .supplyReset _ _ _ => none
  | .resetNAssert _ _ => none
  | .resetRelease _ _ _ _ => none
  | .dressRehearsalEnd _ => none
  | .resetHeldTimeout _ _ => none
  | .softwareReset _ _ _ => none
  | .laneReset _ _ _ _ => none
  | .referenceWindow _ _ _ => none
  | .referenceLoss _ _ => none
  | .clockCheck _ _ _ => none
  | .modeReqShow _ _ => none
  | .modeReqStandby _ _ => none
  | .modeReqDark _ _ => none
  | .enterShow _ => none
  | .wakeHousePort _ _ => none
  | .wakeSafetyInput _ _ => none
  | .wakeTimer _ => none
  | .holdExpiry _ => none
  | .emitterCloseStart _ _ _ _ _ _ => none
  | .emitterReadbackSample _ _ _ => none
  | .switchFault _ => none
  | .doorChallenge _ _ _ => none
  | .doorUnlockKey _ _ _ => none
  | .doorUnlockPw _ _ _ => none
  | .doorClose _ _ => none
  | .doorProgSlot _ _ _ _ => none
  | .doorRevoke _ _ _ _ => none
  | .doorRetire _ _ _ => none
  | .challengeExpiry _ => none
  | .doorWaitExpiry _ => none
  | .loadWindowWrite _ _ _ _ => none
  | .imageGo _ _ => none
  | .imageAbort _ _ => none
  | .patchCancel _ _ => none
  | .imageChecksEnd _ => none
  | .bootFetchDone _ _ _ _ => none
  | .laneImage _ _ _ _ => none
  | .calRunTap _ _ => none
  | .calRunConv _ _ => none
  | .calRunSkew _ _ => none
  | .calRunBd _ _ => none
  | .codeDensityRunEnd _ _ => none
  | .breakdownSearchEnd _ _ => none
  | .calEntryComplete _ _ => none
  | .edelayRemeasure _ _ => none
  | .tapRecalTrigger _ => none
  | .biasTargetUpdate _ => none
  | .eyeMonitor _ _ _ _ => none
  | .sliceStart _ _ _ => none
  | .sliceEnd _ _ _ _ _ => none
  | .slicePreempt _ _ => none
  | .sliceStarved _ _ _ => none
  | .slotBoundary _ => none
  | .shotStart _ _ => none
  | .listenOpen _ channel _ => some channel
  | .spadEvent _ channel _ _ => some channel
  | .ringHoldEnd _ channel => some channel
  | .blankIntervalEnd _ channel => some channel
  | .shotTimeout _ channel => some channel
  | .tpllUnlock _ => none
  | .biasOkFall _ => none
  | .rxCntSelWrite _ _ _ => none
  | .phLockRise _ _ => none
  | .phLockFall _ _ => none
  | .pulseSenseReady _ _ _ _ => none
  | .offTimeSample _ _ => none
  | .govBucketAdvance _ _ => none
  | .driveLevelUpdate _ _ => none
  | .batCsClr _ _ => none
  | .batSwClr _ _ => none
  | .batGovClr _ _ => none
  | .shotResultAccumulate _ channel => some channel
  | .filterStart _ => none
  | .filterDone _ _ => none
  | .feStopSet _ _ _ => none
  | .feStopClear _ _ _ => none
  | .filterEngineStopped _ _ => none
  | .ftaGateClose _ => none
  | .ftaFitDone _ => none
  | .cueSubmit _ _ => none
  | .cueSubmitTemplate _ _ _ => none
  | .admissionDecision _ => none
  | .laneCue _ _ _ => none
  | .laneCalendar _ _ _ => none
  | .unpackDone _ => none
  | .cueAbort _ _ _ => none
  | .laneAbort _ _ _ => none
  | .calendarAdvance _ => none
  | .triggerSample _ => none
  | .triggerTimeout _ _ => none
  | .triggerSoftware _ _ _ => none
  | .capacityMeasure _ _ _ => none
  | .promiseConditionClear _ _ => none
  | .calendarSelect _ _ _ => none
  | .cueSelect _ _ _ => none
  | .loopPeriod _ _ _ => none
  | .sceneProgramStart _ => none
  | .fsHold _ _ => none
  | .fsRelease _ _ => none
  | .fsRunSet _ _ => none
  | .fsRunClear _ _ => none
  | .fsFeClr _ _ => none
  | .safetyBoundary _ _ _ => none
  | .permitMessage _ _ _ => none
  | .permitTimeout _ => none
  | .curtainRaise _ _ _ _ _ => none
  | .testPulse _ _ _ _ _ => none
  | .safeOutputOvercurrent _ _ _ _ => none
  | .safetyInputSample _ _ => none
  | .sinDiscrepancy _ _ => none
  | .sirelCommand _ _ _ => none
  | .sirelPrepare _ _ _ => none
  | .sirelConfirm _ _ _ _ => none
  | .sirelTimeout _ => none
  | .commissionWindowExpiry _ => none
  | .d2dMessage _ _ _ _ _ => none
  | .d2dLinkLost _ _ => none
  | .d2dLinkTimeout _ _ => none
  | .d2dLinkUp _ _ => none
  | .wqFlush _ _ _ => none
  | .wqMark _ _ _ => none
  | .wqClearMark _ _ _ => none
  | .wqRewind _ _ _ => none
  | .wqRelease _ _ _ _ => none
  | .wqRead _ _ _ => none
  | .wqDone _ _ _ => none
  | .wqResync _ _ => none
  | .pinnedCommandResume _ _ => none
  | .packerGroupStart _ _ _ _ => none
  | .readComplete _ _ => none
  | .laneLeaveOff _ _ => none
  | .laneDetectProbe _ _ _ => none
  | .laneBaseLock _ _ _ _ _ => none
  | .laneBaseTimeout _ _ => none
  | .laneCaps _ _ _ _ => none
  | .laneExchangeTimeout _ _ => none
  | .laneRateAccept _ _ => none
  | .laneRateTimeout _ _ => none
  | .laneDelayDone _ _ => none
  | .laneRetrain _ _ _ => none
  | .laneRetry _ _ _ => none
  | .laneDisable _ _ _ => none
  | .laneSignalLoss _ _ _ => none
  | .laneTerminationChange _ _ => none
  | .blockLockLoss _ _ _ => none
  | .fecUncLimit _ _ _ => none
  | .retrainLock _ _ => none
  | .retrainTimeout _ _ => none
  | .laneBadFrame _ _ _ => none
  | .laneCredit _ _ _ _ _ _ _ => none
  | .replayTimeout _ _ => none
  | .laneRead _ _ _ _ => none
  | .laneWrite _ _ _ _ => none
  | .laneQcmd _ _ _ _ => none
  | .laneTopoUp _ _ _ => none
  | .laneAddr _ _ _ _ _ _ => none
  | .laneRouted _ _ _ _ => none
  | .laneChildFrame _ _ _ _ _ => none
  | .laneDecision _ _ _ _ _ => none
  | .laneCueEnd _ _ _ => none
  | .timeSync _ _ _ => none
  | .timeDreq _ _ _ => none
  | .timeDrsp _ _ _ => none
  | .syncSend _ => none
  | .cueBusWord _ _ _ _ _ => none
  | .hkConversion _ _ _ _ _ _ => none
  | .hkUrgentRequest _ _ _ => none
  | .auxSample _ _ _ _ _ => none
  | .auxMeasurementEnd _ => none
  | .loopUpdate _ _ => none
  | .loopFaultClear _ _ => none
  | .thermalStep _ => none
  | .thermalShutdownClear _ _ => none
  | .supplyWarningEnter _ _ _ => none
  | .supplyWarningLeave _ _ _ => none
  | .droopFall _ _ => none
  | .droopRaise _ => none
  | .hpRead _ _ _ _ => none
  | .hpWrite _ _ _ _ _ _ => none
  | .hpRepeat _ _ _ _ => none
  | .hpInvalidOp _ _ _ _ => none
  | .hpCsRise _ => none
  | .safeOutputReadbackSample _ _ _ => none
  | .ghostLightSinChange _ _ _ => none
  | .tickLockRise _ => none
  | .biasOkRise _ => none

end Sys2Proof
end

