-- ==== Sys2Proof/Laws/PerInstr.lean ====
section
/-! SUPPORT. What well-formedness says of every command, one lemma per constructor: a well-formed command names one of
the four lanes and one of the 1,552 channels, where it names any. -/

namespace Sys2Proof.Laws

namespace OperandsInRange

/-- A well-formed command names a lane and a channel that the device has, where it names one. -/
def Statement (i : Instr) : Prop :=
  i.wf = true → (∀ l, i.laneOf = some l → l < 4) ∧ (∀ c, i.channelOf = some c → c < 1552)

/-- The left one of two tests that both hold. -/
theorem left {a b : Bool} (h : (a && b) = true) : a = true := by simp_all

/-- A command that names the lane `n` and no channel. -/
theorem onLane {n : Nat} (h : decide (n < 4) = true) :
    (∀ l, some n = some l → l < 4) ∧ (∀ c, (none : Option Nat) = some c → c < 1552) :=
  ⟨fun _ e => Option.some.inj e ▸ of_decide_eq_true h, nofun⟩

/-- A command that names the channel `n` and no lane. -/
theorem onChannel {n : Nat} (h : decide (n < 1552) = true) :
    (∀ l, (none : Option Nat) = some l → l < 4) ∧ (∀ c, some n = some c → c < 1552) :=
  ⟨nofun, fun _ e => Option.some.inj e ▸ of_decide_eq_true h⟩

theorem registerWrite (x0 : Nat) (x1 : Path) (x2 : Nat) (x3 : W32) : Statement (.registerWrite x0 x1 x2 x3) :=
  fun _ => ⟨nofun, nofun⟩
theorem readClear (x0 : Nat) (x1 : Path) (x2 : Nat) : Statement (.readClear x0 x1 x2) :=
  fun _ => ⟨nofun, nofun⟩
theorem wideReadCapture (x0 : Nat) (x1 : Path) (x2 : Nat) : Statement (.wideReadCapture x0 x1 x2) :=
  fun _ => ⟨nofun, nofun⟩
theorem powerOnReset (x0 : Nat) : Statement (.powerOnReset x0) :=
  fun _ => ⟨nofun, nofun⟩
theorem supplyReset (x0 : Nat) (x1 : Rail) (x2 : Sag) : Statement (.supplyReset x0 x1 x2) :=
  fun _ => ⟨nofun, nofun⟩
theorem resetNAssert (x0 : Nat) (x1 : Nat) : Statement (.resetNAssert x0 x1) :=
  fun _ => ⟨nofun, nofun⟩
theorem resetRelease (x0 : Nat) (x1 : Nat) (x2 : ReleaseObs) (x3 : RehearsalObs) : Statement (.resetRelease x0 x1 x2 x3) :=
  fun _ => ⟨nofun, nofun⟩
theorem dressRehearsalEnd (x0 : Nat) : Statement (.dressRehearsalEnd x0) :=
  fun _ => ⟨nofun, nofun⟩
theorem resetHeldTimeout (x0 : Nat) (x1 : Nat) : Statement (.resetHeldTimeout x0 x1) :=
  fun _ => ⟨nofun, nofun⟩
theorem softwareReset (x0 : Nat) (x1 : Path) (x2 : W32) : Statement (.softwareReset x0 x1 x2) :=
  fun _ => ⟨nofun, nofun⟩
theorem laneReset (x0 : Nat) (x1 : Nat) (x2 : Nat) (x3 : W32) : Statement (.laneReset x0 x1 x2 x3) :=
  fun h => onLane (left h)
theorem referenceWindow (x0 : Nat) (x1 : Bool) (x2 : Nat) : Statement (.referenceWindow x0 x1 x2) :=
  fun _ => ⟨nofun, nofun⟩
theorem referenceLoss (x0 : Nat) (x1 : Nat) : Statement (.referenceLoss x0 x1) :=
  fun _ => ⟨nofun, nofun⟩
theorem clockCheck (x0 : Nat) (x1 : Nat) (x2 : Nat) : Statement (.clockCheck x0 x1 x2) :=
  fun _ => ⟨nofun, nofun⟩
theorem modeReqShow (x0 : Nat) (x1 : Path) : Statement (.modeReqShow x0 x1) :=
  fun _ => ⟨nofun, nofun⟩
theorem modeReqStandby (x0 : Nat) (x1 : Path) : Statement (.modeReqStandby x0 x1) :=
  fun _ => ⟨nofun, nofun⟩
theorem modeReqDark (x0 : Nat) (x1 : Path) : Statement (.modeReqDark x0 x1) :=
  fun _ => ⟨nofun, nofun⟩
theorem enterShow (x0 : Nat) : Statement (.enterShow x0) :=
  fun _ => ⟨nofun, nofun⟩
theorem wakeHousePort (x0 : Nat) (x1 : Nat) : Statement (.wakeHousePort x0 x1) :=
  fun _ => ⟨nofun, nofun⟩
theorem wakeSafetyInput (x0 : Nat) (x1 : Nat) : Statement (.wakeSafetyInput x0 x1) :=
  fun _ => ⟨nofun, nofun⟩
theorem wakeTimer (x0 : Nat) : Statement (.wakeTimer x0) :=
  fun _ => ⟨nofun, nofun⟩
theorem holdExpiry (x0 : Nat) : Statement (.holdExpiry x0) :=
  fun _ => ⟨nofun, nofun⟩
theorem emitterCloseStart (x0 : Nat) (x1 : Nat) (x2 : Nat) (x3 : Nat) (x4 : Nat) (x5 : Nat) : Statement (.emitterCloseStart x0 x1 x2 x3 x4 x5) :=
  fun _ => ⟨nofun, nofun⟩
theorem emitterReadbackSample (x0 : Nat) (x1 : Nat) (x2 : Nat) : Statement (.emitterReadbackSample x0 x1 x2) :=
  fun _ => ⟨nofun, nofun⟩
theorem switchFault (x0 : Nat) : Statement (.switchFault x0) :=
  fun _ => ⟨nofun, nofun⟩
theorem doorChallenge (x0 : Nat) (x1 : Path) (x2 : Nat) : Statement (.doorChallenge x0 x1 x2) :=
  fun _ => ⟨nofun, nofun⟩
theorem doorUnlockKey (x0 : Nat) (x1 : Path) (x2 : Bool) : Statement (.doorUnlockKey x0 x1 x2) :=
  fun _ => ⟨nofun, nofun⟩
theorem doorUnlockPw (x0 : Nat) (x1 : Path) (x2 : Bool) : Statement (.doorUnlockPw x0 x1 x2) :=
  fun _ => ⟨nofun, nofun⟩
theorem doorClose (x0 : Nat) (x1 : Path) : Statement (.doorClose x0 x1) :=
  fun _ => ⟨nofun, nofun⟩
theorem doorProgSlot (x0 : Nat) (x1 : Path) (x2 : Nat) (x3 : Bool) : Statement (.doorProgSlot x0 x1 x2 x3) :=
  fun _ => ⟨nofun, nofun⟩
theorem doorRevoke (x0 : Nat) (x1 : Path) (x2 : Nat) (x3 : Bool) : Statement (.doorRevoke x0 x1 x2 x3) :=
  fun _ => ⟨nofun, nofun⟩
theorem doorRetire (x0 : Nat) (x1 : Path) (x2 : Bool) : Statement (.doorRetire x0 x1 x2) :=
  fun _ => ⟨nofun, nofun⟩
theorem challengeExpiry (x0 : Nat) : Statement (.challengeExpiry x0) :=
  fun _ => ⟨nofun, nofun⟩
theorem doorWaitExpiry (x0 : Nat) : Statement (.doorWaitExpiry x0) :=
  fun _ => ⟨nofun, nofun⟩
theorem loadWindowWrite (x0 : Nat) (x1 : Path) (x2 : Nat) (x3 : W32) : Statement (.loadWindowWrite x0 x1 x2 x3) :=
  fun _ => ⟨nofun, nofun⟩
theorem imageGo (x0 : Nat) (x1 : Path) : Statement (.imageGo x0 x1) :=
  fun _ => ⟨nofun, nofun⟩
theorem imageAbort (x0 : Nat) (x1 : Path) : Statement (.imageAbort x0 x1) :=
  fun _ => ⟨nofun, nofun⟩
theorem patchCancel (x0 : Nat) (x1 : Path) : Statement (.patchCancel x0 x1) :=
  fun _ => ⟨nofun, nofun⟩
theorem imageChecksEnd (x0 : Nat) : Statement (.imageChecksEnd x0) :=
  fun _ => ⟨nofun, nofun⟩
theorem bootFetchDone (x0 : Nat) (x1 : Nat) (x2 : Bool) (x3 : List Byte) : Statement (.bootFetchDone x0 x1 x2 x3) :=
  fun _ => ⟨nofun, nofun⟩
theorem laneImage (x0 : Nat) (x1 : Nat) (x2 : Nat) (x3 : List Byte) : Statement (.laneImage x0 x1 x2 x3) :=
  fun h => onLane (left (left h))
theorem calRunTap (x0 : Nat) (x1 : Path) : Statement (.calRunTap x0 x1) :=
  fun _ => ⟨nofun, nofun⟩
theorem calRunConv (x0 : Nat) (x1 : Path) : Statement (.calRunConv x0 x1) :=
  fun _ => ⟨nofun, nofun⟩
theorem calRunSkew (x0 : Nat) (x1 : Path) : Statement (.calRunSkew x0 x1) :=
  fun _ => ⟨nofun, nofun⟩
theorem calRunBd (x0 : Nat) (x1 : Path) : Statement (.calRunBd x0 x1) :=
  fun _ => ⟨nofun, nofun⟩
theorem codeDensityRunEnd (x0 : Nat) (x1 : List Nat) : Statement (.codeDensityRunEnd x0 x1) :=
  fun _ => ⟨nofun, nofun⟩
theorem breakdownSearchEnd (x0 : Nat) (x1 : List Nat) : Statement (.breakdownSearchEnd x0 x1) :=
  fun _ => ⟨nofun, nofun⟩
theorem calEntryComplete (x0 : Nat) (x1 : Nat) : Statement (.calEntryComplete x0 x1) :=
  fun _ => ⟨nofun, nofun⟩
theorem edelayRemeasure (x0 : Nat) (x1 : Nat) : Statement (.edelayRemeasure x0 x1) :=
  fun _ => ⟨nofun, nofun⟩
theorem tapRecalTrigger (x0 : Nat) : Statement (.tapRecalTrigger x0) :=
  fun _ => ⟨nofun, nofun⟩
theorem biasTargetUpdate (x0 : Nat) : Statement (.biasTargetUpdate x0) :=
  fun _ => ⟨nofun, nofun⟩
theorem eyeMonitor (x0 : Nat) (x1 : Nat) (x2 : List Nat) (x3 : List Nat) : Statement (.eyeMonitor x0 x1 x2 x3) :=
  fun h => onLane h
theorem sliceStart (x0 : Nat) (x1 : Nat) (x2 : Nat) : Statement (.sliceStart x0 x1 x2) :=
  fun _ => ⟨nofun, nofun⟩
theorem sliceEnd (x0 : Nat) (x1 : Nat) (x2 : List Nat) (x3 : Bool) (x4 : Option ConvCodes) : Statement (.sliceEnd x0 x1 x2 x3 x4) :=
  fun _ => ⟨nofun, nofun⟩
theorem slicePreempt (x0 : Nat) (x1 : Nat) : Statement (.slicePreempt x0 x1) :=
  fun _ => ⟨nofun, nofun⟩
theorem sliceStarved (x0 : Nat) (x1 : Nat) (x2 : Nat) : Statement (.sliceStarved x0 x1 x2) :=
  fun _ => ⟨nofun, nofun⟩
theorem slotBoundary (x0 : Nat) : Statement (.slotBoundary x0) :=
  fun _ => ⟨nofun, nofun⟩
theorem shotStart (x0 : Nat) (x1 : Nat) : Statement (.shotStart x0 x1) :=
  fun _ => ⟨nofun, nofun⟩
theorem listenOpen (x0 : Nat) (x1 : Nat) (x2 : Interval) : Statement (.listenOpen x0 x1 x2) :=
  fun h => onChannel h
theorem spadEvent (x0 : Nat) (x1 : Nat) (x2 : Nat) (x3 : Nat) : Statement (.spadEvent x0 x1 x2 x3) :=
  fun h => onChannel (left (left h))
theorem ringHoldEnd (x0 : Nat) (x1 : Nat) : Statement (.ringHoldEnd x0 x1) :=
  fun h => onChannel h
theorem blankIntervalEnd (x0 : Nat) (x1 : Nat) : Statement (.blankIntervalEnd x0 x1) :=
  fun h => onChannel h
theorem shotTimeout (x0 : Nat) (x1 : Nat) : Statement (.shotTimeout x0 x1) :=
  fun h => onChannel h
theorem tpllUnlock (x0 : LockLoss) : Statement (.tpllUnlock x0) :=
  fun _ => ⟨nofun, nofun⟩
theorem biasOkFall (x0 : Nat) : Statement (.biasOkFall x0) :=
  fun _ => ⟨nofun, nofun⟩
theorem rxCntSelWrite (x0 : Nat) (x1 : Path) (x2 : W32) : Statement (.rxCntSelWrite x0 x1 x2) :=
  fun _ => ⟨nofun, nofun⟩
theorem phLockRise (x0 : Nat) (x1 : Nat) : Statement (.phLockRise x0 x1) :=
  fun _ => ⟨nofun, nofun⟩
theorem phLockFall (x0 : Nat) (x1 : Nat) : Statement (.phLockFall x0 x1) :=
  fun _ => ⟨nofun, nofun⟩
theorem pulseSenseReady (x0 : Nat) (x1 : Nat) (x2 : Nat) (x3 : Nat) : Statement (.pulseSenseReady x0 x1 x2 x3) :=
  fun _ => ⟨nofun, nofun⟩
theorem offTimeSample (x0 : Nat) (x1 : List (Nat × Nat)) : Statement (.offTimeSample x0 x1) :=
  fun _ => ⟨nofun, nofun⟩
theorem govBucketAdvance (x0 : Nat) (x1 : Nat) : Statement (.govBucketAdvance x0 x1) :=
  fun _ => ⟨nofun, nofun⟩
theorem driveLevelUpdate (x0 : Nat) (x1 : Nat) : Statement (.driveLevelUpdate x0 x1) :=
  fun _ => ⟨nofun, nofun⟩
theorem batCsClr (x0 : Nat) (x1 : Path) : Statement (.batCsClr x0 x1) :=
  fun _ => ⟨nofun, nofun⟩
theorem batSwClr (x0 : Nat) (x1 : Path) : Statement (.batSwClr x0 x1) :=
  fun _ => ⟨nofun, nofun⟩
theorem batGovClr (x0 : Nat) (x1 : Path) : Statement (.batGovClr x0 x1) :=
  fun _ => ⟨nofun, nofun⟩
theorem shotResultAccumulate (x0 : Nat) (x1 : Nat) : Statement (.shotResultAccumulate x0 x1) :=
  fun h => onChannel h
theorem filterStart (x0 : Nat) : Statement (.filterStart x0) :=
  fun _ => ⟨nofun, nofun⟩
theorem filterDone (x0 : Nat) (x1 : Nat) : Statement (.filterDone x0 x1) :=
  fun _ => ⟨nofun, nofun⟩
theorem feStopSet (x0 : Nat) (x1 : Path) (x2 : Nat) : Statement (.feStopSet x0 x1 x2) :=
  fun _ => ⟨nofun, nofun⟩
theorem feStopClear (x0 : Nat) (x1 : Path) (x2 : Nat) : Statement (.feStopClear x0 x1 x2) :=
  fun _ => ⟨nofun, nofun⟩
theorem filterEngineStopped (x0 : Nat) (x1 : Nat) : Statement (.filterEngineStopped x0 x1) :=
  fun _ => ⟨nofun, nofun⟩
theorem ftaGateClose (x0 : Nat) : Statement (.ftaGateClose x0) :=
  fun _ => ⟨nofun, nofun⟩
theorem ftaFitDone (x0 : Nat) : Statement (.ftaFitDone x0) :=
  fun _ => ⟨nofun, nofun⟩
theorem cueSubmit (x0 : Nat) (x1 : Path) : Statement (.cueSubmit x0 x1) :=
  fun _ => ⟨nofun, nofun⟩
theorem cueSubmitTemplate (x0 : Nat) (x1 : Path) (x2 : Nat) : Statement (.cueSubmitTemplate x0 x1 x2) :=
  fun _ => ⟨nofun, nofun⟩
theorem admissionDecision (x0 : Nat) : Statement (.admissionDecision x0) :=
  fun _ => ⟨nofun, nofun⟩
theorem laneCue (x0 : Nat) (x1 : Nat) (x2 : CueRec) : Statement (.laneCue x0 x1 x2) :=
  fun h => onLane h
theorem laneCalendar (x0 : Nat) (x1 : Nat) (x2 : List Byte) : Statement (.laneCalendar x0 x1 x2) :=
  fun h => onLane h
theorem unpackDone (x0 : Nat) : Statement (.unpackDone x0) :=
  fun _ => ⟨nofun, nofun⟩
theorem cueAbort (x0 : Nat) (x1 : Path) (x2 : Nat) : Statement (.cueAbort x0 x1 x2) :=
  fun _ => ⟨nofun, nofun⟩
theorem laneAbort (x0 : Nat) (x1 : Nat) (x2 : Nat) : Statement (.laneAbort x0 x1 x2) :=
  fun h => onLane (left h)
theorem calendarAdvance (x0 : Nat) : Statement (.calendarAdvance x0) :=
  fun _ => ⟨nofun, nofun⟩
theorem triggerSample (x0 : Nat) : Statement (.triggerSample x0) :=
  fun _ => ⟨nofun, nofun⟩
theorem triggerTimeout (x0 : Nat) (x1 : Nat) : Statement (.triggerTimeout x0 x1) :=
  fun _ => ⟨nofun, nofun⟩
theorem triggerSoftware (x0 : Nat) (x1 : Path) (x2 : Nat) : Statement (.triggerSoftware x0 x1 x2) :=
  fun _ => ⟨nofun, nofun⟩
theorem capacityMeasure (x0 : Nat) (x1 : Nat) (x2 : Nat) : Statement (.capacityMeasure x0 x1 x2) :=
  fun _ => ⟨nofun, nofun⟩
theorem promiseConditionClear (x0 : Nat) (x1 : Nat) : Statement (.promiseConditionClear x0 x1) :=
  fun _ => ⟨nofun, nofun⟩
theorem calendarSelect (x0 : Nat) (x1 : Path) (x2 : Nat) : Statement (.calendarSelect x0 x1 x2) :=
  fun _ => ⟨nofun, nofun⟩
theorem cueSelect (x0 : Nat) (x1 : Path) (x2 : Nat) : Statement (.cueSelect x0 x1 x2) :=
  fun _ => ⟨nofun, nofun⟩
theorem loopPeriod (x0 : Nat) (x1 : Nat) (x2 : Bool) : Statement (.loopPeriod x0 x1 x2) :=
  fun _ => ⟨nofun, nofun⟩
theorem sceneProgramStart (x0 : Nat) : Statement (.sceneProgramStart x0) :=
  fun _ => ⟨nofun, nofun⟩
theorem fsHold (x0 : Nat) (x1 : Path) : Statement (.fsHold x0 x1) :=
  fun _ => ⟨nofun, nofun⟩
theorem fsRelease (x0 : Nat) (x1 : Path) : Statement (.fsRelease x0 x1) :=
  fun _ => ⟨nofun, nofun⟩
theorem fsRunSet (x0 : Nat) (x1 : Path) : Statement (.fsRunSet x0 x1) :=
  fun _ => ⟨nofun, nofun⟩
theorem fsRunClear (x0 : Nat) (x1 : Path) : Statement (.fsRunClear x0 x1) :=
  fun _ => ⟨nofun, nofun⟩
theorem fsFeClr (x0 : Nat) (x1 : Path) : Statement (.fsFeClr x0 x1) :=
  fun _ => ⟨nofun, nofun⟩
theorem safetyBoundary (x0 : Nat) (x1 : Bool) (x2 : Bool) : Statement (.safetyBoundary x0 x1 x2) :=
  fun _ => ⟨nofun, nofun⟩
theorem permitMessage (x0 : Nat) (x1 : Nat) (x2 : Bool) : Statement (.permitMessage x0 x1 x2) :=
  fun _ => ⟨nofun, nofun⟩
theorem permitTimeout (x0 : Nat) : Statement (.permitTimeout x0) :=
  fun _ => ⟨nofun, nofun⟩
theorem curtainRaise (x0 : Nat) (x1 : PinRead) (x2 : PinRead) (x3 : PinRead) (x4 : PinRead) : Statement (.curtainRaise x0 x1 x2 x3 x4) :=
  fun _ => ⟨nofun, nofun⟩
theorem testPulse (x0 : Nat) (x1 : Nat) (x2 : PinRead) (x3 : PinRead) (x4 : Bool) : Statement (.testPulse x0 x1 x2 x3 x4) :=
  fun _ => ⟨nofun, nofun⟩
theorem safeOutputOvercurrent (x0 : Nat) (x1 : Nat) (x2 : Nat) (x3 : Nat) : Statement (.safeOutputOvercurrent x0 x1 x2 x3) :=
  fun _ => ⟨nofun, nofun⟩
theorem safetyInputSample (x0 : Nat) (x1 : List Bool) : Statement (.safetyInputSample x0 x1) :=
  fun _ => ⟨nofun, nofun⟩
theorem sinDiscrepancy (x0 : Nat) (x1 : Nat) : Statement (.sinDiscrepancy x0 x1) :=
  fun _ => ⟨nofun, nofun⟩
theorem sirelCommand (x0 : Nat) (x1 : Nat) (x2 : List Byte) : Statement (.sirelCommand x0 x1 x2) :=
  fun h => onLane h
theorem sirelPrepare (x0 : Nat) (x1 : Nat) (x2 : List Byte) : Statement (.sirelPrepare x0 x1 x2) :=
  fun h => onLane h
theorem sirelConfirm (x0 : Nat) (x1 : Nat) (x2 : List Byte) (x3 : Bool) : Statement (.sirelConfirm x0 x1 x2 x3) :=
  fun h => onLane h
theorem sirelTimeout (x0 : Nat) : Statement (.sirelTimeout x0) :=
  fun _ => ⟨nofun, nofun⟩
theorem commissionWindowExpiry (x0 : Nat) : Statement (.commissionWindowExpiry x0) :=
  fun _ => ⟨nofun, nofun⟩
theorem d2dMessage (x0 : Nat) (x1 : Link) (x2 : Bool) (x3 : Bool) (x4 : Nat) : Statement (.d2dMessage x0 x1 x2 x3 x4) :=
  fun _ => ⟨nofun, nofun⟩
theorem d2dLinkLost (x0 : Nat) (x1 : Link) : Statement (.d2dLinkLost x0 x1) :=
  fun _ => ⟨nofun, nofun⟩
theorem d2dLinkTimeout (x0 : Nat) (x1 : Link) : Statement (.d2dLinkTimeout x0 x1) :=
  fun _ => ⟨nofun, nofun⟩
theorem d2dLinkUp (x0 : Nat) (x1 : Link) : Statement (.d2dLinkUp x0 x1) :=
  fun _ => ⟨nofun, nofun⟩
theorem wqFlush (x0 : Nat) (x1 : Path) (x2 : Nat) : Statement (.wqFlush x0 x1 x2) :=
  fun _ => ⟨nofun, nofun⟩
theorem wqMark (x0 : Nat) (x1 : Path) (x2 : Nat) : Statement (.wqMark x0 x1 x2) :=
  fun _ => ⟨nofun, nofun⟩
theorem wqClearMark (x0 : Nat) (x1 : Path) (x2 : Nat) : Statement (.wqClearMark x0 x1 x2) :=
  fun _ => ⟨nofun, nofun⟩
theorem wqRewind (x0 : Nat) (x1 : Path) (x2 : Nat) : Statement (.wqRewind x0 x1 x2) :=
  fun _ => ⟨nofun, nofun⟩
theorem wqRelease (x0 : Nat) (x1 : Path) (x2 : Nat) (x3 : Nat) : Statement (.wqRelease x0 x1 x2 x3) :=
  fun _ => ⟨nofun, nofun⟩
theorem wqRead (x0 : Nat) (x1 : Path) (x2 : Nat) : Statement (.wqRead x0 x1 x2) :=
  fun _ => ⟨nofun, nofun⟩
theorem wqDone (x0 : Nat) (x1 : Path) (x2 : Nat) : Statement (.wqDone x0 x1 x2) :=
  fun _ => ⟨nofun, nofun⟩
theorem wqResync (x0 : Nat) (x1 : Path) : Statement (.wqResync x0 x1) :=
  fun _ => ⟨nofun, nofun⟩
theorem pinnedCommandResume (x0 : Nat) (x1 : Nat) : Statement (.pinnedCommandResume x0 x1) :=
  fun _ => ⟨nofun, nofun⟩
theorem packerGroupStart (x0 : Nat) (x1 : Nat) (x2 : Bool) (x3 : Bool) : Statement (.packerGroupStart x0 x1 x2 x3) :=
  fun h => onLane h
theorem readComplete (x0 : Nat) (x1 : Nat) : Statement (.readComplete x0 x1) :=
  fun h => onLane h
theorem laneLeaveOff (x0 : Nat) (x1 : Nat) : Statement (.laneLeaveOff x0 x1) :=
  fun h => onLane h
theorem laneDetectProbe (x0 : Nat) (x1 : Nat) (x2 : Bool) : Statement (.laneDetectProbe x0 x1 x2) :=
  fun h => onLane h
theorem laneBaseLock (x0 : Nat) (x1 : Nat) (x2 : TrainSeen) (x3 : Bool) (x4 : Nat) : Statement (.laneBaseLock x0 x1 x2 x3 x4) :=
  fun h => onLane (left h)
theorem laneBaseTimeout (x0 : Nat) (x1 : Nat) : Statement (.laneBaseTimeout x0 x1) :=
  fun h => onLane h
theorem laneCaps (x0 : Nat) (x1 : Nat) (x2 : Caps) (x3 : Bool) : Statement (.laneCaps x0 x1 x2 x3) :=
  fun h => onLane h
theorem laneExchangeTimeout (x0 : Nat) (x1 : Nat) : Statement (.laneExchangeTimeout x0 x1) :=
  fun h => onLane h
theorem laneRateAccept (x0 : Nat) (x1 : LaneLock) : Statement (.laneRateAccept x0 x1) :=
  fun h => onLane h
theorem laneRateTimeout (x0 : Nat) (x1 : Nat) : Statement (.laneRateTimeout x0 x1) :=
  fun h => onLane h
theorem laneDelayDone (x0 : Nat) (x1 : Nat) : Statement (.laneDelayDone x0 x1) :=
  fun h => onLane h
theorem laneRetrain (x0 : Nat) (x1 : Path) (x2 : Nat) : Statement (.laneRetrain x0 x1 x2) :=
  fun h => onLane h
theorem laneRetry (x0 : Nat) (x1 : Path) (x2 : Nat) : Statement (.laneRetry x0 x1 x2) :=
  fun h => onLane h
theorem laneDisable (x0 : Nat) (x1 : Path) (x2 : Nat) : Statement (.laneDisable x0 x1 x2) :=
  fun h => onLane h
theorem laneSignalLoss (x0 : Nat) (x1 : Nat) (x2 : Nat) : Statement (.laneSignalLoss x0 x1 x2) :=
  fun h => onLane h
theorem laneTerminationChange (x0 : Nat) (x1 : Nat) : Statement (.laneTerminationChange x0 x1) :=
  fun h => onLane h
theorem blockLockLoss (x0 : Nat) (x1 : Nat) (x2 : Nat) : Statement (.blockLockLoss x0 x1 x2) :=
  fun h => onLane h
theorem fecUncLimit (x0 : Nat) (x1 : Nat) (x2 : Codewords) : Statement (.fecUncLimit x0 x1 x2) :=
  fun h => onLane h
theorem retrainLock (x0 : Nat) (x1 : LaneLock) : Statement (.retrainLock x0 x1) :=
  fun h => onLane h
theorem retrainTimeout (x0 : Nat) (x1 : Nat) : Statement (.retrainTimeout x0 x1) :=
  fun h => onLane h
theorem laneBadFrame (x0 : Nat) (x1 : Nat) (x2 : BadIn) : Statement (.laneBadFrame x0 x1 x2) :=
  fun h => onLane (left h)
theorem laneCredit (x0 : Nat) (x1 : Nat) (x2 : Nat) (x3 : Nat) (x4 : Nat) (x5 : Bool) (x6 : Bool) : Statement (.laneCredit x0 x1 x2 x3 x4 x5 x6) :=
  fun h => onLane (left (left (left h)))
theorem replayTimeout (x0 : Nat) (x1 : Nat) : Statement (.replayTimeout x0 x1) :=
  fun h => onLane h
theorem laneRead (x0 : Nat) (x1 : Nat) (x2 : Nat) (x3 : Nat) : Statement (.laneRead x0 x1 x2 x3) :=
  fun h => onLane (left (left h))
theorem laneWrite (x0 : Nat) (x1 : Nat) (x2 : Nat) (x3 : List W32) : Statement (.laneWrite x0 x1 x2 x3) :=
  fun h => onLane (left (left h))
theorem laneQcmd (x0 : Nat) (x1 : Nat) (x2 : W32) (x3 : W32) : Statement (.laneQcmd x0 x1 x2 x3) :=
  fun h => onLane h
theorem laneTopoUp (x0 : Nat) (x1 : Nat) (x2 : Nat) : Statement (.laneTopoUp x0 x1 x2) :=
  fun h => onLane (left h)
theorem laneAddr (x0 : Nat) (x1 : Nat) (x2 : Nat) (x3 : Nat) (x4 : Nat) (x5 : Nat) : Statement (.laneAddr x0 x1 x2 x3 x4 x5) :=
  fun h => onLane (left (left (left (left h))))
theorem laneRouted (x0 : Nat) (x1 : Nat) (x2 : Route) (x3 : List Byte) : Statement (.laneRouted x0 x1 x2 x3) :=
  fun h => onLane (left h)
theorem laneChildFrame (x0 : Nat) (x1 : Nat) (x2 : Nat) (x3 : Nat) (x4 : List Byte) : Statement (.laneChildFrame x0 x1 x2 x3 x4) :=
  fun h => onLane (left (left h))
theorem laneDecision (x0 : Nat) (x1 : Nat) (x2 : W32) (x3 : Nat) (x4 : Nat) : Statement (.laneDecision x0 x1 x2 x3 x4) :=
  fun h => onLane h
theorem laneCueEnd (x0 : Nat) (x1 : Nat) (x2 : CueEnd) : Statement (.laneCueEnd x0 x1 x2) :=
  fun h => onLane h
theorem timeSync (x0 : Nat) (x1 : Nat) (x2 : Int) : Statement (.timeSync x0 x1 x2) :=
  fun h => onLane h
theorem timeDreq (x0 : Nat) (x1 : Nat) (x2 : Int) : Statement (.timeDreq x0 x1 x2) :=
  fun h => onLane h
theorem timeDrsp (x0 : Nat) (x1 : Nat) (x2 : Int) : Statement (.timeDrsp x0 x1 x2) :=
  fun h => onLane h
theorem syncSend (x0 : Nat) : Statement (.syncSend x0) :=
  fun _ => ⟨nofun, nofun⟩
theorem cueBusWord (x0 : Nat) (x1 : Nat) (x2 : Nat) (x3 : Bool) (x4 : Nat) : Statement (.cueBusWord x0 x1 x2 x3 x4) :=
  fun _ => ⟨nofun, nofun⟩
theorem hkConversion (x0 : Nat) (x1 : Nat) (x2 : Nat) (x3 : Nat) (x4 : Bool) (x5 : Bool) : Statement (.hkConversion x0 x1 x2 x3 x4 x5) :=
  fun _ => ⟨nofun, nofun⟩
theorem hkUrgentRequest (x0 : Nat) (x1 : Path) (x2 : Nat) : Statement (.hkUrgentRequest x0 x1 x2) :=
  fun _ => ⟨nofun, nofun⟩
theorem auxSample (x0 : Nat) (x1 : Int) (x2 : Bool) (x3 : List Nat) (x4 : List Bool) : Statement (.auxSample x0 x1 x2 x3 x4) :=
  fun _ => ⟨nofun, nofun⟩
theorem auxMeasurementEnd (x0 : Nat) : Statement (.auxMeasurementEnd x0) :=
  fun _ => ⟨nofun, nofun⟩
theorem loopUpdate (x0 : Nat) (x1 : Nat) : Statement (.loopUpdate x0 x1) :=
  fun _ => ⟨nofun, nofun⟩
theorem loopFaultClear (x0 : Nat) (x1 : Path) : Statement (.loopFaultClear x0 x1) :=
  fun _ => ⟨nofun, nofun⟩
theorem thermalStep (x0 : Nat) : Statement (.thermalStep x0) :=
  fun _ => ⟨nofun, nofun⟩
theorem thermalShutdownClear (x0 : Nat) (x1 : Path) : Statement (.thermalShutdownClear x0 x1) :=
  fun _ => ⟨nofun, nofun⟩
theorem supplyWarningEnter (x0 : Nat) (x1 : Rail) (x2 : Sag) : Statement (.supplyWarningEnter x0 x1 x2) :=
  fun _ => ⟨nofun, nofun⟩
theorem supplyWarningLeave (x0 : Nat) (x1 : Rail) (x2 : Sag) : Statement (.supplyWarningLeave x0 x1 x2) :=
  fun _ => ⟨nofun, nofun⟩
theorem droopFall (x0 : Nat) (x1 : Nat) : Statement (.droopFall x0 x1) :=
  fun _ => ⟨nofun, nofun⟩
theorem droopRaise (x0 : CoreLevel) : Statement (.droopRaise x0) :=
  fun _ => ⟨nofun, nofun⟩
theorem hpRead (x0 : Nat) (x1 : Byte) (x2 : Nat) (x3 : PortHead) : Statement (.hpRead x0 x1 x2 x3) :=
  fun _ => ⟨nofun, nofun⟩
theorem hpWrite (x0 : Nat) (x1 : Byte) (x2 : Nat) (x3 : PortHead) (x4 : List W32) (x5 : BitVec 16) : Statement (.hpWrite x0 x1 x2 x3 x4 x5) :=
  fun _ => ⟨nofun, nofun⟩
theorem hpRepeat (x0 : Nat) (x1 : Byte) (x2 : Nat) (x3 : PortHead) : Statement (.hpRepeat x0 x1 x2 x3) :=
  fun _ => ⟨nofun, nofun⟩
theorem hpInvalidOp (x0 : Nat) (x1 : Byte) (x2 : Nat) (x3 : Byte) : Statement (.hpInvalidOp x0 x1 x2 x3) :=
  fun _ => ⟨nofun, nofun⟩
theorem hpCsRise (x0 : Nat) : Statement (.hpCsRise x0) :=
  fun _ => ⟨nofun, nofun⟩
theorem safeOutputReadbackSample (x0 : Nat) (x1 : Nat) (x2 : PinRead) : Statement (.safeOutputReadbackSample x0 x1 x2) :=
  fun _ => ⟨nofun, nofun⟩
theorem ghostLightSinChange (x0 : Nat) (x1 : Nat) (x2 : Bool) : Statement (.ghostLightSinChange x0 x1 x2) :=
  fun _ => ⟨nofun, nofun⟩
theorem tickLockRise (x0 : Nat) : Statement (.tickLockRise x0) :=
  fun _ => ⟨nofun, nofun⟩
theorem biasOkRise (x0 : Nat) : Statement (.biasOkRise x0) :=
  fun _ => ⟨nofun, nofun⟩

end OperandsInRange

end Sys2Proof.Laws
end

