-- ==== Sys2Proof/Tests/Slice0.lean ====
section
/-! SUPPORT. Small tests of the model, each about one step or one check, and for every statement of Obligations.lean
that has hypotheses a witness: a state and operands that meet the hypotheses of each of its clauses together. Expected
results come from the rule that the test names. -/

namespace Sys2Proof.Tests

set_option Elab.async false

open Sys2Proof Sys2Proof.Machine

/-! ### Fixtures -/

def noRej : RejParams :=
  { ambWeight := 0, nfRange := 0, nfDepth := 0, nfTol := 0, codeEn := false, ftaTrains := 0, ftaGate := 16, ftaMin := 4,
    ftaResid := 1, ftaBlank := 0, codeSeed := 1, slotPhase := 0 }

def hkRec : HkInput := { conv := 1, accShift := 1, period := 1000, disagree := 0 }
def auxNone : AuxInput := { exc := 0, excI := 0, wiring := 0, notch := 0, range := 0 }
def auxRtd : AuxInput := { exc := 1, excI := 1, wiring := 1, notch := 0, range := 0 }

/-- A guard, an emergency stop, a reset and an unused input. -/
def sinList : List SinCfg :=
  [{ role := 1, mode := 0, disc := 100, filt := 1 }, { role := 2, mode := 0, disc := 100, filt := 1 },
   { role := 3, mode := 0, disc := 100, filt := 1 }, { role := 0, mode := 0, disc := 100, filt := 1 }]

def block : SafetyBlock :=
  { devId := 7, peerId := 9, timeExp := 40, tpInterval := 1, restart := 0, xchkN := 1, xtol := 0, sin := sinList,
    refs := [], spikes := [], fields := [], crc := 0x1234 }

def cueRec : CueRec :=
  { kind := 1, cls := 2, node := 0, profile := 0, flags := 0, points := 1, queue := 0, hqueue := 0xFFFF, start := 0,
    period := 0, count := 1, bound := 0, trig := 0, rerun := 0, tag := 0, runtime := 0 }

/-- A full image: one batten record, and a queue to each kind of consumer. -/
def image : Image :=
  { format := 2, serial := 77, workSize := 0, toolVer := 0,
    nodes := [{ kind := 3, index := 0, first := 0 }, { kind := 5, index := 2, first := 0 }], members := [], channels := [{ batten := 0, enable := true, fly := false }],
    battens := [{ enable := true, ref := 0, width := 8, floor := 1, pwrCoef := 0, delay := 0, wlTc := 0, knee := 4000, govSet := 0 }],
    gov := [{ short := 100, middle := 1000, long := 10000 }], profiles := [], fsets := [], rej := noRej,
    scene := { profiles := [], steps := [] }, templates := [cueRec], triggers := { patterns := [], masks := [] },
    queues := [{ queue := 0, maxItem := 64, consumer := 2, quota := 16, pack := 0, context := 0, producer := 0xFFFF, slane := 0 },
      { queue := 1, maxItem := 64, consumer := 0, quota := 16, pack := 0, context := 0, producer := 0xFFFF, slane := 0 },
      { queue := 2, maxItem := 64, consumer := 4, quota := 16, pack := 0, context := 0, producer := 0xFFFF, slane := 0 }],
    lanes := [], hk := { inputs := List.replicate 32 hkRec, aux := [auxNone, auxRtd], loop := { qty := 0, index := 0, low := 0, high := 1 } },
    safety := block }

/-- Right after reset: Standby with the curtain down. -/
def standby : State := State.reset

/-- Standby, a full image active and authenticated, both die-to-die links up, dress rehearsal passed. -/
def loaded : State :=
  { standby with
    img := { standby.img with active := some image, auth := true, keySlot := some 1 }
    d2d := { standby.d2d with a := { up := true }, b := { up := true } }
    rh := { standby.rh with drDone := true, drPass := true } }

/-- Show, with the curtain still down. -/
def onStage : State := { loaded with pwr := { loaded.pwr with mode := .show } }

/-- Show with every condition of Table 9.1 holding. -/
def mayRaise : State :=
  { onStage with
    otp := { onStage.otp with comm := [(0, { crc := 0x1234, serial := 77, confirmed := true })] }
    saf := { onStage.saf with
      guardDone := true, main := { permit := true }, fly := { permit := true }, good := 2
      sirel := { up := true, run := true }, outA := { offOk := true }, outB := { offOk := true } } }

/-- Show with the curtain up. -/
def raised : State :=
  { mayRaise with saf := { mayRaise.saf with
      curtain := true, everUp := true, outA := { hs := true, ls := true, offOk := true }
      outB := { hs := true, ls := true, offOk := true } } }

/-- The curtain up although a cause is latched, as a command may leave it before its end. -/
def mustDrop : State := { raised with saf := { raised.saf with causes := 0x80 } }

def inReset : State := { standby with pwr := { standby.pwr with inReset := true } }
def dark : State := { standby with pwr := { standby.pwr with mode := .dark } }

/-! ### Well-formedness refuses an operand outside its field -/

theorem test_wf_address : (Instr.registerWrite 0 .housePort (2 ^ 32) 0).wf = false := by decide +kernel
theorem test_wf_strap : (Instr.resetRelease 0 4 ⟨0, 0, 0, 0⟩ ⟨true, true, true, true, true, [], ([], []), 0, [], [], [], [], true, []⟩).wf = false := by
  decide +kernel
theorem test_wf_lane : (Instr.laneRetry 0 .housePort 4).wf = false := by decide +kernel
theorem test_wf_lane_reset : (Instr.laneReset 0 1 256 0).wf = false := by decide +kernel
theorem test_wf_channel : (Instr.shotTimeout 0 1552).wf = false := by decide +kernel
theorem test_wf_spad : (Instr.spadEvent 0 0 16 0).wf = false ∧ (Instr.spadEvent 0 0 15 1024).wf = false := by decide +kernel
theorem test_wf_batten : (Instr.edelayRemeasure 0 64).wf = false ∧ (Instr.shotStart 0 81).wf = false := by decide +kernel
theorem test_wf_queue : (Instr.wqFlush 0 .housePort 4096).wf = false := by decide +kernel
theorem test_wf_engine : (Instr.filterDone 0 8).wf = false := by decide +kernel
theorem test_wf_output : (Instr.safeOutputOvercurrent 0 2 0 0).wf = false := by decide +kernel
theorem test_wf_offset : (Instr.loadWindowWrite 0 .housePort (2 ^ 20) 0).wf = false := by decide +kernel
theorem test_wf_scope : (Instr.doorChallenge 0 .tap 8).wf = false := by decide +kernel
theorem test_wf_slot : (Instr.doorProgSlot 0 .tap 4 true).wf = false ∧ (Instr.doorRevoke 0 .tap 4 true).wf = false := by decide +kernel
theorem test_wf_copy : (Instr.bootFetchDone 0 0 true []).wf = false ∧ (Instr.bootFetchDone 0 3 true []).wf = false := by decide +kernel
theorem test_wf_entry : (Instr.calEntryComplete 0 1616).wf = false := by decide +kernel
theorem test_wf_slice : (Instr.sliceStart 0 5 0).wf = false ∧ (Instr.slicePreempt 0 5).wf = false := by decide +kernel
theorem test_wf_window : (Instr.govBucketAdvance 0 3).wf = false := by decide +kernel
theorem test_wf_group : (Instr.driveLevelUpdate 0 8).wf = false ∧ (Instr.calendarSelect 0 .housePort 4096).wf = false := by decide +kernel
theorem test_wf_template : (Instr.cueSubmitTemplate 0 .housePort 1024).wf = false := by decide +kernel
theorem test_wf_handle : (Instr.cueAbort 0 .housePort 65536).wf = false := by decide +kernel
theorem test_wf_unit : (Instr.triggerTimeout 0 64).wf = false := by decide +kernel
theorem test_wf_resource : (Instr.capacityMeasure 0 31 0).wf = false := by decide +kernel
theorem test_wf_condition : (Instr.promiseConditionClear 0 0).wf = false ∧ (Instr.promiseConditionClear 0 6).wf = false := by decide +kernel
theorem test_wf_position : (Instr.loopPeriod 0 65536 false).wf = false := by decide +kernel
theorem test_wf_input : (Instr.sinDiscrepancy 0 4).wf = false ∧ (Instr.hkUrgentRequest 0 .housePort 32).wf = false := by decide +kernel
theorem test_wf_conversion : (Instr.hkConversion 0 2 0 0 false false).wf = false ∧ (Instr.hkConversion 0 1 0 16384 false false).wf = false := by
  decide +kernel
theorem test_wf_levels : (Instr.safetyInputSample 0 []).wf = false := by decide +kernel
theorem test_wf_ghost_light : (Instr.ghostLightSinChange 0 8 true).wf = false := by decide +kernel
theorem test_wf_sequence : (Instr.d2dMessage 0 .a true true 65536).wf = false := by decide +kernel
theorem test_wf_release : (Instr.wqRelease 0 .housePort 0 (2 ^ 32)).wf = false := by decide +kernel
theorem test_wf_credit : (Instr.laneCredit 0 0 8 0 0 true false).wf = false ∧ (Instr.laneCredit 0 0 0 256 0 true false).wf = false ∧
    (Instr.laneCredit 0 0 0 0 256 true false).wf = false ∧ (Instr.laneBadFrame 0 0 (.segment ⟨8, 0, 0, 0, 0⟩)).wf = false ∧
    (Instr.laneBadFrame 0 0 (.segment ⟨0, 0, 0, 4, 0⟩)).wf = false := by decide +kernel
theorem test_wf_lane_words : (Instr.laneRead 0 0 0 0).wf = false ∧ (Instr.laneRead 0 0 0 65).wf = false ∧
    (Instr.laneWrite 0 0 0 []).wf = false ∧ (Instr.laneImage 0 0 0 []).wf = false := by decide +kernel
theorem test_wf_topology : (Instr.laneTopoUp 0 2 65536).wf = false ∧ (Instr.laneAddr 0 0 1024 0 0 0).wf = false ∧
    (Instr.laneAddr 0 0 0 256 0 0).wf = false ∧ (Instr.laneAddr 0 0 0 0 256 0).wf = false ∧
    (Instr.laneAddr 0 0 0 0 0 32).wf = false := by decide +kernel
theorem test_wf_route : (Instr.laneRouted 0 0 ⟨1024, 0, 0, 0, 0, 0⟩ []).wf = false ∧
    (Instr.laneChildFrame 0 2 8 0 []).wf = false ∧ (Instr.laneChildFrame 0 2 0 32 []).wf = false := by decide +kernel
theorem test_wf_cue_bus : (Instr.cueBusWord 0 32 0 true 0).wf = false ∧ (Instr.cueBusWord 0 0 256 true 0).wf = false ∧
    (Instr.cueBusWord 0 0 0 true 4).wf = false := by decide +kernel
theorem test_wf_burst : (Instr.hpWrite 0 0 0 ⟨0, false⟩ [] 0).wf = false := by decide +kernel
theorem test_wf_peak : (Instr.pulseSenseReady 0 0 256 0).wf = false := by decide +kernel
theorem test_wf_period : (Instr.permitMessage 0 (2 ^ 32) true).wf = false := by decide +kernel
theorem test_wf_logical_lane :
    (Instr.laneBaseLock 0 0 { headers := 64, trains := 16, ready := true } false 2).wf = false := by
  decide +kernel
theorem test_wf_good : (Instr.wqRelease 0 .hl0 4095 5).wf = true ∧ (Instr.shotStart 0 80).wf = true := by decide +kernel

/-! ### The block as a machine -/

theorem witness_StepRunsFront :
    ({ standby with pending := [.holdExpiry 5] } : State).pending = .holdExpiry 5 :: [] ∧ standby.pending = [] ∧
      standby.pwr.resetAt = none ∧
      ({ standby with pwr := { standby.pwr with resetAt := some 4 } } : State).pwr.resetAt = some 4 := by decide +kernel

/-- With no reset waiting, a live state is awake: the first hypothesis of most statements. -/
theorem awake_of_live {t : Nat} {s : State} (h : live s = true) (r : s.pwr.resetAt = none) :
    awake t s = true ∧ resetDue t s = false := by
  simp [awake, resetDue, h, r]

theorem inv_reset_buffers : BuffersSound State.reset := by unfold BuffersSound; decide +kernel

theorem witness_InvStep : Inv standby ∧ Inv raised ∧ raised.saf.curtain = true ∧
    step { raised with pending := [] } = .next { raised with pending := [] } := by
  refine ⟨⟨by unfold CurtainSound; decide +kernel, by unfold BoardSound; decide +kernel⟩,
    ⟨by unfold CurtainSound; decide +kernel, by unfold BoardSound; decide +kernel⟩, by decide +kernel, rfl⟩

theorem witness_CurtainDrops :
    (curtainAllowed mustDrop = false ∧ mustDrop.saf.curtain = true) ∧ curtainAllowed raised = true ∧
    standby.saf.curtain = false := by decide +kernel

/-- A call board with one unmasked event set. -/
def pendingBoard : CallBoard := { event := 8, mask := 8, firstValid := true, first := 3 }

theorem witness_FirstEventRecorded :
    (CallBoard.pendingWord {} = 0) ∧
    ((0 : W32) = 0 ∧ pendingBoard.pendingWord.getLsbD 3 = true ∧ (∀ j < 3, pendingBoard.pendingWord.getLsbD j = false)) ∧
    ((8 : W32) ≠ 0 ∧ pendingBoard.firstValid = true ∧ pendingBoard.pendingWord ≠ 0) := by decide +kernel

/-! ### Registers -/

theorem witness_RwsClosed :
    ((0x00020000, regRxCfg) ∈ rwsRegisters ∧ live raised = true ∧ rwsOpen raised = false ∧ Path.hl1 ≠ .tap ∧
      regRxCfg.ok (regRxCfg.get raised) = true ∧ CurtainSound raised) ∧ CurtainSound onStage ∧ rwsOpen onStage = false := by
  refine ⟨⟨?_, by decide +kernel, by decide +kernel, by decide +kernel, by decide +kernel, by unfold CurtainSound; decide +kernel⟩,
    by unfold CurtainSound; decide +kernel, by decide +kernel⟩
  simp [rwsRegisters]

theorem witness_ConfigurationWrites :
    (rwsOpen standby = true ∧ Path.housePort ≠ .tap ∧ regRxCfg.ok (merge regRxCfg.rws (regRxCfg.get standby) 0x00320040) = true) ∧
    (live onStage = true ∧ regHpCfg.ok (merge regHpCfg.rw (regHpCfg.get onStage) 15) = true) ∧
    (standby.fs.held = true ∧ regPark.ok (merge regPark.rw (regPark.get standby) 0x9000) = true) ∧
    (live { onStage with fs := { onStage.fs with held := false } } = true) := by decide +kernel

theorem witness_WriteRules :
    (rwsOpen standby = true ∧ standby.img.active = none) ∧
    (rwsOpen loaded = true ∧ loaded.img.active ≠ none ∧ deviceQueue loaded (fld 0x00010000 11 0) = true ∧
      deviceQueue loaded (fld 0x00010000 27 16) = true) ∧
    (deviceQueue loaded (fld 0x00020000 27 16) = false ∧ deviceQueue loaded (fld 2 11 0) = false) ∧
    (live onStage = true ∧ regHpCfg.ok (merge (regHpCfg.open onStage) (regHpCfg.get onStage) 3) = false) ∧
    (2 < 8 ∧ ¬ 8 < 8 ∧ 15 < 16 ∧ live standby = true) ∧ (accessOk .tap 0x1000 = false ∧ accessOk .housePort 0x00200000 = false) ∧ CurtainSound raised := by
  refine ⟨by decide +kernel, by decide +kernel, by decide +kernel, by decide +kernel, by decide +kernel, by decide +kernel, by unfold CurtainSound; decide +kernel⟩

theorem witness_ReadClearRestores : (0x000C0104, 7, 4, 8) ∈ rcFields ∧ live standby = true ∧ freshCycle 16 standby = true ∧ Path.hl0 ≠ .tap := by decide +kernel

theorem witness_WideReadShadow : upperOf 0xF0020 = some 0xF0024 ∧ live standby = true ∧ Path.housePort ≠ .tap := by decide +kernel

theorem witness_ActiveImageRegister : loaded.img.active = some image ∧ standby.img.active = none := by decide +kernel

/-! ### The house port -/

/-- Header CRCs of a read of four words at 0xF0100, of one word beyond the regions, and of the other operations. -/
def hcrcOf (cmd : Byte) (a : Nat) : Byte := BitVec.ofNat 8 (headerCrc cmd a)

theorem witness_HousePortRead :
    (({ crc := 0, cut := true } : PortHead).cut = true ∧ ({ crc := hcrcOf 3 0xF0100, cut := false } : PortHead).cut = false) ∧
    (live standby = true ∧ standby.port.inTransaction = false ∧ headerOk 3 0xF0100 (hcrcOf 3 0xF0100) = true ∧ cmdOp 3 = 0 ∧
      burstOk 0xF0100 (cmdWords 3) = true) ∧
    (headerOk 0 0x200000 (hcrcOf 0 0x200000) = true ∧ cmdOp 0 = 0 ∧ burstOk 0x200000 (cmdWords 0) = false) ∧
    (headerOk 1 0x1FFC (hcrcOf 1 0x1FFC) = true ∧ burstOk 0x1FFC (cmdWords 1) = false) := by decide +kernel

/-- A transaction is under way, with a stored response of one word. -/
def answered : State := { standby with port := { standby.port with stored := some (0, [5], respCrc 0 [5]) } }

theorem witness_HousePortWriteAndRepeat :
    (headerOk 0x40 0x1004 (hcrcOf 0x40 0x1004) = true ∧ cmdOp 0x40 = 1 ∧ [0x00000011#32].length = cmdWords 0x40 ∧
      burstOk 0x1004 (cmdWords 0x40) = true ∧ live (writeWords .housePort 0x1004 [0x11] (begin 3 standby)).2 = true) ∧
    (headerOk 0x40 0x200000 (hcrcOf 0x40 0x200000) = true ∧ burstOk 0x200000 (cmdWords 0x40) = false) ∧
    (dataCrc [0x11] + 1 ≠ dataCrc [0x11]) ∧
    (live answered = true ∧ answered.port.inTransaction = false ∧ headerOk 0x80 0 (hcrcOf 0x80 0) = true ∧ cmdOp 0x80 = 2 ∧
      answered.port.stored = some (0, [5], respCrc 0 [5])) ∧
    (standby.port.stored = none ∧ headerOk 0x80 0 (hcrcOf 0x80 0 + 1) = false ∧ cmdOp 0xC0 = 3) := by decide +kernel

/-! ### Power, reset and modes -/

/-- Dark with every wake source enabled and a timer of one second. -/
def darkWake : State := { dark with gl := { dark.gl with wake := 0x00010007 } }

/-- House lane 0 and stage lane 2 active, with credits, the partner's record and no frame waiting. -/
def capsRec : Caps :=
  { verHi := 0x12, verLo := 0x10, rates := 7, role := 1, lane := 0, fwd := false, timeSrc := true, retLim := 20,
    credits := [16, 16, 16, 16, 16, 16], linkId := 5 }
def activeLane : Lane :=
  { state := .active, ver := 0x12, rate := 4, credits := [8, 8, 8, 8, 8, 8], caps := some capsRec, trips := 16 }
def withLanes (a b : Lane) (s : State) : State := { s with ln := { s.ln with lanes := [(0, a), (2, b)] } }
def lanesUp : State := withLanes { activeLane with plan := housePlan } activeLane standby

theorem witness_Resets :
    (1499 < 1500 ∧ Rail.vin12 ≠ .vddSafe ∧ Rail.vin12 ≠ .vddGl ∧ usTicks / 2 ≤ 2000 ∧ belowReset .vin12 7999 = true ∧
      belowReset .vddIo 1100 = true ∧ belowReset .vin12 8000 = false) ∧
    (10 * usTicks ≤ 40000) ∧
    (live standby = true ∧ (0xA5C30001 : W32).getLsbD 0 = true ∧ fld 0xA5C30001 31 16 = 0xA5C3) ∧
    (standby.pwr.inReset = false ∧ dark.pwr.inReset = false ∧ 899 < 900 ∧ 1100 < 1101 ∧ 900 ≤ 1100) ∧
    (inDark darkWake = true ∧ darkWake.gl.wake.getLsbD 0 = true ∧ usTicks ≤ 4000) ∧
    (darkWake.gl.wake.getLsbD 1 = true ∧ msTicks ≤ 4000000) ∧
    (darkWake.gl.wake.getLsbD 2 = true ∧ fld darkWake.gl.wake 31 16 ≠ 0 ∧
      darkWake.gl.darkSince + fld darkWake.gl.wake 31 16 * secTicks ≤ max darkWake.now 4000000000) ∧
    (live lanesUp = true ∧ fromHouse lanesUp 0 = true ∧ resetStatus 0x12 0xFFFFFFFF lanesUp = 0) ∧
    (19999 < 5 * usTicks ∧ 1999 < usTicks / 2) ∧
    (dark.gl.wake.getLsbD 2 = false ∧ ({ dark with gl := { dark.gl with wake := 0 } } : State).gl.wake.getLsbD 0 = false ∧
      ({ dark with gl := { dark.gl with wake := 0 } } : State).gl.wake.getLsbD 1 = false ∧ fld dark.gl.wake 31 16 = 0) ∧
    (resetStatus 0x11 0xFFFFFFFF lanesUp ≠ 0) ∧ (2 ≤ 2 ∧ 2 < 4 ∧ laneTrained lanesUp 2 = true) := by decide +kernel

theorem witness_SoftwareReset :
    live raised = true ∧ ((0xA5C30001 : W32).getLsbD 0 = true ∧ fld 0xA5C30001 31 16 = 0xA5C3) ∧
    ¬ ((0xA5C20001 : W32).getLsbD 0 = true ∧ fld 0xA5C20001 31 16 = 0xA5C3) := by decide +kernel

/-- In reset with RESET_N low and a valid reference. -/
def heldReset : State :=
  { inReset with pwr := { inReset.pwr with rstnLow := true, refValid := true, heldNow := true } }
def longReady : ReleaseObs := { gl := 8000000, rails := 8000000, ref := 2000000, rstn := 8000000 }
def obsGood : RehearsalObs :=
  { clocksLock := true, linkA := true, linkB := true, flymanOk := true, sramOk := true, conv := [], breakdown := ([], []), excitation := [],
    tj2 := 400, auxOffset := [], hotCounts := [], skew := [], readbackOk := true, loopback := [] }

theorem witness_ResetHeldAndRelease :
    (heldReset.pwr.inReset = true ∧ heldReset.pwr.rstnLow = true ∧ 5000 < 5001) ∧
    releaseReady (begin 0 heldReset) longReady = true ∧ heldReset.pwr.heldNow = true ∧
    supplyCond { heldReset with th := { heldReset.th with supLive := 1 } } = true ∧
    releaseReady (begin 0 { heldReset with th := { heldReset.th with supLive := 1 } }) longReady = true := by decide +kernel

/-- Released, with what dress rehearsal will find. -/
def released (o : RehearsalObs) (strap : Nat) : State :=
  { standby with rh := { standby.rh with obs := some o }, cb := { standby.cb with strap := strap }
                 d2d := { standby.d2d with a := { up := true } } }

/-- Dress rehearsal has completed `n` steps. -/
def midRehearsal (n : Nat) : State :=
  let s := released { obsGood with hotCounts := [(5, [9])] } 0
  { s with rh := { s.rh with steps := n } }

theorem witness_DressRehearsal :
    (live (released obsGood 0) = true ∧ (released obsGood 0).rh.obs = some obsGood ∧ (released obsGood 0).rh.steps ≤ 4 ∧
      (released obsGood 0).pwr.releasedAt + 29 * msTicks ≤ max (released obsGood 0).now (29 * msTicks)) ∧
    ({ obsGood with clocksLock := false }.clocksLock = false) ∧
    (obsGood.clocksLock = true ∧ linkCount (released obsGood 2) ≠ 0 ∧ { obsGood with flymanOk := false }.flymanOk = false) ∧
    (released obsGood 2).cb.strap = 2 ∧ (released obsGood 0).cb.strap = 0 ∧
    (2 < 4 ∧ (midRehearsal 2).rh.steps = 2 ∧ (midRehearsal 2).rh.obs = some { obsGood with hotCounts := [(5, [9])] } ∧
      (midRehearsal 2).pwr.releasedAt + rehearsalEnds 2 * usTicks ≤ max (midRehearsal 2).now (26000 * usTicks) ∧
      max (midRehearsal 2).now (26000 * usTicks) < (midRehearsal 2).pwr.releasedAt + rehearsalEnds 3 * usTicks) ∧
    (4 < (midRehearsal 5).rh.steps ∧
      max (midRehearsal 2).now (26000 * usTicks - 1) < (midRehearsal 2).pwr.releasedAt + rehearsalEnds 2 * usTicks) := by
  decide +kernel

theorem witness_Clocks :
    (inReset.pwr.inReset = true ∧ inReset.pwr.refValid = false ∧ inReset.pwr.sysTried = false) ∧
    (({ inReset with pwr := { inReset.pwr with sysTried := true } } : State).pwr.sysTried = true) ∧
    (live standby = true ∧ 40 * 1000 < 100 * ((5401 : Int) - 5 * 1000).natAbs) ∧
    (100 * ((5400 : Int) - 5 * 1000).natAbs ≤ 40 * 1000) ∧ usTicks / 2 ≤ 2000 ∧ 15999 < 16000 := by decide +kernel

/-- The entry to Show is scheduled for 32 µs. -/
def showSet : State := { loaded with pwr := { loaded.pwr with showAt := some 32 } }

theorem witness_Modes :
    (inStandby standby = true ∧ standby.img.load = none ∧ refuseShow standby ≠ 0) ∧
    (inStandby loaded = true ∧ loaded.img.load = none ∧ refuseShow loaded = 0) ∧
    (standby.img.active = none) ∧
    (loaded.img.active ≠ none ∧ ({ loaded with rh := { loaded.rh with drPass := false } } : State).rh.drPass = false) ∧
    (loaded.rh.drPass = true ∧ ({ loaded with th := { loaded.th with shutdown := true } } : State).th.shutdown = true) ∧
    (({ loaded with pwr := { loaded.pwr with showAt := some 32 } } : State).pwr.showAt = some 32 ∧
      32 ≤ tbUs (begin (32 * usTicks) loaded)) ∧
    (loaded.img.active = some image ∧ loaded.pwr.showAt = none ∧ lcState loaded = 1 ∧
      lcState { loaded with gl := { loaded.gl with fieldOpened := true } } = 2) ∧
    (refuseShow { showSet with th := { showSet.th with shutdown := true } } ≠ 0 ∧ showSet.pwr.showAt = some 32 ∧
      refuseShow showSet = 0 ∧ showSet.pwr.showAt.all (fun m => decide (tbUs (begin (32 * usTicks - 1) showSet) < m)) = true) ∧
    (inShow raised = true ∧ live raised = true) ∧
    (live dark = false ∧ 7 < 8 ∧ dark.gl.sinLevel.getLsbD 7 ≠ (true && !dark.th.railLow.getLsbD 1) ∧
      dark.gl.sinLevel.getLsbD 7 = (true && !(2 : BitVec 7).getLsbD 1)) := by decide +kernel

/-! ### The stage door -/

/-- The door's refusal period over, a device key, a password, and OTP slot 1 programmed. -/
def doorReady : State :=
  { standby with door := { standby.door with waitUntil := 0 }
                 otp := { standby.otp with password := some 5, devKey := some 6, keys := [(1, { hash := some 9 })] } }
/-- A challenge with scope `k` has been issued, and the password stands in PWR_DOOR_RESP. -/
def challenged (k : Nat) : State :=
  { doorReady with door := { doorReady.door with
      chal := List.replicate 32 0, chalScope := k, chalAt := some 0, resp := [(3, 0x05000000)] } }
/-- Field-Opened with scope OTP. -/
def doorOpenOtp : State :=
  { doorReady with gl := { doorReady.gl with fieldOpened := true }, door := { doorReady.door with scope := 4 }
                   img := { doorReady.img with keySlot := some 1, auth := true } }

theorem witness_DoorShutAndTimers :
    (live standby = true ∧ doorShut (begin 0 standby) = 7) ∧
    (live raised = true ∧ doorShut (begin 0 raised) ≠ 0 ∧ raised.door.zeroised = false ∧ rwsOpen raised = false) ∧
    (({ standby with door := { standby.door with zeroised := true } } : State).door.zeroised = true) ∧
    ((challenged 4).door.chalAt = some 0 ∧ 0 + 60 * secTicks ≤ max (challenged 4).now (60 * secTicks)) ∧
    (max (challenged 4).now (60 * secTicks - 1) < 0 + 60 * secTicks) ∧
    (standby.door.waitUntil ≤ max standby.now 40000000000) := by decide +kernel

theorem witness_DoorUnlock :
    (doorShut (begin 0 doorReady) = 0 ∧ lcState doorReady = 1 ∧ challengeValid (begin 0 doorReady) = false) ∧
    (doorShut (begin 0 (challenged 2)) = 0 ∧ lcState (challenged 2) = 1 ∧ challengeValid (begin 0 (challenged 2)) = true ∧
      passwordMatches (challenged 2) = true ∧ (challenged 2).door.chalScope / 2 % 2 = 1) ∧
    (keyMatches (challenged 4) = false ∧ passwordMatches (challenged 4) = true ∧
      (challenged 4).door.chalScope / 2 % 2 = 0 ∧ challengeValid (begin 0 (challenged 4)) = true) := by decide +kernel

theorem witness_DoorOtp :
    (doorShut (begin 0 doorOpenOtp) = 0 ∧ lcState doorOpenOtp = 2 ∧ otpScope doorOpenOtp = true) ∧
    (0 < 4 ∧ (doorOpenOtp.otp.keys.get {} 0).hash = none ∧ (doorOpenOtp.otp.keys.get {} 0).spent = false) ∧
    (1 < 4 ∧ doorOpenOtp.img.keySlot = some 1 ∧ doorOpenOtp.img.keySlot ≠ some 3 ∧
      (doorOpenOtp.otp.keys.get {} 1).revokeSpent = false ∧ doorOpenOtp.otp.retireSpent = false) ∧
    ((({ revokeSpent := true } : KeySlot).revokeSpent = true) ∧ ({ doorOpenOtp.otp with retireSpent := true }).retireSpent = true) ∧
    (lcState standby = 1 ∧ lcState { standby with otp := { standby.otp with lifecycle := .opened } } = 0) ∧
    (doorShut (begin 0 doorReady) = 0 ∧ otpScope doorReady = false) := by decide +kernel

/-! ### The image loader -/

def job (patch : Bool) : LoadJob := { patch := patch, bytes := [], src := 0, copy := 3 }
/-- Staging the patch area. -/
def patchKind : State := { standby with img := { standby.img with kind := true } }
/-- A load is being checked. -/
def checking (patch : Bool) (s : State) : State := { s with img := { s.img with load := some (job patch), stagedLen := 4 } }
def noPatch : Patch := { profiles := none, fsets := none, rej := none, scene := none, templates := none, triggers := none, hk := none }
def patchWaiting : State := { loaded with img := { loaded.img with pending := some { patch := noPatch, applied := false } } }
def fetchingBoot : State := { standby with img := { standby.img with fetching := some 1 } }

theorem witness_LoadWindowAndControl :
    (live standby = true ∧ standby.img.load = none ∧ standby.img.kind = false) ∧
    (live patchKind = true ∧ patchKind.img.load = none ∧ patchKind.img.kind = true ∧ 65532 % 0x100000 < 65536) ∧
    (65536 ≤ 65536 % 0x100000 ∧ (checking false standby).img.load ≠ none) ∧ BuffersSound standby ∧ BuffersSound patchKind := by
  refine ⟨by decide +kernel, by decide +kernel, by decide +kernel, ?_, ?_⟩ <;> unfold BuffersSound <;> decide +kernel

theorem witness_LoaderEnds :
    ((checking true standby).img.load = some (job true) ∧ { job true with first := 0x12 }.first ≠ 0) ∧
    (let s := { standby with img := { standby.img with sceneAt := some 0 } }
     s.img.sceneAt.any (fun x => coreCycle x == coreCycle (max s.now 3)) = true ∧
       s.img.sceneAt.any (fun x => coreCycle x == coreCycle (max s.now 4)) = false) ∧
    ((checking false raised).img.load = some (job false) ∧ (job false).patch = false ∧ (job false).first ≤ 1 ∧ rwsOpen (checking false raised) = false ∧
      live (checking false raised) = true) ∧
    ((checking true patchWaiting).img.load = some (job true) ∧ (job true).patch = true ∧
      (checking true patchWaiting).img.pending ≠ none) ∧
    (fetchingBoot.img.load = none ∧ fetchingBoot.img.fetching = some 1 ∧ (fetchLength []).getD 16 ≤ 2097152) ∧
    (2097152 < (fetchLength (leBytes 4 0x4B4C4247 ++ List.replicate 12 0 ++ leBytes 4 2097153)).getD 16) ∧
    (patchWaiting.img.pending ≠ none ∧ standby.img.pending = none) := by
  decide +kernel

/-! ### Emission -/

/-- Show with the emitter supply off and nothing that keeps it off. -/
def mayClose : State := { onStage with bat := { onStage.bat with hold := false } }
/-- Show with the supply on and the switches closed for a long time. -/
def supplied : State := { mayClose with now := 4000000, bat := { mayClose.bat with lsCmd := true, hsCmd := true, emCmd := true } }
def place : Place := { batten := 3, handle := 1, cls := 2, kind := 1, occ := 0, point := 0, act := 1, idx := 0, reserve := false }
/-- A shot of batten 3 is due at tick 100. -/
def shotDue : State := { supplied with bat := { supplied.bat with due := [(place, 100)] } }
def skewing : State := { standby with cal := { standby.cal with skewRun := true } }
/-- The same for an emission-only shot of kind 4. -/
def emitDue (em : Bool) : State :=
  { supplied with bat := { supplied.bat with emCmd := em, due := [({ place with kind := 4 }, 100)] } }
def listenPlace : Place := { place with batten := 0, handle := 4096, kind := 0, idx := 1 }
def openPoint : Point :=
  { handle := 4096, profileIdx := 0, state := 1
    prof := { shots1 := 32, phaseReps := 2, maxCand := 4, fset := 3, coincK := 3, coincWin := 8, apHold := 0, ringHold := 16,
              gateStart := 4, gateLen := 2535, preshowOfs := -64, preshowLen := 48, candThr := 1024 }
    fset := { setId := 3, coefs := [0x40000] }, taps := [], edelay := 0, skew := 0, ptCfg := 0, escCfg := 0, rejCfg := 0
    batten := 0, safetyCls := false }
def firedOne : Fired := { batten := 0, time := 50, cue := none }
/-- The pulse of batten 0 is still to be sensed. -/
def pulseOut : State := { supplied with bat := { supplied.bat with fired := [firedOne] } }
/-- The same with the short window one unit below its limit of 1,600. -/
def nearLimit : State := { pulseOut with bat := { pulseOut.bat with ch := [(0, { ringS := [1590] })] } }
/-- Batten 5 reached a limit in the same update. -/
def joining : State :=
  { nearLimit with bat := { nearLimit.bat with govTrip := true, tripAt := 4000000, tripBat := 5 } }
def leaking : State := { supplied with bat := { supplied.bat with ch := [(3, { leakRun := 1 })] } }
def disagreeing : State := { supplied with bat := { supplied.bat with disagree := some 0 } }
/-- A closing sequence since tick 0, with what its inputs read in steps 2 and 4. -/
def closingAs (a b c : Nat) : State :=
  { mayClose with bat := { mayClose.bat with
      lsCmd := true, closing := some { since := 0, low30 := a, low31 := b, top30 := c } } }

theorem witness_EmitterSupply :
    (live mayClose = true ∧ standby.bat.hold = true ∧ standby.bat.holdSince + secTicks ≤ max standby.now secTicks) ∧
    (closeReady mayClose = true ∧ (below25 0 && above75 16383) = true ∧ (below25 16383 && above75 16383) = false) ∧
    closeReady supplied = false ∧
    (live (closingAs 0 0 0) = true ∧ (closingAs 0 0 0).bat.closing = some { since := 0, low30 := 0, low31 := 0, top30 := 0 } ∧
      (closingAs 0 0 0).bat.hsCmd = false ∧ (closingAs 0 0 0).bat.disagree = none ∧
      max (closingAs 0 0 0).now 399999 < 0 + 100 * usTicks) ∧
    (0 + 100 * usTicks ≤ max (closingAs 0 0 0).now 400000 ∧ max (closingAs 0 0 0).now 799999 < 0 + 200 * usTicks ∧
      0 + 200 * usTicks ≤ max (closingAs 0 0 0).now 800000) ∧
    ((below25 16383 && below25 0) = false ∧ (below25 0 && below25 0) = true ∧ above75 16383 = true ∧ above75 0 = false) ∧
    (disagreeing.bat.closing = none ∧ supplied.bat.closing = none ∧ disagreeing.bat.disagree = some 0 ∧ 0 + 100 * usTicks < max disagreeing.now 0 ∧
      disagreeing.bat.cmdAt + 100 * usTicks < max disagreeing.now 0) ∧ readbackAgrees supplied 16383 0 = true := by decide +kernel

/-- A point of channel 0 in act one, before shot 1 of its batten, in a ranging cue of entry 0. -/
def ranging : State :=
  { supplied with
    img := { supplied.img with active := some { image with
      nodes := [{ kind := 3, index := 0, first := 0 }, { kind := 1, index := 0, first := 0 }] } }
    pwr := { supplied.pwr with tpll := true }, rx := { supplied.rx with biasOk := true }
    sm := { supplied.sm with cues := [(0, { state := 3, cue := { cueRec with kind := 0, node := 1 }
                                            source := .template, gen := 1, players := [1] })] }
    hist := { supplied.hist with chan := [(0, { cur := [openPoint] })] }
    bat := { supplied.bat with due := [(listenPlace, 100)] } }

theorem witness_SlotsAndShots_listening :
    (live ranging = true ∧ 0 < 64 ∧ dueShot (begin 0 ranging) 0 = some (listenPlace, 100) ∧ listenPlace.act = 1 ∧
      listenPlace.idx ≠ 0 ∧ 0 < 1536 ∧ 0 ∈ placeChannels (begin 0 ranging) listenPlace) ∧
    (curPoint ranging 0 listenPlace.handle = some openPoint ∧ ranging.rx.biasOk = true ∧ ranging.pwr.tpll = true ∧
      (getChan ranging 0).gateLost = false ∧ openPoint.prof.coincK ≤ unmasked ranging 0 ∧
      (getChan ranging 0).early.contains (listenPlace.batten, 100) = false) := by decide +kernel

theorem witness_SlotsAndShots :
    (slotDue (begin 4000000 supplied) = true ∧ supplied.bat.closing = none ∧ supplied.bat.closed = false ∧
      supplied.bat.ch.find 3 = none) ∧
    (slotDue (begin 4000000 { supplied with bat := { supplied.bat with closed := true } }) = true) ∧
    (slotDue (begin 4000000 leaking) = true ∧ leaking.bat.ch = [(3, { leakRun := 1 })] ∧
      ({ leakRun := 1 } : Batten).faultWait = false) ∧
    (dueShot (begin 0 (emitDue true)) 3 = some ({ place with kind := 4 }, 100) ∧ (emitDue true).bat.emCmd = true ∧
      (emitDue true).bat.phLock = false ∧ placeChannels (begin 0 (emitDue true)) { place with kind := 4 } = []) ∧
    (dueShot (begin 0 (emitDue false)) 3 = some ({ place with kind := 4 }, 100) ∧ (emitDue false).bat.emCmd = false) ∧
    (({ emitDue true with bat := { (emitDue true).bat with phLock := true } } : State).bat.phLock = true) ∧
    (live shotDue = true ∧ 3 < 64 ∧ dueShot (begin 0 shotDue) 3 = some (place, 100)) ∧
    (workLightOn skewing 16 = true ∧ workLightOn skewing 0 = true) ∧
    (dueShot (begin 0 shotDue) 4 = none) := by decide +kernel

theorem witness_CurrentSenseAndGovernor :
    (live pulseOut = true ∧ pulseOut.bat.fired.find? (fun x => x.batten == 0) = some firedOne ∧
      firedOne.readyAt ≤ max pulseOut.now 0 ∧ overThr pulseOut ≤ 200 ∧
      (getBatten pulseOut 0).overCur = false ∧ openThr pulseOut ≤ 10) ∧
    (pulseOut.bat.fired.find? (fun x => x.batten == 1) = none) ∧
    (∀ f, ({ pulseOut with now := 0 } : State).bat.fired.find? (fun x => x.batten == 0) = some f →
      max ({ pulseOut with now := 0 } : State).now 209 < f.readyAt) ∧
    (offDue (begin 0 leaking) = false ∧
      offDue (begin 0 { leaking with bat := { leaking.bat with slot := 1 } }) = true ∧ 3 < 64 ∧ leakThr leaking < 51 ∧ 1 ≤ (getBatten leaking 3).leakRun ∧
      (getBatten leaking 3).short = false ∧ 50 ≤ leakThr leaking) ∧
    (nearLimit.bat.govTrip = false ∧ govLimit nearLimit 0 0 = some 1600 ∧
      1600 ≤ ringSum (ringAdd (getBatten nearLimit 0).ringS (min 10 65535)) 32) ∧
    (joining.bat.govTrip = true ∧ joining.bat.tripAt = max joining.now 0 ∧ joining.bat.tripBat ≠ 0 ∧
      govLimit joining 0 0 = some 1600 ∧ joining.bat.fired.find? (fun x => x.batten == 0) = some firedOne) ∧
    (bucketDue (begin 40000 standby) 0 = true ∧ bucketDue (begin 0 standby) 3 = false) := by decide +kernel

theorem witness_DriveLevels : live loaded = true ∧ 0 < 64 ∧ batRec loaded 0 = image.battens[0]? := by decide +kernel

/-- Standby with batten 0 over its short window. -/
def overWindow : State := { loaded with bat := { loaded.bat with govTrip := true, ch := [(0, { ringS := [1600] })] } }

theorem witness_FaultClears :
    (rwsOpen standby = true ∧ ∀ b < 64, ∀ w < 3, overLimit standby b w = false) ∧
    (rwsOpen overWindow = true ∧ 0 < 64 ∧ 0 < 3 ∧ overLimit overWindow 0 0 = true) ∧
    (live raised = true ∧ rwsOpen raised = false) := by decide +kernel

/-- The shot of a channel: segments of ticks 0 to 99 and 200 to 299, a ring hold of 10 ticks and a blanked interval. -/
def shotRec : Shot :=
  { batten := 0, handle := 1, act := 1, idx := 0, phase := 0, coarse := false, launched := true, workLight := false
    safetyCls := false, start := 1000, startTb := 1000, preOfs := -100, preLen := 50, k := 1, win := 8, hold := 10, apHold := 0
    segs := [(0, 100), (200, 100)], blanks := [(40, 49)], interval := some (.segment 0), detector := [], preCnt := 0
    wref := false }
def listening : State := { supplied with now := 0, rx := { supplied.rx with chan := [(5, { shot := some shotRec })] } }
def locked : State := { standby with bat := { standby.bat with phLock := true }, pwr := { standby.pwr with tpll := true } }

theorem witness_Locks :
    (live standby = true ∧ ({ locked with bat := standby.bat } : State).bat.phLock = false ∧ locked.pwr.tpll = true ∧ 4096 ≤ 4096) ∧
    (locked.bat.phLock = true ∧ 4 ≤ 4 ∧ 3 < 4) ∧
    (standby.pwr.releasedAt + 16 * msTicks ≤ max standby.now 64000000 ∧ standby.cal.bdRun = false) ∧
    (({ standby with cal := { standby.cal with bdRun := true } } : State).cal.bdRun = true) ∧
    (calibrating standby = true ∧ calibrating { onStage with cal := { onStage.cal with auto := false } } = false) ∧ 1551 < 1552 := by decide +kernel

/-! ### Receive channels -/

/-- SPAD 2 of channel 5 is masked and SPAD 3 blind until tick 1,050. -/
def maskedSpad : State :=
  { listening with rx := { listening.rx with mask := [(5, 4)]
                                             chan := [(5, { shot := some shotRec, blind := [(3, 1050 * 1024)] })] } }

theorem witness_ShotResults :
    (live listening = true ∧ (getChan listening 5).shot = some shotRec ∧ shotRec.counter (max listening.now 1000) = 0 ∧
      isReference 5 = false) ∧
    (segmentOf shotRec.segs (shotRec.counter (max listening.now 1200)) = some 1 ∧ shotRec.touches 1 = false) ∧
    (shotRec.counter (max listening.now 1010) = shotRec.hold) ∧
    ((40, 49) ∈ shotRec.blanks ∧ shotRec.counter (max listening.now 1050) = ((49 : Nat) : Int) + 1) ∧
    ((shotRec.lastTick : Int) < shotRec.counter (max listening.now 1300)) ∧
    (2 < 16 ∧ 5 < 1552 ∧ (maskOf maskedSpad 5).getLsbD 2 = true) ∧
    (3 < 16 ∧ 1024 * max maskedSpad.now 1049 + 1023 % 1024 < (getChan maskedSpad 5).blind.get 0 3) ∧
    ((maskOf listening 5).getLsbD 15 = false ∧ (getChan listening 5).blind.get 0 15 ≤ 1024 * max listening.now 1010 + 0 % 1024 ∧
      shotRec.interval = some (.segment 0) ∧ shotRec.k ≤ 1 ∧ 0 < shotRec.counter (max listening.now 1010) ∧
      segmentOf shotRec.segs (shotRec.counter (max listening.now 1010)) = some 0 ∧
      (shotRec.hold : Int) ≤ shotRec.counter (max listening.now 1010) ∧
      shotRec.blankedAt (shotRec.counter (max listening.now 1010)) = false) ∧
    (fld 0x8000060F 10 0 ≤ 1551 ∧ 1551 < fld 0x80000610 10 0) := by decide +kernel

/-- The same shot asks for 3 SPADs within 8 half-ticks; `d` are the events so far. -/
def coincShot (d : List (Nat × Nat)) : Shot := { shotRec with k := 3, detector := d }
def coincident (d : List (Nat × Nat)) : State :=
  { supplied with now := 0, rx := { supplied.rx with chan := [(5, { shot := some (coincShot d) })] } }
def nearEvents : List (Nat × Nat) := [(4, 1009 * 1024), (7, 1009 * 1024 + 512)]
def farEvents : List (Nat × Nat) := [(4, 990 * 1024), (7, 1009 * 1024 + 512)]

theorem witness_ShotResults_coincidence :
    (live (coincident nearEvents) = true ∧ (getChan (coincident nearEvents) 5).shot = some (coincShot nearEvents) ∧
      (coincShot nearEvents).interval = some (.segment 0) ∧ 1 < (coincShot nearEvents).k ∧
      0 < (coincShot nearEvents).counter (max (coincident nearEvents).now 1010) ∧
      segmentOf shotRec.segs (shotRec.counter (max (coincident nearEvents).now 1010)) = some 0 ∧
      (shotRec.hold : Int) ≤ shotRec.counter (max (coincident nearEvents).now 1010) ∧
      shotRec.blankedAt (shotRec.counter (max (coincident nearEvents).now 1010)) = false ∧
      (getChan (coincident nearEvents) 5).blind.get 0 2 ≤ 1024 * 1010) ∧
    (eventSpan (takeEvent [] 2 (1024 * 1010)) 3 = none) ∧
    (eventSpan (takeEvent nearEvents 2 (1024 * 1010)) 3 = some 1024 ∧ 1024 + 256 ≤ 512 * (coincShot nearEvents).win) ∧
    (eventSpan (takeEvent farEvents 2 (1024 * 1010)) 3 = some 20480 ∧
      512 * (coincShot farEvents).win + 256 ≤ 20480) := by decide +kernel

/-! ### Points -/

def result : ShotResult :=
  { word := 0, batten := 0, handle := 1, act := 1, idx := 0, phase := 0, coarse := false, launched := true, workLight := false
    safetyCls := false, start := 1000, blanked := [] }
def resultWaits : State := { supplied with rx := { supplied.rx with chan := [(5, { results := [result] })] } }
/-- Engine 0 runs and is free; a point waits. -/
def pointWaits : State :=
  { supplied with hist := { supplied.hist with engines := [(0, { stopped := false })], waiting := [(9, 5, 1)] } }
def engineBusy : State :=
  { supplied with hist := { supplied.hist with engines := [(0, { stopped := false, busy := some (5, 1) })], feStop := 1 } }
def engineStopping : State := { supplied with hist := { supplied.hist with engines := [(0, { stopped := false })], feStop := 1 } }
def fitReady : State := { supplied with rej := { supplied.rej with fits := [[(0, { state := 1 })]] } }
/-- The same, with trains to fit. -/
def fitting : RejParams := { noRej with ftaTrains := 2 }
def gated : State := { supplied with img := { supplied.img with active := some { image with rej := fitting } } }

/-- A stop at tick 100 of segment 0. -/
def stopResult : ShotResult := { result with word := resultWord 5 shotRec outStop 0 100, handle := 4096 }
def windowRec : Window := { w0 := 96, bins := [(129, 7), (130, 3)] }
/-- The point of `stopResult` in act two, over one window. -/
def twoPoint : Point := { openPoint with state := 2, windows := [windowRec] }
/-- Channel 5 has `stopResult` of act `n` to take, of point `p`. -/
def taking (n : Nat) (p : Point) : State :=
  { supplied with rx := { supplied.rx with chan := [(5, { results := [{ stopResult with act := n }] })] }
                  hist := { supplied.hist with chan := [(5, { cur := [p] })] } }

theorem witness_PointEngines_one :
    (live (taking 1 openPoint) = true ∧ 5 < 1536 ∧ (getChan (taking 1 openPoint) 5).results = [{ stopResult with act := 1 }]) ∧
    (stopResult.workLight = false ∧ curPoint (taking 1 openPoint) 5 stopResult.handle = some openPoint ∧ openPoint.state = 1 ∧
      openPoint.shotsDone + 1 < openPoint.prof.shots1) := by decide +kernel

theorem witness_PointEngines_two :
    ((getChan (taking 2 twoPoint) 5).results = [{ stopResult with act := 2 }] ∧ twoPoint.state = 2 ∧
      curPoint (taking 2 twoPoint) 5 stopResult.handle = some twoPoint ∧ twoPoint.shotsDone + 1 < twoPoint.shots2) := by
  decide +kernel

theorem witness_PointEngines_stop :
    wordOutcome stopResult.word = outStop ∧ wordStop stopResult.word = 100 ∧ (100 - openPoint.prof.gateStart) / 8 < 1024 ∧
      1024 ≤ (8196 - openPoint.prof.gateStart) / 8 ∧ twoPoint.windows[0]? = some windowRec ∧ twoPoint.overrun = false ∧
      windowRec.w0 ≤ 100 ∧ 100 < windowRec.w0 + 8 := by decide +kernel

/-- A point that engine 0 forms, and its cue of two points, one of which it is. -/
def formedPoint (w : W32) : Point :=
  { twoPoint with engine := some 0, state := 3, ptCfg := w, shotsDone := 64, windows := [{ windowRec with c1 := 5, c2 := 5 }] }
def pointCue : CueEntry :=
  { gen := 1, state := 3, cue := { cueRec with kind := 0, node := 1, hqueue := 3 }, source := .template, players := [1], left := [(5, 2)] }
def forming (w : W32) : State :=
  { supplied with
    img := { supplied.img with active := some { image with
      queues := image.queues ++ [{ queue := 3, maxItem := 64, consumer := 0, quota := 64, pack := 0, context := 0, producer := 0xFFFF, slane := 0 }] } }
    sm := { supplied.sm with cues := [(0, pointCue)] }
    hist := { supplied.hist with engines := [(0, { stopped := false, busy := some (5, 4096) })]
                                 chan := [(5, { forming := [formedPoint w], held := [0] })] } }

theorem witness_PointEngines_formed :
    live (forming 0) = true ∧ ((forming 0).hist.engines.get {} 0).busy = some (5, 4096) ∧
      (getHist (forming 0) 5).forming.find? (fun x => x.engine == some 0) = some (formedPoint 0) ∧
      findCue (forming 0) (formedPoint 0).handle = some pointCue ∧ pointCue.state ≠ 4 ∧ 2 ≤ pointCue.left.get 0 5 ∧
      (formedPoint 0).overrun = false ∧ (forming 0).img.feWait.getLsbD 0 = false ∧ (formedPoint 0).sets = [] ∧
      (forming 0).wq.used.Pairwise (fun a b => a < b) ∧ (forming 0).wq.pool.wf = true := by decide +kernel

theorem witness_PointEngines_returns :
    (∀ f ∈ formAll (formedPoint 0), escaped (formedPoint 0) f.1 f.2 = false) ∧ fld (formedPoint 0).ptCfg 17 16 = 0 ∧
      (formAll (formedPoint 0)).filterMap (fun f => returnOf (formedPoint 0) f.1 f.2) ≠ [] := by decide +kernel

theorem witness_PointEngines_empty :
    (∀ f ∈ formAll (formedPoint 0xFF000000), escaped (formedPoint 0xFF000000) f.1 f.2 = false) ∧
      fld (formedPoint 0xFF000000).ptCfg 17 16 = 0 ∧ flag (formedPoint 0xFF000000).ptCfg 8 = false ∧
      (formAll (formedPoint 0xFF000000)).filterMap (fun f => returnOf (formedPoint 0xFF000000) f.1 f.2) = [] := by decide +kernel

theorem witness_PointEngines_histogram :
    fld (formedPoint 0xFF010000).ptCfg 17 16 = 1 ∧ pointCue.cue.hqueue ≠ 0xFFFF ∧
      (queueRec (forming 0) pointCue.cue.hqueue).any (fun r => decide (r.consumer ≠ 4 ∧ 50 ≤ r.maxItem ∧
        (getQueue (forming 0) pointCue.cue.hqueue).occupancy + 50 ≤ r.quota)) = true ∧
      (queueRec (forming 0) pointCue.cue.queue).any (fun r => decide (r.consumer ≠ 4 ∧ 1 ≤ r.maxItem ∧
        (getQueue (forming 0) pointCue.cue.queue).occupancy + 1 ≤ r.quota)) = true := by decide +kernel

theorem witness_PointEngines_record :
    (formAll (formedPoint 0xFF010000)).filterMap (fun f => returnOf (formedPoint 0xFF010000) f.1 f.2) = [] ∧
      ceilDiv (histogramRecord 5 (formedPoint 0xFF010000) 1 (formAll (formedPoint 0xFF010000))).length 64 ≤ 50 := by
  decide +kernel

/-- The functions that the filter statement quantifies over, for a point and a window. -/
theorem witness_PointEngines_filter (p : Point) (x : Window) : ∃ (y lo hi : Nat → Int) (sum : (Int → Int) → Int),
    (∀ n, y n = clampInt (-(2 ^ 31)) (2 ^ 31 - 1) (Int.fdiv (sumInt ((List.range p.fset.coefs.length).map (fun (i : Nat) =>
      let b : Int := n + i - ((p.fset.coefs.length - 1) / 2 : Nat)
      p.fset.coefs.getD i 0 * (if 0 ≤ b ∧ b < 256 then 256 * (x.bins.get 0 b.toNat : Int) - p.amb2 else 0)))) (2 ^ 18))) ∧
    (∀ n, lo n = max 0 ((n : Int) - fld p.ptCfg 6 0)) ∧ (∀ n, hi n = min 255 ((n : Int) + fld p.ptCfg 6 0)) ∧
    (∀ f, sum f = sumInt ((List.range 256).map (fun b =>
      if lo (formWindow p 0 x).peak ≤ b ∧ (b : Int) ≤ hi (formWindow p 0 x).peak then f b else 0))) :=
  ⟨_, _, _, _, fun _ => rfl, fun _ => rfl, fun _ => rfl, fun _ => rfl⟩

theorem witness_PointEngines :
    (live resultWaits = true ∧ (getChan resultWaits 5).results = [result]) ∧
    (pointWaits.hist.waiting = [(9, 5, 1)] ∧ freeEngine pointWaits = some 0) ∧
    ((engineBusy.hist.engines.get {} 0).busy = some (5, 1) ∧ engineBusy.hist.feStop.getLsbD 0 = true) ∧
    (engineStopping.hist.feStop.getLsbD 0 = true ∧ (engineStopping.hist.engines.get {} 0).busy = none ∧ 7 < 8) ∧
    (rejParams supplied = some noRej ∧ gateDue (begin 400000000 supplied) noRej = true ∧ gateDue (begin 0 supplied) noRej = false) ∧
    (0 < gateTicks noRej ∧ noRej.ftaTrains = 0 ∧ rejParams gated = some fitting ∧ fitting.ftaTrains ≠ 0 ∧
      gateDue (begin 400000000 gated) fitting = true) ∧
    (fitReady.rej.fits = [(0, { state := 1 })] :: [] ∧ supplied.rej.fits = []) := by decide +kernel

/-! ### Calibration and rehearsal -/

/-- The positions that an even run gives: 1,024 counts per tap. -/
def evenCounts : List Nat := List.replicate 32 32768
def tapRunning (f : Option (List Int)) : State := { standby with cal := { standby.cal with tapRun := true, tapFirst := f } }
def searching : State := { standby with cal := { standby.cal with bdRun := true } }
def blindEntry : State := { standby with cal := { standby.cal with entries := [(64, { coarse := List.replicate 32 none }), (0, { state := 3 })] } }

/-- House lane 0 has taken its first eye measurement. -/
def eyeSeen : State := withLanes { activeLane with plan := housePlan, eyeAt := some 8 } activeLane standby

theorem witness_CalibrationRunsAndUpdates :
    (live standby = true ∧ inStandby standby = true ∧ inStandby onStage = false ∧ live onStage = true) ∧
    (tapRecalDue (begin 240000000000 onStage) = true ∧ tapRecalDue (begin 0 onStage) = false) ∧
    (64 ≤ 64 ∧ 64 < 1616 ∧ (blindEntry.cal.entries.get {} 64).blind = true) ∧
    (0 < 64 ∧ remeasureDue (begin 0 blindEntry) 0 = true) ∧
    (biasDue (begin 40000000 standby) = true ∧ (standby.th.spots.get {} 2).broken = false) ∧
    (0 < 4 ∧ (getLane lanesUp 0).state = .active ∧ (getLane lanesUp 0).eyeAt = none ∧
      [30, 10, 20].length = (if (getLane lanesUp 0).rate = 0 then 1 else 3) ∧ 10 ∈ [30, 10, 20] ∧ (∀ x ∈ [30, 10, 20], 10 ≤ x)) ∧
    ((getLane eyeSeen 0).eyeAt = some 8 ∧ (getLane eyeSeen 0).since ≤ 8 ∧
      max eyeSeen.now (8 + 100 * msTicks - 1) < 8 + 100 * msTicks ∧ 8 + 100 * msTicks ≤ max eyeSeen.now (8 + 100 * msTicks)) ∧
    (calibrating { onStage with cal := { onStage.cal with auto := false } } = false) := by decide +kernel

theorem witness_CalibrationJudged :
    ((tapRunning none).cal.tapRun = true ∧ (tapRunning none).cal.tapFirst = none ∧ live (tapRunning none) = true) ∧
    ((tapRunning (some [])).cal.tapFirst = some [] ∧ tapsPlausible (tapsOfCounts [40000]) = false) ∧
    ((tapRunning (some (tapsOfCounts evenCounts))).cal.tapFirst = some (tapsOfCounts evenCounts) ∧
      tapsPlausible (tapsOfCounts evenCounts) = true ∧ (tapRunning none).fs.sceneRun = false) ∧
    (searching.cal.bdRun = true ∧ searching.cal.bdFirst = none) ∧
    (1 < 61 ∧ [12415, 12416][1]? = some 12416 ∧ unmaskedSpads searching ≤ 2 * 12416 ∧ 2 * 12415 < unmaskedSpads searching) := by
  decide +kernel

def rehearsed : State := { loaded with rh := { loaded.rh with kinds := [] } }
def slicing (k i : Nat) : State := { loaded with rh := { loaded.rh with kinds := [(k, { running := some i })] } }

/-- The same after a first failure of the instance, where half of the counted work-light shots stopped. -/
def slicedTwice (k i : Nat) : State :=
  { loaded with rh := { loaded.rh with kinds := [(k, { running := some i, fails := [(i, 1)] })], tally := [(0, (80, 40))] } }
def goodCodes : ConvCodes := { c0 := 0, c25 := 4096, c75 := 12287, c100 := 16383 }

theorem witness_RehearsalSlices_ends :
    (∀ k < 5, (getKind (slicing k 1) k).running = some 1 ∧ sliceOver (begin 0 (slicing k 1)) k 1 = false ∧
      sliceOver (begin (10 * secTicks) (slicing k 1)) k 1 = true) ∧
    (∀ c ∈ sliceChannels 0, (chEntry (slicedTwice 0 0) c).any ChEntry.enable = true →
      ((slicedTwice 0 0).rh.tally.get (0, 0) c).1 ≤ 8 * ((slicedTwice 0 0).rh.tally.get (0, 0) c).2) ∧
    (0 ∈ sliceChannels 0 ∧ (chEntry loaded 0).any ChEntry.enable = true ∧ 8 * 9 < 80) ∧
    (convPlausible goodCodes = true ∧ convPlausible { goodCodes with c0 := 65 } = false ∧ convAccepted goodCodes goodCodes = true ∧
      convAccepted goodCodes { goodCodes with c100 := 16378 } = false) ∧
    (currentFar 10 1000000 = false ∧ currentFar 10 1022001 = true) ∧
    (∀ k < 5, 1 ≤ (getKind (slicedTwice k 1) k).fails.get 0 1 ∧ (getKind (slicing k 1) k).fails.get 0 1 = 0) ∧
    (sliceFree (slicing 2 3) 2 0 3 = true ∧ 3 < sliceInstances 2 ∧ calibrating (slicing 1 1) = true) := by decide +kernel

theorem witness_RehearsalSlices :
    (live rehearsed = true ∧ sliceDue (begin 0 rehearsed) 4 0 = true ∧ 4 < 5) ∧
    (sliceDue (begin 0 { rehearsed with rh := { rehearsed.rh with ctrl := 0 } }) 0 0 = false) ∧
    (2 ≤ 2 ∧ (getKind (slicing 2 3) 2).running = some 3 ∧ (getKind (slicing 2 3) 2).fails.get 0 3 = 0) ∧
    ((getKind (slicing 0 3) 0).running = some 3 ∧ 0 ≠ 1) ∧
    (starvedNow (begin (10 * secTicks) rehearsed) 0 15 = true ∧ (getKind rehearsed 0).starved.contains 15 = false) ∧
    (starvedNow (begin 0 rehearsed) 0 15 = false) := by decide +kernel

/-! ### The stage manager -/

def hkCue : CueRec := { cueRec with kind := 4, cls := 2, node := 1, points := 2 }
/-- Show with one submission waiting, from the house port. -/
def submitted (c : CueRec) : State :=
  { onStage with sm := { onStage.sm with entered := 4095, resBusy := true, fifo := [{ cue := c, source := .port .housePort }] } }
/-- A calendar of one record, in one stored block. -/
def calendarBytes : List Byte :=
  leBytes 4 0x5A4C4347 ++ leBytes 4 32 ++ leBytes 4 37 ++ leBytes 4 0 ++ [1, 32, 0, 0xDF, 0xFF] ++ cueBytes hkCue 0
    ++ leBytes 4 (crc32 (cueBytes hkCue 0))
def calendarWaits (bs : List Byte) : State := { lanesUp with pk := { lanesUp.pk with waiting := [(0, bs)] } }
def oldLane : State := withLanes { activeLane with ver := 0x10 } activeLane standby

theorem witness_Submissions :
    (live loaded = true ∧ loaded.sm.resBusy = false ∧ 0 < 1024 ∧ loaded.img.active = some image ∧
      image.templates[0]? = some cueRec) ∧
    ((submitted cueRec).sm.resBusy = true) ∧
    (fromHouse lanesUp 0 = true ∧ 0x11 ≤ (getLane lanesUp 0).ver) ∧
    (fromHouse oldLane 0 = true ∧ (getLane oldLane 0).ver < 0x11) ∧
    ((calendarWaits calendarBytes).pk.waiting = [(0, calendarBytes)] ∧
      (match unwrapCalendar calendarBytes with | .ok cs => decide (cs = [hkCue]) | .error _ => false) = true) ∧
    (match unwrapCalendar [] with | .ok _ => false | .error c => decide (c = 1)) = true := by decide +kernel

def judged (c : CueRec) : CueEntry := entryFor (begin 0 (submitted c)) c (.port .housePort)

theorem witness_Admission :
    (live standby = true ∧ standby.sm.fifo = []) ∧
    (shutOut { submitted cueRec with pwr := standby.pwr } = true) ∧
    ((submitted hkCue).sm.deciding = none ∧ (submitted hkCue).sm.fifo = [{ cue := hkCue, source := .port .housePort }] ∧
      shutOut (submitted hkCue) = false ∧ linkCount (submitted hkCue) ≠ 0 ∧ judge (submitted hkCue) (judged hkCue) = (0, 0) ∧
      (judged hkCue).guests = [] ∧ cueArmed hkCue = false) ∧
    (judge (submitted { hkCue with node := 9 }) (judged { hkCue with node := 9 }) = (2, 0)) ∧
    (judge (submitted { hkCue with flags := 1 }) (judged { hkCue with flags := 1 }) = (0, 0) ∧ cueArmed { hkCue with flags := 1 } = true) := by
  decide +kernel

/-- Whatever entry the accepted cue takes, it is placed two groups ahead, at 32 µs, with no guests. -/
def placedAt (i : Nat) : Bool :=
  let s := submitted hkCue
  let v := tookFree { s with sm := { s.sm with cues := s.sm.cues.set i { judged hkCue with gen := 1, order := 0 }, orders := 1 } }
  match placeFirst (i + 4096) (judged hkCue) v with
  | .ok (w, st) => decide (st = 32) && decide ((findCue w (i + 4096)).map CueEntry.guests = some [])
  | .error _ => false

theorem placed_blocks : ∀ j < 64, ∀ k < 64, placedAt (64 * j + k) = true := by decide +kernel

theorem placed_everywhere (i : Nat) (h : i < 4096) : placedAt i = true := by
  have := placed_blocks (i / 64) (by omega) (i % 64) (by omega)
  rwa [show 64 * (i / 64) + i % 64 = i by omega] at this

theorem witness_Admission_placed :
    ∃ w, placeFirst (enterCue (judged hkCue) (submitted hkCue)).1 (judged hkCue) (enterCue (judged hkCue) (submitted hkCue)).2 = .ok (w, 32) ∧
      (findCue w (enterCue (judged hkCue) (submitted hkCue)).1).map CueEntry.guests = some [] := by
  have hp := placed_everywhere (freeValue (submitted hkCue) % 4096) (Nat.mod_lt _ (by decide))
  have hc : enterCue (judged hkCue) (submitted hkCue) =
      (freeValue (submitted hkCue) % 4096 + 4096, tookFree { submitted hkCue with sm := { (submitted hkCue).sm with
        cues := (submitted hkCue).sm.cues.set (freeValue (submitted hkCue) % 4096) { judged hkCue with gen := 1, order := 0 }, orders := 1 } }) := rfl
  rw [hc]
  unfold placedAt at hp
  revert hp
  dsimp only
  split
  · rename_i w st e
    intro hp
    simp only [Bool.and_eq_true, decide_eq_true_eq] at hp
    exact ⟨w, by rw [e, hp.1], hp.2⟩
  · intro hp; cases hp

/-- Entry 5 holds a cue in state `st`; entry 6 one that has ended. -/
def cueTable (st : Nat) : State :=
  { onStage with sm := { onStage.sm with
      cues := [(5, { state := st, cue := hkCue, source := .template, players := [1] }), (6, { cue := hkCue, source := .template })]
      books := [{ handle := 5, cls := 2, group := 3, res := 29, amount := 1 }] } }

/-- The same table, with a trained house lane. -/
def houseTable (st : Nat) : State := withLanes { activeLane with plan := housePlan } activeLane (cueTable st)

theorem witness_AbortsAndViews :
    (live (cueTable 3) = true ∧ findCue (cueTable 3) (7 % 65536) = none ∧ endedCue (cueTable 3) (7 % 65536) = false) ∧
    (endedCue (cueTable 3) (6 % 65536) = true) ∧
    ((findCue (cueTable 3) (5 % 65536)).map CueEntry.state = some 3) ∧
    ((findCue (cueTable 4) (5 % 65536)).map CueEntry.state = some 4) ∧
    ((cueTable 3).sm.abortDone ≤ max (cueTable 3).now 0 ∧
      max ({ cueTable 3 with sm := { (cueTable 3).sm with abortDone := 8000 } } : State).now 7999 < 8000) ∧
    (fromHouse lanesUp 0 = true ∧ findCue lanesUp (7 % 65536) = none ∧ endedCue lanesUp (7 % 65536) = false) ∧
    (fromHouse (houseTable 3) 0 = true ∧ (findCue (houseTable 3) (5 % 65536)).map CueEntry.state = some 3 ∧
      endedCue (houseTable 3) (6 % 65536) = true ∧ (findCue (houseTable 4) (5 % 65536)).map CueEntry.state = some 4) ∧
    (fromHouse (cueTable 3) 0 = false) ∧
    (({ cueTable 2 with sm := { (cueTable 2).sm with deciding := some (5, .template) } } : State).sm.deciding.any
      (fun d => d.1 == 5 % 65536) = true ∧ (cueTable 3).sm.deciding.any (fun d => d.1 == 5 % 65536) = false) := by
  decide +kernel

/-- Fifteen measurements above the published capacity of resource 0. -/
def rising : State := { onStage with sm := { onStage.sm with caps := [(0, { cap := 600, runs := List.replicate 15 640 })] } }
def condition : State := { onStage with sm := { onStage.sm with conds := [(100, { inForce := true, okSince := some 0 })] } }

theorem witness_CalendarAndCapacity :
    (live onStage = true ∧ inShow onStage = true ∧ onStage.sm.entered + 1 < groupNow (begin 0 onStage) + 4096) ∧
    (groupNow (begin 0 (submitted hkCue)) + 4096 ≤ (submitted hkCue).sm.entered + 1) ∧
    (measuredCap 0 32768 < (onStage.sm.caps.get { cap := nominalCap 0 } 0).cap ∧ 0 < 25) ∧
    ((rising.sm.caps.get { cap := nominalCap 0 } 0).cap < measuredCap 0 65535 ∧
      (rising.sm.caps.get { cap := nominalCap 0 } 0).runs.length = 15) ∧
    ((({ rising with sm := { rising.sm with caps := [(0, { cap := 600 })] } } : State).sm.caps.get {} 0).runs.length < 15) ∧
    (25 ≤ 25) ∧ (condition.sm.conds.find 100 = some { inForce := true, okSince := some 0 }) := by decide +kernel

/-- Unit 0 watches cue-bus code 7 and unit 1 is a software unit; unit 0 fires by itself after 100 µs. -/
def units : State :=
  { onStage with sm := { onStage.sm with
      trigCfg := [(0, 0xA0070000), (1, 0x00640000), (2, 0xB0000000)], busCodes := [7], swFired := [1] } }

theorem witness_Triggers :
    (live units = true ∧ sampleDue (begin 40000 units) = true ∧ sampleDue (begin 0 units) = false) ∧
    (0 < 64 ∧ trigEnabled units 0 = true ∧ trigSrc units 0 = 2 ∧ trigId units 0 ∈ units.sm.busCodes ++ units.sm.busOut.toList) ∧
    (trigEnabled units 1 = true ∧ trigSrc units 1 = 3 ∧ 1 ∈ units.sm.swFired) ∧
    (∀ m < 64, trigEnabled onStage m = false) ∧
    (timeoutDue (begin 400000 units) 0 = true ∧ timeoutDue (begin 399999 units) 0 = false ∧
      sampleDue (begin 400000 units) = true) ∧
    (let s := { units with sm := { units.sm with sampleAt := 100, busOut := some 7 } }
     timeoutDue (begin 400000 s) 0 = true ∧ sampleDue (begin 400000 s) = false ∧ s.sm.busOut.isSome = true) ∧
    (trigEnabled units (65 % 64) = true ∧ trigSrc units (65 % 64) = 3) ∧
    (trigEnabled units (63 % 64) = false ∧ trigSrc units (0 % 64) ≠ 3) := by decide +kernel

/-! ### The follow spot -/

/-- A usable coefficient set in place 0. -/
def usableSet : State := { onStage with fs := { onStage.fs with comp := [(0, 0x00010000), (1, 0x00001000)] } }
def scanning : State := { onStage with sm := { onStage.sm with cues := [(0, { state := 3, cue := { cueRec with kind := 0 }, source := .template })] } }
def looping : State := { usableSet with fs := { usableSet.fs with hold := false, held := false } }
def programReady : State := { looping with fs := { looping.fs with run := true, readyAt := some 0 } }
def faulted (n : Nat) : State := { onStage with fs := { onStage.fs with fault := 2, rangeRun := n } }

theorem witness_FollowSpotControl :
    (live onStage = true ∧ scanActive onStage = false ∧ scanActive scanning = true) ∧
    (usableSet.fs.hold = true ∧ releasable usableSet = true) ∧
    (onStage.fs.hold = true ∧ releasable onStage = false) ∧ (looping.fs.hold = false) ∧
    ((faulted 1).fs.held = true ∧ (faulted 1).fs.rangeRun < 2) ∧
    ((faulted 2).fs.fault ≠ 0 ∧ 2 ≤ (faulted 2).fs.rangeRun) ∧ (looping.fs.held = false ∧ inShow looping = true ∧ looping.fs.sceneRun = false) ∧
    (programReady.fs.readyAt = some 0 ∧ sceneReady programReady = true ∧ sceneStartUs 0 ≤ tbUs (begin 320000 programReady)) ∧
    (looping.fs.readyAt = none) ∧
    (programReady.fs.readyAt.any (fun r => decide (tbUs (begin 319999 programReady) < sceneStartUs r)) = true) := by
  decide +kernel

/-- A scene profile that ends a scene after 2,000 loop periods, with coefficient set `c`. -/
def sceneOf (c n : Nat) : FixedScene :=
  { start := 0, prof := { shape := 0, rate := 100, azStart := 0, azEnd := 65535, flyback := 10, stare := 0, comp := c }
    step := n, rep := 1, reverse := false }
/-- The program runs scene 0; the next one takes set `c`. Two edge delays wait, that of batten 1 accepted in period 2,000. -/
def scenes (c : Nat) : State :=
  { looping with
    fs := { looping.fs with sceneRun := true, cur := some (sceneOf 0 0), fixed := [sceneOf c 3] }
    cal := { looping.cal with newEd := [(0, (0, 5)), (1, (coreCycle 40000000, 9))] } }

theorem witness_LoopPeriods_forms :
    (live looping = true ∧ formDefined looping (setInUse looping) = true ∧
      formDefined { looping with fs := { looping.fs with comp := [(0, 0x00020000)] } } 0 = true) ∧
    (usableSet.fs.held = true ∧ { usableSet.fs with release := true }.release = true ∧ usableSet.fs.fault = 0 ∧
      inShow usableSet = true ∧ usableSet.fs.stop = false ∧ sceneOver usableSet 0 = false) ∧
    (loopDue (begin 40000000 (scenes 0)) = true ∧ tbTick (begin 40000000 (scenes 0)) / 20000 = 2000 ∧
      (scenes 0).fs.cur = some (sceneOf 0 0) ∧ (sceneOf 0 0).stop ≤ 2000 ∧ (scenes 1).fs.fixed = [sceneOf 1 3] ∧
      (scenes 0).img.pending = none ∧ (scenes 0).fs.held = false ∧ (scenes 0).fs.stop = false) ∧
    ((scenes 0).cal.newEd.find 0 = some (0, 5) ∧ 0 < coreCycle 40000000 ∧
      (scenes 0).cal.newEd.find 1 = some (coreCycle 40000000, 9)) ∧
    ((sceneOf 0 0).prof.comp = (sceneOf 0 3).prof.comp ∧ (sceneOf 0 0).prof.comp ≠ (sceneOf 1 3).prof.comp) ∧
    (({ (scenes 0).fs with stop := true }).stop = true) := by decide +kernel

theorem witness_LoopPeriods :
    (live onStage = true ∧ loopDue (begin 0 onStage) = true ∧ onStage.fs.held = true ∧ onStage.fs.release = false) ∧
    (loopDue (begin 0 looping) = true ∧ looping.fs.held = false ∧ looping.fs.release = false ∧ looping.fs.stop = false ∧
      sceneOver looping (tbTick (begin 0 looping) / 20000) = false ∧ fld looping.fs.drvLim 15 0 ≤ fld looping.fs.drvLim 31 16) ∧
    (loopDue (begin 0 { looping with fs := { looping.fs with k := 1 } }) = false) := by decide +kernel

/-! ### Machine safety -/

/-- The image with a class S template, whose period is 1,000 µs. -/
def safetyImage : Image := { image with templates := [{ cueRec with cls := 0, period := 1000, count := 0 }] }
def periods (missing : Nat) : State :=
  { raised with img := { raised.img with active := some safetyImage }, saf := { raised.saf with boundary := 1, missing := missing } }
/-- The same in Standby, so that a boundary leaves no permit. -/
def periodsOff : State := { periods 0 with pwr := standby.pwr, saf := { (periods 0).saf with curtain := false } }

/-- A spike that both evaluators look for on channel 5, and data of the period that give its position. -/
def spikeRec : SpikeRec :=
  { spikeId := 0, funcs := 0, dir := 0, lostMax := 1, near := 50, far := 200, ampMin := 10, flyMin := 1, posLo := 0, posHi := 0
    slsMax := 0, sdiTol := 0, look := 0, mainCh := [5], flyCh := [5] }
def spikeBlock : SafetyBlock := { block with refs := [{ lpOfs := 0, refNom := 100 }], spikes := [spikeRec] }
def flyWord (c stop : Nat) : FlyDatum :=
  { channel := c, batten := 0, start := 0, idx := 0, word := resultWord c shotRec outStop 0 stop, azimuth := 0 }
def spikeSeen : State :=
  { periodsOff with
    img := { periodsOff.img with active := some { safetyImage with safety := spikeBlock } }
    saf := { periodsOff.saf with mainData := [{ channel := 5, azimuth := 0, returns := [(61440, 20)] }]
                                 flyData := [flyWord 5 150, flyWord 1536 100] } }

theorem witness_SafetyBoundaries_spikes :
    (inShow spikeSeen = false ∧ safetyDue (begin 4000000 spikeSeen) = true ∧ live spikeSeen = true ∧
      safetyBlock spikeSeen = some spikeBlock ∧ spikeRec ∈ spikeBlock.spikes) ∧
    ((mainPosition (begin 4000000 spikeSeen) spikeRec).isSome = true ∧
      (flyPosition (begin 4000000 spikeSeen) spikeBlock spikeRec).isSome = true) ∧
    (periodsOff.saf.mainData = [] ∧ periodsOff.saf.flyData = []) := by decide +kernel

theorem witness_SafetyBoundaries :
    (live (periods 0) = true ∧ safetyDue (begin 4000000 (periods 0)) = true ∧ safetyDue (begin 3999999 (periods 0)) = false) ∧
    (inShow periodsOff = false ∧ live periodsOff = true ∧ safetyDue (begin 4000000 periodsOff) = true) ∧
    ((periods 0).saf.gotPermit = false ∧ safetyP (periods 0) ≠ 0 ∧ linkCount (periods 0) ≠ 0 ∧
      0 % 2 ^ 24 = flyPeriod (periods 0)) ∧
    (linkCount ({ periods 0 with d2d := {} } : State) = 0) ∧
    (1 % 2 ^ 24 ≠ flyPeriod (periods 2) ∧ (periods 2).saf.missing < 3 ∧ 3 ≤ (periods 3).saf.missing) ∧
    (permitLate (begin 2000000 (periods 2)) = true ∧ permitLate (begin 2000000 (periods 3)) = true ∧
      permitLate (begin 1999999 (periods 0)) = false) := by decide +kernel

def low : PinRead := { hs := false, ls := false }
def high : PinRead := { hs := true, ls := true }
/-- What step 4 of Table 9.7 must read. -/
def hsHigh : PinRead := { hs := true, ls := false }
/-- A guard that has been closed for one sample, an emergency stop, and a reset held for 100 ms. -/
def inputs : State :=
  { raised with
    now := 400000
    saf := { raised.saf with inputs :=
      [(0, { raw := some .opened, state := some .closed, discSince := some 0 }), (1, { raw := some .opened, state := some .closed }),
       (2, { raw := some .opened, state := some .closed, closedAt := some 0 })] } }

theorem witness_SafeOutputsAndInputs :
    (live mayRaise = true ∧ raiseFree (begin 0 mayRaise) = true ∧
      (raiseStep2 low && raiseStep2 low && raiseStep4 hsHigh && raiseStep4 hsHigh) = true) ∧
    ((raiseStep2 low && raiseStep2 low && raiseStep4 high && raiseStep4 hsHigh) = false ∧
      (raiseStep2 low && raiseStep2 high && raiseStep4 hsHigh && raiseStep4 hsHigh) = false) ∧
    (raiseFree (begin 0 standby) = false ∧
      max ({ raised with saf := { raised.saf with raiseEnd := 1400000 } } : State).now 1399999 < 1400000) ∧
    (pulseDue (begin 0 raised) 0 = true ∧ pulseDue (begin 0 standby) 0 = false) ∧
    (testPasses (getOut raised 0) low high = true ∧ testPasses (getOut raised 0) high low = false) ∧
    (1 < 2 ∧ 700 < 701 ∧ 20 * usTicks ≤ 80000 ∧ 79999 < 20 * usTicks) ∧
    ((getOut standby 1).hs = false ∧ (getOut standby 1).ls = false ∧ high.hs = true) ∧
    (safetyBlock inputs = some block ∧ 0 < 4 ∧ block.sin[0]? = some { role := 1, mode := 0, disc := 100, filt := 1 }) ∧
    (((inputs.saf.inputs.get {} 0).sample (max inputs.now 400000) { role := 1, mode := 0, disc := 100, filt := 1 } inputs.rh.drPass
      false false).1.state = some .opened) ∧
    (((inputs.saf.inputs.get {} 2).sample (max inputs.now 400000000) { role := 3, mode := 0, disc := 100, filt := 1 } inputs.rh.drPass
      false false).2 = true) ∧
    (discDue (begin 4000000000 inputs) 0 = true ∧ discDue (begin 3999999999 inputs) 0 = false) := by decide +kernel

/-- A Sirel frame of the controller 9 for the device 7. -/
def sirel (type seq : Nat) (payload : List Byte) : List Byte := sirelBytes type seq 9 7 40 payload
/-- Both house and stage lanes up, a full image, and the last SEQ of the peer. -/
def connected (last : Option Nat) : State :=
  { withLanes { activeLane with plan := housePlan } activeLane loaded with
    saf := { loaded.saf with sirel := { started := true, up := last.isSome, lastSeq := last, texp := 40 } } }
/-- A device without a peer identity, in the commissioning window. -/
def commissioning (wait : Bool) : State :=
  { withLanes { activeLane with plan := housePlan } activeLane loaded with
    img := { loaded.img with active := some { image with safety := { block with peerId := 0 } } }
    saf := { loaded.saf with sirel :=
      { commWait := wait, commPeer := 9, commSeq := 3, commCrc := 0x1234, commSer := 77, commSlot := 0, nonce := 5, released := true } } }
def prepareFrame : List Byte := sirel 0x10 0 (leBytes 4 0x1234 ++ leBytes 4 77)
def confirmFrame : List Byte := sirel 0x12 4 (leBytes 4 0x1234 ++ leBytes 1 0 ++ leBytes 3 0 ++ leBytes 4 5)
def badConfirm : List Byte := sirel 0x12 4 (leBytes 4 0x1235 ++ leBytes 1 0 ++ leBytes 3 0 ++ leBytes 4 5)

theorem witness_SirelFrames :
    (live (connected (some 4)) = true ∧ safetyBlock (connected (some 4)) = some block ∧ fromHouse (connected (some 4)) 0 = true ∧
      (sirelOfBytes []).scode = false) ∧
    (block.peerId ≠ 0 ∧ sirelTaken (connected (some 4)) block (sirelOfBytes (sirel 2 5 (leBytes 4 3))) = true ∧
      (sirelOfBytes (sirel 2 5 (leBytes 4 3))).type = 2) ∧
    ((sirelOfBytes (sirel 2 4 (leBytes 4 1))).scode = true ∧
      (connected (some 4)).saf.sirel.lastSeq = some (sirelOfBytes (sirel 2 4 (leBytes 4 1))).seq) ∧
    ((connected (some 4)).saf.sirel.lastSeq ≠ some (sirelOfBytes (sirel 2 6 (leBytes 4 1))).seq ∧
      sirelTaken (connected (some 4)) block (sirelOfBytes (sirel 2 6 (leBytes 4 1))) = false) := by decide +kernel

theorem witness_SirelFrames_commissioning :
    (fromHouse (commissioning false) 0 = true ∧
      sirelTaken (commissioning false) { block with peerId := 0 } (sirelOfBytes prepareFrame) = true ∧
      (sirelOfBytes prepareFrame).type = 0x10 ∧
      prepareCheck (commissioning false) { block with peerId := 0 } (le (sirelOfBytes prepareFrame).payload 0 4)
        (le (sirelOfBytes prepareFrame).payload 4 4) = 0) ∧
    (prepareCheck (commissioning false) { block with peerId := 0 } 0x1235 77 ≠ 0) ∧
    (sirelTaken (commissioning true) { block with peerId := 0 } (sirelOfBytes confirmFrame) = true ∧
      (sirelOfBytes confirmFrame).type = 0x12 ∧ (commissioning true).saf.sirel.commWait = true ∧
      (sirelOfBytes confirmFrame).payload = leBytes 4 0x1234 ++ leBytes 1 0 ++ leBytes 3 0 ++ leBytes 4 5 ∧
      (commissioning true).saf.sirel.released = true ∧
      max (commissioning true).now (60 * secTicks) ≤ (commissioning true).saf.sirel.openedAt + 60 * secTicks) ∧
    (sirelTaken (commissioning true) { block with peerId := 0 } (sirelOfBytes badConfirm) = true ∧
      (sirelOfBytes badConfirm).payload ≠ leBytes 4 0x1234 ++ leBytes 1 0 ++ leBytes 3 0 ++ leBytes 4 5) ∧
    (sirelLapsed (begin (40 * msTicks + 1) (connected (some 4))) = true ∧ sirelLapsed (begin (40 * msTicks) (connected (some 4))) = false) ∧
    (windowLapsed (begin (60 * secTicks) (commissioning true)) = true ∧
      windowLapsed (begin (60 * secTicks - 1) (commissioning true)) = false) := by decide +kernel

/-! ### Die-to-die links -/

def links (a b : D2dLink) : State := { onStage with d2d := { onStage.d2d with a := a, b := b, got := [65535] } }

theorem witness_DieLinks :
    (live (links { up := true, crcRun := 8 } { up := true }) = true) ∧
    ((getLink (links { up := true, crcRun := 8 } { up := true }) .a).up = true ∧ 0 % 65536 ∉ (links {} {}).d2d.got ∧ 65535 % 65536 ∈ (links {} {}).d2d.got) ∧
    (8 ≤ (getLink (links { up := true, crcRun := 8 } { up := true }) .a).crcRun ∧
      linkCount (links { up := true, crcRun := 8 } { up := true }) = 2 ∧ Link.b ≠ .a) ∧
    ((getLink (links { up := true } {}) .a).lastValid + 4 * usTicks ≤ max (links { up := true } {}).now 16000 ∧
      linkCount (links { up := true } {}) = 1) ∧
    ((getLink (links { up := true, crcRun := 7 } {}) .a).crcRun < 8) ∧
    ((getLink (links { idleRun := 64 } {}) .a).up = false ∧ 64 ≤ (getLink (links { idleRun := 64 } {}) .a).idleRun) ∧
    ((getLink (links { idleRun := 63 } {}) .a).idleRun < 64) := by decide +kernel

/-! ### Wings and packer -/

def item (n : Nat) : Item := { seq := n, kind := 1, bytes := 4, time := n, cells := [n] }
/-- Queue `q` holds items 5 and 6; RD stands after item 5, and the mark at 5. -/
def filled : Queue := { items := [item 5, item 6], tail := 7, rd := 6, rel := 5, mark := 5, markValid := true, autoRel := false }
def withQueue (q : Nat) (v : Queue) (s : State) : State := { s with wq := { s.wq with queues := [(q, v)], used := [5, 6] } }
def portQueue : State := withQueue 0 filled loaded
def laneQ (v : Queue) : State := withLanes { activeLane with plan := housePlan } activeLane (withQueue 1 v loaded)
/-- Queue 1, to a house lane, waits on its pinned item 5. -/
def pinnedQueue : Queue := { filled with pinned := some 5 }
def busyQueue : State := { portQueue with wq := { portQueue.wq with resBusy := true } }

theorem witness_WingQueues :
    (live busyQueue = true ∧ 0 < 4096 ∧ busyQueue.wq.resBusy = true) ∧
    (portQueue.wq.resBusy = false ∧ consumerOf portQueue 4095 = none) ∧
    (consumerOf portQueue 2 = some 4) ∧
    (consumerOf portQueue 0 ≠ none ∧ laneQueue portQueue 0 = false) ∧
    (laneQueue (laneQ pinnedQueue) 1 = true ∧ (getQueue (laneQ pinnedQueue) 1).pinned = some (item 5).seq ∧
      item 5 ∈ (getQueue (laneQ pinnedQueue) 1).items ∧ (laneQ pinnedQueue).wq.resBusy = false) ∧
    (consumerOf portQueue 0 ≠ some 4 ∧ (getQueue portQueue 0).pinned = none ∧ (getQueue portQueue 0).markValid = true) ∧
    ((getQueue (withQueue 0 { filled with markValid := false, markLost := true } loaded) 0).markLost = true) ∧
    ((getQueue (withQueue 0 { filled with markValid := false } loaded) 0).markLost = false) ∧
    ((getQueue (laneQ pinnedQueue) 1).pinned ≠ none ∧ consumerOf (laneQ pinnedQueue) 1 ≠ some 4) ∧
    ((getQueue portQueue 0).above (getQueue portQueue 0).tail < (getQueue portQueue 0).above 8) ∧
    ((getQueue portQueue 0).above 7 ≤ (getQueue portQueue 0).above (getQueue portQueue 0).tail) ∧
    (consumerOf portQueue (fld portQueue.wq.qsel 11 0) ≠ none ∧
      consumerOf { portQueue with wq := { portQueue.wq with qsel := 9 } } (fld 9 11 0) = none) := by decide +kernel

def viewing (q : Nat) : State := { portQueue with wq := { portQueue.wq with view := some (q, item 5) } }
/-- Sixteen items of a cell each: queue 0 is at its quota. -/
def fullQueue : Queue := { filled with items := (List.range 16).map item, tail := 16, rd := 3, rel := 0, mark := 0 }
def fullState (v : Queue) : State := { loaded with wq := { loaded.wq with queues := [(0, v)], used := List.range 16 } }
/-- One item of 16 cells, which its consumer reads. -/
def heldQueue : Queue := { filled with items := [{ item 5 with cells := List.range 16 }], pinned := some 5 }
/-- A queue of 16 cells whose items hold at most 8. -/
def smallItems : State :=
  { loaded with img := { loaded.img with active := some { image with queues :=
      [{ queue := 0, maxItem := 8, consumer := 2, quota := 16, pack := 0, context := 0, producer := 0xFFFF, slane := 0 }] } } }
def quotaOf (s : State) (q : Nat) : Nat × Nat × Nat := ((queueRec s q).map (fun r => (r.consumer, r.quota, r.maxItem))).getD (9, 0, 0)

theorem witness_WingQueues_commit :
    (queueRec portQueue 4095 = none ∧ quotaOf portQueue 0 = (2, 16, 64) ∧ portQueue.wq.used.Pairwise (· < ·) ∧
      portQueue.wq.used.length + 64 ≤ 131072 ∧ portQueue.wq.pool.wf = true ∧ (getQueue portQueue 0).tail < 2 ^ 32 ∧
      (getQueue portQueue 0).occupancy + 14 ≤ 16 ∧ 14 ≤ 64) ∧
    (quotaOf loaded 2 = (4, 16, 64) ∧ (getQueue loaded 2).items = [] ∧ (getQueue loaded 2).pinned = none ∧
      (getQueue loaded 2).markValid = false ∧ (getQueue loaded 2).occupancy + 1 ≤ 16) ∧
    (quotaOf (fullState fullQueue) 0 = (2, 16, 64) ∧ (getQueue (fullState fullQueue) 0).oldestFree = some (item 0) ∧
      (fullQueue.items.map Item.seq).Nodup ∧ (item 0).cells.Nodup ∧ (∀ c ∈ (item 0).cells, c ∈ (fullState fullQueue).wq.used) ∧
      16 < fullQueue.occupancy + 1 ∧ fullQueue.occupancy + 1 ≤ 16 + (item 0).cells.length ∧ (fullState fullQueue).wq.pool.wf = true ∧
      (fullState fullQueue).wq.used.Pairwise (· < ·) ∧ fullQueue.markValid = true ∧ fullQueue.mark = (item 0).seq) ∧
    ((getQueue (fullState heldQueue) 0).oldestFree = none ∧ 16 < heldQueue.occupancy + 1) ∧
    (quotaOf smallItems 0 = (2, 16, 8) ∧ 8 < 9 ∧ (getQueue smallItems 0).occupancy + 8 ≤ 16) ∧
    (let o : OpenItem := { owner := 3, cells := [7], dead := false }
     ({ filled with opens := [o] }).opens.filter (fun y => y.owner == 3) = [o] ∧ o.cells.length ≤ 2 ∧
       ({ filled with opens := [o] }).occupancy + (2 - o.cells.length) ≤ 16) ∧
    (({ owner := 3, cells := [7], dead := true } : OpenItem).dead = true) := by decide +kernel

/-- Lane 0 hands on queue 1's item 5. -/
def grouping : State := { laneQ pinnedQueue with pk := { lanesUp.pk with lanes := [(0, { group := some (1, 5, 4) })] } }

theorem witness_WingReads :
    (live (laneQ filled) = true ∧ 1 < 4096 ∧ consumerOf (laneQ filled) 1 ≠ none ∧ consumerOf (laneQ filled) 1 ≠ some 2) ∧
    (consumerOf (viewing 3) 0 = some 2 ∧ viewElsewhere (viewing 3) 0 = true) ∧
    (portQueue.wq.view = none ∧ (getQueue portQueue 0).next = some (item 6)) ∧
    ((getQueue (withQueue 0 { filled with rd := 7 } loaded) 0).next = none) ∧
    (viewElsewhere (viewing 0) 0 = false ∧ (viewing 0).wq.view ≠ none) ∧
    ((getQueue portQueue 0).waitCmd = none) ∧
    ((getQueue (laneQ { filled with waitCmd := some 4 }) 1).pinned = none ∧
      (getQueue (laneQ { filled with waitCmd := some 4 }) 1).markValid = true) ∧
    ((getQueue (laneQ { filled with waitCmd := some 1 }) 1).waitCmd = some 1) ∧
    (laneTrained (laneQ filled) 0 = true ∧ ((laneQ filled).pk.lanes.get {} 0).group = none ∧
      ((laneHeads (laneQ filled) 0).foldl oldestHead none).map (fun x => (x.1.queue, x.2)) = some (1, item 6)) ∧
    (laneTrained portQueue 0 = false) ∧
    ((grouping.pk.lanes.get {} 0).group = some (1, 5, 4) ∧ groupWaits grouping 0 = false) := by decide +kernel

/-! ### Zitlane -/

/-- House lane 0 as `v`, stage lane 2 active. -/
def lane0 (v : Lane) : State := withLanes { v with plan := housePlan } activeLane standby
/-- Lane 0 in state `x` since tick 0. -/
def inState (x : LaneState) : State := lane0 { state := x, rates := [2, 1], rate := 2 }
/-- What a receiver has seen: `n` valid headers and `k` TRAIN blocks with READY, and a spell without an error. -/
def seen (n k : Nat) : TrainSeen := { headers := n, trains := k, ready := true }
def cleanObs : LockObs := { aligned := true, locked := true, invalid := 0, uncorrectable := 0, corrected := 1, symbols := 10000 }
def badCaps : Caps := { capsRec with verHi := 0x0F, verLo := 0x0F }
def houseCaps : Caps := { capsRec with role := 2 }
/-- In DELAY with its sixteen round trips, and the other house lane trained with partner 6. -/
def delayed (p : W32) : State :=
  { standby with ln := { standby.ln with lanes :=
      [(0, { state := .delay, trips := 16, partner := 5, caps := some houseCaps, plan := housePlan }),
       (1, { activeLane with partner := p, plan := housePlan, logical := 1 })] } }

theorem witness_LaneTraining :
    (live (inState .off) = true ∧ 0 < 4 ∧ (getLane (inState .off) 0).state = .off ∧ laneMayTrain (getLane (inState .off) 0) = true) ∧
    ((getLane (inState .detect) 0).state = .detect) ∧
    ((getLane (inState .base) 0).state = .base ∧
      (((getLane (inState .base) 0).lock || decide (64 ≤ (seen 64 16).headers)) && (seen 64 16).ready
        && decide (16 ≤ (seen 64 16).trains)) = true ∧
      (((getLane (inState .base) 0).lock || decide (64 ≤ (seen 63 16).headers)) && (seen 63 16).ready
        && decide (16 ≤ (seen 63 16).trains)) = false ∧ 0 < 2) ∧
    (lockGood cleanObs 2 = true ∧ lockGood { cleanObs with uncorrectable := 1 } 2 = false ∧
      lockGood { cleanObs with invalid := 1 } 3 = false ∧
      cleanSince (getLane (inState .rate) 0) (max (inState .rate).now 200000000 - 10 * msTicks) = true) ∧
    (cleanSince { getLane (inState .rate) 0 with uncAt := some 190000000 } (200000000 - 10 * msTicks) = false) ∧
    ((getLane (delayed 6) 0).childSize = 0 ∧ (getLane lanesUp 2).childSize = 0) ∧
    ((getLane (inState .base) 0).since + 20 * msTicks ≤ max (inState .base).now 80000000 ∧
      max (inState .base).now 79999999 < (getLane (inState .base) 0).since + 20 * msTicks) ∧
    ((getLane (inState .exchange) 0).state = .exchange ∧ capsFail (inState .exchange) 0 badCaps ≠ 0 ∧
      capsFail (inState .exchange) 0 houseCaps = 0) ∧
    ((getLane (inState .rate) 0).state = .rate ∧ (getLane (inState .rate) 0).since + 10 * msTicks ≤ max (inState .rate).now 200000000 ∧
      max (inState .rate).now 200000000 ≤ (getLane (inState .rate) 0).since + 50 * msTicks ∧ (getLane (inState .rate) 0).rates.tail = [1]) ∧
    ((getLane (lane0 { state := .rate, rates := [1] }) 0).rates.tail = []) ∧
    ((getLane (delayed 6) 0).state = .delay ∧ 16 ≤ (getLane (delayed 6) 0).trips ∧
      otherPartner (delayed 6) 0 (getLane (delayed 6) 0).partner = true ∧ otherPartner (delayed 5) 0 (getLane (delayed 5) 0).partner = false) ∧
    ((getLane (inState .off) 0).trips < 16) ∧
    (laneMayTrain (getLane (inState .detect) 0) = true ∧ laneMayTrain (getLane (lane0 { state := .base, disable := true }) 0) = false ∧
      (getLane (inState .exchange) 0).state.signalled = true ∧ (getLane (inState .off) 0).state.signalled = false ∧
      (getKind { inState .detect with rh := { standby.rh with kinds := [(3, { running := some 0 })] } } 3).running = some 0 ∧
      (getKind (inState .detect) 3).running ≠ some 0) ∧
    ((getLane (inState .retrain) 0).state = .retrain ∧ max (inState .retrain).now 8000000 ≤ (getLane (inState .retrain) 0).since + 2 * msTicks ∧
      (getLane (inState .retrain) 0).since + 2 * msTicks ≤ max (inState .retrain).now 8000000) := by decide +kernel

def msg : LaneMsg := { vc := 1, type := 1, seg := 0, payload := [1] }
def sentOne (n : Nat) : SentFrame := { fseq := 7, msg := msg, sentAt := 0, replays := n }
/-- Lane 0 active, with one frame in its replay buffer that has been replayed `n` times. -/
def replaying (n : Nat) : State := lane0 { activeLane with replay := [sentOne n] }

theorem witness_LaneFailures :
    (live lanesUp = true ∧ 0 < 4 ∧ (getLane lanesUp 0).state = .active ∧ (getLane lanesUp 0).disable = false) ∧
    ((getLane (inState .halt) 0).state = .halt ∧ laneMayTrain (getLane (inState .halt) 0) = true ∧
      laneMayTrain (getLane (lane0 { state := .halt, fail := true }) 0) = false ∧
      (getLane (lane0 { state := .halt, fail := true }) 0).disable = false) ∧
    ((getLane (replaying 0) 0).state.signalled = true ∧ (getLane (replaying 0) 0).state.trained = true ∧ 10 * usTicks ≤ 40000) ∧
    ((getLane (inState .off) 0).state.signalled = false ∧ 39999 < 10 * usTicks) ∧
    ((getLane lanesUp 0).state ≠ .halt) ∧
    (let s := lane0 { activeLane with lock := true }
     (getLane s 0).lock = true ∧ 16 ≤ 16 ∧ (getLane s 0).state = .active) ∧
    (let s := lane0 { state := .base, lock := true }
     (getLane s 0).lock = true ∧ (getLane s 0).state ≠ .active ∧ (getLane lanesUp 0).lock = false ∧ 15 < 16) ∧
    (fecRuns { activeLane with rate := 2 } = true ∧ 7 < 8 ∧ 8 ≤ 8) := by decide +kernel

theorem witness_LaneCredits :
    (live lanesUp = true ∧ 0 < 4 ∧ (getLane lanesUp 0).state.signalled = true ∧ (getLane (inState .off) 0).state.signalled = false) ∧
    (laneTrained lanesUp 0 = true ∧ 6 ≤ 6 ∧ laneTrained (inState .off) 0 = false) ∧
    ((getLane lanesUp 0).waiting = [] ∧ 5 < 6 ∧ 0 < 255 ∧ 255 < 256 ∧ (getLane lanesUp 0).credits.length = 6) ∧
    (laneTrained (replaying 2) 0 = true ∧ (getLane (replaying 2) 0).waiting = [] ∧ ∀ f ∈ (getLane (replaying 2) 0).replay, f.replays < 3) ∧
    ((getLane (replaying 3) 0).state = .active ∧ ackLapsed (begin 256000 (replaying 3)) 0 = true ∧
      ackLapsed (begin 255999 (replaying 3)) 0 = false) ∧
    (∃ f ∈ (getLane (replaying 3) 0).replay, 3 ≤ f.replays) ∧ (getLane lanesUp 0).rxSeq < 256 ∧
    (∀ n ∈ [0, 1, 2, 3], (⟨1, 0, 0, n, 128⟩ : Segment).seg = n) := by decide +kernel

def checkingLane : State := { lanesUp with img := { lanesUp.img with load := some (job false) } }

theorem witness_LaneMessages :
    (live lanesUp = true ∧ fromHouse lanesUp 0 = true ∧ 1 ≤ 64 ∧ 64 ≤ 64 ∧ 0x1000 < 2 ^ 32 ∧ ∀ i < 64, addressOk (0x1000 + 4 * i) = true) ∧
    (addressOk (2 % 2 ^ 32) = false) ∧
    (regHpCfg.ok (merge regHpCfg.rw (regHpCfg.get lanesUp) 15) = true) ∧
    (qcmdOk lanesUp 0 0x10000000 = true ∧ qcmdOk oldLane 0 0x10000000 = false ∧ fromHouse oldLane 0 = true) ∧
    (lanesUp.img.load = none ∧ lanesUp.img.kind = false ∧ 0xFFFFC + [1, 2, 3, 4].length ≤ 0x100000 ∧ [(1 : Byte), 2, 3, 4] ≠ []) ∧
    (checkingLane.img.load ≠ none ∧ fromHouse checkingLane 0 = true) ∧ (fromHouse lanesUp 2 = false ∧ ({ lanesUp.img with kind := true }).kind = true ∧ lanesUp.img.load = none ∧ 0x10000 ≤ 0x10000) ∧
    BuffersSound lanesUp := by
  refine ⟨by decide +kernel, by decide +kernel, by decide +kernel, by decide +kernel, by decide +kernel, by decide +kernel,
    by decide +kernel, ?_⟩
  unfold BuffersSound
  decide +kernel

/-- A device below a root: address 4, epoch 3, its child at 5 with a subtree of 2. -/
def below : State :=
  { withLanes { activeLane with plan := housePlan, caps := some houseCaps } { activeLane with childSize := 2, childAddr := 5 } standby with
    ln := { (withLanes { activeLane with plan := housePlan, caps := some houseCaps } { activeLane with childSize := 2, childAddr := 5 } standby).ln with
      root := false, addr := 4, epoch := 3, depth := 31 } }
def route (dest epoch : Nat) : Route := { dest := dest, src := 0, epoch := epoch, innerVc := 1, innerType := 1, hops := 0 }

theorem witness_Addressing :
    (live below = true ∧ 2 ≤ 2 ∧ 2 < 4 ∧ laneTrained below 2 = true ∧ (getLane below 2).childSize = 2 % 65536) ∧
    ((getLane below 2).childSize ≠ 3 % 65536 ∧ isRoot below = false ∧ 31 ≤ below.ln.depth ∧ 0 < 3 % 65536) ∧
    ((getLane lanesUp 2).childSize ≠ 3 % 65536 ∧ lanesUp.ln.depth < 31 ∧ laneTrained lanesUp 2 = true ∧ lanesUp.ln.addr + 1 + 0 ≤ 1023) ∧
    (fromHouse below 0 = true ∧ below.ln.root = false ∧ routedOk below 0 = true ∧ routedOk below 2 = true) ∧
    (laneTrained oldLane 0 = true ∧ routedOk oldLane 0 = false ∧ below.ln.addressed = true) ∧ (fromHouse below 2 = false ∧ lanesUp.ln.root = true) ∧
    (below.ln.addressed = true ∧ (route 4 3).epoch = below.ln.epoch ∧ (route 4 3).dest = below.ln.addr ∧ (route 4 3).innerVc = 1) ∧
    ((route 5 3).dest ≠ below.ln.addr ∧ routeTo below (route 5 3).dest = some 2 ∧ (route 5 3).dest = (getLane below 2).childAddr) ∧
    ((route 4 2).epoch ≠ below.ln.epoch) ∧
    (upstreamLane (withLanes {} activeLane standby) = none ∧ laneTrained (withLanes {} activeLane standby) 2 = true) ∧
    (({ below with ln := { below.ln with addressed := false } } : State).ln.addressed = false) ∧
    (typeOk 2 1 = true ∧ 2 ≤ 2 ∧ 2 < 5 ∧ upstreamLane below = some 0 ∧ typeOk 2 2 = false) := by decide +kernel

/-- A split cue in entry 0 of generation 1 waits for the guest on lane 2. -/
def splitCue (st : Nat) (g : GuestPart) : CueEntry := { gen := 1, state := st, cue := hkCue, source := .port .housePort, guests := [g] }
def split (st : Nat) (g : GuestPart) (d : Option (Nat × Source)) : State :=
  { withLanes { activeLane with plan := housePlan } activeLane onStage with
    sm := { onStage.sm with cues := [(0, splitCue st g)], deciding := d, resBusy := true } }
def cueEnd (h : Nat) : CueEnd :=
  { handle := h, status := 0, reason := 0, worst := 0, flags := 0, players := 1, points := 2, returns := 1, noreturns := 1, refused := 0 }

/-- Lane 2 owes a decision on a dropped cue, and the CUE_END of guest cue 9 asks for nothing. -/
def owing : State :=
  withLanes { activeLane with plan := housePlan } { activeLane with lateDec := 1, deadEnds := [9] } onStage
def guest (l h : Nat) (b : Option Bool) : GuestPart := { lane := l, handle := h, accepted := b }
/-- A cue in state `st` whose guest part 9 runs behind lane 2, with the players `ps` of its own and the further guests `gs`. -/
def parent (st : Nat) (ps : List Nat) (gs : List GuestPart) : CueEntry :=
  { splitCue st (guest 2 9 (some true)) with players := ps, guests := guest 2 9 (some true) :: gs, occ := 1 }
def parentState (e : CueEntry) (d : Option (Nat × Source)) : State :=
  { split 2 { lane := 2 } d with sm := { (split 2 { lane := 2 } d).sm with cues := [(0, e)] } }

theorem witness_GuestAnswers_late :
    (live owing = true ∧ laneTrained owing 2 = true ∧ 0 < (getLane owing 2).lateDec ∧ (getLane owing 2).deadEnds.contains (cueEnd 9).handle = true ∧
      (getLane owing 2).deadEnds.contains (cueEnd 8).handle = false ∧ flag 0x40000001 30 = true) ∧
    (let e := { parent 2 [] [] with guests := [guest 2 0 none, guest 3 0 none] }
     let s := parentState e (some (4096, .template))
     s.sm.deciding = some (4096, .template) ∧ findCue s 4096 = some e ∧ guest 3 0 none ∈ e.guests ∧ (guest 3 0 none).accepted = none ∧
       (guest 3 0 none).lane ≠ 2 ∧ (getLane s 2).lateDec = 0) ∧
    (let s := parentState (parent 2 [1] []) none
     (handles s).find? (fun k => (findCue s k).any (fun x => x.guests.any (GuestPart.isRunning 2 (cueEnd 9).handle))) = some 4096 ∧
       findCue s 4096 = some (parent 2 [1] []) ∧ (parent 2 [1] []).players ≠ []) ∧
    (let s := parentState (parent 3 [1] []) none
     findCue s 4096 = some (parent 3 [1] []) ∧ allOccurred (parent 3 [1] []) = true ∧ noneLeft (parent 3 [1] []) = true ∧
       pointsLive s 4096 = false ∧ ((parent 3 [1] []).addGuest 2 (cueEnd 9)).guests.any GuestPart.runs = false) ∧
    (let s := parentState (parent 2 [] []) none
     findCue s 4096 = some (parent 2 [] []) ∧ allOccurred (parent 2 [] []) = true ∧ noneLeft (parent 2 [] []) = true ∧
       pointsLive s 4096 = false ∧ ((parent 2 [] []).addGuest 2 (cueEnd 9)).guests.any GuestPart.runs = false) := by decide +kernel

theorem witness_GuestAnswers :
    (live (split 2 { lane := 2 } none) = true ∧ laneTrained (split 2 { lane := 2 } none) 2 = true ∧
      (split 2 { lane := 2 } none).sm.deciding = none) ∧
    ((split 2 { lane := 2 } (some (4096, .port .housePort))).sm.deciding = some (4096, .port .housePort) ∧
      findCue (split 2 { lane := 2 } (some (4096, .port .housePort))) 4096 = some (splitCue 2 { lane := 2 }) ∧
      (∀ g ∈ (splitCue 2 { lane := 2 }).guests, g.accepted = none → g.lane = 2) ∧
      (∃ g ∈ (splitCue 2 { lane := 2 }).guests, g.accepted = none) ∧
      (∀ g ∈ (splitCue 2 { lane := 2 }).guests, g.accepted ≠ some false) ∧ flag 0x05000000 30 = false) ∧
    ((handles (split 2 { lane := 2, accepted := some true, handle := 9 } none)).find? (fun k =>
        (findCue (split 2 { lane := 2, accepted := some true, handle := 9 } none) k).any (fun x =>
          x.guests.any (GuestPart.isRunning 2 (cueEnd 9).handle))) = some 4096 ∧
      (splitCue 2 { lane := 2, accepted := some true, handle := 9 }).state = 2) ∧
    ((handles (split 2 { lane := 2 } none)).find? (fun k =>
        (findCue (split 2 { lane := 2 } none) k).any (fun x => x.guests.any (GuestPart.isRunning 2 (cueEnd 8).handle))) = none) := by
  decide +kernel

/-- Lane 0 follows its partner's time: DREQ is out, and fifteen measurements stand. -/
def timing (s : State) : State :=
  { withLanes { activeLane with plan := housePlan, asked := true } activeLane s with
    ln := { (withLanes { activeLane with plan := housePlan, asked := true } activeLane s).ln with
      thetas := List.replicate 15 4000, steeredAt := 0 } }
def busOpen : State := { standby with ln := { standby.ln with cbCfg := 0x80000000 } }

theorem witness_TimeAndCueBus :
    (live (timing standby) = true ∧ 0 < 2 ∧ laneTimed (timing standby) 0 = true ∧ 2 ≤ 2 ∧ laneTimed standby 0 = false) ∧
    ((getLane (timing standby) 0).asked = true ∧ (getLane lanesUp 0).asked = false ∧ followsLane (timing standby) 0 = true ∧
      15 ≤ (timing standby).ln.thetas.length ∧ inStandby (timing standby) = true ∧
      meanAbove (sumInt ((twiceTheta (getLane (timing standby) 0) 0 :: (timing standby).ln.thetas).take 16)) 64 = true) ∧
    (inStandby (timing onStage) = false ∧ followsLane (timing onStage) 0 = true ∧ 15 ≤ (timing onStage).ln.thetas.length) ∧
    (followsLane (lane0 { activeLane with caps := none }) 0 = false ∧ laneTimed (timing standby) 2 = true) ∧
    (busOn busOpen = true ∧ busWordOk 31 7 false 3 = true ∧ busWordOk 31 7 true 3 = false ∧ busOn standby = false) := by decide +kernel

/-! ### Housekeeping, heat and supplies -/

/-- The last sample of input 2's accumulator on the lead is due, in Show with the plan of the image; own samples are not. -/
def almostFull : State :=
  { onStage with hk := { onStage.hk with under := [(2, { sum := 100, count := 1 })], therm := (List.range 32).map (fun i => (i, 1000)) } }
def urgent (n : Nat) : State :=
  { almostFull with hk := { almostFull.hk with urgBusy := true, urgLeft := n, urgInput := 2, urgNow := 2, urgSum := 50, lead := [(2, { due := 1000 })] } }

theorem witness_Converters :
    (live standby = true ∧ 30 < 32 ∧ ownDue (begin 0 standby) 30 = true ∧ ownDue (begin 0 standby) 31 = true) ∧
    (1 < 2 ∧ ownDue (begin 0 almostFull) 2 = false ∧ planDue (begin 0 almostFull) 1 2 = true ∧ almostFull.hk.restart.contains 2 = false ∧
      2 ^ (hkInput almostFull 2).accShift ≤ (accOf almostFull 1 2).count + 1) ∧
    ((accOf onStage 1 2).count + 1 < 2 ^ (hkInput onStage 2).accShift ∧ planDue (begin 0 onStage) 1 2 = true) ∧
    (ownDue (begin 0 (urgent 1)) 2 = false ∧ planDue (begin 0 (urgent 1)) 0 2 = false ∧ (urgent 1).cal.convRun = false ∧
      0 < (urgent 1).hk.urgLeft ∧ (urgent 1).hk.urgInput = 2 ∧ 1 < (urgent 4).hk.urgLeft) ∧
    (mayConvert (begin 0 standby) 0 30 = true ∧ mayConvert (begin 0 almostFull) 1 2 = true ∧ mayConvert (begin 0 onStage) 1 2 = true ∧
      mayConvert (begin 0 (urgent 1)) 0 2 = true ∧ mayConvert (begin 0 standby) 0 2 = false) ∧
    (cueTarget (begin 0 (urgent 1)) 0 2 = none ∧ calConvWants (begin 0 (urgent 1)) 0 2 = false ∧ (urgent 1).hk.urgNow = 2) ∧
    (leadIdle (begin 0 (urgent 1)) = false ∧ leadIdle (begin 0 almostFull) = true) ∧
    (2 ≤ 2) ∧ ((urgent 1).hk.urgBusy = true) ∧ (standby.hk.leadBusy = false ∧ standby.hk.urgBusy = false) := by decide +kernel

/-- The turn of input `n` with `k` samples taken. -/
def turning (n k : Nat) (a : AuxOut) : State :=
  { onStage with hk := { onStage.hk with turn := some n, taken := k, samples := 16, excI := 1, excOn := 2, aux := [(n, a)] } }
/-- An input without excitation. -/
def plain : AuxInput := { exc := 0xFF, excI := 1, wiring := 0, notch := 0, range := 0 }
def plainTurn (k : Nat) : State :=
  { turning 0 k {} with img := { onStage.img with active := some { image with hk := { image.hk with aux := [plain, auxRtd] } } } }

/-- The source of input 1 is made at `m`. -/
def making (m : Nat) : State :=
  { turning 1 0 {} with hk := { (turning 1 0 {}).hk with makeAt := some m, excOn := 0 } }

theorem witness_AuxAndLoop :
    (live (plainTurn 2) = true ∧ (plainTurn 2).hk.turn = some 0 ∧ auxRec (plainTurn 2) 0 = some plain ∧ plain.excI = (plainTurn 2).hk.excI ∧
      sourceOf plain = none ∧ (plainTurn 2).hk.taken < 3) ∧
    ((plainTurn 2).hk.makeAt = none ∧ 3 ≤ (plainTurn 18).hk.taken ∧ (plainTurn 18).hk.taken < 3 + (plainTurn 18).hk.samples ∧
      3 + (plainTurn 19).hk.samples ≤ (plainTurn 19).hk.taken) ∧
    ((making 400).hk.turn = some 1 ∧ (making 400).hk.makeAt = some 400 ∧ max (making 400).now 399 < 400 ∧ 400 ≤ max (making 400).now 400 ∧
      auxRec (making 400) 1 = some auxRtd ∧ (making 400).hk.turnRec = none ∧ sourceOf auxRtd = some 1 ∧ [true, false].getD 1 false = false) ∧
    ((turning 1 5 {}).hk.turn = some 1 ∧ auxRec (turning 1 5 {}) 1 = some auxRtd ∧ sourceOf auxRtd = some 1 ∧ 1 < 4 ∧
      (turning 1 5 {}).hk.excOn.getLsbD 1 = true ∧ [true, true].getD 1 false = true) ∧
    (onStage.hk.turn = none ∧ nextTurn onStage none = some 0 ∧ auxRec onStage 0 = some auxNone) ∧
    ((turning 1 18 {}).hk.taken < 3 + (turning 1 18 {}).hk.samples) ∧
    (3 + (turning 1 19 {}).hk.samples ≤ (turning 1 19 { wiring := 1 }).hk.taken ∧ ((turning 1 19 { wiring := 1 }).hk.aux.get {} 1).wiring = 1 ∧
      (turning 1 19 { wiring := 1 }).hk.second = false) ∧
    (((turning 1 19 {}).hk.aux.get {} 1).wiring ≠ 1) ∧
    (100 < max 3601 onStage.hk.loopCmd - min 3601 onStage.hk.loopCmd ∧ 9 ≤ ({ onStage.hk with loopRun := 9 } : Hk).loopRun ∧
      max 3600 onStage.hk.loopCmd - min 3600 onStage.hk.loopCmd ≤ 100) := by decide +kernel

def hot (tj : Int) : State := { onStage with th := { onStage.th with shutdown := true, spots := [(0, { tj := tj })] } }
/-- A diode of the first hotspot over range. -/
def overRange : State := { onStage with hk := { onStage.hk with ownOvr := [(hotspotDef 0).diodes.1] } }
def drooped : State := { onStage with th := { onStage.th with s := 7 } }

theorem witness_HeatAndSupplies :
    (live overRange = true ∧ 0 < 4 ∧ hotspotBad overRange (hotspotDef 0) = true) ∧
    (∀ h < 4, spotBroken (hot 2240) h = false ∧ spotTj (hot 2240) h ≤ throttlePoint (hot 2240) - 160) ∧
    (0 < 4 ∧ throttlePoint (hot 2241) - 160 < spotTj (hot 2241) 0) ∧
    (usTicks ≤ 4000 ∧ onStage.th.supLive.getLsbD (Rail.bit .vddGl) = false ∧ live inReset = false ∧ 3999 < usTicks ∧
      inReset.th.supLive.getLsbD (Rail.bit .vddIo) = false ∧ beyondWarning .vddIo 1000 = true ∧ beyondWarning .vddIo 1800 = false ∧
      wellInside .vddIo 1800 = true ∧ wellInside .vddIo 1100 = false ∧
      ({ onStage.th with supLive := 127 }).supLive.getLsbD (Rail.bit .vddIo) = true) ∧
    (stretchOf 714 < onStage.th.s ∧ onStage.th.s ≤ stretchOf 715) ∧
    (raiseDue 720 (begin 4000 drooped) = true ∧ raiseDue 720 (begin 3999 drooped) = false ∧ raiseDue 719 (begin 4000 drooped) = false) := by
  refine ⟨⟨by decide +kernel, by decide, by simp [hotspotBad, diodeBad, overRange]⟩, ?_⟩
  decide +kernel


/-! ### The worked examples of the spec

Each takes its numbers and its result from the worked example that its chapter gives. -/

/-- Chapter 4, worked firing: seed 0x0BAD_5EED, batten 0 takes jitter 53 and batten 1 jitter 30; shot 5 has phase 20. -/
theorem test_worked_firing :
    codeStep 0x0BAD5EED = 0x85F6AF75 ∧
    (let s := { loaded with img := { loaded.img with active := some { image with rej := { noRej with codeEn := true } } } }
     jitter s 0x85F6AF75 0 = 53 ∧ jitter s 0x85F6AF75 1 = 30) ∧ bitrev5 5 = 20 := by decide +kernel

def derated : BatRec :=
  { enable := true, ref := 0, width := 8, floor := 40, pwrCoef := 0x6000, delay := 0, wlTc := 280, knee := 1360, govSet := 0 }

/-- Chapter 4, worked derating: NOMINAL 180, DSPAN 40 and t = 1,616 give level 182 with DERATED, and WL_OOB stays clear. -/
theorem test_worked_derating :
    let s := { standby with bat := { standby.bat with driveCfg := merge 0x00FF00FF standby.bat.driveCfg 0x002800B4 } }
    driveLevel s derated 1616 = (182, true) ∧ wavelengthOob s derated 1616 false = false := by decide +kernel

/-- Batten 5 under a short limit of 7,000 with `n` pulses of 1,600 mV·ns in its window. -/
def governed (n : Nat) : State :=
  { onStage with
    img := { onStage.img with active := some { image with
      battens := List.replicate 6 derated, gov := [{ short := 7000, middle := 100000, long := 100000 }] } }
    bat := { onStage.bat with ch := [(5, { ringS := [1600 * n] })] } }

/-- Chapter 4, worked trip: the 70th pulse reaches 112,000 mV·ns; BATTEN reads 5 and WINDOW 0. -/
theorem test_worked_trip :
    overLimit (governed 69) 5 0 = false ∧ overLimit (governed 70) 5 0 = true ∧
    (let u := govTrip 5 [0] (governed 70)
     u.bat.govTrip = true ∧ u.bat.tripBat = 5 ∧ u.bat.tripWin = 0) := by decide +kernel

/-- Channel 600 listens in its gate (4 to 2,538, RING_HOLD 16), with two coincidences before the show and WREF, and two
events of the target held. Its counters started 1,213 ticks ago. -/
def listening700 : State :=
  let x : Shot :=
    { batten := 0, handle := 1, act := 1, idx := 0, phase := 20, coarse := false, launched := true, workLight := false
      safetyCls := false, start := 5000, startTb := 5000, preOfs := -64, preLen := 48, k := 3, win := 8, hold := 16, apHold := 20
      segs := [(4, 2535)], blanks := [], interval := some (.segment 0)
      detector := [(1, 1024 * 6213 + 881), (2, 1024 * 6213 + 901)], preCnt := 2, wref := true }
  { onStage with now := 6213, rx := { onStage.rx with biasOk := true, tickLock := true, chan := [(600, { shot := some x })] } }

/-- Chapter 3, worked shot: the third event stops the channel in tick 1,213. -/
theorem test_worked_shot :
    ((getChan (spadEvent 600 3 932 listening700) 600).results.map ShotResult.word) = [0x280004BD] := by decide +kernel

/-- The window of the worked point after act two: 12 shots short of 50 stops and a late one in bin 230. -/
def workedWindow : Window :=
  { w0 := 812, c1 := 25, c2 := 25
    bins := (List.range 256).filterMap (fun b =>
      if 148 ≤ b ∧ b ≤ 163 then some (b, 2)
      else if (140 ≤ b ∧ b ≤ 147) ∨ (164 ≤ b ∧ b ≤ 172) ∨ b = 230 then some (b, 1) else none) }

def workedPoint : Point :=
  { handle := 1, profileIdx := 0
    prof := { shots1 := 32, phaseReps := 2, maxCand := 4, fset := 3, coincK := 3, coincWin := 8, apHold := 0, ringHold := 16,
              gateStart := 4, gateLen := 2535, preshowOfs := -64, preshowLen := 48, candThr := 1024 }
    fset := { setId := 3, coefs := [0x40000] }, taps := (List.range 32).map (fun p => 32 * (p : Int))
    edelay := 12698, skew := 0, ptCfg := 0x08000118, escCfg := 0x00001810, rejCfg := 0, batten := 12, safetyCls := false
    ambRate := 0x00080000, windows := [workedWindow], azimuth := 0x5A3C, scene := 1042 }

/-- Chapter 5, worked point: A2 = 0, bin of act one, and the return entry 0x0038_21C4_000C_9001 byte by byte. -/
theorem test_worked_point :
    actTwoAmbient workedPoint = 0 ∧ ambientBin 32 0x00080000 = 8 ∧ binOf workedPoint.prof 816 = 101 ∧
    (let f := formWindow workedPoint 0 workedWindow
     escaped workedPoint workedWindow f = false ∧
     (returnOf workedPoint workedWindow f).map (fun r => r.2.2) =
       some [0x01, 0x90, 0x0C, 0x00, 0xC4, 0x21, 0x38, 0x00]) := by decide +kernel

/-- Chapter 5, worked point: the header 0x5A3C_0412_0000_092C of channel 300 with one return. -/
theorem test_worked_header :
    pointHeader 300 workedPoint 1 0 false = [0x2C, 0x09, 0x00, 0x00, 0x12, 0x04, 0x3C, 0x5A] := by decide +kernel

/-- Chapter 6, worked fit: sixteen stamps of a train of 10,000.04 ticks; REJ_FT reads 0x2710, 0x0A3D_70A4 and 0x111. -/
theorem test_worked_fit :
    let r : RejParams := { noRej with ftaGate := 4, ftaMin := 16, ftaResid := 384, ftaBlank := 3, ftaTrains := 1 }
    let es : List Int := [1, -1, -1, 1, 1, -1, -1, 1, 1, -1, -1, 1, 1, -1, -1, 1]
    let ts := (List.range 16).map (fun (m : Nat) => ((1234 + 250001 * (m : Int) + es.getD m 0).toNat, 610 + m % 4))
    (fitTrain r 1234 (10000035 / 1000) ts).map (fun t => (t.period, t.phase, t.stamps, t.resid, t.mask)) =
      some (1000004 / 100, 1234, 16, 0x111, [610, 611, 612, 613]) := by decide +kernel

/-- Chapter 6, worked fit: REJ_FT of the train reads PER_FRAC 0x0A3D_70A4, PER_INT 0x2710, STAMPS 16 and RESID 0x111. -/
theorem test_worked_train :
    let t : Train := { state := 1, period := 1000004 / 100, phase := 1234, stamps := 16, resid := 0x111 }
    trainWord t 0 = 0x0A3D70A4 ∧ trainWord t 1 = 0x00002710 ∧ trainWord t 3 = 0x40100111 := by decide +kernel

/-- Chapter 6, worked fit: an act-two shot at tick 7,000,100 of channel 611 does not listen at ticks 1,159 to 1,165. -/
theorem test_worked_blanking :
    let r : RejParams := { noRej with ftaGate := 4, ftaMin := 16, ftaResid := 384, ftaBlank := 3, ftaTrains := 1 }
    let s := { loaded with
      img := { loaded.img with active := some { image with rej := r } }
      rej := { loaded.rej with trains := [(2, { state := 1, period := 1000004 / 100, phase := 1234, mask := [610, 611, 612, 613] })] } }
    (blanksFor s 611 7000100).contains (1159, 1165) = true ∧ blanksFor s 614 7000100 = [] := by decide +kernel

/-- Set 1 is the proportional-integral law of the worked loop step; `hi` is DRV_HI. -/
def looping8 (hi : Nat) : State :=
  { onStage with fs := { onStage.fs with
      comp := [(8, 0x00011919), (9, 6291456), (10, 0xFFB00000), (13, 0xFFE00000)], set := 1, pos := 30000
      eHist := [40, 0, 0], vHist := [128000, 0, 0], drvLim := BitVec.ofNat 32 (65536 * hi + 2048) } }

/-- Chapter 8, worked loop step: v is 179,200 and the drive code 33,468; under DRV_HI 33,000, v is reset to 59,392. -/
theorem test_worked_loop :
    compensate (looping8 63487) 1 100 = 179200 ∧ (runLoop 30100 false (looping8 63487)).fs.drv = 33468 ∧
    (runLoop 30100 false (looping8 33000)).fs.drv = 33000 ∧ (runLoop 30100 false (looping8 33000)).fs.vHist.head? = some 59392 := by
  decide +kernel

/-- Chapter 8, worked azimuth: 7,500 ticks after boundary k between samples 29,960 and 30,000 the code is 30,015. -/
theorem test_worked_azimuth :
    azimuthAt { onStage with fs := { onStage.fs with k := 9, pos := 30000, posPrev := 29960 } } (20000 * 8 + 7500) = 30015 := by
  decide +kernel

/-- Chapter 7, worked slow engine: a capacity of 480 admits 420, and the nominal 640 admits 560. -/
theorem test_worked_limit :
    admissionLimit { onStage with sm := { onStage.sm with caps := [(6, { cap := 480 })] } } 2 6 = 420 ∧ admissionLimit onStage 2 7 = 560 := by
  decide +kernel

/-- Chapter 11, worked delay: θ is −192 (its double −384) and LN_RTD 52,736, with LN_ASYM 32; without it θ is −176. -/
theorem test_worked_delay :
    let v : Lane := { t1 := 320000000, t2 := 320026192, t3 := 322560000, asym := 32 }
    twiceTheta v 322586544 = -384 ∧ roundTrip v 322586544 = 52736 ∧ twiceTheta { v with asym := 0 } 322586544 = -352 := by
  decide +kernel

/-- Chapter 12, worked three-wire input: 138.885 Ω of a Pt100 is 101.0 °C. -/
theorem test_worked_rtd :
    rtdSearch (138885 / 100000) 13 (-800) 3201 ∈ [1615, 1616] := by decide +kernel

/-- Chapter 12, worked dip: below 0.715 V s is 7, below 0.705 V it is 6. -/
theorem test_worked_dip : stretchOf 714 = 7 ∧ stretchOf 704 = 6 ∧ stretchOf 698 = 6 := by decide +kernel

/-- Chapter 13, worked emission delay: arrivals 16,667 and 16,669 give 12,698 for batten 12. -/
theorem test_worked_emission_delay :
    let b : BatRec := { derated with ref := 1, delay := 12500 }
    let s := { onStage with
      img := { onStage.img with active := some { image with battens := List.replicate 13 b } }
      otp := { onStage.otp with pipe := [(1, 3420)], gDelay := [(1, 35000)] }
      cal := { onStage.cal with skew := [(1537, 550)] }, fs := { onStage.fs with sceneRun := true } }
    (judgeDelay 12 16667 16669 true s).cal.newEd.map (fun q => (q.1, q.2.2)) = [(12, 12698)] := by decide +kernel

/-- Chapter 14, worked start-up: a request at timebase 78,000 µs enters Show at 78,032 µs. -/
theorem test_worked_start_up :
    (judgeShow { loaded with now := 4000 * 78000 }).pwr.showAt = some 78032 := by decide +kernel

/-- Chapter 2, worked quota check: 107,008 cells fit; histogram queues of 4,096 cells need 139,776 and do not. -/
theorem test_worked_quota :
    let q := fun (n : Nat) => ({ queue := 0, maxItem := 1, consumer := 2, quota := n, pack := 0, context := 0, producer := 0xFFFF, slane := 0 } : QueueRec)
    quotasOk (q 512 :: List.replicate 16 (q 2048) ++ List.replicate 1536 (q 48)) = true ∧
    quotasOk (q 512 :: List.replicate 16 (q 4096) ++ List.replicate 1536 (q 48)) = false := by decide +kernel

/-- Queue 40 of the worked overtaken mark of chapter 10: 48 items of one cell from 1,000, read up to 1,031, the mark at
1,000. -/
def overtaken : State :=
  let r : QueueRec := { queue := 40, maxItem := 1, consumer := 0, quota := 48, pack := 0, context := 0, producer := 0xFFFF, slane := 0 }
  { onStage with
    img := { onStage.img with active := some { image with queues := [r] } }
    wq := { onStage.wq with used := List.range 48, queues := [(40,
      { items := (List.range 48).map (fun i => ({ seq := 1000 + i, kind := 0, bytes := 16, time := 0, cells := [i], read := decide (i < 31) } : Item))
        tail := 1048, rd := 1031, rel := 1000, mark := 1000, markValid := true })] } }

/-- Chapter 10, worked overtaken mark: items 1,048 to 1,053 overwrite 1,000 to 1,005; LOST reads 6, REL 1,006, MARK_LOST
is set, and REWIND answers result 2 with LOSTN 6 and moves RD to 1,006. -/
theorem test_worked_mark :
    let s := (List.range 6).foldl (fun s _ => (commitItem 40 0 [1, 2, 3, 4] s).2) overtaken
    let v := getQueue s 40
    (v.lost, v.rel, v.markValid, v.markLost, v.rd, v.tail) = (6, 1006, false, true, 1031, 1054) ∧
    (v.rewind.2, v.rewind.1.rd) = ((2, 6), 1006) := by decide +kernel

/-! ### The states of the witnesses -/

/-- No lane-commanded reset waits in them, so a live one is awake at every time (`awake_of_live`). -/
theorem witness_no_reset_waits :
    ∀ s ∈ [
      standby, loaded, onStage, mayRaise, raised, mustDrop, inReset, dark, answered, darkWake, lanesUp, heldReset,
      showSet, doorReady, doorOpenOtp, patchKind, patchWaiting, fetchingBoot, mayClose, supplied, shotDue, skewing,
      pulseOut, nearLimit, joining, leaking, disagreeing, ranging, overWindow, listening, locked, maskedSpad,
      resultWaits, pointWaits, engineBusy, engineStopping, fitReady, gated, searching, blindEntry, eyeSeen,
      rehearsed, oldLane, rising, condition, units, usableSet, scanning, looping, programReady, periodsOff,
      spikeSeen, inputs, portQueue, busyQueue, smallItems, grouping, checkingLane, below, owing, busOpen, almostFull,
      overRange, drooped], s.pwr.resetAt = none := by
  decide +kernel

theorem witness_no_reset_waits_in_families :
    (∀ (a b : Lane) (s : State), (withLanes a b s).pwr.resetAt = s.pwr.resetAt) ∧
    (∀ (o : RehearsalObs) (strap : Nat), (released o strap).pwr.resetAt = none) ∧
    (∀ (n : Nat), (midRehearsal n).pwr.resetAt = none) ∧
    (∀ (k : Nat), (challenged k).pwr.resetAt = none) ∧
    (∀ (patch : Bool) (s : State), (checking patch s).pwr.resetAt = s.pwr.resetAt) ∧
    (∀ (em : Bool), (emitDue em).pwr.resetAt = none) ∧
    (∀ (a b c : Nat), (closingAs a b c).pwr.resetAt = none) ∧
    (∀ (d : List (Nat × Nat)), (coincident d).pwr.resetAt = none) ∧
    (∀ (n : Nat) (p : Point), (taking n p).pwr.resetAt = none) ∧
    (∀ (w : W32), (forming w).pwr.resetAt = none) ∧
    (∀ (f : Option (List Int)), (tapRunning f).pwr.resetAt = none) ∧
    (∀ (k i : Nat), (slicing k i).pwr.resetAt = none) ∧
    (∀ (k i : Nat), (slicedTwice k i).pwr.resetAt = none) ∧
    (∀ (c : CueRec), (submitted c).pwr.resetAt = none) ∧
    (∀ (bs : List Byte), (calendarWaits bs).pwr.resetAt = none) ∧
    (∀ (st : Nat), (cueTable st).pwr.resetAt = none) ∧
    (∀ (st : Nat), (houseTable st).pwr.resetAt = none) ∧
    (∀ (n : Nat), (faulted n).pwr.resetAt = none) ∧
    (∀ (c : Nat), (scenes c).pwr.resetAt = none) ∧
    (∀ (missing : Nat), (periods missing).pwr.resetAt = none) ∧
    (∀ (last : Option Nat), (connected last).pwr.resetAt = none) ∧
    (∀ (wait : Bool), (commissioning wait).pwr.resetAt = none) ∧
    (∀ (a b : D2dLink), (links a b).pwr.resetAt = none) ∧
    (∀ (q : Nat) (v : Queue) (s : State), (withQueue q v s).pwr.resetAt = s.pwr.resetAt) ∧
    (∀ (v : Queue), (laneQ v).pwr.resetAt = none) ∧
    (∀ (q : Nat), (viewing q).pwr.resetAt = none) ∧
    (∀ (v : Queue), (fullState v).pwr.resetAt = none) ∧
    (∀ (v : Lane), (lane0 v).pwr.resetAt = none) ∧
    (∀ (x : LaneState), (inState x).pwr.resetAt = none) ∧
    (∀ (p : W32), (delayed p).pwr.resetAt = none) ∧
    (∀ (n : Nat), (replaying n).pwr.resetAt = none) ∧
    (∀ (st : Nat) (g : GuestPart) (d : Option (Nat × Source)), (split st g d).pwr.resetAt = none) ∧
    (∀ (e : CueEntry) (d : Option (Nat × Source)), (parentState e d).pwr.resetAt = none) ∧
    (∀ (s : State), (timing s).pwr.resetAt = s.pwr.resetAt) ∧
    (∀ (n : Nat), (urgent n).pwr.resetAt = none) ∧
    (∀ (n k : Nat) (a : AuxOut), (turning n k a).pwr.resetAt = none) ∧
    (∀ (k : Nat), (plainTurn k).pwr.resetAt = none) ∧
    (∀ (m : Nat), (making m).pwr.resetAt = none) ∧
    (∀ (tj : Int), (hot tj).pwr.resetAt = none) := by
  refine ⟨?_, ?_, ?_, ?_, ?_, ?_, ?_, ?_, ?_, ?_, ?_, ?_, ?_, ?_, ?_, ?_, ?_, ?_, ?_, ?_, ?_, ?_, ?_, ?_, ?_, ?_, ?_, ?_, ?_, ?_, ?_, ?_, ?_, ?_, ?_, ?_, ?_, ?_, ?_⟩ <;> intros <;> rfl
end Sys2Proof.Tests
end

section
/-! R10: what reading the lowest word of a wide value does, and what its upper word reads from then on. -/

namespace Sys2Proof.Machine

/-! ### The wide values -/

/-- The wide values are LN_TB, PWR_UID, SAFE_SPIKE_VIOL and the period of each of the eight trains (R219). -/
theorem upperOf_cases {a b : Nat} (h : upperOf a = some b) :
    b = a + 4 ∧ (a = 0xA0204 ∨ a = 0xF0020 ∨ a = 0x70020 ∨ ∃ k < 8, a = 0x50100 + 16 * k) := by
  unfold upperOf at h
  split at h
  case isTrue ha =>
    refine ⟨(Option.some.inj h).symm, ha.imp_right (Or.imp_right (Or.imp_right ?_))⟩
    rintro ⟨hlo, hhi, hm⟩
    exact ⟨(a - 0x50100) / 16, by omega, by omega⟩
  case isFalse => cases h

/-- Every path but the TAP may read the lowest word of a wide value. -/
theorem accessOk_of_upperOf {a b : Nat} (h : upperOf a = some b) {p : Path} (hp : p ≠ .tap) : accessOk p a = true := by
  have ha : addressOk a = true := by
    obtain ⟨-, rfl | rfl | rfl | ⟨k, hk, rfl⟩⟩ := upperOf_cases h
    · rfl
    · rfl
    · rfl
    · simp only [addressOk, inRegion, Bool.and_eq_true, Bool.or_eq_true, beq_iff_eq, decide_eq_true_eq]
      omega
  simp [accessOk, ha, reaches, hp]

/-! ### Reading the lowest word -/

/-- The RC registers of the rejection block all lie below those of the trains. -/
theorem clearRej_of_ge {off : Nat} (h : 0x100 ≤ off) (s : State) : clearRej off s = s := by
  unfold clearRej
  split
  case h_6 => rfl
  all_goals omega

/-- The lowest word of a wide value holds no RC field. -/
theorem clearFields_of_upperOf {a b : Nat} (h : upperOf a = some b) (s : State) :
    clearFields a s = forgetCounts a s := by
  obtain ⟨-, rfl | rfl | rfl | ⟨k, hk, rfl⟩⟩ := upperOf_cases h
  · rfl
  · rfl
  · rfl
  · have hwin : (0x50100 + 16 * k) / 0x10000 = 5 := by omega
    have hoff : 0x100 ≤ (0x50100 + 16 * k) % 0x10000 := by omega
    rw [clearFields, if_neg (by omega), if_neg (by omega), if_pos (by omega), hwin]
    exact congrArg _ (clearRej_of_ge hoff s)

@[simp] theorem forgetCounts_port (a : Nat) (s : State) : (forgetCounts a s).port = s.port := rfl

theorem captureUpper_of_upperOf {a b : Nat} (h : upperOf a = some b) (s : State) :
    captureUpper a s = { s with port := { s.port with shadow := s.port.shadow.set b (live32 s b) } } := by
  simp [captureUpper, h]

/-- Reading the lowest word captures the upper one in the shadow, and clears nothing. -/
theorem readEffect_of_upperOf {a b : Nat} (h : upperOf a = some b) (s : State) :
    readEffect a s =
      forgetCounts a { s with port := { s.port with shadow := s.port.shadow.set b (live32 s b) } } := by
  rw [readEffect, clearFields_of_upperOf h, captureUpper_of_upperOf h]

/-! ### Reading the upper word -/

/-- A captured word is read back from the shadow, whatever the register itself holds. -/
theorem peek_of_captured {s : State} {a : Nat} {v : W32} (h : s.port.shadow.find a = some v) : peek s a = v := by
  simp [peek, h]

/-- The command, where the logic runs: the read of the lowest word takes place. -/
theorem exec_wideReadCapture_of_upperOf {a b t : Nat} {p : Path} {s : State} (h : upperOf a = some b)
    (hs : awake t s = true) (hp : p ≠ .tap) :
    exec (.wideReadCapture t p a) s = .next (settle s (readEffect a (begin t s))) := by
  obtain ⟨hl, hd⟩ : live s = true ∧ resetDue t s = false := by simpa [awake] using hs
  have hexec : exec (.wideReadCapture t p a) s = execWideReadCapture t p a s := rfl
  rw [hexec, execWideReadCapture, act_live hl hd, if_pos (accessOk_of_upperOf h hp)]

/-- Settles O12: the read stores the upper word in the shadow and touches nothing else, and the shadow is what a read
of the upper word returns. -/
theorem wideReadShadow : Obligations.WideReadShadow := by
  intro a b t p s h hs hp
  refine ⟨(upperOf_cases h).1, ?_⟩
  rw [exec_wideReadCapture_of_upperOf h hs hp, readEffect_of_upperOf h]
  refine yields_next ⟨⟨_, rfl, rfl⟩, fun w hw => ?_⟩
  exact peek_of_captured (by simp [hw])

end Sys2Proof.Machine
end

section
/-! R72: what PWR_IMG_ACTIVE reads, and that nothing is written there. -/

namespace Sys2Proof.Machine

/-- A command that runs and has no effect of its own leaves only the passing of time, as one does in reset or Dark. -/
theorem act_of_no_effect {t : Nat} {s : State} {f : State → State} (hf : f (begin t s) = begin t s)
    (hd : resetDue t s = false) : act t s f = .next (settle s (begin t s)) := by
  cases hl : live s with
  | true => rw [act_live hl hd, hf]
  | false => exact act_dead hl hd

/-! ### The register -/

/-- The register's word is the SERIAL of PWR_IMG_ACTIVE as the loader and the lane reset compare it. -/
theorem live32_imgActive (s : State) : live32 s 0x000F0108 = w32 (activeSerial s) := rfl

/-- The reading depends on nothing but the active image. -/
theorem live32_imgActive_congr {s u : State} (h : u.img.active = s.img.active) :
    live32 u 0x000F0108 = live32 s 0x000F0108 := by
  simp only [live32_imgActive, activeSerial, h]

/-- It lies among the power registers, and is none of those that take a write. -/
theorem writeWord_imgActive (p : Path) (v : W32) (s : State) : writeWord p 0x000F0108 v s = ignored s := rfl

/-- A write to it, from any path and in every mode, lets time pass and does nothing else. -/
theorem exec_registerWrite_imgActive {t : Nat} {s : State} (p : Path) (v : W32) (hd : resetDue t s = false) :
    exec (.registerWrite t p 0x000F0108 v) s = .next (settle s (begin t s)) := by
  have hexec : exec (.registerWrite t p 0x000F0108 v) s = execRegisterWrite t p 0x000F0108 v s := rfl
  rw [hexec, execRegisterWrite]
  refine act_of_no_effect ?_ hd
  rw [writeWord_imgActive, ignored, ite_self]

/-- A patch names no header, so the image keeps its SERIAL (R64). -/
theorem patched_serial (i : Image) (q : Patch) : (patched i q).serial = i.serial := rfl

/-- Settles O13: the register reads the active image's SERIAL, which neither a write to it nor a patch changes. -/
theorem activeImageRegister : Obligations.ActiveImageRegister := by
  refine ⟨?reset, ?active, ?none, ?write, patched_serial⟩
  case reset => rfl
  case active =>
    intro s i h
    simp [live32_imgActive, activeSerial, h, w32]
  case none =>
    intro s h
    simp [live32_imgActive, activeSerial, h, w32]
  case write =>
    intro s t p v hd
    rw [exec_registerWrite_imgActive p v hd]
    exact yields_next (live32_imgActive_congr (by simp))

end Sys2Proof.Machine
end

section
/-! R493: what a write to PWR_RST_CTRL does, with the key and without it. -/

namespace Sys2Proof.Machine

/-! ### The state a reset leaves -/

/-- A reset leaves the curtain down and the call board empty, so the end of its command adds nothing. -/
theorem settle_resetDevice (b : State) (cause hold : Nat) (s : State) :
    settle b (resetDevice cause hold s) = resetDevice cause hold s := by
  have hdrop : dropCurtain (resetDevice cause hold s) = resetDevice cause hold s := dropCurtain_of_down rfl
  have hboard : CallBoard.follow b.cb.pendingWord {} = {} := rfl
  rw [settle, hdrop, ite_self]
  exact congrArg (fun c => { resetDevice cause hold s with cb := c }) hboard

/-- R491: the record holds the bit of the source, whether the reset is new or joins a held one. -/
theorem resetRecord_src (inReset : Bool) {cause : Nat} (hlo : 1 ≤ cause) (hhi : cause ≤ 8) (g : GhostLight) :
    (resetRecord inReset cause g).src.getLsbD (cause - 1) = true := by
  have hbit : (1#8 <<< (cause - 1)).getLsbD (cause - 1) = true := by
    simpa using (by omega : cause - 1 < 8)
  cases inReset with
  | true => simp [resetRecord, hbit]
  | false => exact hbit

/-- What else the ghost light holds, the record of a reset leaves (R492). -/
theorem resetRecord_keeps (inReset : Bool) (cause : Nat) (g : GhostLight) :
    (resetRecord inReset cause g).fieldOpened = g.fieldOpened ∧ (resetRecord inReset cause g).wake = g.wake ∧
    (resetRecord inReset cause g).held = g.held ∧ (resetRecord inReset cause g).heldMs = g.heldMs ∧
    (resetRecord inReset cause g).fails = g.fails ∧ (resetRecord inReset cause g).sinChanges = g.sinChanges := by
  cases inReset with
  | true => exact ⟨rfl, rfl, rfl, rfl, rfl, rfl⟩
  | false => exact ⟨rfl, rfl, rfl, rfl, rfl, rfl⟩

/-- `resetDevice` leaves what the manual says of a reset, for each of the sources of Table 14.4. -/
theorem resetBy_resetDevice {cause : Nat} (hlo : 1 ≤ cause) (hhi : cause ≤ 8) (hold t : Nat) (s : State) :
    ResetBy cause hold t s (resetDevice cause hold (begin t s)) := by
  obtain ⟨hopened, hwake, hheld, hheldMs, hfails, hsin⟩ :=
    resetRecord_keeps s.pwr.inReset cause { s.gl with fieldOpened := false }
  refine ⟨rfl, resetRecord_src _ hlo hhi _, ?new, ?joined, le_max_right _ _,
    hopened, hwake, hheld, hheldMs, hfails, hsin, ?wiped⟩
  case new => intro h; simp [resetDevice, resetRecord, wiped, h]
  case joined => intro h; simp [resetDevice, resetRecord, wiped, h]
  case wiped => simp [resetDevice, wiped]

/-! ### The access violation -/

/-- R520: the violation sets its event, and whatever ends the command leaves it set. -/
theorem settle_violation_event (b : State) (p : Path) (addr kind : Nat) (s : State) :
    (settle b (violation p addr kind s)).cb.event.getLsbD evAccess = true :=
  settle_keeps_event (by simp [violation, setEvent, bit32, evAccess])

/-- R520: the violation records the address, and nothing that ends the command changes it. -/
theorem settle_violation_addr (b : State) (p : Path) (addr kind : Nat) (s : State) :
    (settle b (violation p addr kind s)).cb.violAddr = BitVec.ofNat 32 addr := settle_cb_violAddr _ _

/-- Of the groups of the state a violation touches the call board only. -/
theorem leaves_violation (t : Nat) (p : Path) (addr kind : Nat) (s : State) :
    Leaves t s (settle s (violation p addr kind (begin t s))) boardOnly := ⟨_, rfl, rfl⟩

/-! ### The write -/

/-- R493: GO with the key resets the device, held for 10 µs. -/
theorem softwareReset_of_key {v : W32} (h : v.getLsbD 0 = true ∧ fld v 31 16 = 0xA5C3) (p : Path) (s : State) :
    softwareReset p v s = resetDevice 5 holdCommand s := by
  simp [softwareReset, flag, h]

/-- R493: without GO or without the key the write is a violation. -/
theorem softwareReset_of_not_key {v : W32} (h : ¬ (v.getLsbD 0 = true ∧ fld v 31 16 = 0xA5C3)) (p : Path) (s : State) :
    softwareReset p v s = violation p 0x000F0018 kindRule s :=
  if_neg (by simpa [flag] using h)

/-- The command on a path other than the TAP, where the logic runs. -/
theorem exec_softwareReset {t : Nat} {p : Path} {s : State} (hs : awake t s = true) (hp : p ≠ .tap) (v : W32) :
    exec (.softwareReset t p v) s = .next (settle s (softwareReset p v (begin t s))) := by
  obtain ⟨hl, hd⟩ : live s = true ∧ resetDue t s = false := by simpa [awake] using hs
  have hexec : exec (.softwareReset t p v) s = execSoftwareReset t p v s := rfl
  rw [hexec, execSoftwareReset, act_live hl hd, onPath, if_neg hp]

end Sys2Proof.Machine

namespace Sys2Proof.Laws

open Sys2Proof.Machine

/-- Settles O17: by the key, the write is the reset of source 5, or a violation, which reaches the call board only. -/
theorem softwareReset : Obligations.SoftwareReset := by
  intro t p v s hs hp
  rw [exec_softwareReset hs hp]
  constructor
  · intro hkey
    rw [softwareReset_of_key hkey, settle_resetDevice]
    exact yields_next (resetBy_resetDevice (by decide) (by decide) _ t s)
  · intro hkey
    rw [softwareReset_of_not_key hkey]
    exact yields_next ⟨leaves_violation t p _ _ s, settle_violation_event _ _ _ _ _, settle_violation_addr _ _ _ _ _⟩

end Sys2Proof.Laws
end

/-! R519: what CB_FIRST records, and how long it keeps it. -/

namespace Sys2Proof.Machine

/-! ### The lowest set bit -/

/-- The scan upward from bit `i` stops at bit `k`, when `k` is set, in reach, and no bit passed before it is set. -/
theorem lowestFrom_eq {w : W32} {k : Nat} (hset : w.getLsbD k = true) (hclear : ∀ j < k, w.getLsbD j = false) :
    ∀ {n i : Nat}, i ≤ k → k < i + n → lowestFrom w n i = k := by
  intro n
  induction n with
  | zero => omega
  | succ n ih =>
    intro i hik hkn
    rcases hik.eq_or_lt with rfl | hlt
    · simp [lowestFrom, flag, hset]
    · rw [lowestFrom, flag, hclear i hlt, if_neg Bool.false_ne_true]
      exact ih hlt (by omega)

theorem lowestBit_eq {w : W32} {k : Nat} (hset : w.getLsbD k = true) (hclear : ∀ j < k, w.getLsbD j = false) :
    lowestBit w = k :=
  lowestFrom_eq hset hclear (Nat.zero_le k) (by simpa using BitVec.lt_of_getLsbD hset)

/-! ### CB_FIRST -/

/-- When CB_PENDING was 0 and is not any more, CB_FIRST records the lowest bit of it. -/
theorem follow_first_of_rise {c : CallBoard} (h : c.pendingWord ≠ 0) :
    (c.follow 0).first = lowestBit c.pendingWord := by
  rw [CallBoard.follow, if_neg h, if_pos (Or.inl rfl)]

/-- While CB_PENDING stays non-zero, a valid CB_FIRST stays, with everything else of the call board. -/
theorem follow_of_kept {before : W32} {c : CallBoard} (hb : before ≠ 0) (hv : c.firstValid = true)
    (h : c.pendingWord ≠ 0) : c.follow before = c := by
  rw [CallBoard.follow, if_neg h, if_neg (not_or.mpr ⟨hb, by simp [hv]⟩)]

/-- Settles O7: VALID follows CB_PENDING (`follow_valid`); a rise from 0 records the bit at which the scan of the word
stops; and a recorded bit stays while CB_PENDING is not 0. -/
theorem firstEventRecorded : Obligations.FirstEventRecorded := by
  intro before c i
  refine ⟨?cleared, ?risen, ?kept⟩
  case cleared =>
    intro h
    exact Bool.eq_false_iff.mpr fun hv => (follow_valid before c).mp hv h
  case risen =>
    rintro rfl hset hclear
    have hne : c.pendingWord ≠ 0 := by
      intro h
      simp [h] at hset
    refine ⟨(follow_valid 0 c).mpr hne, ?_⟩
    rw [follow_first_of_rise hne, lowestBit_eq hset hclear]
  case kept =>
    intro hb hv h
    rw [follow_of_kept hb hv h]

end Sys2Proof.Machine

section
/-! The block as a machine: every command ends in a settled state, so the invariant holds after every step. -/

namespace Sys2Proof.Machine

/-! ### How commands and steps end -/

/-- Whatever a command does, it ends with `settle` on the state that it found: each arm is `act` or `actAlways`. -/
theorem exec_settles (c : Instr) (s : State) : ∃ v, exec c s = .next (settle s v) := by
  cases c <;> exact ⟨_, rfl⟩

theorem exec_runs (c : Instr) (s : State) : Runs (exec c s) := by
  obtain ⟨v, hv⟩ := exec_settles c s
  exact ⟨_, hv, trivial⟩

theorem exec_inv {c : Instr} {s u : State} (h : exec c s = .next u) : Inv u := by
  obtain ⟨v, hv⟩ := exec_settles c s
  obtain rfl : settle s v = u := by simpa [hv] using h
  exact settle_inv s v

theorem step_of_pending {s : State} {c : Instr} {rest : List Instr} (h : s.pending = c :: rest) :
    step s = exec c { s with pending := rest } := by
  simp [step, h]

theorem step_of_empty {s : State} (h : s.pending = []) : step s = .next (idle s) := by
  simp [step, h]

theorem idle_of_no_reset {s : State} (h : s.pwr.resetAt = none) : idle s = s := by
  simp [idle, h]

/-- A lane-commanded reset that waits begins at its time, and the end of the step adds nothing to it. -/
theorem idle_of_reset {s : State} {r : Nat} (h : s.pwr.resetAt = some r) :
    idle s = resetDevice 6 holdCommand (begin r s) := by
  have hwait : waitingReset s = resetDevice 6 holdCommand (begin r s) := by
    rw [waitingReset, h]
    rfl
  rw [idle, h, hwait]
  exact settle_resetDevice s 6 holdCommand (begin r s)

/-- An idle step keeps the invariant: either nothing happens, or a reset begins and is settled. -/
theorem idle_inv {s : State} (h : Inv s) : Inv (idle s) := by
  unfold idle
  split
  · exact settle_inv _ _
  · exact h

/-! ### The statements -/

/-- Settles O1, by the two equations of the step and the reset that an idle step may begin. -/
theorem stepRunsFront : Obligations.StepRunsFront := by
  refine ⟨fun s c rest h => step_of_pending h, ?quiet, ?reset⟩
  case quiet =>
    intro s hempty hnone
    rw [step_of_empty hempty, idle_of_no_reset hnone]
  case reset =>
    intro r s hempty hsome
    rw [step_of_empty hempty, idle_of_reset hsome]
    exact yields_next (resetBy_resetDevice (by decide) (by decide) holdCommand r s)

/-- Settles O2: every arm of the dispatch answers a next state. -/
theorem everyCommandCompletes : Obligations.EveryCommandCompletes := exec_runs

/-- Settles O3, by evaluating each register on the reset state. -/
theorem resetValues : Obligations.ResetValues := by
  constructor <;> decide +kernel

/-- Settles O4: after reset the curtain is down and no event is pending. -/
theorem invReset : Obligations.InvReset := by
  constructor
  · exact fun h => absurd h Bool.false_ne_true
  · exact ⟨fun h => absurd h Bool.false_ne_true, fun h => absurd rfl h⟩

/-- Settles O5: a step either runs a command, which ends settled (`exec_inv`), or idles (`idle_inv`). -/
theorem invStep : Obligations.InvStep := by
  intro s u hinv hstep
  cases hp : s.pending with
  | nil =>
    rw [step_of_empty hp] at hstep
    cases hstep
    exact idle_inv hinv
  | cons c rest =>
    rw [step_of_pending hp] at hstep
    exact exec_inv hstep

/-! ### The curtain that drops -/

/-- A curtain that is up and drops: the four switches open, the drop counts, and the event is set. -/
theorem dropCurtain_of_up {s : State} (h : s.saf.curtain = true) :
    (dropCurtain s).saf.outA = s.saf.outA.opened ∧ (dropCurtain s).saf.outB = s.saf.outB.opened ∧
    (dropCurtain s).saf.cntDemand = inc32 s.saf.cntDemand ∧
    (dropCurtain s).cb.event.getLsbD evCurtain = true := by
  rw [dropCurtain, if_pos h]
  exact ⟨rfl, rfl, rfl, by simp [setEvent, bit32, evCurtain]⟩

/-- Settles O6, by the two cases of `settle`. -/
theorem curtainDrops : Obligations.CurtainDrops := by
  intro b s
  constructor
  · intro hallowed hup
    obtain ⟨hA, hB, hcount, hevent⟩ := dropCurtain_of_up hup
    have hsettle : settle b s = { dropCurtain s with cb := (dropCurtain s).cb.follow b.cb.pendingWord } := by
      simp [settle, hallowed]
    rw [hsettle]
    refine ⟨dropCurtain_curtain s, ?_, ?_, ?_, ?_, hcount, ?_⟩
    · simp [hA, SafeOutput.opened]
    · simp [hA, SafeOutput.opened]
    · simp [hB, SafeOutput.opened]
    · simp [hB, SafeOutput.opened]
    · simpa using hevent
  · rintro (hallowed | hdown)
    · simp [settle, hallowed]
    · exact ⟨settle_saf_of_down hdown, settle_event_of_down hdown⟩

end Sys2Proof.Machine
end

section
/-! R8: writes to RWS fields while they take none. -/

namespace Sys2Proof.Machine

/-! ### The write of one register -/

theorem awake_iff {t : Nat} {s : State} : awake t s = true ↔ live s = true ∧ resetDue t s = false := by
  simp [awake]

/-- A write that its path may make, where the logic runs: the register takes it and the command ends. -/
theorem exec_registerWrite {t a : Nat} {p : Path} {s : State} (hs : awake t s = true) (ha : accessOk p a = true)
    (v : W32) : exec (.registerWrite t p a v) s = .next (settle s (writeWord p a v (begin t s)).2) := by
  obtain ⟨hl, hd⟩ := awake_iff.mp hs
  have hexec : exec (.registerWrite t p a v) s = execRegisterWrite t p a v s := rfl
  rw [hexec, execRegisterWrite, act_live hl hd, if_pos ha]

/-- A curtain that was sound adds no event to a command that moves no condition of it. -/
theorem settle_event_of_sound {s : State} (v : State) (h : CurtainSound s)
    (ha : curtainAllowed v = curtainAllowed s) (hc : v.saf.curtain = s.saf.curtain) :
    (settle s v).cb.event = v.cb.event := (settle_quiet h ha hc).2

/-- A violation counts and sets its event, and a curtain that was sound adds nothing to it. -/
theorem settle_violation_of_sound {s : State} (v : State) (h : CurtainSound s) (ha : curtainAllowed v = curtainAllowed s)
    (hc : v.saf.curtain = s.saf.curtain) (p : Path) (a k : Nat) :
    (settle s (violation p a k v)).cb.event = v.cb.event ||| bit32 evAccess ∧
    (settle s (violation p a k v)).cb.violCount = satAdd 16 v.cb.violCount 1 := by
  refine ⟨(settle_quiet h ?_ ?_).2, settle_cb_violCount _ _⟩
  · exact ha
  · exact hc

/-! ### What a configuration register is -/

/-- The register is a place of its own in the state: it reads back what was stored, a later store hides an earlier one,
and neither time, nor a violation, nor the end of a command touches it. -/
structure PlainReg.Lawful (r : PlainReg) : Prop where
  get_put : ∀ w s, r.get (r.put w s) = w
  put_put : ∀ w x s, r.put w (r.put x s) = r.put w s
  put_get : ∀ s, r.put (r.get s) s = s
  get_begin : ∀ t s, r.get (begin t s) = r.get s
  get_violation : ∀ p a k s, r.get (violation p a k s) = r.get s
  get_settle : ∀ b s, r.get (settle b s) = r.get s

/-- The registers whose writable bits are RW. -/
theorem rw_lawful {q : Nat × PlainReg} (hq : q ∈ rwRegisters) : q.2.Lawful := by
  simp only [rwRegisters, List.mem_cons, List.not_mem_nil, or_false] at hq
  rcases hq with rfl | rfl | rfl | rfl | rfl | rfl | rfl | rfl | rfl | rfl <;>
    exact ⟨fun _ _ => rfl, fun _ _ _ => rfl, fun _ => rfl, fun _ _ => rfl, fun _ _ _ _ => rfl, fun _ _ => by
      simp [regMask, regHpCfg, regSmCfg, regFeCfg, regSetpt, regWqSel, regCmdArg, regCalCfg, regRhCtrl, regWake]⟩

/-- The registers whose writable bits are RWS. -/
theorem rws_lawful {q : Nat × PlainReg} (hq : q ∈ rwsRegisters) : q.2.Lawful := by
  simp only [rwsRegisters, List.mem_cons, List.not_mem_nil, or_false] at hq
  rcases hq with rfl | rfl | rfl | rfl | rfl | rfl | rfl | rfl | rfl | rfl | rfl <;>
    exact ⟨fun _ _ => rfl, fun _ _ _ => rfl, fun _ => rfl, fun _ _ => rfl, fun _ _ _ _ => rfl, fun _ _ => by
      simp [regQsel, regQsel2, regRxCfg, regRefCfg, regSlotCfg, regDriveCfg, regTsrc, regCsCfg, regCbCfg, regAuxRtd,
        regThLim]⟩

/-- The registers that take a write while the loop is held. -/
theorem held_lawful {q : Nat × PlainReg} (hq : q ∈ heldRegisters) : q.2.Lawful := by
  simp only [heldRegisters, List.mem_cons, List.not_mem_nil, or_false] at hq
  rcases hq with rfl | rfl <;>
    exact ⟨fun _ _ => rfl, fun _ _ _ => rfl, fun _ => rfl, fun _ _ => rfl, fun _ _ _ _ => rfl, fun _ _ => by
      simp [regDrvLim, regPark]⟩

/-- Those of RWS fields have no RW bit beside them, no further condition, and no bit that is stuck. -/
theorem rws_plain {q : Nat × PlainReg} (hq : q ∈ rwsRegisters) :
    q.2.rw = q.2.rws ∧ (∀ s, q.2.gate s = true) ∧ ∀ s, q.2.stuck s = 0 := by
  simp only [rwsRegisters, List.mem_cons, List.not_mem_nil, or_false] at hq
  rcases hq with rfl | rfl | rfl | rfl | rfl | rfl | rfl | rfl | rfl | rfl | rfl <;>
    exact ⟨rfl, fun _ => rfl, fun _ => rfl⟩

theorem rws_access {q : Nat × PlainReg} (hq : q ∈ rwsRegisters) {p : Path} (hp : p ≠ .tap) :
    accessOk p q.1 = true :=
  accessOk_config (List.mem_append_left _ (List.mem_append_right _ hq)) hp

/-- A write to one of them while RWS fields take none: nothing, or a violation where it would have changed a field. -/
theorem writeWord_rws_closed {q : Nat × PlainReg} (hq : q ∈ rwsRegisters) (p : Path) (v : W32) {s : State}
    (ho : rwsOpen s = false) (hk : q.2.ok (q.2.get s) = true) :
    (writeWord p q.1 v s).2 = if (q.2.get s ^^^ v) &&& q.2.rws = 0 then s else violation p q.1 kindRws s := by
  obtain ⟨hrw, hgate, hstuck⟩ := rws_plain hq
  rw [writeWord_rws hq p v (by simp [ho]), PlainReg.write_closed ho (by simp [hrw]) (hgate s) hk, rws_put_get hq,
    hstuck, show ~~~(0 : W32) = BitVec.allOnes 32 from rfl, BitVec.and_allOnes]

/-! ### The masks of SPADs -/

theorem wordIn_base_add {base n m : Nat} (h : m < n) : wordIn (base + 4 * m) base n = some m := by
  rw [wordIn, if_pos (by omega)]
  congr 1
  omega

theorem mask_access {m : Nat} (hm : m < 776) {p : Path} (hp : p ≠ .tap) :
    accessOk p (0x00021000 + 4 * m) = true := by
  have ha : addressOk (0x00021000 + 4 * m) = true := by
    simp only [addressOk, inRegion, Bool.and_eq_true, Bool.or_eq_true, beq_iff_eq, decide_eq_true_eq]
    omega
  simp [accessOk, ha, reaches, hp]

theorem mask_window {m : Nat} (hm : m < 776) :
    (0x00021000 + 4 * m) / 0x10000 = 2 ∧ (0x00021000 + 4 * m) % 0x10000 = 0x1000 + 4 * m := by omega

/-- A register beyond the single ones of the receive channels is read in the arrays. -/
theorem readRx_of_ge (s : State) {off : Nat} (h : 0x1000 ≤ off) : readRx s off = readRxArray s off := by
  unfold readRx
  split
  case h_11 => rfl
  all_goals omega

theorem readRx_mask (s : State) {m : Nat} (hm : m < 776) :
    readRx s (0x1000 + 4 * m) = word [(16, 16, (maskOf s (2 * m + 1)).toNat), (0, 16, (maskOf s (2 * m)).toNat)] := by
  rw [readRx_of_ge s (by omega), readRxArray, wordIn_base_add hm]

theorem live32_mask (s : State) {m : Nat} (hm : m < 776) :
    live32 s (0x00021000 + 4 * m) = (regSpadMask m).get s := by
  obtain ⟨hwin, hoff⟩ := mask_window hm
  rw [live32, if_neg (by omega), if_neg (by omega), if_pos (by omega), hwin, hoff]
  rfl

theorem writeWord_mask (p : Path) (v : W32) (s : State) {m : Nat} (hm : m < 776) :
    writeWord p (0x00021000 + 4 * m) v s = (regSpadMask m).write p (0x00021000 + 4 * m) v s := by
  obtain ⟨hwin, hoff⟩ := mask_window hm
  rw [writeWord, if_neg (by omega), if_neg (by omega), if_pos (by omega), hwin, hoff]
  have harr : writeRx p (0x00021000 + 4 * m) (0x1000 + 4 * m) v s =
      writeRxArray p (0x00021000 + 4 * m) (0x1000 + 4 * m) v s := by
    unfold writeRx
    split
    case h_4 => rfl
    all_goals omega
  rw [writeWindow, harr, writeRxArray, wordIn_base_add hm]

/-- The two halves of a word that is put together from two 16-bit values. -/
theorem word_halves (x y : BitVec 16) :
    (word [(16, 16, x.toNat), (0, 16, y.toNat)]).setWidth 16 = y ∧
    (word [(16, 16, x.toNat), (0, 16, y.toNat)] >>> 16).setWidth 16 = x := by
  have hx := x.isLt
  have hy := y.isLt
  have hw : (word [(16, 16, x.toNat), (0, 16, y.toNat)]).toNat = x.toNat * 65536 + y.toNat := by
    simp only [word, List.foldl_cons, List.foldl_nil, BitVec.toNat_ofNat]
    omega
  constructor
  · apply BitVec.eq_of_toNat_eq
    rw [BitVec.toNat_setWidth, hw]
    omega
  · apply BitVec.eq_of_toNat_eq
    rw [BitVec.toNat_setWidth, BitVec.toNat_ushiftRight, hw, Nat.shiftRight_eq_div_pow]
    omega

/-- Storing what a mask register reads leaves what each channel's mask is. -/
theorem maskOf_put_get (s : State) {m : Nat} (hm : m < 776) :
    maskOf ((regSpadMask m).put ((regSpadMask m).get s) s) (2 * m) = maskOf s (2 * m) ∧
    maskOf ((regSpadMask m).put ((regSpadMask m).get s) s) (2 * m + 1) = maskOf s (2 * m + 1) := by
  obtain ⟨hlo, hhi⟩ := word_halves (maskOf s (2 * m + 1)) (maskOf s (2 * m))
  have hget : (regSpadMask m).get s = readRx s (0x1000 + 4 * m) := rfl
  rw [hget, readRx_mask s hm]
  constructor
  · simp only [maskOf, regSpadMask]
    rw [Tab.get_set_other _ _ _ (by omega), Tab.get_set_same]
    rw [maskOf] at hlo
    rw [maskOf] at hlo
    rw [hlo]
    simp [BitVec.or_assoc]
  · simp only [maskOf, regSpadMask]
    rw [Tab.get_set_same]
    rw [maskOf, maskOf] at hhi
    rw [hhi]
    simp [BitVec.or_assoc]

/-- The conditions of the curtain do not read the masks. -/
theorem curtainAllowed_put_mask (m : Nat) (w : W32) (s : State) :
    curtainAllowed ((regSpadMask m).put w s) = curtainAllowed s := rfl

/-! ### The loop's register -/

@[simp] theorem curtainAllowed_clearLoop (s : State) : curtainAllowed (clearLoop s) = curtainAllowed s := rfl

@[simp] theorem rwsOpen_clearLoop (s : State) : rwsOpen (clearLoop s) = rwsOpen s := rfl

theorem loopCfg_access {p : Path} (hp : p ≠ .tap) : accessOk p 0x000B0030 = true := by
  simp [accessOk, addressOk, inRegion, reaches, hp]

/-- While RWS fields take no write, FAIL_HI stays, and CLR acts all the same. -/
theorem writeLoopCfg_closed (p : Path) (v : W32) {s : State} (ho : rwsOpen s = false) :
    (writeWord p 0x000B0030 v s).2 =
      if (s.hk.failHi ^^^ v) &&& 1#32 = 0 then (if flag v 1 then clearLoop s else s)
      else violation p 0x000B0030 kindRws (if flag v 1 then clearLoop s else s) := by
  have hw : writeWord p 0x000B0030 v s =
      regFailHi.write p 0x000B0030 v (if flag v 1 then clearLoop s else s) := rfl
  have hopen : rwsOpen (if flag v 1 then clearLoop s else s) = false := by
    split <;> simpa using ho
  have hget : regFailHi.get (if flag v 1 then clearLoop s else s) = s.hk.failHi := by
    split <;> rfl
  rw [hw, PlainReg.write_closed hopen (by decide) rfl rfl, hget,
    show ∀ u, regFailHi.stuck u = 0 from fun _ => rfl, show ~~~(0 : W32) = BitVec.allOnes 32 from rfl, BitVec.and_allOnes]
  have hput : regFailHi.put s.hk.failHi (if flag v 1 then clearLoop s else s) = if flag v 1 then clearLoop s else s := by
    split <;> rfl
  rw [hput]
  rfl

/-! ### The statement -/

theorem rwsClosed_registers {q : Nat × PlainReg} (hq : q ∈ rwsRegisters) {t : Nat} {p : Path} (v : W32) {s : State}
    (hs : awake t s = true) (ho : rwsOpen s = false) (hp : p ≠ .tap) (hk : q.2.ok (q.2.get s) = true)
    (hc : CurtainSound s) :
    Yields (exec (.registerWrite t p q.1 v) s) (fun u => q.2.get u = q.2.get s ∧
      u.cb.violCount = (if (q.2.get s ^^^ v) &&& q.2.rws = 0 then s.cb.violCount else satAdd 16 s.cb.violCount 1) ∧
      u.cb.event = (if (q.2.get s ^^^ v) &&& q.2.rws = 0 then s.cb.event else s.cb.event ||| bit32 evAccess)) := by
  have hl := rws_lawful hq
  have hget := hl.get_begin t s
  rw [exec_registerWrite hs (rws_access hq hp), writeWord_rws_closed hq p v (by simpa using ho) (by rwa [hget]), hget]
  apply yields_next
  split
  · exact ⟨by rw [hl.get_settle, hget], by simp, settle_event_of_sound _ hc rfl rfl⟩
  · obtain ⟨hevent, hcount⟩ := settle_violation_of_sound (v := begin t s) hc rfl rfl p q.1 kindRws
    exact ⟨by rw [hl.get_settle, hl.get_violation, hget], hcount, hevent⟩

theorem rwsClosed_masks {m t : Nat} {p : Path} (v : W32) {s : State} (hm : m < 776)
    (hs : awake t s = true) (ho : rwsOpen s = false) (hp : p ≠ .tap) (hc : CurtainSound s) :
    Yields (exec (.registerWrite t p (0x00021000 + 4 * m) v) s) (fun u =>
      maskOf u (2 * m) = maskOf s (2 * m) ∧ maskOf u (2 * m + 1) = maskOf s (2 * m + 1) ∧
      u.cb.event = (if (live32 s (0x00021000 + 4 * m) ^^^ v) &&& ~~~(regSpadMask m).stuck s = 0 then s.cb.event
        else s.cb.event ||| bit32 evAccess)) := by
  obtain ⟨hlo, hhi⟩ := maskOf_put_get (begin t s) hm
  have hbits : (regSpadMask m).rw &&& ~~~(regSpadMask m).rws = 0#32 := BitVec.and_not_self _
  rw [exec_registerWrite hs (mask_access hm hp), writeWord_mask p v _ hm,
    PlainReg.write_closed (by simpa using ho) hbits rfl rfl, live32_mask s hm]
  have hall : (regSpadMask m).rws = BitVec.allOnes 32 := rfl
  rw [hall, BitVec.and_allOnes]
  apply yields_next
  have hcond : ((regSpadMask m).get (begin t s) ^^^ v) &&& ~~~(regSpadMask m).stuck (begin t s) =
      ((regSpadMask m).get s ^^^ v) &&& ~~~(regSpadMask m).stuck s := rfl
  have hallow := curtainAllowed_put_mask m ((regSpadMask m).get (begin t s)) (begin t s)
  rw [hcond]
  split
  · refine ⟨?_, ?_, settle_event_of_sound _ hc hallow rfl⟩
    · simpa [maskOf] using hlo
    · simpa [maskOf] using hhi
  · refine ⟨?_, ?_, (settle_violation_of_sound _ hc hallow rfl p _ kindRws).1⟩
    · simpa [maskOf] using hlo
    · simpa [maskOf] using hhi

theorem rwsClosed_loop {t : Nat} {p : Path} (v : W32) {s : State}
    (hs : awake t s = true) (ho : rwsOpen s = false) (hp : p ≠ .tap) (hc : CurtainSound s) :
    Yields (exec (.registerWrite t p 0x000B0030 v) s) (fun u => u.hk.failHi = s.hk.failHi ∧
      (v.getLsbD 1 = true → u.hk.loopFault = (clearLoop (begin t s)).hk.loopFault) ∧
      u.cb.event = (if (s.hk.failHi ^^^ v) &&& 1#32 = 0 then s.cb.event else s.cb.event ||| bit32 evAccess)) := by
  rw [exec_registerWrite hs (loopCfg_access hp), writeLoopCfg_closed p v (by simpa using ho)]
  apply yields_next
  by_cases hv : flag v 1 = true
  · simp only [hv, if_true, begin_hk]
    split
    · exact ⟨by simp [clearLoop], by simp, settle_event_of_sound (clearLoop (begin t s)) hc rfl rfl⟩
    · exact ⟨by simp [clearLoop], by simp, (settle_violation_of_sound (clearLoop (begin t s)) hc rfl rfl p _ kindRws).1⟩
  · simp only [hv, begin_hk]
    split
    · exact ⟨by simp, fun h => absurd h hv, settle_event_of_sound (begin t s) hc rfl rfl⟩
    · exact ⟨by simp, fun h => absurd h hv, (settle_violation_of_sound (begin t s) hc rfl rfl p _ kindRws).1⟩

/-- Settles O8: the register write leaves the RWS fields (`PlainReg.write_closed`), and a curtain that was sound adds no
event at the end of the command. -/
theorem rwsClosed : Obligations.RwsClosed :=
  ⟨fun _ hq _ _ v _ hs ho hp hk hc => rwsClosed_registers hq v hs ho hp hk hc,
   fun _ _ _ v _ hm hs ho hp hc => rwsClosed_masks v hm hs ho hp hc,
   fun _ _ v _ hs ho hp hc => rwsClosed_loop v hs ho hp hc⟩

end Sys2Proof.Machine
end

section
/-! Writes to configuration registers that are taken, and the writes that are not (R264, R282, R506, R508, R517, R520). -/

namespace Sys2Proof.Machine

/-! ### A write that is taken -/

/-- Standby with the curtain down is a mode in which the logic runs. -/
theorem live_of_rwsOpen {s : State} (h : rwsOpen s = true) : live s = true := by
  simp only [rwsOpen, inStandby, Bool.and_eq_true, Bool.not_eq_true', decide_eq_true_eq] at h
  obtain ⟨⟨hreset, hmode⟩, -⟩ := h
  simp [live, hreset, hmode]

theorem awake_of_rwsOpen {t : Nat} {s : State} (ho : rwsOpen s = true) (hd : resetDue t s = false) :
    awake t s = true :=
  awake_iff.mpr ⟨live_of_rwsOpen ho, hd⟩

/-- A command that stores a word in a register of its own leaves everything else, and the word reads back. -/
theorem yields_stored {r : PlainReg} (hr : r.Lawful) (t : Nat) (w : W32) (s : State) :
    Yields (.next (settle s (r.put w (begin t s)))) (fun u => Leaves t s u (fun x => r.put 0 x) ∧ r.get u = w) := by
  refine yields_next ⟨⟨_, rfl, ?_⟩, ?_⟩
  · simp only [hr.put_put]
  · rw [hr.get_settle, hr.get_put]

/-- A register of RWS fields while they take writes: its writable bits are its RWS bits, and none is closed. -/
theorem rws_open {q : Nat × PlainReg} (hq : q ∈ rwsRegisters) {s : State} (ho : rwsOpen s = true) :
    q.2.open s = q.2.rws := by
  rw [PlainReg.open, if_pos ho, (rws_plain hq).1, BitVec.or_self]

theorem not_blocked_of_open {r : PlainReg} {s : State} (ho : rwsOpen s = true) (v : W32) : r.blocked v s = false := by
  simp [PlainReg.blocked, ho]

/-- A register of RW fields has no RWS bit and no condition. -/
theorem rw_plain {q : Nat × PlainReg} (hq : q ∈ rwRegisters) :
    q.2.rws = 0 ∧ ∀ s, q.2.gate s = true := by
  simp only [rwRegisters, List.mem_cons, List.not_mem_nil, or_false] at hq
  rcases hq with rfl | rfl | rfl | rfl | rfl | rfl | rfl | rfl | rfl | rfl <;> exact ⟨rfl, fun _ => rfl⟩

theorem held_plain {q : Nat × PlainReg} (hq : q ∈ heldRegisters) :
    q.2.rws = 0 ∧ ∀ s, q.2.gate s = s.fs.held := by
  simp only [heldRegisters, List.mem_cons, List.not_mem_nil, or_false] at hq
  rcases hq with rfl | rfl <;> exact ⟨rfl, fun _ => rfl⟩

theorem open_of_no_rws {r : PlainReg} (h : r.rws = 0) (s : State) : r.open s = r.rw := by
  rw [PlainReg.open, h]
  split
  · exact BitVec.or_zero
  · exact BitVec.and_allOnes

theorem not_blocked_of_no_rws {r : PlainReg} (h : r.rws = 0) (v : W32) (s : State) : r.blocked v s = false := by
  simp [PlainReg.blocked, h]

/-- The registers of RWS fields but SM_QSEL and SM_QSEL2 have no rule of their own. -/
theorem writeWord_rws_drop {q : Nat × PlainReg} (hq : q ∈ rwsRegisters.drop 2) (p : Path) (v : W32) (s : State) :
    writeWord p q.1 v s = q.2.write p q.1 v s := by
  simp only [rwsRegisters, List.drop_succ_cons, List.drop_zero, List.mem_cons, List.not_mem_nil, or_false] at hq
  rcases hq with rfl | rfl | rfl | rfl | rfl | rfl | rfl | rfl | rfl <;> rfl

/-! ### R8, R282: what is stored -/

theorem yields_write_rws {q : Nat × PlainReg} (hq : q ∈ rwsRegisters.drop 2) {t : Nat} {p : Path} {v : W32} {s : State}
    (hd : resetDue t s = false) (ho : rwsOpen s = true) (hp : p ≠ .tap)
    (hk : q.2.ok (merge q.2.rws (q.2.get s) v) = true) :
    Yields (exec (.registerWrite t p q.1 v) s) (fun u =>
      Leaves t s u (fun x => q.2.put 0 x) ∧ q.2.get u = merge q.2.rws (q.2.get s) v) := by
  have hmem := List.mem_of_mem_drop hq
  have hr := rws_lawful hmem
  have ho' : rwsOpen (begin t s) = true := by simpa using ho
  rw [exec_registerWrite (awake_of_rwsOpen ho hd) (rws_access hmem hp), writeWord_rws_drop hq,
    PlainReg.write_open ((rws_plain hmem).2.1 _) (not_blocked_of_open ho' v) (by rwa [rws_open hmem ho', hr.get_begin]),
    rws_open hmem ho', hr.get_begin]
  exact yields_stored hr t _ s

theorem yields_write_rw {q : Nat × PlainReg} (hq : q ∈ rwRegisters) {t : Nat} {p : Path} {v : W32} {s : State}
    (hs : awake t s = true) (hp : p ≠ .tap) (hk : q.2.ok (merge q.2.rw (q.2.get s) v) = true) :
    Yields (exec (.registerWrite t p q.1 v) s) (fun u =>
      Leaves t s u (fun x => q.2.put 0 x) ∧ q.2.get u = merge q.2.rw (q.2.get s) v) := by
  have hr := rw_lawful hq
  obtain ⟨hrws, hgate⟩ := rw_plain hq
  have ha := accessOk_config (List.mem_append_left _ (List.mem_append_left _ hq)) hp
  rw [exec_registerWrite hs ha, writeWord_rw hq,
    PlainReg.write_open (hgate _) (not_blocked_of_no_rws hrws v _) (by rwa [open_of_no_rws hrws, hr.get_begin]),
    open_of_no_rws hrws, hr.get_begin]
  exact yields_stored hr t _ s

theorem yields_write_held {q : Nat × PlainReg} (hq : q ∈ heldRegisters) {t : Nat} {p : Path} {v : W32} {s : State}
    (hs : awake t s = true) (hp : p ≠ .tap) (hheld : s.fs.held = true)
    (hk : q.2.ok (merge q.2.rw (q.2.get s) v) = true) :
    Yields (exec (.registerWrite t p q.1 v) s) (fun u =>
      Leaves t s u (fun x => q.2.put 0 x) ∧ q.2.get u = merge q.2.rw (q.2.get s) v) := by
  have hr := held_lawful hq
  obtain ⟨hrws, hgate⟩ := held_plain hq
  rw [exec_registerWrite hs (accessOk_config (List.mem_append_right _ hq) hp), writeWord_held hq,
    PlainReg.write_open (by rwa [hgate]) (not_blocked_of_no_rws hrws v _) (by rwa [open_of_no_rws hrws, hr.get_begin]),
    open_of_no_rws hrws, hr.get_begin]
  exact yields_stored hr t _ s

/-- R282: while the loop is not held the write is a violation. -/
theorem yields_write_not_held {q : Nat × PlainReg} (hq : q ∈ heldRegisters) {t : Nat} {p : Path} {v : W32} {s : State}
    (hs : awake t s = true) (hp : p ≠ .tap) (hheld : s.fs.held = false) :
    Yields (exec (.registerWrite t p q.1 v) s) (fun u =>
      Leaves t s u boardOnly ∧ u.cb.violKind = kindRule ∧ u.cb.violCount = satAdd 16 s.cb.violCount 1) := by
  have hgate : q.2.gate (begin t s) = false := by rw [(held_plain hq).2]; exact hheld
  have hw : q.2.write p q.1 v (begin t s) = (false, violation p q.1 kindRule (begin t s)) := by
    simp [PlainReg.write, hgate]
  rw [exec_registerWrite hs (accessOk_config (List.mem_append_right _ hq) hp), writeWord_held hq, hw]
  exact yields_next ⟨leaves_violation t p _ _ s, settle_cb_violKind _ _, settle_cb_violCount _ _⟩

/-- Settles O9, by the kind of the register: what is stored is the merge of the register with the word. -/
theorem configurationWrites : Obligations.ConfigurationWrites :=
  ⟨fun _ hq _ _ _ _ hd ho hp hk => yields_write_rws hq hd ho hp hk,
   fun _ hq _ _ _ _ hs hp hk => yields_write_rw hq hs hp hk,
   fun _ hq _ _ _ _ hs hp =>
    ⟨fun hheld hk => yields_write_held hq hs hp hheld hk, fun hheld => yields_write_not_held hq hs hp hheld⟩⟩

/-! ### R264: the queue selections -/

theorem writeWord_qsel (p : Path) (v : W32) (s : State) :
    writeWord p 0x00010004 v s = writeQsel regQsel [fld v 11 0, fld v 27 16] p 0x00010004 v s := rfl

theorem writeWord_qsel2 (p : Path) (v : W32) (s : State) :
    writeWord p 0x00010008 v s = writeQsel regQsel2 [fld v 11 0] p 0x00010008 v s := rfl

/-- While RWS fields take writes, a selection is stored when no image is active or it names queues that deliver here. -/
theorem writeQsel_allowed {r : PlainReg} {qs : List Nat} {p : Path} {a : Nat} {v : W32} {s : State}
    (hr : r.rw = r.rws) (hgate : r.gate s = true) (hok : ∀ w, r.ok w = true) (ho : rwsOpen s = true)
    (h : s.img.active = none ∨ qs.all (deviceQueue s) = true) :
    writeQsel r qs p a v s = (true, r.put (merge r.rws (r.get s) v) s) := by
  have hrule : (rwsOpen s && s.img.active.isSome && !qs.all (deviceQueue s)) = false := by
    rcases h with h | h <;> simp [h]
  have hopen : r.open s = r.rws := by rw [PlainReg.open, if_pos ho, hr, BitVec.or_self]
  rw [writeQsel, hrule, if_neg Bool.false_ne_true, PlainReg.write_open hgate (not_blocked_of_open ho v) (hok _), hopen]

theorem writeQsel_discarded {r : PlainReg} {qs : List Nat} {p : Path} {a : Nat} {v : W32} {s : State}
    (ho : rwsOpen s = true) (hi : s.img.active ≠ none) (h : qs.all (deviceQueue s) = false) :
    writeQsel r qs p a v s = (false, violation p a kindRule s) := by
  rw [writeQsel, ho, h, Option.isSome_iff_ne_none.mpr hi]
  rfl

/-- A write that is a violation, as its command ends. -/
theorem yields_violation {t a : Nat} {p : Path} {v : W32} {s : State} {k : Nat} (hs : awake t s = true)
    (ha : accessOk p a = true) (hw : (writeWord p a v (begin t s)).2 = violation p a k (begin t s)) :
    Yields (exec (.registerWrite t p a v) s) (fun u =>
      Leaves t s u boardOnly ∧ u.cb.violKind = k ∧ u.cb.event.getLsbD evAccess = true) := by
  rw [exec_registerWrite hs ha, hw]
  exact yields_next ⟨leaves_violation t p a k s, settle_cb_violKind _ _, settle_violation_event _ _ _ _ _⟩

/-! ### R520: values out of range -/

/-- The registers of the statement have no condition beside their ranges, and are written at their own address. -/
theorem writeWord_range {q : Nat × PlainReg} (hq : q ∈ rwRegisters ++ rwsRegisters.drop 2) {p : Path} {v : W32}
    {s : State} (hk : q.2.ok (merge (q.2.open s) (q.2.get s) v) = false) :
    (writeWord p q.1 v s).2 = violation p q.1 kindRange s := by
  rcases List.mem_append.mp hq with hq | hq
  · rw [writeWord_rw hq, PlainReg.write_range ((rw_plain hq).2 s) hk]
  · rw [writeWord_rws_drop hq, PlainReg.write_range ((rws_plain (List.mem_of_mem_drop hq)).2.1 s) hk]

theorem yields_write_range {q : Nat × PlainReg} (hq : q ∈ rwRegisters ++ rwsRegisters.drop 2) {t : Nat} {p : Path}
    {v : W32} {s : State} (hs : awake t s = true) (hp : p ≠ .tap)
    (hk : q.2.ok (merge (q.2.open s) (q.2.get s) v) = false) :
    Yields (exec (.registerWrite t p q.1 v) s) (fun u => Leaves t s u boardOnly ∧ q.2.get u = q.2.get s ∧
      u.cb.violAddr = BitVec.ofNat 32 q.1 ∧ u.cb.violPath = Path.code p ∧ u.cb.violKind = kindRange ∧
      u.cb.violCount = satAdd 16 s.cb.violCount 1 ∧ u.cb.event.getLsbD evAccess = true) := by
  have hr : q.2.Lawful := by
    rcases List.mem_append.mp hq with hq | hq
    · exact rw_lawful hq
    · exact rws_lawful (List.mem_of_mem_drop hq)
  have ha : accessOk p q.1 = true := by
    refine accessOk_config (List.mem_append_left _ ?_) hp
    rcases List.mem_append.mp hq with hq | hq
    · exact List.mem_append_left _ hq
    · exact List.mem_append_right _ (List.mem_of_mem_drop hq)
  have hopen : q.2.open (begin t s) = q.2.open s := rfl
  rw [exec_registerWrite hs ha, writeWord_range hq (by rwa [hopen, hr.get_begin])]
  refine yields_next ⟨leaves_violation t p _ _ s, ?_, settle_cb_violAddr _ _, settle_cb_violPath _ _,
    settle_cb_violKind _ _, settle_cb_violCount _ _, settle_violation_event _ _ _ _ _⟩
  rw [hr.get_settle, hr.get_violation, hr.get_begin]

/-! ### R506, R508: accesses that are ignored -/

/-- A command that has no effect of its own leaves only the passing of time. -/
theorem yields_no_effect {t : Nat} {s : State} {f : State → State} (hf : f (begin t s) = begin t s)
    (hd : resetDue t s = false) : Yields (act t s f) (fun u => Leaves t s u id) := by
  rw [act_of_no_effect hf hd]
  exact yields_next ⟨_, rfl, rfl⟩

theorem yields_access_ignored {t a : Nat} {p : Path} {v : W32} {s : State} (hd : resetDue t s = false)
    (ha : accessOk p a = false) {c : Instr}
    (hc : c ∈ [Instr.registerWrite t p a v, .readClear t p a, .wideReadCapture t p a]) :
    Yields (exec c s) (fun u => Leaves t s u id) := by
  simp only [List.mem_cons, List.not_mem_nil, or_false] at hc
  have hno : ¬ accessOk p a = true := by simp [ha]
  rcases hc with rfl | rfl | rfl
  · exact yields_no_effect (f := fun u => if accessOk p a then (writeWord p a v u).2 else u) (if_neg hno) hd
  · exact yields_no_effect (f := fun u => if accessOk p a then readEffect a u else u) (if_neg hno) hd
  · exact yields_no_effect (f := fun u => if accessOk p a then readEffect a u else u) (if_neg hno) hd

/-- The register commands with a row of their own do nothing through the TAP, which does not reach their registers. -/
theorem yields_tap_ignored {t : Nat} {v : W32} {s : State} (hd : resetDue t s = false) {n m : Nat} {c : Instr}
    (hc : c ∈ [Instr.softwareReset t .tap v, .modeReqShow t .tap, .modeReqStandby t .tap, .modeReqDark t .tap,
        .loadWindowWrite t .tap n v, .imageGo t .tap, .imageAbort t .tap, .patchCancel t .tap, .calRunTap t .tap,
        .calRunConv t .tap, .calRunSkew t .tap, .calRunBd t .tap, .rxCntSelWrite t .tap v, .batCsClr t .tap, .batSwClr t .tap,
        .batGovClr t .tap, .feStopSet t .tap n, .feStopClear t .tap n, .cueSubmit t .tap, .cueSubmitTemplate t .tap n] ++
        [Instr.cueAbort t .tap n, .triggerSoftware t .tap n, .calendarSelect t .tap n, .cueSelect t .tap n, .fsHold t .tap,
        .fsRelease t .tap, .fsRunSet t .tap, .fsRunClear t .tap, .fsFeClr t .tap, .wqFlush t .tap n, .wqMark t .tap n,
        .wqClearMark t .tap n, .wqRewind t .tap n, .wqRelease t .tap n m, .wqRead t .tap n, .wqDone t .tap n, .wqResync t .tap,
        .laneRetrain t .tap n, .laneRetry t .tap n, .laneDisable t .tap n, .hkUrgentRequest t .tap n, .loopFaultClear t .tap,
        .thermalShutdownClear t .tap]) :
    Yields (exec c s) (fun u => Leaves t s u id) := by
  have hform : ∃ f, exec c s = act t s (onPath .tap f) := by
    simp only [List.cons_append, List.nil_append] at hc
    fin_cases hc <;> exact ⟨_, rfl⟩
  obtain ⟨f, hf⟩ := hform
  rw [hf]
  exact yields_no_effect (if_pos rfl) hd

/-! ### PWR_DOOR_RESP, PWR_DOOR_DATA and CB_EVENT -/

/-- Every path reaches the words of PWR_DOOR_RESP and PWR_DOOR_DATA. -/
theorem doorBlock_access {i : Nat} (hi : i < 16) (p : Path) : accessOk p (0x000F0230 + 4 * i) = true := by
  simp only [accessOk, reaches, addressOk, inRegion, Bool.and_eq_true, Bool.or_eq_true, beq_iff_eq, decide_eq_true_eq]
  omega

theorem writeWord_doorBlock {i : Nat} (hi : i < 16) (p : Path) (v : W32) (s : State) :
    writeWord p (0x000F0230 + 4 * i) v s = (true, writeDoorBlock i v s) := by
  have hwin : (0x000F0230 + 4 * i) / 0x10000 = 0xF := by omega
  have hoff : (0x000F0230 + 4 * i) % 0x10000 = 0x230 + 4 * i := by omega
  rw [writeWord, if_neg (by omega), if_neg (by omega), if_pos (by omega), hwin, hoff]
  have hin : writePwr p (0x000F0230 + 4 * i) (0x230 + 4 * i) v s = taken (writeDoorBlock i v) s := by
    unfold writePwr
    split
    case h_8 => rw [wordIn_base_add hi]
    all_goals omega
  exact hin

theorem yields_write_doorBlock {i t : Nat} {p : Path} {v : W32} {s : State} (hi : i < 16) (hd : resetDue t s = false)
    (hl : live s = true) : Yields (exec (.registerWrite t p (0x000F0230 + 4 * i) v) s) (fun u =>
      (if i < 8 then u.door.resp.get 0 i else u.door.data.get 0 (i - 8)) = v ∧
      Leaves t s u (fun x => { x with door := { x.door with resp := [], data := [] } })) := by
  rw [exec_registerWrite (awake_iff.mpr ⟨hl, hd⟩) (doorBlock_access hi p), writeWord_doorBlock hi]
  by_cases h : i < 8
  · have hw : writeDoorBlock i v (begin t s) =
        { begin t s with door := { s.door with resp := s.door.resp.set i v } } := if_pos h
    rw [hw]
    exact yields_next ⟨by simp [h], _, rfl, rfl⟩
  · have hw : writeDoorBlock i v (begin t s) =
        { begin t s with door := { s.door with data := s.door.data.set (i - 8) v } } := if_neg h
    rw [hw]
    exact yields_next ⟨by simp [h], _, rfl, rfl⟩

/-- In a core clock cycle that has just begun, no event has been set (R9). -/
theorem begin_recent_of_fresh {t : Nat} {s : State} (h : freshCycle t s = true) :
    (begin t s).recent = { cycle := coreCycle (max s.now t), counts := counters s } := by
  have hne : s.recent.cycle ≠ coreCycle (max s.now t) := by
    intro he
    simp [freshCycle, he] at h
  exact if_neg hne

theorem callBoard_access {p : Path} (hp : p ≠ .tap) : accessOk p 0x00001000 = true := by
  simp [accessOk, addressOk, inRegion, reaches, hp]

theorem yields_write_event {t : Nat} {p : Path} {v : W32} {s : State} (hs : awake t s = true) (hp : p ≠ .tap)
    (hc : CurtainSound s) : Yields (exec (.registerWrite t p 0x00001000 v) s) (fun u =>
      Leaves t s u boardOnly ∧ u.cb.event = s.cb.event &&& ~~~(v &&& ~~~(begin t s).recent.events) ∧
      u.cb.mask = s.cb.mask ∧ (freshCycle t s = true → u.cb.event = s.cb.event &&& ~~~v)) := by
  have hw : (writeWord p 0x00001000 v (begin t s)).2 = clearEvents v (begin t s) := rfl
  have hevent := settle_event_of_sound (clearEvents v (begin t s)) hc rfl rfl
  rw [exec_registerWrite hs (callBoard_access hp), hw]
  refine yields_next ⟨⟨_, rfl, rfl⟩, hevent, by simp [clearEvents], fun hfresh => ?_⟩
  have hnone : (begin t s).recent.events = 0 := by rw [begin_recent_of_fresh hfresh]
  rw [hevent, clearEvents, hnone, show ~~~(0 : W32) = BitVec.allOnes 32 from rfl, BitVec.and_allOnes]
  rfl

/-! ### The statement -/

theorem yields_write_qsel {t : Nat} {p : Path} {v : W32} {s : State} (hd : resetDue t s = false)
    (ho : rwsOpen s = true) (hp : p ≠ .tap) :
    (s.img.active = none ∨ (deviceQueue s (fld v 11 0) = true ∧ deviceQueue s (fld v 27 16) = true) →
      Yields (exec (.registerWrite t p 0x00010004 v) s) (fun u =>
        Leaves t s u (fun x => regQsel.put 0 x) ∧ u.sm.qsel = merge 0x0FFF0FFF#32 s.sm.qsel v)) ∧
    (s.img.active ≠ none → deviceQueue s (fld v 11 0) = false ∨ deviceQueue s (fld v 27 16) = false →
      Yields (exec (.registerWrite t p 0x00010004 v) s) (fun u =>
        Leaves t s u boardOnly ∧ u.cb.violKind = kindRule ∧ u.cb.event.getLsbD evAccess = true)) := by
  have hs := awake_of_rwsOpen ho hd
  have hmem : (0x00010004, regQsel) ∈ rwsRegisters := List.mem_cons_self
  have ho' : rwsOpen (begin t s) = true := ho
  have hqueues : [fld v 11 0, fld v 27 16].all (deviceQueue (begin t s)) =
      (deviceQueue s (fld v 11 0) && deviceQueue s (fld v 27 16)) := by
    simp only [List.all_cons, List.all_nil, Bool.and_true]
    rfl
  constructor
  · intro h
    rw [exec_registerWrite hs (rws_access hmem hp), writeWord_qsel,
      writeQsel_allowed (qs := [fld v 11 0, fld v 27 16]) rfl rfl (fun _ => rfl) ho' (by simpa [hqueues] using h)]
    exact yields_stored (rws_lawful hmem) t _ s
  · intro hi h
    refine yields_violation hs (rws_access hmem hp) ?_
    rw [writeWord_qsel, writeQsel_discarded ho' hi (by rw [hqueues]; exact Bool.and_eq_false_iff.mpr h)]

theorem yields_write_qsel2 {t : Nat} {p : Path} {v : W32} {s : State} (hd : resetDue t s = false)
    (ho : rwsOpen s = true) (hp : p ≠ .tap) :
    (s.img.active = none ∨ deviceQueue s (fld v 11 0) = true →
      Yields (exec (.registerWrite t p 0x00010008 v) s) (fun u =>
        Leaves t s u (fun x => regQsel2.put 0 x) ∧ u.sm.qsel2 = merge 0x00000FFF#32 s.sm.qsel2 v)) ∧
    (s.img.active ≠ none → deviceQueue s (fld v 11 0) = false →
      Yields (exec (.registerWrite t p 0x00010008 v) s) (fun u =>
        Leaves t s u boardOnly ∧ u.cb.violKind = kindRule ∧ u.cb.event.getLsbD evAccess = true)) := by
  have hs := awake_of_rwsOpen ho hd
  have hmem : (0x00010008, regQsel2) ∈ rwsRegisters := List.mem_cons_of_mem _ List.mem_cons_self
  have ho' : rwsOpen (begin t s) = true := ho
  have hqueues : [fld v 11 0].all (deviceQueue (begin t s)) = deviceQueue s (fld v 11 0) := by
    simp only [List.all_cons, List.all_nil, Bool.and_true]
    rfl
  constructor
  · intro h
    rw [exec_registerWrite hs (rws_access hmem hp), writeWord_qsel2,
      writeQsel_allowed (qs := [fld v 11 0]) rfl rfl (fun _ => rfl) ho' (by rwa [hqueues])]
    exact yields_stored (rws_lawful hmem) t _ s
  · intro hi h
    refine yields_violation hs (rws_access hmem hp) ?_
    rw [writeWord_qsel2, writeQsel_discarded ho' hi (by rwa [hqueues])]

/-- Settles O10, by the rules of the queue selections, of values out of range, of what a path reaches, and of
CB_EVENT. -/
theorem writeRules : Obligations.WriteRules := by
  refine ⟨?selections, ?ranges, ?accesses, ?events⟩
  case selections =>
    intro t p v s hd ho hp named
    obtain ⟨hstored, hrule⟩ := yields_write_qsel (v := v) hd ho hp
    obtain ⟨hstored2, hrule2⟩ := yields_write_qsel2 (v := v) hd ho hp
    exact ⟨hstored, hrule, hstored2, hrule2⟩
  case ranges => exact fun q hq t p v s hs hp hk => yields_write_range hq hs hp hk
  case accesses =>
    intro t a p v s hd
    exact ⟨fun ha c hc => yields_access_ignored hd ha hc, fun n m c hc => yields_tap_ignored hd hc,
      fun i hi hl => yields_write_doorBlock hi hd hl⟩
  case events => exact fun t p v s hs hp hc => yields_write_event hs hp hc

end Sys2Proof.Machine
end

section
/-! R7, R9: what a read of an RC field leaves. -/

namespace Sys2Proof.Machine

/-! ### Looking a key up in a table that is put together -/

theorem Tab.get_append {α : Type} (x y : Tab α) (d : α) (k : Nat) :
    Tab.get (x ++ y) d k = (Tab.find x k).getD (Tab.get y d k) := by
  induction x with
  | nil => rfl
  | cons p r ih =>
    obtain ⟨j, v⟩ := p
    by_cases h : j = k
    · simp [Tab.get, Tab.find, h]
    · simpa [Tab.get, Tab.find, h] using ih

theorem Tab.find_append {α : Type} (x y : Tab α) (k : Nat) :
    Tab.find (x ++ y) k = (Tab.find x k).or (Tab.find y k) := by
  induction x with
  | nil => rfl
  | cons p r ih =>
    obtain ⟨j, v⟩ := p
    by_cases h : j = k
    · simp [Tab.find, h]
    · simpa [Tab.find, h] using ih

/-- A key that no entry has is not found. -/
theorem Tab.find_eq_none {α : Type} {x : Tab α} {k : Nat} (h : ∀ p ∈ x, p.1 ≠ k) : Tab.find x k = none := by
  induction x with
  | nil => rfl
  | cons p r ih =>
    obtain ⟨j, v⟩ := p
    have hj : j ≠ k := h (j, v) List.mem_cons_self
    simpa [Tab.find, hj] using ih (fun q hq => h q (List.mem_cons_of_mem _ hq))

/-- What the entry at `l` of a table has listed under `k` is at least its count, where no other entry lists `k`. -/
theorem Tab.le_get_flatMap {α : Type} (x : Tab α) (d : α) (f : Nat × α → Tab Nat) (y : Tab Nat) (l k : Nat)
    (count : α → Nat) (hd : count d = 0) (hsame : ∀ v, Tab.find (f (l, v)) k = some (count v))
    (hother : ∀ p, p.1 ≠ l → Tab.find (f p) k = none) :
    count (Tab.get x d l) ≤ Tab.get (x.flatMap f ++ y) 0 k := by
  induction x with
  | nil => simp [hd]
  | cons p r ih =>
    obtain ⟨j, v⟩ := p
    rw [List.flatMap_cons, List.append_assoc, Tab.get_append]
    by_cases h : j = l
    · subst h
      simp [Tab.get, hsame]
    · rw [hother (j, v) h]
      simpa [Tab.get, h] using ih

/-- Leaving out the entries of a table past key `n` does not change what it holds below. -/
theorem Tab.get_filter_lt {α : Type} (x : Tab α) (d : α) {l n : Nat} (hl : l < n) :
    Tab.get (x.filter (fun p => decide (p.1 < n))) d l = Tab.get x d l := by
  induction x with
  | nil => rfl
  | cons p r ih =>
    obtain ⟨j, v⟩ := p
    by_cases hj : j < n
    · simp [hj, Tab.get, ih]
    · have hne : j ≠ l := by omega
      simp [hj, Tab.get, hne, ih]

/-! ### A counter that clears with a read -/

/-- The register at `a` counts `val`: nothing at a command's end touches it, a read of the register leaves what has been
counted in the running core clock cycle, and what the cycle began with is on record under `a`. -/
structure CountsAt (a : Nat) (val : State → Nat) : Prop where
  settle : ∀ b s, val (settle b s) = val s
  begin : ∀ t s, val (begin t s) = val s
  clear : ∀ s, val (readEffect a s) = newer s a (val s)
  counted : ∀ s, val s ≤ (counters s).get 0 a

/-- The command, where the logic runs: the fields clear with the read. -/
theorem exec_readClear {t a : Nat} {p : Path} {s : State} (hs : awake t s = true) (ha : accessOk p a = true) :
    exec (.readClear t p a) s = .next (Machine.settle s (readEffect a (begin t s))) := by
  obtain ⟨hl, hd⟩ := awake_iff.mp hs
  have hexec : exec (.readClear t p a) s = execReadClear t p a s := rfl
  rw [hexec, execReadClear, act_live hl hd, if_pos ha]

/-- In a core clock cycle that has just begun, nothing has been counted yet. -/
theorem newer_of_fresh {t : Nat} {s : State} (h : freshCycle t s = true) {a n : Nat} (hn : n ≤ (counters s).get 0 a) :
    newer (begin t s) a n = 0 := by
  rw [newer, begin_recent_of_fresh h]
  exact Nat.sub_eq_zero_of_le hn

theorem CountsAt.after_read {a : Nat} {val : State → Nat} (h : CountsAt a val) (t : Nat) (s : State) :
    val (Machine.settle s (readEffect a (Machine.begin t s))) = newer (Machine.begin t s) a (val s) := by
  rw [h.settle, h.clear, h.begin]

theorem CountsAt.after_fresh_read {a : Nat} {val : State → Nat} (h : CountsAt a val) {t : Nat} {s : State}
    (hf : freshCycle t s = true) : val (Machine.settle s (readEffect a (Machine.begin t s))) = 0 := by
  rw [h.after_read, newer_of_fresh hf (h.counted s)]

/-! ### The counters at fixed addresses -/

/-- The registers that hold a counter of 32 bits and nothing else. -/
def wordCounters : List (Nat × (State → Nat)) :=
  [(0x00001024, fun s => s.cb.hpErr), (0x00010040, fun s => s.sm.cntAccept), (0x00010044, fun s => s.sm.cntReject),
   (0x00010048, fun s => s.sm.cntRefused), (0x0001004C, fun s => s.sm.cntLate), (0x00010050, fun s => s.sm.cntAbortLost),
   (0x00010054, fun s => s.sm.cntTrigSupp), (0x00020014, fun s => s.rx.cntStop), (0x00020018, fun s => s.rx.cntNoret),
   (0x0002001C, fun s => s.rx.cntCut), (0x00020020, fun s => s.rx.cntVoid), (0x00020024, fun s => s.rx.cntWref),
   (0x00020028, fun s => s.rx.cntPre), (0x00030028, fun s => s.bat.unlocks),
   (0x00040010, fun s => s.hist.cntPoints), (0x00040014, fun s => s.hist.cntEmpty),
   (0x00040018, fun s => s.hist.cntCoarse), (0x0004001C, fun s => s.hist.cntEsc), (0x00040020, fun s => s.hist.cntRerun),
   (0x00040024, fun s => s.hist.cntOver), (0x00050010, fun s => s.rej.cntStamps), (0x00050014, fun s => s.rej.cntLost),
   (0x00050018, fun s => s.rej.cntVeto), (0x0005001C, fun s => s.rej.cntSecond), (0x00050020, fun s => s.rej.cntBlank),
   (0x00060020, fun s => s.fs.cntFe), (0x00060024, fun s => s.fs.cntSat), (0x00060028, fun s => s.fs.cntXfer),
   (0x0006002C, fun s => s.fs.cntMiss),
   (0x00080004, fun s => s.wq.cntLost), (0x00090004, fun s => s.pk.unpOk), (0x00090008, fun s => s.pk.unpFail),
   (0x000A0304, fun s => s.ln.cntCbErr), (0x000B0010, fun s => s.hk.cntDrop), (0x000B0014, fun s => s.hk.cntDis),
   (0x000B0018, fun s => s.hk.cntOvr), (0x000C0108, fun s => s.th.cntDroop), (0x000C010C, fun s => s.th.cntWarn),
   (0x000D0030, fun s => s.cal.cntRej), (0x000E0010, fun s => s.rh.cntSlice), (0x000E0014, fun s => s.rh.cntPre),
   (0x000E0018, fun s => s.rh.cntFail)]

theorem countsAt_wordCounters : ∀ q ∈ wordCounters, CountsAt q.1 q.2 := by
  unfold wordCounters
  simp only [List.forall_mem_cons]
  repeat' apply And.intro
  case right => exact List.forall_mem_nil _
  all_goals exact ⟨fun _ _ => by simp, fun _ _ => rfl, fun _ => rfl, fun _ => le_of_eq rfl⟩

theorem live32_wordCounters : ∀ q ∈ wordCounters, ∀ u, live32 u q.1 = w32 (q.2 u) := by
  unfold wordCounters
  simp only [List.forall_mem_cons]
  repeat' apply And.intro
  case right => exact List.forall_mem_nil _
  all_goals exact fun _ => rfl

/-- Each RC field of the statement is such a register, or one of the five whose field is a part of a word or keeps a
least or greatest value. -/
theorem rcFields_cases : ∀ q ∈ rcFields, (q.1 ∈ wordCounters.map Prod.fst ∧ q.2 = (31, 0, 0)) ∨
    q ∈ [(0x00001014, 31, 16, 0), (0x000C0020, 15, 0, 0x8000), (0x000C0104, 7, 4, 8), (0x000F0030, 31, 8, 0),
      (0x000F0040, 31, 16, 0)] := by
  decide

theorem rcFields_access {q : Nat × Nat × Nat × Nat} (hq : q ∈ rcFields) {p : Path} (hp : p ≠ .tap) :
    accessOk p q.1 = true := by
  have ha : addressOk q.1 = true := by
    revert q
    decide
  simp [accessOk, ha, reaches, hp]

theorem countsAt_violCount : CountsAt 0x00001014 (fun s => s.cb.violCount) :=
  ⟨fun _ _ => by simp, fun _ _ => rfl, fun _ => rfl, fun _ => le_of_eq rfl⟩

theorem countsAt_sinChanges : CountsAt 0x000F0030 (fun s => s.gl.sinChanges) :=
  ⟨fun _ _ => by simp, fun _ _ => rfl, fun _ => rfl, fun _ => le_of_eq rfl⟩

/-- PWR_D2D_STAT clears the CRC counts of both links, each of which is on record under a key of its own. -/
theorem d2d_after_fresh_read {t : Nat} {s : State} (h : freshCycle t s = true) :
    (settle s (readEffect 0x000F0040 (begin t s))).d2d.a.crcErr = 0 ∧
    (settle s (readEffect 0x000F0040 (begin t s))).d2d.b.crcErr = 0 := by
  rw [settle_d2d]
  exact ⟨newer_of_fresh (a := 0xF0040) h (le_of_eq rfl), newer_of_fresh (a := 0xF0041) h (le_of_eq rfl)⟩

/-- TJ_MAX keeps only what it was given in the running core clock cycle: in a fresh one, nothing. -/
theorem tjMax_after_fresh_read {t : Nat} {s : State} (h : freshCycle t s = true) :
    (settle s (readEffect 0x000C0020 (begin t s))).th.tjMax = none := by
  have hclear : (readEffect 0x000C0020 (begin t s)).th.tjMax =
      if ((begin t s).recent.values.get ([] : List Int) 0xC0020).isEmpty then none
      else some (keptValue (begin t s) 0xC0020 max (-32768)) := rfl
  rw [settle_th, hclear, begin_recent_of_fresh h]
  rfl

/-- What a least or greatest value keeps in a fresh core clock cycle is its reset value. -/
theorem keptValue_of_fresh {t : Nat} {s : State} (h : freshCycle t s = true) (a : Nat) (f : Int → Int → Int) (r : Int) :
    keptValue (begin t s) a f r = r := by
  rw [keptValue, begin_recent_of_fresh h]
  rfl

theorem minS_after_fresh_read {t : Nat} {s : State} (h : freshCycle t s = true) :
    (settle s (readEffect 0x000C0104 (begin t s))).th.minS = 8 := by
  have hclear : (readEffect 0x000C0104 (begin t s)).th.minS = (keptValue (begin t s) 0xC0104 min 8).toNat := rfl
  rw [settle_th, hclear, keptValue_of_fresh h]
  rfl

/-- A field of a word that is put together from parts. -/
theorem fld_eq (w : W32) (hi lo : Nat) : fld w hi lo = w.toNat / 2 ^ lo % 2 ^ (hi - lo + 1) := by
  rw [fld, Nat.shiftRight_eq_div_pow]

/-- The fields at fixed addresses. -/
theorem rcField_after_fresh_read {q : Nat × Nat × Nat × Nat} (hq : q ∈ rcFields) {t : Nat} {s : State}
    (h : freshCycle t s = true) :
    fld (live32 (settle s (readEffect q.1 (begin t s))) q.1) q.2.1 q.2.2.1 = q.2.2.2 := by
  rcases rcFields_cases q hq with ⟨hmem, hfields⟩ | hmem
  · obtain ⟨c, hc, hcq⟩ := List.mem_map.mp hmem
    rw [← hcq, hfields, live32_wordCounters c hc, (countsAt_wordCounters c hc).after_fresh_read h]
    rfl
  · simp only [List.mem_cons, List.not_mem_nil, or_false] at hmem
    rcases hmem with rfl | rfl | rfl | rfl | rfl
    · have hz := countsAt_violCount.after_fresh_read h
      generalize settle s (readEffect 0x00001014 (begin t s)) = u at hz ⊢
      have hread : live32 u 0x00001014 = word [(16, 16, u.cb.violCount), (4, 2, u.cb.violPath), (0, 3, u.cb.violKind)] := rfl
      rw [hread, hz, fld_eq]
      simp only [word, List.foldl_cons, List.foldl_nil, BitVec.toNat_ofNat]
      omega
    · have hz := tjMax_after_fresh_read h
      generalize settle s (readEffect 0x000C0020 (begin t s)) = u at hz ⊢
      have hread : live32 u 0x000C0020 = word [(0, 16, ((u.th.tjMax).map (unsigned 16)).getD 0x8000)] := rfl
      rw [hread, hz]
      rfl
    · have hz := minS_after_fresh_read h
      generalize settle s (readEffect 0x000C0104 (begin t s)) = u at hz ⊢
      have hread : live32 u 0x000C0104 = word [(4, 4, u.th.minS), (0, 4, u.th.s)] := rfl
      rw [hread, hz, fld_eq]
      simp only [word, List.foldl_cons, List.foldl_nil, BitVec.toNat_ofNat]
      omega
    · have hz := countsAt_sinChanges.after_fresh_read h
      generalize settle s (readEffect 0x000F0030 (begin t s)) = u at hz ⊢
      have hread : live32 u 0x000F0030 = word [(8, 24, u.gl.sinChanges), (0, 8, u.gl.sinLevel.toNat)] := rfl
      rw [hread, hz, fld_eq]
      simp only [word, List.foldl_cons, List.foldl_nil, BitVec.toNat_ofNat]
      omega
    · obtain ⟨ha, hb⟩ := d2d_after_fresh_read h
      generalize settle s (readEffect 0x000F0040 (begin t s)) = u at ha hb ⊢
      have hread : live32 u 0x000F0040 = word [(24, 8, u.d2d.b.crcErr), (16, 8, u.d2d.a.crcErr), (3, 1, bn u.d2d.bothLost),
        (2, 1, bn (linkCount u == 1)), (1, 1, bn u.d2d.b.up), (0, 1, bn u.d2d.a.up)] := rfl
      rw [hread, ha, hb, fld_eq]
      simp only [word, List.foldl_cons, List.foldl_nil, BitVec.toNat_ofNat]
      omega

/-! ### The counters of packers, lanes and queues -/

/-- The entries of `counters` for a packer, a lane and a queue. -/
def packerEntries (p : Nat × Packer) : Tab Nat :=
  ([p.2.cntIn, p.2.cntOut, p.2.cntGroups, p.2.cntReset, p.2.cntVerify, p.2.cntCtx].zip (List.range 6)).map
    (fun x => (0x90100 + 32 * p.1 + 4 * x.2, x.1))

def laneEntries (p : Nat × Lane) : Tab Nat :=
  ([p.2.cntFecCorr, p.2.cntFecUnc, p.2.cntFrameErr, p.2.cntReplay, p.2.cntRetrain, p.2.cntDiscard, p.2.cntRoute].zip
    (List.range 7)).map (fun x => (0xA0014 + 64 * p.1 + 4 * x.2, x.1))

def queueEntries (p : Nat × Queue) : Tab Nat :=
  [(queueKey p.1 0x28, p.2.lost), (queueKey p.1 0x2C, p.2.flushed), (queueKey p.1 0x30, p.2.drop)]

theorem packerEntries_key {l : Nat} {v : Packer} {x : Nat × Nat} (h : x ∈ packerEntries (l, v)) :
    ∃ r < 6, x.1 = 0x90100 + 32 * l + 4 * r := by
  simp only [packerEntries, List.mem_map] at h
  obtain ⟨y, hy, rfl⟩ := h
  exact ⟨y.2, List.mem_range.mp (List.of_mem_zip (a := y.1) (b := y.2) hy).2, rfl⟩

theorem laneEntries_key {l : Nat} {v : Lane} {x : Nat × Nat} (h : x ∈ laneEntries (l, v)) :
    ∃ r < 7, x.1 = 0xA0014 + 64 * l + 4 * r := by
  simp only [laneEntries, List.mem_map] at h
  obtain ⟨y, hy, rfl⟩ := h
  exact ⟨y.2, List.mem_range.mp (List.of_mem_zip (a := y.1) (b := y.2) hy).2, rfl⟩

theorem queueEntries_key {q : Nat} {v : Queue} {x : Nat × Nat} (h : x ∈ queueEntries (q, v)) :
    ∃ off ∈ [0x28, 0x2C, 0x30], x.1 = queueKey q off := by
  simp only [queueEntries, List.mem_cons, List.not_mem_nil, or_false] at h
  rcases h with rfl | rfl | rfl
  · exact ⟨0x28, by simp, rfl⟩
  · exact ⟨0x2C, by simp, rfl⟩
  · exact ⟨0x30, by simp, rfl⟩

/-- The counters: those at fixed addresses, none of which lies in the windows of packers, lanes or queue keys, and then
the entries of packers, lanes and queues. -/
theorem counters_split (s : State) : ∃ x, counters s =
      x ++ ((s.pk.lanes.filter (fun p => decide (p.1 < 4))).flatMap packerEntries ++
        ((s.ln.lanes.filter (fun p => decide (p.1 < 4))).flatMap laneEntries ++ s.wq.queues.flatMap queueEntries)) ∧
    ∀ p ∈ x, (p.1 < 0x90100 ∨ 0x90200 ≤ p.1) ∧ (p.1 < 0xA0014 ∨ 0xA0200 ≤ p.1) ∧ p.1 < 0x1000000 := by
  unfold counters
  rw [List.append_assoc, List.append_assoc]
  refine ⟨_, rfl, ?_⟩
  simp only [List.forall_mem_cons, List.not_mem_nil, false_implies, implies_true, and_true]
  norm_num

/-- The packers' entries lie in their own window, and so do the lanes'. -/
theorem packerWindow {x : Tab Packer} : ∀ p ∈ (x.filter (fun p => decide (p.1 < 4))).flatMap packerEntries,
    0x90100 ≤ p.1 ∧ p.1 < 0x90200 := by
  intro p hp
  obtain ⟨⟨l, v⟩, hl, hin⟩ := List.mem_flatMap.mp hp
  have hlt : l < 4 := by simpa using (List.mem_filter.mp hl).2
  obtain ⟨r, hr, hkey⟩ := packerEntries_key hin
  omega

theorem laneWindow {x : Tab Lane} : ∀ p ∈ (x.filter (fun p => decide (p.1 < 4))).flatMap laneEntries,
    0xA0014 ≤ p.1 ∧ p.1 < 0xA0200 := by
  intro p hp
  obtain ⟨⟨l, v⟩, hl, hin⟩ := List.mem_flatMap.mp hp
  have hlt : l < 4 := by simpa using (List.mem_filter.mp hl).2
  obtain ⟨r, hr, hkey⟩ := laneEntries_key hin
  omega

/-- Counter `r` of a packer. -/
def Packer.count (v : Packer) (r : Nat) : Nat :=
  match r with
  | 0 => v.cntIn
  | 1 => v.cntOut
  | 2 => v.cntGroups
  | 3 => v.cntReset
  | 4 => v.cntVerify
  | _ => v.cntCtx

/-- Counter `r` of a lane. -/
def Lane.count (v : Lane) (r : Nat) : Nat :=
  match r with
  | 0 => v.cntFecCorr
  | 1 => v.cntFecUnc
  | 2 => v.cntFrameErr
  | 3 => v.cntReplay
  | 4 => v.cntRetrain
  | 5 => v.cntDiscard
  | _ => v.cntRoute

/-- Counter `r` of a queue. -/
def Queue.count (v : Queue) (r : Nat) : Nat :=
  match r with
  | 0 => v.lost
  | 1 => v.flushed
  | _ => v.drop

theorem packer_counted (s : State) {l r : Nat} (hl : l < 4) (hr : r < 6) :
    (s.pk.lanes.get {} l).count r ≤ (counters s).get 0 (0x90100 + 32 * l + 4 * r) := by
  obtain ⟨x, hx, hkeys⟩ := counters_split s
  have hnone : Tab.find x (0x90100 + 32 * l + 4 * r) = none :=
    Tab.find_eq_none fun p hp => by
      have := hkeys p hp
      omega
  rw [hx, Tab.get_append, hnone, Option.getD_none, ← Tab.get_filter_lt s.pk.lanes {} hl]
  refine Tab.le_get_flatMap _ {} packerEntries _ l _ (fun v => v.count r) ?_ (fun v => ?_) (fun p hp => ?_)
  · interval_cases r <;> rfl
  · interval_cases r <;> simp [packerEntries, List.range_succ, Tab.find, Packer.count]
  · refine Tab.find_eq_none fun y hy => ?_
    obtain ⟨r', hr', hkey⟩ := packerEntries_key hy
    omega

theorem lane_counted (s : State) {l r : Nat} (hl : l < 4) (hr : r < 7) :
    (getLane s l).count r ≤ (counters s).get 0 (0xA0014 + 64 * l + 4 * r) := by
  obtain ⟨x, hx, hkeys⟩ := counters_split s
  have hnone : Tab.find x (0xA0014 + 64 * l + 4 * r) = none :=
    Tab.find_eq_none fun p hp => by
      have := hkeys p hp
      omega
  have hpk : Tab.find ((s.pk.lanes.filter (fun p => decide (p.1 < 4))).flatMap packerEntries)
      (0xA0014 + 64 * l + 4 * r) = none :=
    Tab.find_eq_none fun p hp => by
      have := packerWindow p hp
      omega
  rw [hx, Tab.get_append, hnone, Option.getD_none, Tab.get_append, hpk, Option.getD_none, getLane,
    ← Tab.get_filter_lt s.ln.lanes {} hl]
  refine Tab.le_get_flatMap _ {} laneEntries _ l _ (fun v => v.count r) ?_ (fun v => ?_) (fun p hp => ?_)
  · interval_cases r <;> rfl
  · interval_cases r <;> simp [laneEntries, List.range_succ, Tab.find, Lane.count]
  · refine Tab.find_eq_none fun y hy => ?_
    obtain ⟨r', hr', hkey⟩ := laneEntries_key hy
    omega

theorem queue_counted (s : State) (q : Nat) {r : Nat} (hr : r < 3) :
    (getQueue s q).count r ≤ (counters s).get 0 (queueKey q (0x28 + 4 * r)) := by
  obtain ⟨x, hx, hkeys⟩ := counters_split s
  have hlarge : 0x1000000 ≤ queueKey q (0x28 + 4 * r) := by
    rw [queueKey]
    omega
  have hnone : Tab.find x (queueKey q (0x28 + 4 * r)) = none :=
    Tab.find_eq_none fun p hp => by
      have := hkeys p hp
      omega
  have hpk : Tab.find ((s.pk.lanes.filter (fun p => decide (p.1 < 4))).flatMap packerEntries)
      (queueKey q (0x28 + 4 * r)) = none :=
    Tab.find_eq_none fun p hp => by
      have := packerWindow p hp
      omega
  have hln : Tab.find ((s.ln.lanes.filter (fun p => decide (p.1 < 4))).flatMap laneEntries)
      (queueKey q (0x28 + 4 * r)) = none :=
    Tab.find_eq_none fun p hp => by
      have := laneWindow p hp
      omega
  rw [hx, Tab.get_append, hnone, Option.getD_none, Tab.get_append, hpk, Option.getD_none, Tab.get_append, hln,
    Option.getD_none, getQueue, ← List.append_nil (s.wq.queues.flatMap queueEntries)]
  refine Tab.le_get_flatMap _ {} queueEntries _ q _ (fun v => v.count r) ?_ (fun v => ?_) (fun p hp => ?_)
  · interval_cases r <;> rfl
  · interval_cases r <;> simp [queueEntries, queueKey, Tab.find, Queue.count]
  · refine Tab.find_eq_none fun y hy => ?_
    obtain ⟨off, hoff, hkey⟩ := queueEntries_key hy
    rw [hkey, queueKey, queueKey]
    simp only [List.mem_cons, List.not_mem_nil, or_false] at hoff
    omega

/-! ### Reading them -/

theorem packer_window {l r : Nat} (hl : l < 4) (hr : r < 8) :
    (0x00090100 + 32 * l + 4 * r) / 0x10000 = 9 ∧
    (0x00090100 + 32 * l + 4 * r) % 0x10000 = 0x100 + 4 * (8 * l + r) ∧
    upperOf (0x00090100 + 32 * l + 4 * r) = none := by
  refine ⟨by omega, by omega, ?_⟩
  rw [upperOf, if_neg (by omega)]

theorem readPk_array (s : State) {l r : Nat} (hl : l < 4) (hr : r < 8) :
    readPk s (0x100 + 4 * (8 * l + r)) = packerWord (s.pk.lanes.get {} l) r := by
  have hdiv : (8 * l + r) / 8 = l := by omega
  have hmod : (8 * l + r) % 8 = r := by omega
  unfold readPk
  split
  case h_4 => rw [wordIn_base_add (by omega)]; simp only [hdiv, hmod]
  all_goals omega

theorem live32_packer (s : State) {l r : Nat} (hl : l < 4) (hr : r < 6) :
    live32 s (0x00090100 + 32 * l + 4 * r) = w32 ((s.pk.lanes.get {} l).count r) := by
  obtain ⟨hwin, hoff, -⟩ := packer_window hl (show r < 8 by omega)
  rw [live32, if_neg (by omega), if_neg (by omega), if_pos (by omega), hwin, hoff, readWindow,
    readPk_array s hl (by omega)]
  interval_cases r <;> rfl

theorem clearPk_array (s : State) {l r : Nat} (hl : l < 4) (hr : r < 8) :
    clearPk (0x100 + 4 * (8 * l + r)) s = { s with pk := { s.pk with
      lanes := s.pk.lanes.upd {} l (Packer.cleared (newer s (0x00090100 + 32 * l + 4 * r)) r) } } := by
  have hdiv : (8 * l + r) / 8 = l := by omega
  have hmod : (8 * l + r) % 8 = r := by omega
  have haddr : 0x90000 + (0x100 + 4 * (8 * l + r)) = 0x00090100 + 32 * l + 4 * r := by omega
  unfold clearPk
  split
  case h_3 => rw [wordIn_base_add (by omega)]; simp only [hdiv, hmod, haddr]
  all_goals omega

theorem readEffect_packer (s : State) {l r : Nat} (hl : l < 4) (hr : r < 6) :
    (readEffect (0x00090100 + 32 * l + 4 * r) s).pk.lanes = s.pk.lanes.upd {} l
      (Packer.cleared (newer s (0x00090100 + 32 * l + 4 * r)) r) := by
  obtain ⟨hwin, hoff, hupper⟩ := packer_window hl (show r < 8 by omega)
  rw [readEffect, captureUpper, hupper, clearFields, if_neg (by omega), if_neg (by omega), if_pos (by omega), hwin, hoff,
    clearWindow, clearPk_array s hl (by omega)]
  rfl

theorem countsAt_packer {l r : Nat} (hl : l < 4) (hr : r < 6) :
    CountsAt (0x00090100 + 32 * l + 4 * r) (fun s => (s.pk.lanes.get {} l).count r) where
  settle b s := by simp
  begin t s := rfl
  clear s := by
    rw [readEffect_packer s hl hr, Tab.get_upd_same]
    interval_cases r <;> rfl
  counted s := packer_counted s hl hr

theorem lane_window {l r : Nat} (hl : l < 4) (hr : r < 8) :
    (0x000A0014 + 64 * l + 4 * r) / 0x10000 = 0xA ∧
    (0x000A0014 + 64 * l + 4 * r) % 0x10000 = 0x14 + 64 * l + 4 * r ∧
    (0x14 + 64 * l + 4 * r) / 64 = l ∧ (0x14 + 64 * l + 4 * r) % 64 = 0x14 + 4 * r ∧
    upperOf (0x000A0014 + 64 * l + 4 * r) = none := by
  refine ⟨by omega, by omega, by omega, by omega, ?_⟩
  rw [upperOf, if_neg (by omega)]

theorem live32_lane (s : State) {l r : Nat} (hl : l < 4) (hr : r < 8) :
    live32 s (0x000A0014 + 64 * l + 4 * r) = laneWord s l (0x14 + 4 * r) := by
  obtain ⟨hwin, hoff, hdiv, hmod, -⟩ := lane_window hl hr
  rw [live32, if_neg (by omega), if_neg (by omega), if_pos (by omega), hwin, hoff, readWindow]
  unfold readLn
  rw [if_pos (by omega), hdiv, hmod]

theorem readEffect_lane (s : State) {l r : Nat} (hl : l < 4) (hr : r < 8) :
    getLane (readEffect (0x000A0014 + 64 * l + 4 * r) s) l =
      Lane.cleared (newer s (0x000A0014 + 64 * l + 4 * r))
        (keptValue s (0x000A0014 + 64 * l + 4 * r) max 0).toNat (0x14 + 4 * r) (getLane s l) := by
  obtain ⟨hwin, hoff, hdiv, hmod, hupper⟩ := lane_window hl hr
  have haddr : 0xA0000 + (0x14 + 64 * l + 4 * r) = 0x000A0014 + 64 * l + 4 * r := by omega
  have hln : clearLn (0x14 + 64 * l + 4 * r) s = updLane l (Lane.cleared (newer s (0x000A0014 + 64 * l + 4 * r))
      (keptValue s (0x000A0014 + 64 * l + 4 * r) max 0).toNat (0x14 + 4 * r)) s := by
    rw [clearLn, if_pos (by omega), hdiv, hmod, haddr]
  rw [readEffect, captureUpper, hupper, clearFields, if_neg (by omega), if_neg (by omega), if_pos (by omega), hwin, hoff,
    clearWindow, hln]
  exact Tab.get_set_same _ _ _ _

theorem countsAt_lane {l r : Nat} (hl : l < 4) (hr : r < 7) :
    CountsAt (0x000A0014 + 64 * l + 4 * r) (fun s => (getLane s l).count r) where
  settle b s := by simp [getLane]
  begin t s := rfl
  clear s := by
    rw [readEffect_lane s hl (by omega)]
    interval_cases r <;> rfl
  counted s := lane_counted s hl hr

/-- The last register of a lane keeps its worst credit. -/
theorem laneWord_after_fresh_read {l r t : Nat} {s : State} (hl : l < 4) (hr : r < 8) (h : freshCycle t s = true) :
    laneWord (settle s (readEffect (0x000A0014 + 64 * l + 4 * r) (begin t s))) l (0x14 + 4 * r) = 0 := by
  by_cases h7 : r < 7
  · have hz := (countsAt_lane hl h7).after_fresh_read h
    generalize settle s (readEffect (0x000A0014 + 64 * l + 4 * r) (begin t s)) = u at hz ⊢
    have hword : laneWord u l (0x14 + 4 * r) = w32 ((getLane u l).count r) := by
      interval_cases r <;> rfl
    rw [hword, hz]
    rfl
  · obtain rfl : r = 7 := by omega
    have hworst : (getLane (settle s (readEffect (0x000A0014 + 64 * l + 4 * 7) (begin t s))) l).worst = 0 := by
      rw [getLane, settle_ln, ← getLane, readEffect_lane _ hl hr, keptValue_of_fresh h]
      rfl
    have hword : ∀ u, laneWord u l (0x14 + 4 * 7) = w32 (getLane u l).worst := fun _ => rfl
    rw [hword, hworst]
    rfl

/-! ### The registers of the queue shown -/

theorem shownQueue_settle (b s : State) : shownQueue (settle b s) = shownQueue s := by simp [shownQueue]

/-- A read of one of the three counters stores the queue shown with what that counter keeps. -/
theorem readEffect_queue (s : State) {r : Nat} (hr : r < 3) :
    ∃ v, readEffect (0x00080028 + 4 * r) s = forgetCounts (0x00080028 + 4 * r) (setQueue (shownQueue s) v s) ∧
      v.count r = newer s (queueKey (shownQueue s) (0x28 + 4 * r)) ((getQueue s (shownQueue s)).count r) := by
  interval_cases r
  · exact ⟨_, rfl, rfl⟩
  · exact ⟨_, rfl, rfl⟩
  · exact ⟨_, rfl, rfl⟩

theorem live32_queue (s : State) {r : Nat} (hr : r < 3) :
    live32 s (0x00080028 + 4 * r) = w32 ((getQueue s (shownQueue s)).count r) := by
  interval_cases r <;> rfl

theorem queue_after_fresh_read {r t : Nat} {s : State} (hr : r < 3) (h : freshCycle t s = true) :
    live32 (settle s (readEffect (0x00080028 + 4 * r) (begin t s))) (0x00080028 + 4 * r) = 0 := by
  obtain ⟨v, heffect, hcount⟩ := readEffect_queue (begin t s) hr
  have hshown : shownQueue (readEffect (0x00080028 + 4 * r) (begin t s)) = shownQueue s := by
    rw [heffect]
    rfl
  have hqueue : getQueue (readEffect (0x00080028 + 4 * r) (begin t s)) (shownQueue s) = v := by
    rw [heffect]
    exact Tab.get_set_same _ _ _ _
  have hzero := newer_of_fresh h (queue_counted s (shownQueue s) hr)
  rw [live32_queue _ hr, shownQueue_settle, hshown, getQueue, settle_wq, ← getQueue, hqueue, hcount]
  exact congrArg w32 hzero

/-! ### The trackers of housekeeping -/

theorem tracker_window {i : Nat} (hi : i < 64) :
    (0x000B0200 + 4 * i) / 0x10000 = 0xB ∧ (0x000B0200 + 4 * i) % 0x10000 = 0x200 + 4 * i ∧
    upperOf (0x000B0200 + 4 * i) = none := by
  refine ⟨by omega, by omega, ?_⟩
  rw [upperOf, if_neg (by omega)]

theorem readHk_tracker (s : State) {i : Nat} (hi : i < 64) :
    readHk s (0x200 + 4 * i) = minMaxWord (shownAccum s (i / 32) (i % 32)) := by
  have harr : readHk s (0x200 + 4 * i) = readHkArray s (0x200 + 4 * i) := by
    unfold readHk
    split
    case h_10 => rfl
    all_goals exact absurd ‹_› (by omega)
  have h100 : wordIn (0x200 + 4 * i) 0x100 32 = none := by rw [wordIn, if_neg (by omega)]
  have h180 : wordIn (0x200 + 4 * i) 0x180 32 = none := by rw [wordIn, if_neg (by omega)]
  rw [harr, readHkArray, h100, h180]
  by_cases h : i < 32
  · have hdiv : i / 32 = 0 := by omega
    have hmod : i % 32 = i := by omega
    rw [wordIn_base_add h, hdiv, hmod]
  · have hdiv : i / 32 = 1 := by omega
    have hnone : wordIn (0x200 + 4 * i) 0x200 32 = none := by rw [wordIn, if_neg (by omega)]
    have hsome : wordIn (0x200 + 4 * i) 0x280 32 = some (i % 32) := by
      rw [wordIn, if_pos (by omega)]
      exact congrArg some (by omega)
    rw [hnone, hsome, hdiv]

theorem live32_tracker (s : State) {i : Nat} (hi : i < 64) :
    live32 s (0x000B0200 + 4 * i) = minMaxWord (shownAccum s (i / 32) (i % 32)) := by
  obtain ⟨hwin, hoff, -⟩ := tracker_window hi
  rw [live32, if_neg (by omega), if_neg (by omega), if_pos (by omega), hwin, hoff, readWindow, readHk_tracker s hi]

theorem clearHk_tracker (s : State) {i : Nat} (hi : i < 64) :
    clearHk (0x200 + 4 * i) s = match shownTracker s (i / 32) (i % 32) with
      | some v => clearTrack v (i % 32) s
      | none => s := by
  unfold clearHk
  split
  case h_4 => rw [wordIn_base_add hi] <;> rfl
  all_goals omega

/-- The tracker shown is named by the plan in force, which reading leaves. -/
theorem shownTracker_congr {s u : State} (h : hkPlan u = hkPlan s) (w i : Nat) : shownTracker u w i = shownTracker s w i := by
  unfold shownTracker hkInput
  rw [h]

@[simp] theorem accOf_setAcc_same (v i : Nat) (a : Accum) (s : State) : accOf (setAcc v i a s) v i = a := by
  by_cases h : v = 0 <;> simp [accOf, setAcc, h]

theorem readEffect_tracker (s : State) {i : Nat} (hi : i < 64) :
    readEffect (0x000B0200 + 4 * i) s = forgetCounts (0x000B0200 + 4 * i)
      (match shownTracker s (i / 32) (i % 32) with
        | some v => clearTrack v (i % 32) s
        | none => s) := by
  obtain ⟨hwin, hoff, hupper⟩ := tracker_window hi
  rw [readEffect, captureUpper, hupper, clearFields, if_neg (by omega), if_neg (by omega), if_pos (by omega), hwin, hoff,
    clearWindow, clearHk_tracker s hi]

/-- After a read in a fresh cycle the tracker shown, if any, holds its reset values. -/
theorem tracker_after_fresh_read {i t : Nat} {s : State} (hi : i < 64) (h : freshCycle t s = true) :
    live32 (settle s (readEffect (0x000B0200 + 4 * i) (begin t s))) (0x000B0200 + 4 * i) = 0x0000FFFF#32 := by
  rw [live32_tracker _ hi, readEffect_tracker _ hi]
  cases hv : shownTracker (begin t s) (i / 32) (i % 32) with
  | none =>
    have hshown : shownAccum (settle s (forgetCounts (0x000B0200 + 4 * i) (begin t s))) (i / 32) (i % 32) = {} := by
      rw [shownAccum, shownTracker_congr (u := settle s (forgetCounts (0x000B0200 + 4 * i) (begin t s))) (s := begin t s)
        (by simp [hkPlan, forgetCounts]), hv]
      rfl
    simp only [hshown]
    rfl
  | some v =>
    have hplan : hkPlan (settle s (forgetCounts (0x000B0200 + 4 * i) (clearTrack v (i % 32) (begin t s)))) =
        hkPlan (begin t s) := by
      by_cases hz : v = 0 <;> simp [hkPlan, forgetCounts, clearTrack, setAcc, hz]
    have hacc : accOf (settle s (forgetCounts (0x000B0200 + 4 * i) (clearTrack v (i % 32) (begin t s)))) v (i % 32) =
        accOf (clearTrack v (i % 32) (begin t s)) v (i % 32) := by
      simp [accOf, forgetCounts]
    have hshown : shownAccum (settle s (forgetCounts (0x000B0200 + 4 * i) (clearTrack v (i % 32) (begin t s))))
        (i / 32) (i % 32) = { accOf (begin t s) v (i % 32) with min := 0xFFFF, max := 0 } := by
      rw [shownAccum, shownTracker_congr hplan, hv, Option.map_some, Option.getD_some, hacc, clearTrack,
        accOf_setAcc_same, keptValue_of_fresh h, keptValue_of_fresh h]
      rfl
    simp only [hshown]
    exact (by decide : word [(16, 16, 0), (0, 16, 0xFFFF)] = 0x0000FFFF#32)

/-! ### The statement -/

/-- An aligned address of a block window, which every path but the TAP reaches. -/
theorem access_of_window {a : Nat} (h4 : a % 4 = 0) (hlo : 0x10000 ≤ a) (hhi : a < 0x200000) {p : Path} (hp : p ≠ .tap) :
    accessOk p a = true := by
  simp [accessOk, addressOk, inRegion, reaches, hp, h4, hlo, hhi]

/-- A counter that its register shows as a word of its own reads what the running cycle has counted. -/
theorem CountsAt.yields {a : Nat} {val : State → Nat} (h : CountsAt a val) {t : Nat} {p : Path} {s : State}
    (hs : awake t s = true) (ha : accessOk p a = true) :
    Yields (exec (.readClear t p a) s) (fun u => val u = newer (Machine.begin t s) a (val s)) := by
  rw [exec_readClear hs ha]
  exact yields_next (h.after_read t s)

theorem countsAt_mem {a : Nat} {val : State → Nat} (h : (a, val) ∈ wordCounters) : CountsAt a val :=
  countsAt_wordCounters _ h

/-- Settles O11: each RC field is a counter that its read clears (`CountsAt`), or keeps a least or greatest value. -/
theorem readClearRestores : Obligations.ReadClearRestores := by
  refine ⟨?fields, ?trackers, ?packers, ?queues, ?lanes, ?counted⟩
  case fields =>
    intro q hq t p s hs hf hp
    rw [exec_readClear hs (rcFields_access hq hp)]
    exact yields_next (rcField_after_fresh_read hq hf)
  case trackers =>
    intro i t p s hi hs hf hp
    rw [exec_readClear hs (access_of_window (by omega) (by omega) (by omega) hp)]
    exact yields_next (tracker_after_fresh_read hi hf)
  case packers =>
    intro l r t p s hl hr hs hf hp
    rw [exec_readClear hs (access_of_window (by omega) (by omega) (by omega) hp)]
    refine yields_next ?_
    rw [live32_packer _ hl hr, (countsAt_packer hl hr).after_fresh_read hf]
    rfl
  case queues =>
    intro r t p s hr hs hf hp
    rw [exec_readClear hs (access_of_window (by omega) (by omega) (by omega) hp)]
    exact yields_next (queue_after_fresh_read hr hf)
  case lanes =>
    intro l r t p s hl hr hs hf hp
    rw [exec_readClear hs (access_of_window (by omega) (by omega) (by omega) hp)]
    refine yields_next ?_
    rw [live32_lane _ hl hr]
    exact laneWord_after_fresh_read hl hr hf
  case counted =>
    intro t p s hs hp
    have ha : ∀ a ∈ [0x20014, 0x10040, 0x01024, 0xF0030], accessOk p a = true := by
      simp [accessOk, addressOk, inRegion, reaches, hp]
    refine ⟨?_, ?_, ?_, ?_⟩
    · exact (countsAt_mem (val := fun s => s.rx.cntStop) (by simp [wordCounters])).yields hs (ha _ (by simp))
    · exact (countsAt_mem (val := fun s => s.sm.cntAccept) (by simp [wordCounters])).yields hs (ha _ (by simp))
    · exact (countsAt_mem (val := fun s => s.cb.hpErr) (by simp [wordCounters])).yields hs (ha _ (by simp))
    · exact countsAt_sinChanges.yields hs (ha _ (by simp))

end Sys2Proof.Machine
end

section
/-! R509 to R514: the transactions of the house port. -/

namespace Sys2Proof.Machine

/-! ### What a transaction does with its header -/

/-- The header is good, the last transaction has ended, and the operation is `op`. -/
def SoundHead (op : Nat) (cmd : Byte) (addr : Nat) (h : PortHead) (s : State) : Prop :=
  s.port.inTransaction = false ∧ h.cut = false ∧ headerOk cmd addr h.crc = true ∧ cmdOp cmd = op

theorem uncut_of_cut {h : PortHead} (hc : h.cut = true) (f : State → State) (s : State) : uncut h f s = s := by
  simp [uncut, hc]

theorem transaction_of_sound {op : Nat} {cmd : Byte} {addr : Nat} {h : PortHead} {s : State}
    (hs : SoundHead op cmd addr h s) (f : State → State) :
    uncut h (transaction op cmd addr h.crc f) s = f s := by
  obtain ⟨hfree, hcut, hok, hop⟩ := hs
  simp [uncut, hcut, transaction, portFree, hfree, hok, hop]

/-- A transaction of the port that is one effect, where the logic runs. -/
theorem yields_act {t : Nat} {s : State} {f : State → State} {P : State → Prop} (hs : awake t s = true)
    (h : P (settle s (f (begin t s)))) : Yields (act t s f) P := by
  obtain ⟨hl, hd⟩ := awake_iff.mp hs
  rw [act_live hl hd]
  exact yields_next h

theorem SoundHead.begin {op : Nat} {cmd : Byte} {addr : Nat} {h : PortHead} {s : State}
    (hs : SoundHead op cmd addr h s) (t : Nat) : SoundHead op cmd addr h (Machine.begin t s) := hs

/-- A transaction that is cut does nothing. -/
theorem yields_cut {t : Nat} {h : PortHead} {s : State} (hs : awake t s = true) (hc : h.cut = true)
    (f : State → State) : Yields (act t s (uncut h f)) (fun u => Leaves t s u id) :=
  yields_act hs ⟨_, rfl, by rw [uncut_of_cut hc]⟩

/-- A sound transaction of operation `op` runs `f`. -/
theorem yields_sound {op t : Nat} {cmd : Byte} {addr : Nat} {h : PortHead} {s : State} {f : State → State}
    {P : State → Prop} (hs : awake t s = true) (hh : SoundHead op cmd addr h s) (hP : P (settle s (f (begin t s)))) :
    Yields (act t s (uncut h (transaction op cmd addr h.crc f))) P :=
  yields_act hs (by rwa [transaction_of_sound (hh.begin t)])

/-! ### Answers -/

/-- An answer changes the port alone. -/
theorem leaves_portAnswer (t status : Nat) (ws : List W32) (crc : BitVec 16) (s : State) :
    Leaves t s (settle s (portAnswer status ws crc (begin t s))) (fun x => { x with port := {} }) := ⟨_, rfl, rfl⟩

theorem leaves_portStore (t status : Nat) (ws : List W32) (s : State) :
    Leaves t s (settle s (portStore status ws (begin t s))) (fun x => { x with port := {} }) := ⟨_, rfl, rfl⟩

/-- An error counts, sets its event and answers its status, and the stored response stays. -/
theorem settle_portError (t status : Nat) (s : State) :
    Leaves t s (settle s (portError status (begin t s))) (fun x => { x with cb := {}, port := {} }) ∧
    (settle s (portError status (begin t s))).port.stored = s.port.stored ∧
    (settle s (portError status (begin t s))).port.status = status ∧
    (settle s (portError status (begin t s))).port.data = [] ∧
    (settle s (portError status (begin t s))).cb.hpErr = inc32 s.cb.hpErr ∧
    (settle s (portError status (begin t s))).cb.event.getLsbD evHousePort = true := by
  refine ⟨⟨_, rfl, rfl⟩, ?_, ?_, ?_, ?_, settle_keeps_event ?_⟩
  · rw [settle_port]; rfl
  · rw [settle_port]; rfl
  · rw [settle_port]; rfl
  · rw [settle_cb_hpErr]; rfl
  · simp [portError, portAnswer, setEvent, bit32, evHousePort]

/-! ### Reads -/

theorem readWords_length (n a : Nat) (s : State) : (readWords a n s).1.length = n := by
  induction n generalizing a s with
  | zero => rfl
  | succ n ih => simp [readWords, ih]

theorem readWords_head {n : Nat} (hn : 0 < n) (a : Nat) (s : State) :
    (readWords a n s).1.head? = some (peek s a) := by
  obtain ⟨m, rfl⟩ := Nat.exists_eq_succ_of_ne_zero hn.ne'
  rfl

/-- Settles O14: a sound read runs `portRead`, whose answer is stored, and a read that is cut does nothing. -/
theorem housePortRead : Obligations.HousePortRead := by
  intro t cmd addr h s hs a sound
  have hexec : exec (.hpRead t cmd addr h) s =
      act t s (uncut h (transaction 0 cmd addr h.crc (portRead a (cmdWords cmd)))) := rfl
  rw [hexec]
  refine ⟨fun hc => yields_cut hs hc _, fun hsound hok => ?inside, fun hsound hok => ?outside⟩
  case inside =>
    have hread : portRead a (cmdWords cmd) (begin t s) = portStore stDone (readWords a (cmdWords cmd) (begin t s)).1
        (readWords a (cmdWords cmd) (begin t s)).2 := if_pos hok
    refine yields_sound hs hsound ?_
    simp only [hread, settle_port]
    exact ⟨rfl, rfl, readWords_length _ _ _, readWords_head (Nat.succ_pos _) _ _, rfl, rfl, rfl⟩
  case outside =>
    have hread : portRead a (cmdWords cmd) (begin t s) =
        portStore stAddress (List.replicate (cmdWords cmd) 0) (begin t s) := if_neg (by simp [hok])
    refine yields_sound hs hsound ?_
    rw [hread]
    refine ⟨leaves_portStore _ _ _ _, ?_⟩
    rw [settle_port]
    exact ⟨rfl, rfl, rfl, rfl⟩

/-! ### Writes, repeats and failed headers -/

/-- Settles O15, by the cases of a write, a repeat, a failed header and the end of a transaction. -/
theorem housePortWriteAndRepeat : Obligations.HousePortWriteAndRepeat := by
  refine ⟨?writes, ?others⟩
  case writes =>
    intro t cmd addr h ws dcrc s hs a sound whole
    have hexec : exec (.hpWrite t cmd addr h ws dcrc) s = act t s (uncut h (transaction 1 cmd addr h.crc (fun u =>
        if ws.length ≠ cmdWords cmd ∨ dcrc ≠ dataCrc ws then portError stData u else portWrite a ws u))) := rfl
    rw [hexec]
    refine ⟨fun hc => yields_cut hs hc _, fun hsound hwhole hok hlive => ?written, fun hsound hwhole hok => ?outside,
      fun hsound hwhole => ?failed⟩
    case written =>
      have hgood : ¬ (ws.length ≠ cmdWords cmd ∨ dcrc ≠ dataCrc ws) := by simp [hwhole.1, hwhole.2]
      refine yields_sound hs hsound ?_
      rw [if_neg hgood, portWrite, hwhole.1, if_pos hok]
      simp only [hlive, if_true]
      refine ⟨⟨_, rfl, rfl⟩, ?_⟩
      rw [settle_port]
      exact ⟨rfl, rfl, rfl⟩
    case outside =>
      have hgood : ¬ (ws.length ≠ cmdWords cmd ∨ dcrc ≠ dataCrc ws) := by simp [hwhole.1, hwhole.2]
      refine yields_sound hs hsound ?_
      rw [if_neg hgood, portWrite, hwhole.1, if_neg (by simp [hok])]
      refine ⟨leaves_portAnswer _ _ _ _ _, ?_⟩
      rw [settle_port]
      exact ⟨rfl, rfl, rfl, rfl, rfl⟩
    case failed =>
      have hbad : ws.length ≠ cmdWords cmd ∨ dcrc ≠ dataCrc ws := not_and_or.mp hwhole
      obtain ⟨hleaves, hstored, hstatus, hdata, herr, hevent⟩ := settle_portError t stData s
      refine yields_sound hs hsound ?_
      rw [if_pos hbad]
      exact ⟨hleaves, hstatus, hdata, hstored, herr, hevent⟩
  case others =>
    intro t cmd addr h hcrc s hs sound
    have hexec : exec (.hpRepeat t cmd addr h) s =
        act t s (uncut h (transaction 2 cmd addr h.crc portRepeat)) := rfl
    have hexecInvalid : exec (.hpInvalidOp t cmd addr hcrc) s = act t s (fun u =>
        if portFree u && (!headerOk cmd addr hcrc || cmdOp cmd == 3) then portError stHeader u else u) := rfl
    have hexecRise : exec (.hpCsRise t) s = act t s endTransaction := rfl
    rw [hexec, hexecInvalid, hexecRise]
    refine ⟨fun hc => yields_cut hs hc _, fun r hsound hr => ?repeated, fun hsound hnone => ?none,
      fun hfree hbad => ?invalid, ?rise⟩
    case repeated =>
      have hrepeat : portRepeat (begin t s) = portAnswer r.1 r.2.1 r.2.2 (begin t s) := by
        simp only [portRepeat, begin_port, hr]
      refine yields_sound hs hsound ?_
      rw [hrepeat]
      refine ⟨leaves_portAnswer _ _ _ _ _, ?_⟩
      rw [settle_port]
      exact ⟨rfl, hr, rfl, rfl, rfl, rfl⟩
    case none =>
      have hrepeat : portRepeat (begin t s) = portAnswer stNoStored [] (respCrc stNoStored []) (begin t s) := by
        simp only [portRepeat, begin_port, hnone]
      refine yields_sound hs hsound ?_
      rw [hrepeat]
      refine ⟨leaves_portAnswer _ _ _ _ _, ?_⟩
      rw [settle_port]
      exact ⟨hnone, rfl, rfl⟩
    case invalid =>
      have hcond : (portFree (begin t s) && (!headerOk cmd addr hcrc || cmdOp cmd == 3)) = true := by
        rcases hbad with hbad | hbad <;> simp [portFree, hfree, hbad]
      obtain ⟨hleaves, hstored, hstatus, -, herr, hevent⟩ := settle_portError t stHeader s
      refine yields_act hs ?_
      rw [if_pos hcond]
      exact ⟨hleaves, hstored, hstatus, herr, hevent⟩
    case rise =>
      refine yields_act hs ⟨⟨_, rfl, rfl⟩, ?_⟩
      rw [settle_port]
      exact ⟨rfl, rfl, rfl⟩

end Sys2Proof.Machine
end

section
/-! The lanes' operations that change nothing but the lanes, and what a lane reads after an update. -/

namespace Sys2Proof.Machine

@[simp] theorem lanesOnly_setLane (l : Nat) (v : Lane) (s : State) : lanesOnly (setLane l v s) = lanesOnly s := rfl
@[simp] theorem lanesOnly_updLane (l : Nat) (f : Lane → Lane) (s : State) : lanesOnly (updLane l f s) = lanesOnly s := rfl
@[simp] theorem lanesOnly_pumpLane (l : Nat) (s : State) : lanesOnly (pumpLane l s) = lanesOnly s := rfl
@[simp] theorem lanesOnly_takeKeyed (l vc key n : Nat) (s : State) : lanesOnly (takeKeyed l vc key n s) = lanesOnly s := rfl
@[simp] theorem lanesOnly_takeMessage (l vc n : Nat) (s : State) : lanesOnly (takeMessage l vc n s) = lanesOnly s := rfl
@[simp] theorem lanesOnly_takeRouted (l n : Nat) (r : Route) (s : State) : lanesOnly (takeRouted l r n s) = lanesOnly s := rfl
@[simp] theorem lanesOnly_dropRoute (l vc n : Nat) (s : State) : lanesOnly (dropRoute l vc n s) = lanesOnly s := rfl
@[simp] theorem lanesOnly_frameError (l : Nat) (s : State) : lanesOnly (frameError l s) = lanesOnly s := rfl
@[simp] theorem lanesOnly_refuseFrame (l : Nat) (s : State) : lanesOnly (refuseFrame l s) = lanesOnly s := rfl

@[simp] theorem lanesOnly_sendMsg (l vc ty : Nat) (bs : List Byte) (s : State) :
    lanesOnly (sendMsg l vc ty bs s) = lanesOnly s := by
  unfold sendMsg
  split <;> simp

@[simp] theorem lanesOnly_sendHouse (vc ty : Nat) (bs : List Byte) (s : State) :
    lanesOnly (sendHouse vc ty bs s) = lanesOnly s := by
  unfold sendHouse
  split <;> simp

@[simp] theorem lanesOnly_sendRouted (l : Nat) (r : Route) (bs : List Byte) (s : State) :
    lanesOnly (sendRouted l r bs s) = lanesOnly s := by
  unfold sendRouted
  split <;> simp

/-- What reads no lane is the same. -/
theorem eq_of_lanesOnly {α : Type} {u s : State} (h : lanesOnly u = lanesOnly s) (f : State → α)
    (hf : ∀ x, f (lanesOnly x) = f x) : f u = f s := by
  rw [← hf u, h, hf]

/-- Every group of the state but the lanes is the same. -/
theorem lanesOnly_groups {u s : State} (h : lanesOnly u = lanesOnly s) :
    u.now = s.now ∧ u.pwr = s.pwr ∧ u.img = s.img ∧ u.sm = s.sm ∧ u.wq = s.wq ∧ u.saf = s.saf ∧ u.cb = s.cb :=
  ⟨eq_of_lanesOnly h State.now fun _ => rfl, eq_of_lanesOnly h State.pwr fun _ => rfl,
    eq_of_lanesOnly h State.img fun _ => rfl, eq_of_lanesOnly h State.sm fun _ => rfl,
    eq_of_lanesOnly h State.wq fun _ => rfl, eq_of_lanesOnly h State.saf fun _ => rfl,
    eq_of_lanesOnly h State.cb fun _ => rfl⟩

@[simp] theorem getLane_setLane_same (l : Nat) (v : Lane) (s : State) : getLane (setLane l v s) l = v :=
  Tab.get_set_same _ _ _ _

theorem getLane_setLane_other {l m : Nat} (h : m ≠ l) (v : Lane) (s : State) : getLane (setLane l v s) m = getLane s m :=
  Tab.get_set_other _ _ _ h

@[simp] theorem getLane_updLane_same (l : Nat) (f : Lane → Lane) (s : State) :
    getLane (updLane l f s) l = f (getLane s l) := getLane_setLane_same _ _ _

theorem getLane_updLane_other {l m : Nat} (h : m ≠ l) (f : Lane → Lane) (s : State) :
    getLane (updLane l f s) m = getLane s m := getLane_setLane_other h _ _

@[simp] theorem getLane_begin (t l : Nat) (s : State) : getLane (begin t s) l = getLane s l := rfl

@[simp] theorem getLane_settle (b s : State) (l : Nat) : getLane (settle b s) l = getLane s l := by simp [getLane]

@[simp] theorem laneTrained_begin (t : Nat) (s : State) (l : Nat) : laneTrained (begin t s) l = laneTrained s l := rfl

/-- A message to the house reads lanes only, so a command's start does not change it. -/
theorem leaves_of_lanesOnly {t : Nat} {s v : State} (h : lanesOnly v = lanesOnly (begin t s)) :
    Leaves t s (settle s v) lanesOnly := ⟨v, rfl, by rw [h]⟩

end Sys2Proof.Machine
end

section
/-! R446, R484, R488, R489, R491, R492, R494, R496: the reset sources, and what does not reset. -/

namespace Sys2Proof.Machine

/-! ### Commands of every mode -/

/-- A command of every mode, where no lane-commanded reset has come due. -/
theorem yields_actAlways {t : Nat} {s : State} {f : State → State} {P : State → Prop} (hd : resetDue t s = false)
    (h : P (settle s (f (begin t s)))) : Yields (actAlways t s f) P := by
  rw [actAlways_next hd]
  exact yields_next h

/-- A command of every mode that has no effect of its own. -/
theorem yields_always_no_effect {t : Nat} {s : State} {f : State → State} (hd : resetDue t s = false)
    (hf : f (begin t s) = begin t s) : Yields (actAlways t s f) (fun u => Leaves t s u id) :=
  yields_actAlways hd ⟨_, rfl, by rw [hf]⟩

/-- The state that a command finds has the command's time, with OTP and the waiting commands as they were. -/
theorem arrive_keeps (t : Nat) (s : State) :
    (arrive t s).now = max s.now t ∧ (arrive t s).otp = s.otp ∧ (arrive t s).pending = s.pending := by
  cases hd : resetDue t s with
  | false => rw [arrive_of_not_due hd]; exact ⟨rfl, rfl, rfl⟩
  | true =>
    have harr : arrive t s = begin t (waitingReset s) := by simp [arrive, hd]
    cases hr : s.pwr.resetAt with
    | none => simp [resetDue, hr] at hd
    | some r =>
      have hle : r ≤ max s.now t := by simpa [resetDue, hr] using hd
      have hwait : waitingReset s = resetDevice 6 holdCommand { s with now := max s.now r } := by
        simp [waitingReset, hr]
      rw [harr, hwait]
      refine ⟨?_, rfl, rfl⟩
      have hnow : (begin t (resetDevice 6 holdCommand { s with now := max s.now r })).now = max (max s.now r) t := rfl
      rw [hnow]
      omega

/-! ### Power-on -/

/-- R488: what a power-on reset leaves, whatever was waiting before it. -/
theorem yields_powerOn (t : Nat) (s : State) : Yields (actAlways t s powerOn) (fun u =>
    u.pwr.inReset = true ∧ u.gl = { onAt := max s.now t } ∧ u.otp = s.otp ∧ u.pending = s.pending ∧ u.img = {} ∧
    u.saf.curtain = false ∧ u.bat = {} ∧ u.wq = {} ∧ u.cal = {} ∧ u.door = { waitUntil := max s.now t + 10 * secTicks }) := by
  obtain ⟨hnow, hotp, hpending⟩ := arrive_keeps t s
  refine yields_next ⟨?_, ?_, ?_, ?_, ?_, ?_, ?_, ?_, ?_, ?_⟩
  · rw [settle_pwr]; rfl
  · rw [settle_gl, powerOn, hnow]
  · rw [settle_otp, ← hotp]; rfl
  · rw [settle_pending, ← hpending]; rfl
  · rw [settle_img]; rfl
  · rw [settle_curtain]; rfl
  · rw [settle_bat]; rfl
  · rw [settle_wq]; rfl
  · rw [settle_cal]; rfl
  · rw [settle_door, powerOn, hnow]

/-- R446: VDD_GL below its threshold for 0.5 µs is a power-on reset. -/
theorem supplyReset_vddGl {mv : Nat} (h : mv < 1500) : supplyReset .vddGl ⟨usTicks / 2, mv⟩ = powerOn := by
  funext s
  have hbelow : belowReset .vddGl mv = true := decide_eq_true h
  simp [supplyReset, hbelow, railResets, ioLevel]

/-! ### The other sources -/

/-- What a reset leaves is said of the reset, the ghost light, OTP, the waiting commands and the time alone. -/
theorem ResetBy.congr {cause hold t : Nat} {s v u : State} (h : ResetBy cause hold t v u) (hnow : max v.now t = max s.now t)
    (hreset : v.pwr.inReset = s.pwr.inReset) (hgl : v.gl = s.gl) (hotp : v.otp = s.otp) (hpending : v.pending = s.pending) :
    ResetBy cause hold t s u := by
  simpa only [ResetBy, hnow, hreset, hgl, hotp, hpending] using h

/-- A command that is a reset of source `cause`, on a state that the command's own effect has prepared. -/
theorem resetBy_settle {cause : Nat} (hlo : 1 ≤ cause) (hhi : cause ≤ 8) (hold t : Nat) (b v : State) :
    ResetBy cause hold t v (settle b (resetDevice cause hold (begin t v))) := by
  rw [settle_resetDevice]
  exact resetBy_resetDevice hlo hhi hold t v

/-- A rail below its reset threshold resets the device, but for VDD_GL and VDD_SAFE. -/
theorem supplyReset_rail {r : Rail} {below mv : Nat} (hsafe : r ≠ .vddSafe) (hgl : r ≠ .vddGl)
    (hlong : usTicks / 2 ≤ below) (hlow : belowReset r mv = true) (s : State) :
    supplyReset r ⟨below, mv⟩ s = resetDevice 2 0 (ioLevel r mv s) := by
  have hlong' : ¬ below < usTicks / 2 := Nat.not_lt.mpr hlong
  simp only [supplyReset, hlow, hlong', decide_false, Bool.not_true, Bool.or_false, Bool.false_eq_true, if_false]
  cases r with
  | vddSafe => exact absurd rfl hsafe
  | vddGl => exact absurd rfl hgl
  | _ => rfl

theorem presentLow_ioLevel (r : Rail) (mv : Nat) (s : State) :
    presentLow (ioLevel r mv s) = if r = .vddIo then decide (1200 ≤ mv) else presentLow s := by
  by_cases h : r = .vddIo
  · have hdec : (!decide (mv < 1200)) = decide (1200 ≤ mv) := by
      by_cases hmv : mv < 1200
      · simp [hmv]
      · simp [hmv, Nat.not_lt.mp hmv]
    simpa [ioLevel, h, presentLow] using hdec
  · simp [ioLevel, h]

/-- The level of VDD_IO is all that a supply command notes beside the action of its rail. -/
theorem resetDevice_ioLevel (cause hold t mv : Nat) (r : Rail) (s : State) :
    resetDevice cause hold (ioLevel r mv (begin t s)) = resetDevice cause hold (begin t (ioLevel r mv s)) := by
  by_cases h : r = .vddIo
  · simp only [ioLevel, if_pos h]
    rfl
  · simp only [ioLevel, if_neg h]

theorem yields_supplyReset {t : Nat} {s : State} (hd : resetDue t s = false) {r : Rail} {below mv : Nat}
    (hsafe : r ≠ .vddSafe) (hgl : r ≠ .vddGl) (hlong : usTicks / 2 ≤ below) (hlow : belowReset r mv = true) :
    Yields (exec (.supplyReset t r ⟨below, mv⟩) s) (fun u => ResetBy 2 0 t s u ∧
      presentLow u = (if r = .vddIo then decide (1200 ≤ mv) else presentLow s)) := by
  refine yields_actAlways hd ?_
  rw [supplyReset_rail hsafe hgl hlong hlow, resetDevice_ioLevel]
  constructor
  · refine (resetBy_settle (by decide) (by decide) 0 t s (ioLevel r mv s)).congr ?_ ?_ ?_ ?_ ?_ <;>
      (unfold ioLevel; split <;> rfl)
  · rw [← presentLow_ioLevel, presentLow, settle_th]
    rfl

/-- R489: at 10 µs or more RESET_N counts whatever the free value is. -/
theorem yields_resetNAssert {t : Nat} {s : State} (hd : resetDue t s = false) {low : Nat} (h : 10 * usTicks ≤ low) :
    Yields (exec (.resetNAssert t low) s) (fun u => ResetBy 3 0 t s u ∧ u.pwr.rstnLow = true) := by
  refine yields_actAlways hd ?_
  have hassert : resetNAssert low (begin t s) = resetDevice 3 0 (begin t { tookFree s with pwr := { s.pwr with
      rstnLow := true, rstnSince := if s.pwr.rstnLow then s.pwr.rstnSince else max s.now t } }) := by
    simp only [resetNAssert, h, decide_true, Bool.true_or, if_true]
    rfl
  rw [hassert]
  refine ⟨(resetBy_settle (by decide) (by decide) 0 t s _).congr rfl rfl rfl rfl rfl, ?_⟩
  rw [settle_pwr]
  rfl

/-- A source that is a reset without a preparation. -/
theorem yields_reset {t cause hold : Nat} {s : State} {f : State → State} (hd : resetDue t s = false)
    (hf : f (begin t s) = resetDevice cause hold (begin t s)) (hlo : 1 ≤ cause) (hhi : cause ≤ 8) :
    Yields (actAlways t s f) (ResetBy cause hold t s) :=
  yields_actAlways hd (by rw [hf]; exact resetBy_settle hlo hhi hold t s s)

theorem edgesGood_eq_false {n : Nat} (h : n < 900 ∨ 1100 < n) : edgesGood n = false := by
  simp only [edgesGood, Bool.and_eq_false_iff, decide_eq_false_iff_not]
  omega

/-! ### RESET messages (R494) -/

theorem resetStatus_lanesOnly {u s : State} (h : lanesOnly u = lanesOnly s) (v : Nat) (w : W32) :
    resetStatus v w u = resetStatus v w s :=
  eq_of_lanesOnly h (resetStatus v w) fun _ => rfl

/-- The answer to a RESET message with status `st`. -/
def resetAnswer (l st : Nat) (s : State) : State :=
  sendHouse 0 0x04 (leBytes 4 0xFFFFFFF0 ++ leBytes 4 st) (takeMessage l 0 8 s)

theorem lanesOnly_resetAnswer (l st : Nat) (s : State) : lanesOnly (resetAnswer l st s) = lanesOnly s := by
  simp [resetAnswer]

/-- A RESET message from the house is answered with its status; one that is accepted resets later. -/
theorem laneReset_of_house {l : Nat} {s : State} (h : fromHouse s l = true) (v : Nat) (w : W32) :
    laneReset l v w s = if resetStatus v w s = 0 then resetLater (resetAnswer l (resetStatus v w s) s)
      else resetAnswer l (resetStatus v w s) s := by
  have hst : resetStatus v w (takeMessage l 0 8 s) = resetStatus v w s := resetStatus_lanesOnly rfl v w
  rw [laneReset, if_pos h, resetMessage, hst]
  rfl

theorem yields_lane_accepted {t : Nat} {s : State} (hs : awake t s = true) {l v : Nat} {w : W32}
    (hh : fromHouse s l = true) (hst : resetStatus v w s = 0) :
    Yields (exec (.laneReset t l v w) s) (fun u =>
      u.pwr.resetAt = some (s.pwr.resetAt.getD (max s.now t + 10 * usTicks)) ∧
      (∀ m, getLane u m = getLane (resetAnswer l 0 (begin t s)) m) ∧
      Leaves t s u (fun x => lanesOnly { x with pwr := { x.pwr with resetAt := none } })) := by
  have hanswer := lanesOnly_resetAnswer l 0 (begin t s)
  obtain ⟨hnow, hpwr, -⟩ := lanesOnly_groups hanswer
  have hlane : laneReset l v w (begin t s) = resetLater (resetAnswer l 0 (begin t s)) := by
    rw [laneReset_of_house (s := begin t s) hh, show resetStatus v w (begin t s) = 0 from hst, if_pos rfl]
  refine yields_act hs ?_
  rw [hlane]
  refine ⟨?_, fun m => by rw [getLane_settle]; rfl, ⟨_, rfl, ?_⟩⟩
  · rw [settle_pwr, resetLater, hnow, hpwr]
    rfl
  · simp only [resetLater, hpwr]
    exact congrArg (fun x : State => { x with recent := {}, pwr := { s.pwr with resetAt := none } }) hanswer

theorem yields_lane_rejected {t : Nat} {s : State} (hs : awake t s = true) {l v : Nat} {w : W32}
    (hh : fromHouse s l = true) (hst : resetStatus v w s ≠ 0) :
    Yields (exec (.laneReset t l v w) s) (fun u =>
      (∀ m, getLane u m = getLane (resetAnswer l (resetStatus v w s) (begin t s)) m) ∧ Leaves t s u lanesOnly) := by
  have hlane : laneReset l v w (begin t s) = resetAnswer l (resetStatus v w s) (begin t s) := by
    exact (laneReset_of_house (s := begin t s) hh v w).trans (if_neg hst)
  refine yields_act hs ?_
  rw [hlane]
  exact ⟨fun m => getLane_settle _ _ _, leaves_of_lanesOnly (lanesOnly_resetAnswer _ _ _)⟩

/-- A RESET message from a stage lane is dropped, and its frames count. -/
theorem yields_lane_dropped {t : Nat} {s : State} (hs : awake t s = true) {l v : Nat} {w : W32}
    (hlo : 2 ≤ l) (hhi : l < 4) (ht : laneTrained s l = true) :
    Yields (exec (.laneReset t l v w) s) (fun u =>
      (getLane u l).cntRoute = satAdd 32 (getLane s l).cntRoute (framesOf (getLane s l) 0 8) ∧ Leaves t s u lanesOnly) := by
  have hhouse : fromHouse (begin t s) l = false := by
    simp only [fromHouse, Bool.and_eq_false_iff, decide_eq_false_iff_not]
    exact Or.inl (by omega)
  have hlane : laneReset l v w (begin t s) = dropRoute l 0 8 (takeMessage l 0 8 (begin t s)) := by
    simp [laneReset, hhouse, isLane, hhi, ht]
  refine yields_act hs ?_
  rw [hlane]
  refine ⟨?_, leaves_of_lanesOnly (by simp)⟩
  simp only [getLane_settle, dropRoute, takeMessage, takeKeyed, getLane_updLane_same]
  rfl

/-! ### The statement -/

theorem wakeTimer_due {s : State} (hdark : inDark s = true) (hbit : s.gl.wake.getLsbD 2 = true)
    (hn : fld s.gl.wake 31 16 ≠ 0) (hdue : s.gl.darkSince + fld s.gl.wake 31 16 * secTicks ≤ s.now) :
    wakeByTimer s = resetDevice 8 0 s := by
  have htime : s.gl.darkSince + 98 * fld s.gl.wake 31 16 * secTicks / 100 ≤ s.now := by
    simp only [secTicks] at hdue ⊢
    omega
  simp [wakeByTimer, hdark, flag, hbit, hn, htime, wake]

/-- Settles O16: each source leaves what `resetBy_resetDevice` says of a reset, a power-on reset more, and the rest
leaves the state as it is. -/
theorem resets : Obligations.Resets := by
  refine ⟨?powerOn, ?sources, ?none⟩
  case powerOn =>
    intro t mv s hmv c hc
    simp only [List.mem_cons, List.not_mem_nil, or_false] at hc
    rcases hc with rfl | rfl
    · exact yields_powerOn t s
    · have hexec : exec (.supplyReset t .vddGl ⟨usTicks / 2, mv⟩) s = actAlways t s (supplyReset .vddGl ⟨usTicks / 2, mv⟩) := rfl
      rw [hexec, supplyReset_vddGl hmv]
      exact yields_powerOn t s
  case sources =>
    intro t p s hd hp
    refine ⟨fun r below mv hsafe hgl hlong hlow => yields_supplyReset hd hsafe hgl hlong hlow,
      fun low h => yields_resetNAssert hd h, ?software, ?reference, ?port, ?input, ?timer, ?lane⟩
    case software =>
      intro v hl hgo hkey
      rw [exec_softwareReset (awake_iff.mpr ⟨hl, hd⟩) hp, softwareReset_of_key ⟨hgo, hkey⟩]
      exact yields_next (resetBy_settle (by decide) (by decide) _ t s s)
    case reference =>
      intro edges hnot hbad
      refine yields_reset hd (f := referenceLoss edges) ?_ (by decide) (by decide)
      simp [referenceLoss, hnot, edgesGood_eq_false hbad]
    case port =>
      intro low hdark hbit hlow
      have hflag : flag s.gl.wake 0 = true := hbit
      have hdark' : inDark (begin t s) = true := hdark
      exact yields_reset hd (f := wakePort low) (if_pos (by simp [hdark', hflag, hlow])) (by decide) (by decide)
    case input =>
      intro persist hdark hbit hlow
      have hflag : flag s.gl.wake 1 = true := hbit
      have hdark' : inDark (begin t s) = true := hdark
      exact yields_reset hd (f := wakeInput persist) (if_pos (by simp [hdark', hflag, hlow])) (by decide) (by decide)
    case timer =>
      exact fun hdark hbit hn hdue =>
        yields_reset hd (f := wakeByTimer) (wakeTimer_due (s := begin t s) hdark hbit hn hdue) (by decide) (by decide)
    case lane =>
      exact fun l v w hl hh hst => yields_lane_accepted (awake_iff.mpr ⟨hl, hd⟩) hh hst
  case none =>
    intro t s hd
    refine ⟨?short, ?rail, ?edges, ?port, ?input, ?timer, ?rejected, ?stage⟩
    case short =>
      intro low hlow
      refine yields_actAlways hd ⟨_, rfl, ?_⟩
      have h10 : ¬ 10 * usTicks ≤ low := by
        simp only [usTicks] at hlow ⊢
        omega
      have h5 : ¬ 5 * usTicks ≤ low := Nat.not_le.mpr hlow
      simp only [resetNAssert, h10, h5, decide_false, Bool.false_and, Bool.or_false, Bool.false_eq_true, if_false]
      rfl
    case rail =>
      intro r below mv hno
      have heffect : supplyReset r ⟨below, mv⟩ (begin t s) = ioLevel r mv (begin t s) := by
        rcases hno with h | h <;> simp [supplyReset, h]
      refine yields_actAlways hd ?_
      rw [heffect]
      refine ⟨?_, _, rfl, ?_⟩
      · rw [presentLow, settle_th, ← presentLow, presentLow_ioLevel]
        rfl
      · unfold ioLevel
        split <;> rfl
    case edges =>
      intro edges hlo hhi
      exact yields_always_no_effect hd (f := referenceLoss edges) (if_pos (by simp [edgesGood, hlo, hhi]))
    case port =>
      intro low h
      have hflag : flag s.gl.wake 0 = false := h
      exact yields_always_no_effect hd (f := wakePort low) (if_neg (by simp [hflag]))
    case input =>
      intro n h
      have hflag : flag s.gl.wake 1 = false := h
      exact yields_always_no_effect hd (f := wakeInput n) (if_neg (by simp [hflag]))
    case timer =>
      intro h
      have hflag : flag s.gl.wake 2 = false ∨ fld s.gl.wake 31 16 = 0 := h
      refine yields_always_no_effect hd (f := wakeByTimer) (if_neg ?_)
      rcases hflag with h | h <;> simp [h]
    case rejected =>
      exact fun l v w hl hh hst => yields_lane_rejected (awake_iff.mpr ⟨hl, hd⟩) hh hst
    case stage =>
      exact fun l v w hl hlo hhi ht => yields_lane_dropped (awake_iff.mpr ⟨hl, hd⟩) hlo hhi ht

end Sys2Proof.Machine
end

section
/-! R487, R490: the release of reset, and the record of a long RESET_N; what a promise condition leaves alone. -/

namespace Sys2Proof.Machine

/-! ### Promise conditions: the call board and the conditions -/

/-- A fold keeps what every step of it keeps. -/
theorem foldl_keeps {α β : Type} (f : State → β) (g : State → α → State) (h : ∀ u a, f (g u a) = f u) (l : List α)
    (s : State) : f (l.foldl g s) = f s := by
  induction l generalizing s with
  | nil => rfl
  | cons a r ih => exact (ih (g s a)).trans (h s a)

@[simp] theorem updCue_cb (h : Nat) (f : CueEntry → CueEntry) (s : State) : (updCue h f s).cb = s.cb := by
  unfold updCue
  split <;> rfl

@[simp] theorem updCue_conds (h : Nat) (f : CueEntry → CueEntry) (s : State) :
    (updCue h f s).sm.conds = s.sm.conds := by
  unfold updCue
  split <;> rfl

theorem lateItem_keeps (code : Nat) (it : Item) (s : State) :
    (lateItem code it s).cb = s.cb ∧ (lateItem code it s).sm.conds = s.sm.conds := by
  unfold lateItem
  split
  · exact ⟨rfl, rfl⟩
  · simp only
    split
    · exact ⟨rfl, rfl⟩
    · exact ⟨updCue_cb _ _ _, updCue_conds _ _ _⟩

@[simp] theorem noteQueued_cb (k : Nat) (s : State) : (noteQueued k s).cb = s.cb :=
  foldl_keeps State.cb _
    (fun u _ => foldl_keeps State.cb _ (fun v it => (lateItem_keeps (k / 100) it v).1) _ u) s.wq.queues s

@[simp] theorem noteQueued_conds (k : Nat) (s : State) : (noteQueued k s).sm.conds = s.sm.conds :=
  foldl_keeps (fun x => x.sm.conds) _
    (fun u _ => foldl_keeps (fun x => x.sm.conds) _ (fun v it => (lateItem_keeps (k / 100) it v).2) _ u) s.wq.queues s

/-- A condition that is seen present is in force. -/
theorem setCond_inForce (code u : Nat) (s : State) :
    ((setCond code u true s).sm.conds.get {} (condKey code u)).inForce = true := by
  unfold setCond
  simp only [if_true]
  split
  · simp
  · simp only [noteWorst, noteQueued_conds, notePoints, setEvent_sm, Tab.get_set_same]

/-- It clears no event. -/
theorem setCond_keeps_event (code u : Nat) (b : Bool) {i : Nat} {s : State} (h : s.cb.event.getLsbD i = true) :
    (setCond code u b s).cb.event.getLsbD i = true := by
  unfold setCond
  simp only
  split
  · split
    · exact h
    · simp only [noteWorst, noteQueued_cb, notePoints]
      simp [setEvent, h]
  · split <;> exact h

/-! ### Causes -/

/-- A latched cause changes the safety state and the call board alone, and clears no event. -/
theorem latchCause_frame (c : Nat) (s : State) :
    { latchCause c s with saf := {}, cb := {}, recent := {} } = { s with saf := {}, cb := {}, recent := {} } := by
  unfold latchCause
  split <;> rfl

theorem latchCause_keeps_event (c : Nat) {i : Nat} {s : State} (h : s.cb.event.getLsbD i = true) :
    (latchCause c s).cb.event.getLsbD i = true := by
  unfold latchCause
  split
  · exact h
  · simp [setEvent, h]

/-- What reads neither the safety state nor the call board is the same after a latch. -/
theorem latchCause_keeps {α : Type} (c : Nat) (s : State) (f : State → α)
    (hf : ∀ x : State, f { x with saf := {}, cb := {}, recent := {} } = f x) : f (latchCause c s) = f s := by
  rw [← hf, latchCause_frame, hf]

@[simp] theorem eventIf_keeps_event (b : Bool) (j : Nat) {i : Nat} {s : State} (h : s.cb.event.getLsbD i = true) :
    (eventIf b j s).cb.event.getLsbD i = true := by
  cases b
  · exact h
  · simp [eventIf, setEvent, h]

/-! ### The release -/

/-- The state as the release sets it, before the events and the conditions of that moment. -/
def releasedState (strap : Nat) (obs : RehearsalObs) (s : State) : State :=
  { s with
    tbOffset := -64 * (s.now : Int)
    pwr := { s.pwr with
      inReset := false, mode := .standby, releasedAt := s.now, rstnLow := false, heldNow := false
      cpll := obs.clocksLock, tpll := obs.clocksLock, companion := obs.clocksLock }
    bat := { s.bat with hold := true, holdSince := s.now }
    cb := { s.cb with strap := strap % 4 }
    d2d := { s.d2d with
      a := { s.d2d.a with up := s.d2d.a.up || obs.linkA, lastValid := s.now }
      b := { s.d2d.b with up := s.d2d.b.up || obs.linkB, lastValid := s.now } }
    th := { s.th with ioOff := false }
    rh := { s.rh with obs := some obs } }

/-- The conditions and events of the release. -/
def releaseNoted (strap : Nat) (obs : RehearsalObs) (s : State) : State :=
  setCond 1 0 (supplyCond (releasedState strap obs s))
    (eventIf s.pwr.heldNow evResetRecord (eventIf (obs.linkA != obs.linkB) evLinkDegraded (releasedState strap obs s)))

theorem release_eq (strap : Nat) (obs : RehearsalObs) (s : State) :
    release strap obs s = if (releaseNoted strap obs s).th.railLow.getLsbD 1 then latchCause 0x11 (releaseNoted strap obs s)
      else releaseNoted strap obs s := rfl

/-- Noting the conditions is cue bookkeeping. -/
theorem calm_releaseNoted (strap : Nat) (obs : RehearsalObs) (s : State) :
    calm (releaseNoted strap obs s) = calm (releasedState strap obs s) := by
  simp [releaseNoted]

/-- What reads neither the safety state, nor the call board, nor the cue bookkeeping is as the release sets it. -/
theorem release_keeps {α : Type} (strap : Nat) (obs : RehearsalObs) (s : State) (f : State → α)
    (hsaf : ∀ x : State, f { x with saf := {}, cb := {}, recent := {} } = f x) (hcalm : ∀ x, f (calm x) = f x) :
    f (release strap obs s) = f (releasedState strap obs s) := by
  have hnoted : f (releaseNoted strap obs s) = f (releasedState strap obs s) := by
    rw [← hcalm, calm_releaseNoted, hcalm]
  rw [release_eq]
  split
  · rw [latchCause_keeps 0x11 _ f hsaf, hnoted]
  · exact hnoted

theorem release_conds (strap : Nat) (obs : RehearsalObs) (s : State) :
    (release strap obs s).sm = (releaseNoted strap obs s).sm := by
  rw [release_eq]
  split
  · exact latchCause_keeps 0x11 _ State.sm fun _ => rfl
  · rfl

theorem release_heldNow {strap : Nat} {obs : RehearsalObs} {s : State} (h : s.pwr.heldNow = true) :
    (release strap obs s).cb.event.getLsbD evResetRecord = true := by
  have hnoted : (releaseNoted strap obs s).cb.event.getLsbD evResetRecord = true := by
    refine setCond_keeps_event _ _ _ ?_
    simp [h, eventIf, setEvent, bit32, evResetRecord]
  rw [release_eq]
  split
  · exact latchCause_keeps_event _ hnoted
  · exact hnoted

theorem release_cb_strap (strap : Nat) (obs : RehearsalObs) (s : State) :
    (release strap obs s).cb.strap = strap % 4 := by
  have hevents : ∀ (a b : Bool) (x : State),
      (eventIf a evResetRecord (eventIf b evLinkDegraded x)).cb.strap = x.cb.strap := by
    intro a b x
    cases a <;> cases b <;> rfl
  have hnoted : (releaseNoted strap obs s).cb.strap = strap % 4 := by
    rw [releaseNoted, setCond]
    simp only
    split
    · split
      · exact hevents _ _ _
      · simp only [noteWorst, noteQueued_cb]
        exact hevents _ _ _
    · split <;> exact hevents _ _ _
  rw [release_eq]
  split
  · unfold latchCause
    split <;> exact hnoted
  · exact hnoted

/-- At its release the timebase reads 0. -/
theorem release_tbUs (strap : Nat) (obs : RehearsalObs) (s : State) : tbUs (release strap obs s) = 0 := by
  have h := release_keeps strap obs s tbUs (fun _ => rfl) (fun _ => rfl)
  rw [h, tbUs, tbTick, tbOf]
  have hzero : 64 * ((releasedState strap obs s).now : Int) + (releasedState strap obs s).tbOffset = 0 := by
    simp only [releasedState]
    omega
  rw [hzero]
  rfl

theorem tbUs_settle (b s : State) : tbUs (settle b s) = tbUs s := by simp [tbUs, tbTick, tbOf]

/-! ### The statement -/

theorem yields_resetHeld {t ms : Nat} {s : State} (hd : resetDue t s = false) (hreset : s.pwr.inReset = true)
    (hlow : s.pwr.rstnLow = true) (hms : 5000 < ms) :
    Yields (exec (.resetHeldTimeout t ms) s) (fun u => u.gl.held = true ∧ u.gl.heldMs = min ms (2 ^ 32 - 1) ∧
      Leaves t s u (fun x => { x with
        gl := { x.gl with held := false, heldMs := 0 }, pwr := { x.pwr with heldNow := false } })) := by
  have hheld : resetHeld ms (begin t s) = { begin t s with
      gl := { s.gl with held := true, heldMs := min ms (2 ^ 32 - 1) }, pwr := { s.pwr with heldNow := true } } := by
    rw [resetHeld, if_pos (by simp [hreset, hlow, hms])]
    rfl
  refine yields_actAlways hd ?_
  rw [hheld]
  refine ⟨?_, ?_, _, rfl, rfl⟩
  · rw [settle_gl]
  · rw [settle_gl]

/-- Settles O18: the record of a long RESET_N, and the state that the release sets (`release_keeps`). -/
theorem resetHeldAndRelease : Obligations.ResetHeldAndRelease := by
  refine ⟨fun t ms s hd hreset hlow hms => yields_resetHeld hd hreset hlow hms, ?_⟩
  intro t strap h o s hd hready
  have hexec : exec (.resetRelease t strap h o) s =
      actAlways t s (fun u => if releaseReady u h then release strap o u else u) := rfl
  rw [hexec]
  refine yields_actAlways hd ?_
  rw [if_pos hready]
  have keep := fun {α : Type} (f : State → α) => release_keeps strap o (begin t s) f
  have hpwr := keep State.pwr (fun _ => rfl) (fun _ => rfl)
  have hd2d := keep State.d2d (fun _ => rfl) (fun _ => rfl)
  have hth := keep State.th (fun _ => rfl) (fun _ => rfl)
  refine ⟨?_, ?_, ?_, ?_, ?_, ?_, ?_, ?_, ?_, ?_, ?_, ?_, ?_, ?_, ?_⟩
  · rw [settle_pwr, hpwr]; rfl
  · rw [settle_pwr, hpwr]; rfl
  · rw [settle_pwr, hpwr]; rfl
  · rw [tbUs_settle, release_tbUs]
  · rw [settle_bat]; exact keep (fun x => x.bat.hold) (fun _ => rfl) (fun _ => rfl)
  · rw [settle_bat]; exact keep (fun x => x.bat.holdSince) (fun _ => rfl) (fun _ => rfl)
  · rw [settle_cb_strap, release_cb_strap]
  · rw [settle_d2d, hd2d]; rfl
  · rw [settle_d2d, hd2d]; rfl
  · rw [settle_rh]; exact keep (fun x => x.rh.obs) (fun _ => rfl) (fun _ => rfl)
  · rw [settle_otp]; exact keep State.otp (fun _ => rfl) (fun _ => rfl)
  · rw [settle_gl]; exact keep State.gl (fun _ => rfl) (fun _ => rfl)
  · rw [presentLow, settle_th, hth]; rfl
  · intro hsupply
    rw [settle_sm, release_conds, releaseNoted, show supplyCond (releasedState strap o (begin t s)) = true from hsupply]
    exact setCond_inForce 1 0 _
  · exact fun hheld => settle_keeps_event (release_heldNow hheld)

end Sys2Proof.Machine
end

section
/-! What taking a state does to a lane and to the others, and what promise conditions leave of the lanes. -/

namespace Sys2Proof.Machine

/-! ### Entering a state of training -/

/-- The lane as it stands once it has taken state `x`. -/
def laneEntered (x : LaneState) (s : State) (v : Lane) : Lane :=
  let drop := v.state.trained && !x.trained
  { v with
    state := x, since := s.now
    rate := if x = .base then 3 else v.rate
    lock := v.lock && decide (x ∈ [LaneState.exchange, .delay, .active, .retrain])
    opens := if drop then [] else v.opens
    asked := v.asked && !drop
    replay := if drop then [] else v.replay
    waiting := if drop then [] else v.waiting
    unpaid := if drop then [] else v.unpaid
    cntDiscard := if drop then satAdd 32 v.cntDiscard v.replay.length else v.cntDiscard
    trips := 0
    guest := if !x.trained then 4 else if v.state.trained then v.guest else freeValue s % 5
    childSize := if drop then 0 else v.childSize
    owed := if drop then 0 else v.owed
    lateDec := if drop then 0 else v.lateDec
    deadEnds := if drop then [] else v.deadEnds }

@[simp] theorem abandonRead_ln (q : Nat) (s : State) : (abandonRead q s).ln = s.ln := by
  unfold abandonRead
  simp only
  split
  · rfl
  · split <;> rfl

@[simp] theorem abandonRead_cb (q : Nat) (s : State) : (abandonRead q s).cb = s.cb := by
  unfold abandonRead
  simp only
  split
  · rfl
  · split <;> rfl

@[simp] theorem abandonGroup_ln (l : Nat) (s : State) : (abandonGroup l s).ln = s.ln := by
  unfold abandonGroup
  split
  · rfl
  · simp

@[simp] theorem abandonGroup_cb (l : Nat) (s : State) : (abandonGroup l s).cb = s.cb := by
  unfold abandonGroup
  split
  · rfl
  · simp

@[simp] theorem eventIf_ln (b : Bool) (i : Nat) (s : State) : (eventIf b i s).ln = s.ln := by
  cases b <;> rfl

@[simp] theorem eventIf_cb_strap (b : Bool) (i : Nat) (s : State) : (eventIf b i s).cb.strap = s.cb.strap := by
  cases b <;> rfl

theorem enterLane_ln (l : Nat) (x : LaneState) (s : State) :
    (enterLane l x s).ln = (setLane l (laneEntered x s (getLane s l)) s).ln := by
  have hdrop : ∀ (b : Bool) (u : State), (if b then abandonGroup l u else u).ln = u.ln :=
    fun b u => by cases b <;> simp
  unfold enterLane
  simp only [eventIf_ln, hdrop]
  rfl

@[simp] theorem getLane_enterLane_same (l : Nat) (x : LaneState) (s : State) :
    getLane (enterLane l x s) l = laneEntered x s (getLane s l) := by
  rw [getLane, enterLane_ln]
  exact getLane_setLane_same _ _ _

theorem getLane_enterLane_other {l m : Nat} (h : m ≠ l) (x : LaneState) (s : State) :
    getLane (enterLane l x s) m = getLane s m := by
  rw [getLane, enterLane_ln]
  exact getLane_setLane_other h _ _

@[simp] theorem enterLane_cb_strap (l : Nat) (x : LaneState) (s : State) :
    (enterLane l x s).cb.strap = s.cb.strap := by
  unfold enterLane
  simp only [eventIf_cb_strap]
  split
  · rw [abandonGroup_cb]; rfl
  · rfl

@[simp] theorem getLane_laneOff_same (l : Nat) (s : State) :
    getLane (laneOff l s) l = (laneEntered .off s (getLane s l)).forget := by simp [laneOff]

theorem getLane_laneOff_other {l m : Nat} (h : m ≠ l) (s : State) : getLane (laneOff l s) m = getLane s m := by
  rw [laneOff, getLane_updLane_other h, getLane_enterLane_other h]

/-! ### Promise conditions and the lanes -/

@[simp] theorem updCue_ln (h : Nat) (f : CueEntry → CueEntry) (s : State) : (updCue h f s).ln = s.ln := by
  unfold updCue
  split <;> rfl

@[simp] theorem lateItem_ln (code : Nat) (it : Item) (s : State) : (lateItem code it s).ln = s.ln := by
  unfold lateItem
  split
  · rfl
  · simp only
    split
    · rfl
    · exact updCue_ln _ _ _

@[simp] theorem noteQueued_ln (k : Nat) (s : State) : (noteQueued k s).ln = s.ln :=
  foldl_keeps State.ln _ (fun u _ => foldl_keeps State.ln _ (fun v it => lateItem_ln (k / 100) it v) _ u) s.wq.queues s

@[simp] theorem setCond_ln (c u : Nat) (b : Bool) (s : State) : (setCond c u b s).ln = s.ln := by
  unfold setCond
  simp only
  split
  · split
    · rfl
    · simp [noteWorst, notePoints]
  · split <;> rfl

@[simp] theorem setCond_cb_strap (c u : Nat) (b : Bool) (s : State) : (setCond c u b s).cb.strap = s.cb.strap := by
  unfold setCond
  simp only
  split
  · split
    · rfl
    · simp only [noteWorst, noteQueued_cb, notePoints]
      rfl
  · split <;> rfl

@[simp] theorem refreshConds_ln (s : State) : (refreshConds s).ln = s.ln := by
  unfold refreshConds
  rw [foldl_keeps State.ln _ (fun u r => setCond_ln _ _ _ u), setCond_ln]

@[simp] theorem refreshConds_cb_strap (s : State) : (refreshConds s).cb.strap = s.cb.strap := by
  unfold refreshConds
  rw [foldl_keeps (fun x => x.cb.strap) _ (fun u r => setCond_cb_strap _ _ _ u), setCond_cb_strap]

end Sys2Proof.Machine
end

section
/-! R461, R467, R468: the steps of dress rehearsal. -/

namespace Sys2Proof.Machine

/-! ### What the steps before the last leave alone -/

/-- What a step of dress rehearsal reads of the state beside what it measures: the time, the links, the strap, and how
far dress rehearsal has come. -/
def rehearsalCore (s : State) : Nat × Power × D2d × Nat × Nat × Bool :=
  (s.now, s.pwr, s.d2d, s.cb.strap, s.rh.steps, s.rh.drDone)

@[simp] theorem acceptCal_core (q : Nat) (s : State) : rehearsalCore (acceptCal q s) = rehearsalCore s := by
  unfold acceptCal
  simp only
  split <;> rfl

@[simp] theorem rejectCal_core (q : Nat) (s : State) : rehearsalCore (rejectCal q s) = rehearsalCore s := rfl

@[simp] theorem judgeConv_core (v : Nat) (a b : ConvCodes) (s : State) :
    rehearsalCore (judgeConv v a b s) = rehearsalCore s := by
  unfold judgeConv
  split
  · rw [acceptCal_core]; rfl
  · rfl

@[simp] theorem judgeAux_core (r : Nat) (full a b : Rat) (s : State) :
    rehearsalCore (judgeAux r full a b s) = rehearsalCore s := by
  unfold judgeAux
  split <;> rfl

@[simp] theorem judgeBreakdown_core (a b : Option Int) (s : State) :
    rehearsalCore (judgeBreakdown a b s) = rehearsalCore s := by
  unfold judgeBreakdown
  split
  · split
    · rw [acceptCal_core]; rfl
    · rfl
  · rfl

@[simp] theorem judgeSkew_core (c : Nat) (x y : Int) (b : Bool) (s : State) :
    rehearsalCore (judgeSkew c x y b s) = rehearsalCore s := by
  unfold judgeSkew
  simp only
  split
  · rw [acceptCal_core]; rfl
  · rfl

@[simp] theorem updateBias_core (s : State) : rehearsalCore (updateBias s) = rehearsalCore s := by
  unfold updateBias
  split <;> rfl

theorem rehearseConv_core (l : List (ConvCodes × ConvCodes)) (s : State) :
    rehearsalCore (rehearseConv l s) = rehearsalCore s :=
  foldl_keeps rehearsalCore _ (fun u v => by split <;> simp) _ s

theorem rehearseAux_core (l : List (Int × Int)) (s : State) : rehearsalCore (rehearseAux l s) = rehearsalCore s :=
  foldl_keeps rehearsalCore _ (fun u q => by simp) _ s

theorem rehearseExc_core (l : List ExcReading) (s : State) : rehearsalCore (rehearseExc l s) = rehearsalCore s :=
  foldl_keeps rehearsalCore _ (fun _ _ => by rfl) _ s

theorem rehearseSkew_core (l : List (Nat × Arrival × Arrival)) (s : State) :
    rehearsalCore (rehearseSkew l s) = rehearsalCore s :=
  foldl_keeps rehearsalCore _ (fun u q => by split <;> simp) _ s

/-- The first four steps leave it. -/
theorem rehearsalStep_core {n : Nat} (hn : n < 4) (o : RehearsalObs) (s : State) :
    rehearsalCore (rehearsalStep n o s) = rehearsalCore s := by
  interval_cases n
  · exact rehearseConv_core _ s
  · simp only [rehearsalStep, updateBias_core, judgeBreakdown_core, rehearseExc_core, rehearseAux_core]
  · rfl
  · exact rehearseSkew_core _ s

/-! ### One step after the other -/

/-- A step that is not next, or whose time has not come, does nothing. -/
theorem rehearseNext_skip {o : RehearsalObs} {s : State} {n : Nat}
    (h : s.rh.steps ≠ n ∨ s.now < s.pwr.releasedAt + rehearsalEnds n * usTicks) : rehearseNext o s n = s := by
  refine if_neg ?_
  rintro ⟨hsteps, htime⟩
  rcases h with h | h
  · exact h hsteps
  · omega

/-- One of the first four steps that is next and due moves dress rehearsal on by one. -/
theorem rehearseNext_run {o : RehearsalObs} {s : State} {n : Nat} (hsteps : s.rh.steps = n)
    (htime : s.pwr.releasedAt + rehearsalEnds n * usTicks ≤ s.now) :
    rehearseNext o s n = rehearsalStep n o { s with rh := { s.rh with steps := n + 1 } } :=
  if_pos ⟨hsteps, htime⟩

/-- What the first four steps carry along: the time, the links, the strap, and whether dress rehearsal is done. -/
def rehearsalKept (s : State) : Nat × Power × D2d × Nat × Bool := (s.now, s.pwr, s.d2d, s.cb.strap, s.rh.drDone)

theorem rehearseNext_run_kept {o : RehearsalObs} {s : State} {n : Nat} (hn : n < 4) (hsteps : s.rh.steps = n)
    (htime : s.pwr.releasedAt + rehearsalEnds n * usTicks ≤ s.now) :
    (rehearseNext o s n).rh.steps = n + 1 ∧ rehearsalKept (rehearseNext o s n) = rehearsalKept s := by
  have hcore := rehearsalStep_core hn o { s with rh := { s.rh with steps := n + 1 } }
  rw [rehearseNext_run hsteps htime]
  simp only [rehearsalCore, Prod.mk.injEq] at hcore
  obtain ⟨hnow, hpwr, hd2d, hstrap, hsteps', hdone⟩ := hcore
  exact ⟨hsteps', by simp only [rehearsalKept, hnow, hpwr, hd2d, hstrap, hdone]⟩

/-- Every step has ended 29 ms after the release. -/
theorem rehearsalEnds_le {n : Nat} (hn : n ≤ 4) : rehearsalEnds n * usTicks ≤ 29 * msTicks := by
  interval_cases n <;> decide

/-- Past 29 ms the first `k` steps that have not run do so, one after the other. -/
theorem rehearse_first {o : RehearsalObs} {s : State} (hlate : s.pwr.releasedAt + 29 * msTicks ≤ s.now) {k : Nat}
    (hk : k ≤ 4) : ((List.range k).foldl (rehearseNext o) s).rh.steps = max s.rh.steps k ∧
      rehearsalKept ((List.range k).foldl (rehearseNext o) s) = rehearsalKept s := by
  induction k with
  | zero => simp
  | succ k ih =>
    obtain ⟨hsteps, hkept⟩ := ih (by omega)
    rw [List.range_succ, List.foldl_append, List.foldl_cons, List.foldl_nil]
    generalize (List.range k).foldl (rehearseNext o) s = w at hsteps hkept
    have htime : w.pwr.releasedAt + rehearsalEnds k * usTicks ≤ w.now := by
      have hle := rehearsalEnds_le (n := k) (by omega)
      simp only [rehearsalKept, Prod.mk.injEq] at hkept
      obtain ⟨hnow, hpwr, -⟩ := hkept
      rw [hnow, hpwr]
      omega
    by_cases h : w.rh.steps = k
    · obtain ⟨hnext, hkept'⟩ := rehearseNext_run_kept (o := o) (show k < 4 by omega) h htime
      exact ⟨by rw [hnext]; omega, hkept'.trans hkept⟩
    · rw [rehearseNext_skip (Or.inl h)]
      exact ⟨by omega, hkept⟩

/-! ### The last step -/

theorem calm_rehearseLanes (l : List Nat) (s : State) : calm (rehearseLanes l s) = calm s :=
  foldl_calm _ (fun u n => by simp) l s

theorem rehearseLanes_cb_strap (l : List Nat) (s : State) : (rehearseLanes l s).cb.strap = s.cb.strap :=
  foldl_keeps (fun x => x.cb.strap) _ (fun u n => by simp [laneOff]) l s

/-- A lane that failed its loop-back is marked and off, whichever lanes come after it in the list. -/
theorem rehearseLanes_lane {l : List Nat} {n : Nat} (hn : n ∈ l) (s : State) :
    (getLane (rehearseLanes l s) n).fail = true ∧ (getLane (rehearseLanes l s) n).state = .off := by
  induction l using List.reverseRecOn with
  | nil => cases hn
  | append_singleton r m ih =>
    rw [rehearseLanes, List.foldl_append, List.foldl_cons, List.foldl_nil]
    by_cases h : n = m
    · subst h
      rw [getLane_updLane_same, getLane_laneOff_same]
      exact ⟨rfl, rfl⟩
    · rw [getLane_updLane_other h, getLane_laneOff_other h]
      exact ih (by simpa [h] using hn)

/-- What the last step leaves: dress rehearsal is done and judged by what the state before it shows. -/
theorem judgeRehearsal_rh (o : RehearsalObs) (s : State) :
    (judgeRehearsal o s).rh = { s.rh with drDone := true, drPass := decide (fatalStep s o = 0), drStep := fatalStep s o } := by
  have hboot : ∀ x : State, (bootFetch x).rh = x.rh := by
    intro x
    unfold bootFetch
    split <;> rfl
  have hconds := calm_rh (refreshConds_calm { s with rh :=
    { s.rh with drDone := true, drPass := decide (fatalStep s o = 0), drStep := fatalStep s o } })
  rw [judgeRehearsal, hboot, hconds]

theorem judgeRehearsal_ln (o : RehearsalObs) (s : State) : (judgeRehearsal o s).ln = s.ln := by
  have hboot : ∀ x : State, (bootFetch x).ln = x.ln := by
    intro x
    unfold bootFetch
    split <;> rfl
  rw [judgeRehearsal, hboot, refreshConds_ln]

/-- R59: where the image comes from follows the strap. -/
theorem bootFetch_img (s : State) :
    (s.cb.strap = 0 ∨ s.cb.strap = 3 → (bootFetch s).img.fetching = some 1) ∧
    (s.cb.strap = 2 → (bootFetch s).img.waitLane = true) := by
  constructor
  · rintro (h | h) <;> simp [bootFetch, h, fetchCopy]
  · intro h
    simp [bootFetch, h]

theorem judgeRehearsal_img (o : RehearsalObs) (s : State) :
    (s.cb.strap = 0 ∨ s.cb.strap = 3 → (judgeRehearsal o s).img.fetching = some 1) ∧
    (s.cb.strap = 2 → (judgeRehearsal o s).img.waitLane = true) := by
  unfold judgeRehearsal
  simp only
  generalize hx : refreshConds _ = x
  have hstrap : x.cb.strap = s.cb.strap := by rw [← hx, refreshConds_cb_strap]
  rw [← hstrap]
  exact bootFetch_img x

/-- The first fatal failures in the order of the statement. -/
theorem fatalStep_first (s : State) (o : RehearsalObs) :
    (o.clocksLock = false → fatalStep s o = 1) ∧
    (o.clocksLock = true → linkCount s = 0 → fatalStep s o = 2) ∧
    (o.clocksLock = true → linkCount s ≠ 0 → o.flymanOk = false → fatalStep s o = 5) := by
  refine ⟨fun h => ?_, fun h hl => ?_, fun h hl hf => ?_⟩
  · simp [fatalStep, h]
  · simp [fatalStep, h, hl]
  · simp [fatalStep, h, hl, hf]

/-- The fifth step, on a state in which it comes next. -/
theorem rehearsal_judged (o : RehearsalObs) (s : State) :
    let u := rehearsalStep 4 o { s with rh := { s.rh with steps := 5 } }
    u.rh.drDone = true ∧ u.rh.steps = 5 ∧ u.rh.drPass = decide (u.rh.drStep = 0) ∧
    (o.clocksLock = false → u.rh.drStep = 1) ∧ (o.clocksLock = true → linkCount s = 0 → u.rh.drStep = 2) ∧
    (o.clocksLock = true → linkCount s ≠ 0 → o.flymanOk = false → u.rh.drStep = 5) ∧
    (∀ l ∈ o.loopback, (getLane u l).fail = true ∧ (getLane u l).state = .off) ∧
    (s.cb.strap = 0 ∨ s.cb.strap = 3 → u.img.fetching = some 1) ∧ (s.cb.strap = 2 → u.img.waitLane = true) := by
  intro u
  have hcalm := calm_rehearseLanes o.loopback { s with rh := { s.rh with steps := 5 } }
  have hstrap := rehearseLanes_cb_strap o.loopback { s with rh := { s.rh with steps := 5 } }
  have hlane : ∀ l ∈ o.loopback, (getLane (rehearseLanes o.loopback { s with rh := { s.rh with steps := 5 } }) l).fail = true ∧
      (getLane (rehearseLanes o.loopback { s with rh := { s.rh with steps := 5 } }) l).state = .off :=
    fun l hl => rehearseLanes_lane hl _
  have hu : u = judgeRehearsal o (rehearseLanes o.loopback { s with rh := { s.rh with steps := 5 } }) := rfl
  rw [hu]
  generalize rehearseLanes o.loopback { s with rh := { s.rh with steps := 5 } } = w at hcalm hstrap hlane
  have hsteps : w.rh.steps = 5 := by rw [calm_rh hcalm]
  have hlinks : linkCount w = linkCount s := by rw [linkCount, calm_d2d hcalm]; rfl
  obtain ⟨hclocks, hcount, hflyman⟩ := fatalStep_first w o
  rw [hlinks] at hcount hflyman
  have hrh := judgeRehearsal_rh o w
  refine ⟨by rw [hrh], by rw [hrh]; exact hsteps, by rw [hrh], ?_, ?_, ?_, ?_, ?_⟩
  · rw [hrh]; exact hclocks
  · rw [hrh]; exact hcount
  · rw [hrh]; exact hflyman
  · intro l hl
    rw [getLane, judgeRehearsal_ln, ← getLane]
    exact hlane l hl
  · rw [← show w.cb.strap = s.cb.strap from hstrap]
    exact judgeRehearsal_img o w

/-! ### The statement -/

theorem endRehearsal_of_obs {o : RehearsalObs} {s : State} (h : s.rh.obs = some o) :
    endRehearsal s = (List.range 5).foldl (rehearseNext o) s := by
  simp only [endRehearsal, h]
  rfl

/-- Only step `n` runs where it comes next, its time has come, and that of the next has not. -/
theorem endRehearsal_one {o : RehearsalObs} {s : State} (h : s.rh.obs = some o) {n : Nat} (hn : n < 4)
    (hsteps : s.rh.steps = n) (htime : s.pwr.releasedAt + rehearsalEnds n * usTicks ≤ s.now)
    (hnext : s.now < s.pwr.releasedAt + rehearsalEnds (n + 1) * usTicks) :
    endRehearsal s = rehearseNext o s n := by
  obtain ⟨hrun, hkept⟩ := rehearseNext_run_kept (o := o) hn hsteps htime
  simp only [rehearsalKept, Prod.mk.injEq] at hkept
  obtain ⟨hnow, hpwr, -⟩ := hkept
  have hbefore : ∀ k, k ≠ n → rehearseNext o s k = s := fun k hk => rehearseNext_skip (Or.inl (by omega))
  have hafter : ∀ k, n < k → rehearseNext o (rehearseNext o s n) k = rehearseNext o s n := by
    intro k hk
    by_cases he : k = n + 1
    · subst he
      exact rehearseNext_skip (Or.inr (by rw [hnow, hpwr]; exact hnext))
    · exact rehearseNext_skip (Or.inl (by omega))
  rw [endRehearsal_of_obs h, show List.range 5 = [0, 1, 2, 3, 4] from rfl]
  simp only [List.foldl_cons, List.foldl_nil]
  interval_cases n
  · rw [hafter 1 (by omega), hafter 2 (by omega), hafter 3 (by omega), hafter 4 (by omega)]
  · rw [hbefore 0 (by omega), hafter 2 (by omega), hafter 3 (by omega), hafter 4 (by omega)]
  · rw [hbefore 0 (by omega), hbefore 1 (by omega), hafter 3 (by omega), hafter 4 (by omega)]
  · rw [hbefore 0 (by omega), hbefore 1 (by omega), hbefore 2 (by omega), hafter 4 (by omega)]

/-- With no step next, or the next one's time still to come, nothing happens. -/
theorem endRehearsal_none {o : RehearsalObs} {s : State} (h : s.rh.obs = some o)
    (hno : 4 < s.rh.steps ∨ s.now < s.pwr.releasedAt + rehearsalEnds s.rh.steps * usTicks) : endRehearsal s = s := by
  have hskip : ∀ k ∈ List.range 5, rehearseNext o s k = s := by
    intro k hk
    have hk5 := List.mem_range.mp hk
    by_cases he : s.rh.steps = k
    · subst he
      exact rehearseNext_skip (Or.inr (hno.resolve_left (by omega)))
    · exact rehearseNext_skip (Or.inl he)
  rw [endRehearsal_of_obs h]
  generalize List.range 5 = l at hskip
  induction l with
  | nil => rfl
  | cons k r ih =>
    rw [List.foldl_cons, hskip k List.mem_cons_self]
    exact ih fun j hj => hskip j (List.mem_cons_of_mem _ hj)

/-- Settles O19: the steps that are due run in their order, and the last judges dress rehearsal. -/
theorem dressRehearsal : Obligations.DressRehearsal := by
  intro t o s hs hobs
  have hexec : exec (.dressRehearsalEnd t) s = act t s endRehearsal := rfl
  rw [hexec]
  refine ⟨?judged, ?step, ?none⟩
  case judged =>
    intro hsteps hlate
    refine yields_act hs ?_
    obtain ⟨hfour, hkept⟩ := rehearse_first (o := o) (s := begin t s) hlate (le_refl 4)
    rw [endRehearsal_of_obs (s := begin t s) hobs, List.range_succ, List.foldl_append, List.foldl_cons, List.foldl_nil]
    generalize (List.range 4).foldl (rehearseNext o) (begin t s) = w at hfour hkept
    have hw : w.rh.steps = 4 := by
      rw [hfour]
      exact max_eq_right hsteps
    simp only [rehearsalKept, Prod.mk.injEq] at hkept
    obtain ⟨hnow, hpwr, hd2d, hstrap, -⟩ := hkept
    have htime : w.pwr.releasedAt + rehearsalEnds 4 * usTicks ≤ w.now := by
      rw [hnow, hpwr]
      exact hlate
    have hlinks : linkCount w = linkCount s := by rw [linkCount, hd2d]; rfl
    obtain ⟨hdone, hfive, hpass, hclocks, hcount, hflyman, hlanes, hboot, hwait⟩ := rehearsal_judged o w
    rw [rehearseNext_run hw htime]
    simp only [settle_rh, settle_img, getLane_settle]
    rw [hlinks] at hcount hflyman
    rw [hstrap] at hboot hwait
    exact ⟨hdone, hfive, hpass, hclocks, hcount, hflyman, hlanes, hboot, hwait⟩
  case step =>
    intro n hn hsteps htime hnext
    refine yields_act hs ?_
    obtain ⟨hrun, hkept⟩ := rehearseNext_run_kept (o := o) (s := begin t s) hn hsteps htime
    simp only [rehearsalKept, Prod.mk.injEq] at hkept
    rw [endRehearsal_one (s := begin t s) hobs hn hsteps htime hnext]
    refine ⟨by rw [settle_rh, hrun], by rw [settle_rh, hkept.2.2.2.2]; rfl, ?hot, ?frame⟩
    case hot =>
      rintro rfl c x hx
      rw [rehearseNext_run (s := begin t s) hsteps htime, rehearsalStep, hx, settle_rx]
      exact ⟨Tab.get_set_same _ _ _ _, fun d hd => Tab.get_set_other _ _ _ hd⟩
    case frame =>
      rintro rfl
      rw [rehearseNext_run (s := begin t s) hsteps htime]
      exact ⟨_, rfl, rfl⟩
  case none =>
    intro hno
    refine yields_act hs ?_
    rw [endRehearsal_none (s := begin t s) hobs hno]
    exact ⟨_, rfl, rfl⟩

end Sys2Proof.Machine
end

section
/-! R21, R483: the reference of the clocks, and what drops the curtain with cause 0x11. -/

namespace Sys2Proof.Machine

/-! ### Causes and the curtain -/

theorem latchCause_causes {c : Nat} (hc : c < 20) (s : State) : (latchCause c s).saf.causes.getLsbD c = true := by
  unfold latchCause
  split
  · exact ‹_›
  · simp [causeBit, hc]

/-- A latched cause keeps the curtain down at the end of the command. -/
theorem settle_curtain_of_cause {b s : State} {c : Nat} (h : s.saf.causes.getLsbD c = true) :
    (settle b s).saf.curtain = false := by
  have hne : decide (s.saf.causes = 0) = false := by
    refine decide_eq_false fun h0 => ?_
    simp [h0] at h
  rw [settle_curtain, curtainAllowed, hne, Bool.and_false, Bool.and_false]

/-- The end of a command that has latched a cause. -/
theorem settle_latchCause {c : Nat} (hc : c < 20) (b s : State) :
    (settle b (latchCause c s)).saf.causes.getLsbD c = true ∧ (settle b (latchCause c s)).saf.curtain = false :=
  ⟨by rw [settle_saf_causes]; exact latchCause_causes hc s, settle_curtain_of_cause (latchCause_causes hc s)⟩

/-! ### The statement -/

/-- The one trial of SYSCLK. -/
theorem referenceWindow_sysclk {s : State} {edges : Nat} (hreset : s.pwr.inReset = true) (hvalid : s.pwr.refValid = false)
    (htried : s.pwr.sysTried = false) : referenceWindow true edges s =
      { s with gl := { s.gl with refSys := edgesGood edges }
               pwr := { s.pwr with sysTried := true, refValid := edgesGood edges } } := by
  cases he : edgesGood edges <;> simp [referenceWindow, hreset, hvalid, htried, he]

/-- A window of the crystal counts, and 25 good ones in a row make it the reference. -/
theorem referenceWindow_crystal {s : State} {edges : Nat} (hreset : s.pwr.inReset = true) (hvalid : s.pwr.refValid = false)
    (htried : s.pwr.sysTried = true) : referenceWindow false edges s =
      { s with pwr := { s.pwr with
          xtalGood := if edgesGood edges then s.pwr.xtalGood + 1 else 0
          refValid := decide (25 ≤ if edgesGood edges then s.pwr.xtalGood + 1 else 0) } } := by
  simp [referenceWindow, hreset, hvalid, htried]

theorem clockCheck_far {c f : Nat} (h : 40 * f < 100 * ((c : Int) - 5 * f).natAbs) (s : State) :
    clockCheck c f s = latchCause 0x11 s := if_pos (by omega)

theorem clockCheck_near {c f : Nat} (h : 100 * ((c : Int) - 5 * f).natAbs ≤ 40 * f) (s : State) : clockCheck c f s = s :=
  if_neg (by omega)

/-- VDD_SAFE below its reset threshold, where the logic runs. -/
theorem supplyReset_vddSafe {below mv : Nat} (hlong : usTicks / 2 ≤ below) (hlow : mv < 16000) {s : State}
    (hl : live s = true) : supplyReset .vddSafe ⟨below, mv⟩ s =
      latchCause 0x11 { s with th := { s.th with railLow := s.th.railLow ||| railMask .vddSafe } } := by
  have hbelow : belowReset .vddSafe mv = true := decide_eq_true hlow
  have hlong' : ¬ below < usTicks / 2 := Nat.not_lt.mpr hlong
  have hio : ioLevel .vddSafe mv s = s := if_neg (by decide)
  have hlive : live { s with th := { s.th with railLow := s.th.railLow ||| railMask .vddSafe } } = true := hl
  simp only [supplyReset, hio, hbelow, hlong', railResets, hlive, decide_false, Bool.not_true, Bool.or_false,
    Bool.false_eq_true, if_false, if_true]

/-- Settles O20: by the window that is counted, and by whether the clocks agree. -/
theorem clocks : Obligations.Clocks := by
  refine ⟨?reference, ?check⟩
  case reference =>
    intro t edges s hd hreset hvalid
    refine ⟨fun htried => ?_, fun htried => ?_⟩
    · have hexec : exec (.referenceWindow t true edges) s = actAlways t s (referenceWindow true edges) := rfl
      rw [hexec]
      refine yields_actAlways hd ?_
      rw [referenceWindow_sysclk (s := begin t s) hreset hvalid htried]
      simp only [settle_pwr, settle_gl, true_and]
      exact ⟨_, rfl, rfl⟩
    · have hexec : exec (.referenceWindow t false edges) s = actAlways t s (referenceWindow false edges) := rfl
      rw [hexec]
      refine yields_actAlways hd ?_
      rw [referenceWindow_crystal (s := begin t s) hreset hvalid htried]
      rw [settle_pwr, settle_gl]
      exact ⟨rfl, rfl, rfl⟩
  case check =>
    intro t s hs
    refine ⟨fun c f h => ?far, fun c f h => ?near, fun below mv hlong hlow => ?safe⟩
    case far =>
      have hexec : exec (.clockCheck t c f) s = act t s (clockCheck c f) := rfl
      rw [hexec]
      refine yields_act hs ?_
      rw [clockCheck_far h]
      exact settle_latchCause (by decide) _ _
    case near =>
      have hexec : exec (.clockCheck t c f) s = act t s (clockCheck c f) := rfl
      rw [hexec]
      exact yields_no_effect (clockCheck_near h _) (awake_iff.mp hs).2
    case safe =>
      obtain ⟨hl, hd⟩ := awake_iff.mp hs
      have hexec : exec (.supplyReset t .vddSafe ⟨below, mv⟩) s = actAlways t s (supplyReset .vddSafe ⟨below, mv⟩) := rfl
      rw [hexec]
      refine yields_actAlways hd ?_
      rw [supplyReset_vddSafe hlong hlow (s := begin t s) hl]
      obtain ⟨hcause, hcurtain⟩ := settle_latchCause (c := 0x11) (by decide) s
        { begin t s with th := { (begin t s).th with railLow := (begin t s).th.railLow ||| railMask .vddSafe } }
      refine ⟨hcause, hcurtain, ?_, ?_⟩
      · rw [settle_th, latchCause_keeps 0x11 _ State.th fun _ => rfl]
        simp [railMask, Rail.bit]
      · rw [settle_pwr, latchCause_keeps 0x11 _ State.pwr fun _ => rfl]
        rfl

end Sys2Proof.Machine
end

section
/-! What planning a cue leaves alone: the frame of the calendar's operations, of promise conditions, of the engines'
sets and of the scene program. -/

namespace Sys2Proof.Machine

/-! ### Tables -/

theorem Tab.find_mapVals {α β : Type} (t : Tab α) (f : Nat → α → β) (k : Nat) :
    (t.mapVals f).find k = (t.find k).map (f k) := by
  induction t with
  | nil => rfl
  | cons q r ih =>
    obtain ⟨j, w⟩ := q
    simp only [Tab.mapVals, List.map_cons, Tab.find]
    by_cases h : j = k
    · simp [h]
    · simpa [h, Tab.mapVals] using ih

/-! ### Promise conditions -/

/-- Everything but what noting a promise condition may change. -/
def condFrame (s : State) : State := { s with sm := {}, hist := {}, wq := {}, cb := {}, recent := {} }

@[simp] theorem condFrame_updCue (h : Nat) (f : CueEntry → CueEntry) (s : State) : condFrame (updCue h f s) = condFrame s := by
  unfold updCue
  split <;> rfl

@[simp] theorem condFrame_lateItem (code : Nat) (it : Item) (s : State) : condFrame (lateItem code it s) = condFrame s := by
  unfold lateItem
  split
  · rfl
  · simp only
    split
    · rfl
    · exact condFrame_updCue _ _ _

@[simp] theorem condFrame_noteQueued (k : Nat) (s : State) : condFrame (noteQueued k s) = condFrame s :=
  foldl_keeps condFrame _
    (fun u _ => foldl_keeps condFrame _ (fun v it => condFrame_lateItem (k / 100) it v) _ u) s.wq.queues s

@[simp] theorem condFrame_setCond (c u : Nat) (b : Bool) (s : State) : condFrame (setCond c u b s) = condFrame s := by
  unfold setCond
  simp only
  split
  · split
    · rfl
    · exact (condFrame_noteQueued _ _).trans rfl
  · split <;> rfl

@[simp] theorem condFrame_refreshConds (s : State) : condFrame (refreshConds s) = condFrame s := by
  unfold refreshConds
  rw [foldl_keeps condFrame _ (fun u r => condFrame_setCond _ _ _ u), condFrame_setCond]

/-- What reads nothing that a condition's noting changes is the same after it. -/
theorem eq_of_condFrame {α : Type} {u s : State} (h : condFrame u = condFrame s) (f : State → α)
    (hf : ∀ x, f (condFrame x) = f x) : f u = f s := by
  rw [← hf u, h, hf]

/-! ### Sets of a pending patch -/

/-- Everything but the engines and the image. -/
def setsFrame (s : State) : State := { s with hist := {}, img := {} }

@[simp] theorem setsFrame_settlePatch (s : State) : setsFrame (settlePatch s) = setsFrame s := by
  unfold settlePatch
  split
  · rfl
  · split <;> rfl

@[simp] theorem setsFrame_feedEngine (n : Nat) (s : State) : setsFrame (feedEngine n s) = setsFrame s := by
  unfold feedEngine
  split
  · split
    · exact setsFrame_settlePatch _
    · rfl
  · rfl

@[simp] theorem setsFrame_feedIdle (s : State) : setsFrame (feedIdle s) = setsFrame s :=
  foldl_keeps setsFrame _ (fun u n => by split <;> simp) _ s

theorem eq_of_setsFrame {α : Type} {u s : State} (h : setsFrame u = setsFrame s) (f : State → α)
    (hf : ∀ x, f (setsFrame x) = f x) : f u = f s := by
  rw [← hf u, h, hf]

/-! ### The scene program -/

/-- Everything but the follow spot. -/
def spotFrame (s : State) : State := { s with fs := {} }

@[simp] theorem spotFrame_fixOne (k : Nat) (p : Option FixedScene) (s : State) : spotFrame (fixOne k p s) = spotFrame s := by
  unfold fixOne
  split <;> rfl

@[simp] theorem spotFrame_fixScenes (n : Nat) (s : State) : spotFrame (fixScenes n s) = spotFrame s := by
  induction n generalizing s with
  | zero => rfl
  | succ n ih =>
    unfold fixScenes
    split
    · rfl
    · split
      · rw [ih, spotFrame_fixOne]
      · rfl

@[simp] theorem spotFrame_trackReady (s : State) : spotFrame (trackReady s) = spotFrame s := by
  unfold trackReady
  split
  · split
    · rfl
    · simp only
      split
      · rw [planProgram, spotFrame_fixScenes, spotFrame_fixOne]
        rfl
      · rfl
  · rfl

@[simp] theorem spotFrame_stopScene (s : State) : spotFrame (stopScene s) = spotFrame s := by
  rw [stopScene, spotFrame_trackReady]
  rfl

theorem eq_of_spotFrame {α : Type} {u s : State} (h : spotFrame u = spotFrame s) (f : State → α)
    (hf : ∀ x, f (spotFrame x) = f x) : f u = f s := by
  rw [← hf u, h, hf]

/-! ### Outcomes of a booking -/

/-- A booking that succeeds keeps `k` of the state it began with. -/
def OkKeeps {α β ε : Type} (k : State → β) (s : State) (r : Except ε α) (f : α → State) : Prop :=
  ∀ x, r = .ok x → k (f x) = k s

section
variable {α β γ ε : Type} {k : State → β} {s : State}

theorem okKeeps_ok {x : α} {f : α → State} (h : k (f x) = k s) : OkKeeps k s (.ok x : Except ε α) f := by
  rintro y ⟨⟩
  exact h

theorem okKeeps_error (e : ε) (f : α → State) : OkKeeps k s (.error e : Except ε α) f := by
  rintro y ⟨⟩

theorem okKeeps_bind {r : Except ε α} {f : α → State} {g : α → Except ε γ} {f' : γ → State} (h : OkKeeps k s r f)
    (hg : ∀ x, OkKeeps k (f x) (g x) f') : OkKeeps k s (r.bind g) f' := by
  intro y hy
  cases r with
  | error e => cases hy
  | ok x => exact (hg x y hy).trans (h x rfl)

theorem okKeeps_map {r : Except ε α} {f : α → State} {g : α → γ} {f' : γ → State} (h : OkKeeps k s r f)
    (hg : ∀ x, k (f' (g x)) = k (f x)) : OkKeeps k s (r.map g) f' := by
  intro y hy
  cases r with
  | error e => cases hy
  | ok x =>
    cases hy
    exact (hg x).trans (h x rfl)

/-- A fold of bookings keeps what every booking keeps. -/
theorem okKeeps_foldl {δ : Type} {f : α → State} (g : Except ε α → δ → Except ε α)
    (hg : ∀ (t : State) (r : Except ε α) a, OkKeeps k t r f → OkKeeps k t (g r a) f) (l : List δ) {r : Except ε α}
    (h : OkKeeps k s r f) : OkKeeps k s (l.foldl g r) f := by
  induction l generalizing r with
  | nil => exact h
  | cons a l ih => exact ih (hg s r a h)

end

/-! ### The calendar -/

/-- Everything but the cue bookkeeping and the slices that wait for their group. -/
def planFrame (s : State) : State := { calm s with rh := { s.rh with kinds := [] } }

theorem planFrame_of_calm {u s : State} (h : calm u = calm s) : planFrame u = planFrame s := by
  have hrh := calm_rh h
  rw [planFrame, h, hrh, planFrame]

theorem eq_of_planFrame {α : Type} {u s : State} (h : planFrame u = planFrame s) (f : State → α)
    (hf : ∀ x, f (planFrame x) = f x) : f u = f s := by
  rw [← hf u, h, hf]

@[simp] theorem book_calm (w : For) (g r n : Nat) (s : State) : calm (book w g r n s) = calm s := by
  unfold book
  simp only
  split
  · rfl
  · split <;> rfl

@[simp] theorem putPlace_calm (n : Nat) (p : Place) (s : State) : calm (putPlace n p s) = calm s := rfl
@[simp] theorem removePlaces_calm (h b lo hi : Nat) (s : State) : calm (removePlaces h b lo hi s) = calm s := rfl

@[simp] theorem movePlace_calm (m h b : Nat) (s : State) : calm (movePlace m h b s) = calm s := by
  unfold movePlace
  split
  · rfl
  · simp only
    split
    · rfl
    · rw [foldl_calm _ (fun u q => by simp)]
      rfl

@[simp] theorem moveDisplaced_calm (l : List (Nat × Place)) (s : State) : calm (moveDisplaced l s) = calm s :=
  foldl_calm _ (fun u q => by simp) l s

theorem layShots_calm (stop : Option Nat) (l : List (Place × Nat)) (c : Nat) (got : List (Nat × Place)) (s : State) :
    OkKeeps calm s (layShots stop c got s l) Prod.fst := by
  induction l generalizing c got s with
  | nil => exact okKeeps_ok rfl
  | cons q r ih =>
    obtain ⟨p, least⟩ := q
    unfold layShots
    simp only
    split
    · exact okKeeps_error _ _
    · intro x hx
      rw [ih _ _ _ x hx, moveDisplaced_calm, putPlace_calm]

theorem placeAll_calm (h : Nat) (e : CueEntry) (stop : Option Nat) (start : Nat → Nat) (l : List Nat) (s : State)
    (got : List (Nat × Place)) : OkKeeps calm s (placeAll h e stop start s got l) Prod.fst := by
  induction l generalizing s got with
  | nil => exact okKeeps_ok rfl
  | cons b r ih =>
    unfold placeAll
    exact okKeeps_bind (layShots_calm _ _ _ _ _) fun x => ih _ _

theorem bookWords_calm (h : Nat) (e : CueEntry) (stop : Option Nat) (force : Bool) (chans : List Nat)
    (l : List (Nat × Place)) (s : State) : OkKeeps calm s (bookWords h e stop force chans s l) id := by
  induction l generalizing s with
  | nil => exact okKeeps_ok rfl
  | cons q r ih =>
    obtain ⟨n, p⟩ := q
    unfold bookWords
    simp only
    split
    · exact okKeeps_error _ _
    · split
      · exact okKeeps_error _ _
      · intro x hx
        rw [ih _ x hx, foldl_calm _ (fun u y => book_calm _ _ _ _ u)]

theorem bookPoint_calm (w : For) (e : CueEntry) (p : ActProfile) (stop : Option Nat) (force : Bool) (tl c : Nat)
    (s : State) : OkKeeps calm s (bookPoint w e p stop force tl c s) id := by
  unfold bookPoint
  extract_lets cls g lane gN gF gE cells cyc
  split
  · exact okKeeps_error _ _
  · split
    · exact okKeeps_error _ _
    · simp only
      split
      · split <;> exact okKeeps_error _ _
      · split
        · exact okKeeps_ok (by simp)
        · split
          · exact okKeeps_error _ _
          · refine okKeeps_ok ?_
            rw [id, foldl_calm _ (fun v q => book_calm _ _ _ _ v)]
            simp

theorem bookPoints_calm (h : Nat) (e : CueEntry) (p : ActProfile) (stop : Option Nat) (force : Bool)
    (l : List (Nat × Nat × Bool)) (s : State) : OkKeeps calm s (bookPoints h e p stop force s l) id := by
  induction l generalizing s with
  | nil => exact okKeeps_ok rfl
  | cons q r ih =>
    obtain ⟨tl, c, spare⟩ := q
    unfold bookPoints
    exact okKeeps_bind (bookPoint_calm _ _ _ _ _ _ _ _) fun x => ih _

theorem bookConversions_calm (w : For) (r : Nat) (stop : Option Nat) (fuel g left last : Nat) (s : State) :
    OkKeeps calm s (bookConversions w r stop fuel g left last s) Prod.fst := by
  induction fuel generalizing g left last s with
  | zero => exact okKeeps_error _ _
  | succ fuel ih =>
    unfold bookConversions
    split
    · exact okKeeps_ok rfl
    · split
      · exact okKeeps_error _ _
      · split
        · intro x hx
          rw [ih _ _ _ _ x hx, book_calm]
        · exact ih _ _ _ _

theorem bookRecord_calm (w : For) (e : CueEntry) (tl : Nat) (s : State) : OkKeeps calm s (bookRecord w e tl s) id := by
  unfold bookRecord
  extract_lets g lane gN gF
  clear_value lane
  split
  · exact okKeeps_error _ _
  · split
    · exact okKeeps_error _ _
    · simp only
      split
      · exact okKeeps_ok (by simp)
      · split
        · exact okKeeps_error _ _
        · exact okKeeps_ok (by simp)

theorem bookHkPlayer_calm (h : Nat) (e : CueEntry) (t : Nat) (stop : Option Nat) (got : List (Nat × Place)) (s : State)
    (n : Nat) : OkKeeps calm s (bookHkPlayer h e t stop got s n) id := by
  unfold bookHkPlayer
  extract_lets w
  split
  · exact okKeeps_ok rfl
  · split
    · exact okKeeps_ok rfl
    · split
      · refine okKeeps_bind (f := Prod.fst) ?_ fun x => bookRecord_calm _ _ _ _
        refine okKeeps_foldl _ (fun u r v hr => okKeeps_bind hr fun x => ?_) _ (okKeeps_ok rfl)
        exact okKeeps_map (bookConversions_calm _ _ _ _ _ _ _ _) fun y => rfl
      · exact bookRecord_calm _ _ _ _

theorem bookGuests_calm (h : Nat) (e : CueEntry) (t : Nat) (scene : Option FixedScene) (s : State) :
    OkKeeps calm s (bookGuests h e t scene s) id := by
  unfold bookGuests
  split
  · exact okKeeps_ok rfl
  · simp only
    split
    · exact okKeeps_ok rfl
    · split
      · exact okKeeps_ok (foldl_calm _ (fun u g => book_calm _ _ _ _ u) _ s)
      · exact okKeeps_error _ _

@[simp] theorem replaceSlices_planFrame (s : State) : planFrame (replaceSlices s) = planFrame s := rfl

theorem planOccurrence_planFrame (h t : Nat) (scene : Option FixedScene) (s : State) :
    OkKeeps planFrame s (planOccurrence h t scene s) id := by
  have hcalm : ∀ {α : Type} {r : Except (Nat × Nat) α} {f : α → State} {x : State}, OkKeeps calm x r f →
      OkKeeps planFrame x r f := fun hr y hy => planFrame_of_calm (hr y hy)
  unfold planOccurrence
  split
  · exact okKeeps_error _ _
  · extract_lets force stop
    refine okKeeps_bind (hcalm (placeAll_calm _ _ _ _ _ _ _)) fun x => ?_
    extract_lets booked
    refine okKeeps_map (f := id) ?_ fun u => ?_
    · refine okKeeps_bind (f := id) ?_ fun u => hcalm (bookGuests_calm _ _ _ _ _)
      refine hcalm ?_
      simp only [booked]
      split
      · exact okKeeps_foldl _ (fun u r n hr => okKeeps_bind hr fun y => bookHkPlayer_calm _ _ _ _ _ _ _) _ (okKeeps_ok rfl)
      · split
        · exact okKeeps_ok rfl
        · split
          · exact okKeeps_error _ _
          · refine okKeeps_bind (f := id) ?_ fun y => bookPoints_calm _ _ _ _ _ _ _
            exact okKeeps_foldl _ (fun u r n hr => okKeeps_bind hr fun y => bookWords_calm _ _ _ _ _ _ _) _ (okKeeps_ok rfl)
    · rw [id, replaceSlices_planFrame]
      exact planFrame_of_calm (updCue_calm _ _ _)

@[simp] theorem cueProgress_calm (h : Nat) (s : State) : calm (cueProgress h s) = calm s := by
  unfold cueProgress
  split
  · rfl
  · split
    · split
      · rfl
      · exact completeCue_calm _ _
    · split
      · exact completeCue_calm _ _
      · rfl

@[simp] theorem refuseOccurrence_calm (h reason : Nat) (s : State) : calm (refuseOccurrence h reason s) = calm s := by
  rw [refuseOccurrence, cueProgress_calm, setEvent_calm, updCue_calm]
  rfl

@[simp] theorem updCue_planFrame (h : Nat) (f : CueEntry → CueEntry) (s : State) : planFrame (updCue h f s) = planFrame s :=
  planFrame_of_calm (updCue_calm _ _ _)

@[simp] theorem admitSafety_planFrame (fuel upto h : Nat) (s : State) : planFrame (admitSafety fuel upto h s) = planFrame s := by
  induction fuel generalizing s with
  | zero => rfl
  | succ fuel ih =>
    unfold admitSafety
    split
    · rfl
    · simp only
      rw [ih, updCue_planFrame]
      split
      · exact planOccurrence_planFrame _ _ _ _ _ ‹_›
      · exact planFrame_of_calm (refuseOccurrence_calm _ _ _)

@[simp] theorem safetyFirst_planFrame (upto : Nat) (s : State) : planFrame (safetyFirst upto s) = planFrame s :=
  foldl_keeps planFrame _ (fun u h => by simp) _ s

theorem planLater_planFrame (fuel h t : Nat) (scene : Option FixedScene) (s : State) :
    OkKeeps planFrame s (planLater fuel h t scene s) id := by
  induction fuel generalizing s with
  | zero => exact okKeeps_error _ _
  | succ fuel ih =>
    unfold planLater
    intro x hx
    cases hp : planOccurrence h t scene s with
    | error e => simp [hp, Except.bind] at hx
    | ok u =>
      simp only [hp, Except.bind] at hx
      split at hx
      · cases hx
        exact planOccurrence_planFrame _ _ _ _ _ hp
      · rw [ih _ x hx, safetyFirst_planFrame]

@[simp] theorem admitLater_planFrame (fuel h : Nat) (s : State) : planFrame (admitLater fuel h s) = planFrame s := by
  induction fuel generalizing s with
  | zero => rfl
  | succ fuel ih =>
    unfold admitLater
    split
    · rfl
    · split
      · rfl
      · simp only
        rw [ih, updCue_planFrame]
        split
        · exact planFrame_of_calm (refuseOccurrence_calm _ _ _)
        · split
          · rename_i x hx
            split at hx
            · exact planOccurrence_planFrame _ _ _ _ x hx
            · exact planLater_planFrame _ _ _ _ _ x hx
          · exact planFrame_of_calm (refuseOccurrence_calm _ _ _)

@[simp] theorem startSafetyCues_planFrame (s : State) : planFrame (startSafetyCues s) = planFrame s := by
  unfold startSafetyCues
  split
  · rfl
  · refine foldl_keeps planFrame _ (fun u c => ?_) _ s
    simp only
    split
    · rfl
    · rw [admitLater_planFrame, updCue_planFrame]
      rfl

end Sys2Proof.Machine
end

section
/-! R478 to R480, R495, R504: requests for Show, its entry and exit, Dark, and the ghost light's safety inputs. -/

namespace Sys2Proof.Machine

/-! ### Answers to submissions, as cue bookkeeping -/

@[simp] theorem disownGuests_calm (gs : List GuestPart) (s : State) : calm (disownGuests gs s) = calm s := by
  refine foldl_calm _ (fun u g => ?_) gs s
  split
  · rfl
  · split
    · simp
    · split <;> simp

@[simp] theorem answer_calm (src : Source) (a : Bool) (r x h st : Nat) (s : State) :
    calm (answer src a r x h st s) = calm s := by
  unfold answer
  split
  · exact (sendHouse_calm _ _ _ _).trans rfl
  · exact (sendHouse_calm _ _ _ _).trans rfl
  · rfl
  · rfl

@[simp] theorem refuse_calm (src : Source) (x : Nat × Nat) (s : State) : calm (refuse src x s) = calm s := by
  unfold refuse
  rw [answer_calm]
  split <;> simp

@[simp] theorem undoSplit_calm (h : Nat) (e : CueEntry) (src : Source) (x : Nat × Nat) (s : State) :
    calm (undoSplit h e src x s) = calm s := by
  unfold undoSplit
  split
  · simp only
    split <;> simp
  · simp

@[simp] theorem dropDeciding_calm (r : Nat) (s : State) : calm (dropDeciding r s) = calm s := by
  unfold dropDeciding
  split
  · rfl
  · simp only
    split
    · rfl
    · exact (undoSplit_calm _ _ _ _ _).trans rfl

/-! ### Requests and paths -/

theorem onPath_of_ne {p : Path} (h : p ≠ .tap) (f : State → State) (s : State) : onPath p f s = f s := if_neg h

theorem live_of_inStandby {s : State} (h : inStandby s = true) : live s = true := by
  simp only [inStandby, Bool.and_eq_true, Bool.not_eq_true', decide_eq_true_eq] at h
  simp [live, h.1, h.2]

theorem live_of_inShow {s : State} (h : inShow s = true) : live s = true := by
  simp only [inShow, Bool.and_eq_true, Bool.not_eq_true', decide_eq_true_eq] at h
  simp [live, h.1, h.2]

theorem inShow_of_inStandby {s : State} (h : inStandby s = true) : inShow s = false := by
  simp only [inStandby, Bool.and_eq_true, decide_eq_true_eq] at h
  simp [inShow, h.2]

theorem mode_of_inStandby {s : State} (h : inStandby s = true) : s.pwr.mode = .standby := by
  simp only [inStandby, Bool.and_eq_true, decide_eq_true_eq] at h
  exact h.2

theorem awake_of_live {t : Nat} {s : State} (hl : live s = true) (hd : resetDue t s = false) : awake t s = true :=
  awake_iff.mpr ⟨hl, hd⟩

/-! ### The request for Show -/

theorem requestShow_judges {s : State} (hs : inStandby s = true) (hload : s.img.load = none) :
    requestShow s = judgeShow s := by
  simp [requestShow, inShow_of_inStandby hs, hload]

theorem judgeShow_refused {s : State} (h : refuseShow s ≠ 0) : judgeShow s =
    setEvent evModeRefused { s with pwr := { s.pwr with showPend := false, refuse := refuseShow s } } := if_pos h

theorem judgeShow_scheduled {s : State} (h : refuseShow s = 0) : judgeShow s =
    { s with pwr := { s.pwr with
        showPend := false, showAt := some (s.pwr.showAt.getD (16 * ceilDiv (tbUs s + 32) 16)) } } :=
  if_neg (not_not.mpr h)

theorem ceilDiv_bounds (x : Nat) : x + 32 ≤ 16 * ceilDiv (x + 32) 16 ∧ 16 * ceilDiv (x + 32) 16 < x + 48 := by
  unfold ceilDiv
  omega

theorem setEvent_event (i : Nat) (hi : i < 32) (s : State) : (setEvent i s).cb.event.getLsbD i = true := by
  simp [setEvent, bit32, hi]

/-! ### Entry to Show -/

/-- The state as the entry to Show sets it, before the class S cues and the scene program start. -/
def showEntered (s : State) : State :=
  let u := loadCode { s with
    pwr := { s.pwr with mode := .show, showAt := none }
    hist := { s.hist with
      chan := s.hist.chan.mapVals (fun _ v => freshHist v)
      engines := (List.range 8).foldl (fun (t : Tab Engine) n =>
        t.upd {} n (fun e => { e with stopped := s.hist.feStop.getLsbD n })) s.hist.engines }
    rej := { s.rej with phaseUse := (s.img.active.map (fun i => i.rej.slotPhase)).getD 0 }
    bat := { s.bat with
      origin := slotOrigin s ((s.img.active.map (fun i => i.rej.slotPhase)).getD 0), due := [], offSlot := 0 }
    sm := { s.sm with entered := groupNow s + horizonGroups - 1, books := [], slots := [], cueFired := [] }
    saf := { s.saf with
      showAt := s.now, good := 0
      outA := { s.saf.outA with tests := 0 }, outB := { s.saf.outB with tests := 0 } } }
  { u with bat := { u.bat with slot := slotAtOrAfter u (tbTick u) } }

theorem enterShow_eq (s : State) : enterShow s = trackReady (startSafetyCues (showEntered s)) := rfl

/-- What neither the calendar nor the scene program reads or writes is as the entry sets it. -/
theorem enterShow_keeps {α : Type} (s : State) (f : State → α) (hspot : ∀ x, f (spotFrame x) = f x)
    (hplan : ∀ x, f (planFrame x) = f x) : f (enterShow s) = f (showEntered s) := by
  rw [enterShow_eq, eq_of_spotFrame (spotFrame_trackReady _) f hspot, eq_of_planFrame (startSafetyCues_planFrame _) f hplan]

theorem showEntered_hist {s : State} {c : Nat} {x : HistChan} (h : (showEntered s).hist.chan.find c = some x) :
    x.rPrev = 0 ∧ x.nfHist = [] ∧ x.nfCount = 0 := by
  have hmap : (s.hist.chan.mapVals (fun _ v => freshHist v)).find c = some x := h
  rw [Tab.find_mapVals] at hmap
  obtain ⟨y, -, rfl⟩ := Option.map_eq_some_iff.mp hmap
  exact ⟨rfl, rfl, rfl⟩

/-- A drop of the curtain leaves the counts of the test pulses. -/
theorem settle_tests (b s : State) : (settle b s).saf.outA.tests = s.saf.outA.tests ∧
    (settle b s).saf.outB.tests = s.saf.outB.tests := by
  have hdrop : (dropCurtain s).saf.outA.tests = s.saf.outA.tests ∧ (dropCurtain s).saf.outB.tests = s.saf.outB.tests := by
    unfold dropCurtain
    split <;> exact ⟨rfl, rfl⟩
  rcases settle_cases b s with ⟨_, e⟩ | ⟨_, e⟩ <;> rw [e]
  · exact ⟨rfl, rfl⟩
  · exact hdrop

theorem showDue_of {s : State} {m : Nat} (hs : inStandby s = true) (hat : s.pwr.showAt = some m) (hm : m ≤ tbUs s) :
    showDue s = true := by simp [showDue, hs, hat, hm]

/-! ### Exit to Standby -/

/-- The state that the exit from Show makes of `u`, before the conditions are judged anew. -/
def showLeft (u : State) : State :=
  let v := stopScene (openSwitches { u with pwr := { u.pwr with mode := .standby, showAt := none } })
  feedIdle { v with
    bat := { v.bat with due := [] }
    sm := { v.sm with books := [], slots := [] }
    rh := { v.rh with kinds := v.rh.kinds.mapVals (fun _ k => { k with placed := none }) }
    hist := { v.hist with engines := v.hist.engines.mapVals (fun _ e => { e with stopped := true }) } }

/-- The cues end, and the curtain is commanded down, before that. -/
def cuesEnded (s : State) : State := endAllCues 1 3 0 (dropDeciding 0x0F (latchCause 0x12 s))

theorem exitShow_eq (s : State) : exitShow s = refreshConds (showLeft (cuesEnded s)) := rfl

theorem cuesEnded_calm (s : State) : calm (cuesEnded s) = calm (latchCause 0x12 s) := by simp [cuesEnded]

/-- The groups that the end of the cues leaves alone, after the exit. -/
theorem exitShow_groups (s : State) :
    (exitShow s).pwr = { s.pwr with mode := .standby, showAt := none } ∧ (exitShow s).saf = (latchCause 0x12 s).saf := by
  have hcond := condFrame_refreshConds (showLeft (cuesEnded s))
  have hleft : ∀ u, (showLeft u).pwr = { u.pwr with mode := .standby, showAt := none } ∧ (showLeft u).saf = u.saf := by
    intro u
    refine ⟨(eq_of_setsFrame (setsFrame_feedIdle _) State.pwr fun _ => rfl).trans ?_,
      (eq_of_setsFrame (setsFrame_feedIdle _) State.saf fun _ => rfl).trans ?_⟩
    · exact eq_of_spotFrame (spotFrame_stopScene _) State.pwr fun _ => rfl
    · exact eq_of_spotFrame (spotFrame_stopScene _) State.saf fun _ => rfl
  obtain ⟨hpwr, hsaf⟩ := hleft (cuesEnded s)
  rw [exitShow_eq, eq_of_condFrame hcond State.pwr fun _ => rfl, eq_of_condFrame hcond State.saf fun _ => rfl, hpwr, hsaf,
    calm_pwr (cuesEnded_calm s), calm_saf (cuesEnded_calm s), latchCause_keeps 0x12 _ State.pwr fun _ => rfl]
  exact ⟨rfl, rfl⟩

/-- The emitter supply is open and no shot is due. -/
theorem exitShow_bat (s : State) : (exitShow s).bat.emCmd = false ∧ (exitShow s).bat.lsCmd = false ∧
    (exitShow s).bat.hsCmd = false ∧ (exitShow s).bat.due = [] := by
  have hcond := condFrame_refreshConds (showLeft (cuesEnded s))
  have hleft : ∀ u, (showLeft u).bat = { (openSwitches u).bat with due := [] } := by
    intro u
    refine (eq_of_setsFrame (setsFrame_feedIdle _) State.bat fun _ => rfl).trans ?_
    have hstop := eq_of_spotFrame (spotFrame_stopScene (openSwitches { u with pwr :=
      { u.pwr with mode := .standby, showAt := none } })) State.bat fun _ => rfl
    simp only [hstop]
    rfl
  rw [exitShow_eq, eq_of_condFrame hcond State.bat fun _ => rfl, hleft]
  exact ⟨rfl, rfl, rfl, rfl⟩

/-! ### The ghost light's inputs -/

theorem ghostChange_changes {s : State} {c : Nat} {high : Bool} (hc : c < 8) (hl : live s = false)
    (h : s.gl.sinLevel.getLsbD c ≠ (high && !s.th.railLow.getLsbD 1)) : ghostChange c high s =
      { s with gl := { s.gl with
          sinLevel := s.gl.sinLevel ^^^ (1#8 <<< c), sinChanges := satAdd 24 s.gl.sinChanges 1 } } := by
  have hc8 : ¬ 8 ≤ c := by omega
  have hbeq : (s.gl.sinLevel.getLsbD c == (high && !safeAbsent s)) = false := beq_eq_false_iff_ne.mpr h
  simp only [ghostChange, hl, hbeq, hc8, decide_false, Bool.or_false, Bool.false_eq_true, if_false]

theorem ghostChange_stays {s : State} {c : Nat} {high : Bool}
    (h : s.gl.sinLevel.getLsbD c = (high && !s.th.railLow.getLsbD 1)) : ghostChange c high s = s := by
  have hbeq : (s.gl.sinLevel.getLsbD c == (high && !safeAbsent s)) = true := beq_iff_eq.mpr h
  simp only [ghostChange, hbeq, Bool.or_true, Bool.true_or, if_true]

/-- The bit of one channel flips, and no other does. -/
theorem flip_bit (w : BitVec 8) {c d : Nat} (hd : d < 8) :
    (w ^^^ (1#8 <<< c)).getLsbD d = if d = c then !w.getLsbD d else w.getLsbD d := by
  by_cases h : d = c
  · subst h
    simp [hd]
  · rcases Nat.lt_or_gt_of_ne h with hlt | hgt
    · simp [BitVec.getLsbD_xor, h, hlt]
    · have h0 : d - c ≠ 0 := by omega
      simp [BitVec.getLsbD_xor, h, h0]

/-! ### The statement -/

/-- Requests for Show (R478). -/
theorem modes_request (t : Nat) (p : Path) (s : State) (hd : resetDue t s = false) (hp : p ≠ .tap)
    (hs : inStandby s = true) (hload : s.img.load = none) :
    (refuseShow s ≠ 0 → Yields (exec (.modeReqShow t p) s) (fun u => u.pwr.refuse = refuseShow s ∧
      u.pwr.mode = .standby ∧ u.cb.event.getLsbD evModeRefused = true ∧
      Leaves t s u (fun x => { x with cb := {}, pwr := { x.pwr with refuse := 0, showPend := false } }))) ∧
    (refuseShow s = 0 → Yields (exec (.modeReqShow t p) s) (fun u => u.pwr.mode = .standby ∧
      (s.pwr.showAt = none →
        ∃ m, u.pwr.showAt = some m ∧ m % 16 = 0 ∧ tbUs (begin t s) + 32 ≤ m ∧ m < tbUs (begin t s) + 48) ∧
      (∀ m, s.pwr.showAt = some m → u.pwr.showAt = some m) ∧
      Leaves t s u (fun x => { x with pwr := { x.pwr with showAt := none, showPend := false } }))) := by
  have hexec : exec (.modeReqShow t p) s = act t s (onPath p requestShow) := rfl
  have hmode := mode_of_inStandby hs
  have haw := awake_of_live (live_of_inStandby hs) hd
  rw [hexec]
  refine ⟨fun h => yields_act haw ?_, fun h => yields_act haw ?_⟩
  · rw [onPath_of_ne hp, requestShow_judges (s := begin t s) hs hload, judgeShow_refused (s := begin t s) h]
    refine ⟨?_, ?_, settle_keeps_event (setEvent_event _ (by decide) _), _, rfl, rfl⟩
    · rw [settle_pwr]; rfl
    · rw [settle_pwr]; exact hmode
  · rw [onPath_of_ne hp, requestShow_judges (s := begin t s) hs hload, judgeShow_scheduled (s := begin t s) h]
    refine ⟨?_, fun hnone => ?_, fun m hm => ?_, _, rfl, rfl⟩
    · rw [settle_pwr]; exact hmode
    · obtain ⟨hlo, hhi⟩ := ceilDiv_bounds (tbUs (begin t s))
      exact ⟨16 * ceilDiv (tbUs (begin t s) + 32) 16, by simp [hnone], Nat.mul_mod_right _ _, hlo, hhi⟩
    · simp [hm]

/-- The refusals in their order (R478). -/
theorem refuseShow_order (s : State) :
    (s.img.active = none → refuseShow s = 1) ∧
    (s.img.active ≠ none → s.rh.drPass = false → refuseShow s = 2) ∧
    (s.img.active ≠ none → s.rh.drPass = true → s.th.shutdown = true → refuseShow s = 3) ∧
    (s.img.active ≠ none → s.rh.drPass = true → s.th.shutdown = false → refuseShow s = (if lcState s = 2 then 4 else 0)) := by
  have hsome : s.img.active ≠ none → s.img.active.isNone = false := fun h =>
    Option.isNone_eq_false_iff.mpr (Option.isSome_iff_ne_none.mpr h)
  refine ⟨fun h => ?_, fun h hr => ?_, fun h hr hsh => ?_, fun h hr hsh => ?_⟩
  · simp [refuseShow, h]
  · simp [refuseShow, hsome h, hr]
  · simp [refuseShow, hsome h, hr, hsh]
  · simp [refuseShow, hsome h, hr, hsh]

theorem yields_enterShow {t m : Nat} {s : State} (hd : resetDue t s = false) (hs : inStandby s = true)
    (hat : s.pwr.showAt = some m) (hm : m ≤ tbUs (begin t s)) (hr : refuseShow s = 0) :
    Yields (exec (.enterShow t) s) (fun u => u.pwr.mode = .show ∧ u.pwr.showAt = none ∧ u.otp = s.otp ∧
      u.saf.sirel = s.saf.sirel ∧ u.saf.outA.tests = 0 ∧ u.saf.outB.tests = 0 ∧ u.saf.showAt = max s.now t ∧
      (∀ i, s.img.active = some i → u.rej.phaseUse = i.rej.slotPhase) ∧
      ∃ v, u = settle s (trackReady (startSafetyCues v)) ∧ v.bat.codeState = codeSeed s ∧ v.sm.cues = s.sm.cues ∧
        inShow v = true ∧
        ∀ (c : Nat) (x : HistChan), v.hist.chan.find c = some x → x.rPrev = 0 ∧ x.nfHist = [] ∧ x.nfCount = 0) := by
  have hexec : exec (.enterShow t) s = act t s (fun u => if showDue u then showEntry u else u) := rfl
  have hdue : showDue (begin t s) = true := showDue_of hs hat hm
  have hentry : showEntry (begin t s) = enterShow (begin t s) := if_pos hr
  rw [hexec]
  refine yields_act (awake_of_live (live_of_inStandby hs) hd) ?_
  rw [if_pos hdue, hentry]
  have hpwr := enterShow_keeps (begin t s) State.pwr (fun _ => rfl) fun _ => rfl
  have hsaf := enterShow_keeps (begin t s) State.saf (fun _ => rfl) fun _ => rfl
  have hotp := enterShow_keeps (begin t s) State.otp (fun _ => rfl) fun _ => rfl
  have hrej := enterShow_keeps (begin t s) State.rej (fun _ => rfl) fun _ => rfl
  obtain ⟨htA, htB⟩ := settle_tests s (enterShow (begin t s))
  refine ⟨?_, ?_, ?_, ?_, ?_, ?_, ?_, fun i hi => ?_, showEntered (begin t s), rfl, rfl, rfl, ?_, fun c x hx => ?_⟩
  · rw [settle_pwr, hpwr]; rfl
  · rw [settle_pwr, hpwr]; rfl
  · rw [settle_otp, hotp]; rfl
  · rw [settle_saf_sirel, hsaf]; rfl
  · rw [htA, hsaf]; rfl
  · rw [htB, hsaf]; rfl
  · rw [settle_saf_showAt, hsaf]; rfl
  · rw [settle_rej, hrej]
    have hphase : (showEntered (begin t s)).rej.phaseUse = (s.img.active.map (fun i => i.rej.slotPhase)).getD 0 := rfl
    rw [hphase, hi]
    rfl
  · simp only [inStandby, Bool.and_eq_true] at hs
    have hin : inShow (showEntered (begin t s)) = (!s.pwr.inReset && decide (Mode.show = .show)) := rfl
    rw [hin, hs.1]
    rfl
  · exact showEntered_hist hx

/-- An entry that meets a condition of R478. -/
theorem yields_enterShow_refused {t m : Nat} {s : State} (hd : resetDue t s = false) (hs : inStandby s = true)
    (hat : s.pwr.showAt = some m) (hm : m ≤ tbUs (begin t s)) (hr : refuseShow s ≠ 0) :
    Yields (exec (.enterShow t) s) (fun u => u.pwr.mode = .standby ∧ u.pwr.showAt = none ∧ u.pwr.refuse = refuseShow s ∧
      u.cb.event.getLsbD evModeRefused = true ∧
      Leaves t s u (fun x => { x with cb := {}, pwr := { x.pwr with refuse := 0, showAt := none } })) := by
  have hexec : exec (.enterShow t) s = act t s (fun u => if showDue u then showEntry u else u) := rfl
  have hdue : showDue (begin t s) = true := showDue_of hs hat hm
  have hentry : showEntry (begin t s) = setEvent evModeRefused { begin t s with
      pwr := { s.pwr with refuse := refuseShow s, showAt := none } } := if_neg hr
  rw [hexec]
  refine yields_act (awake_of_live (live_of_inStandby hs) hd) ?_
  rw [if_pos hdue, hentry]
  refine ⟨?_, ?_, ?_, settle_keeps_event (setEvent_event _ (by decide) _), _, rfl, rfl⟩
  · rw [settle_pwr]; exact mode_of_inStandby hs
  · rw [settle_pwr]; rfl
  · rw [settle_pwr]; rfl

theorem yields_enterShow_none {t : Nat} {s : State} (hd : resetDue t s = false)
    (h : s.pwr.showAt.all (fun m => decide (tbUs (begin t s) < m)) = true) :
    Yields (exec (.enterShow t) s) (fun u => Leaves t s u id) := by
  have hexec : exec (.enterShow t) s = act t s (fun u => if showDue u then showEntry u else u) := rfl
  have hdue : showDue (begin t s) = false := by
    rw [showDue, begin_pwr]
    cases hat : s.pwr.showAt with
    | none => simp
    | some m =>
      rw [hat] at h
      simp only [Option.all_some, decide_eq_true_eq] at h
      simp [h]
  rw [hexec]
  exact yields_no_effect (by simp [hdue]) hd

theorem yields_exitShow {t : Nat} {p : Path} {s : State} (hd : resetDue t s = false) (hp : p ≠ .tap)
    (hs : inShow s = true) : Yields (exec (.modeReqStandby t p) s) (fun u => u.pwr.mode = .standby ∧ u.saf.curtain = false ∧
      u.bat.emCmd = false ∧ u.bat.lsCmd = false ∧ u.bat.hsCmd = false ∧ u.bat.due = []) := by
  have hexec : exec (.modeReqStandby t p) s = act t s (onPath p requestStandby) := rfl
  have hexit : requestStandby (begin t s) = exitShow (begin t s) := if_pos hs
  obtain ⟨hpwr, hsaf⟩ := exitShow_groups (begin t s)
  have hcause : (exitShow (begin t s)).saf.causes.getLsbD 0x12 = true := by
    rw [hsaf]
    exact latchCause_causes (by decide) _
  rw [hexec]
  refine yields_act (awake_of_live (live_of_inShow hs) hd) ?_
  rw [onPath_of_ne hp, hexit]
  refine ⟨?_, settle_curtain_of_cause hcause, ?_⟩
  · rw [settle_pwr, hpwr]
  · rw [settle_bat]
    exact exitShow_bat _

theorem yields_dark {t : Nat} {p : Path} {s : State} (hd : resetDue t s = false) (hp : p ≠ .tap) (hl : live s = true) :
    Yields (exec (.modeReqDark t p) s) (fun u => u.pwr.mode = .dark ∧ u.pwr.inReset = false ∧
      u.img = {} ∧ u.wq = {} ∧ u.cal = {} ∧ u.bat = {} ∧ u.hist = {} ∧ u.saf.curtain = false) := by
  have hexec : exec (.modeReqDark t p) s = act t s (onPath p requestDark) := rfl
  rw [hexec]
  refine yields_act (awake_of_live hl hd) ?_
  rw [onPath_of_ne hp, requestDark, settle_pwr, settle_img, settle_wq, settle_cal, settle_bat, settle_hist, settle_curtain]
  exact ⟨rfl, rfl, rfl, rfl, rfl, rfl, rfl, rfl⟩

theorem yields_dark_standby {t : Nat} {p : Path} {s : State} (hd : resetDue t s = false) (hp : p ≠ .tap)
    (hs : inStandby s = true) : Yields (exec (.modeReqDark t p) s) (fun u => u.otp = s.otp ∧ u.gl.wake = s.gl.wake ∧
      u.gl.fails = s.gl.fails ∧ u.gl.darkSince = max s.now t) := by
  have hexec : exec (.modeReqDark t p) s = act t s (onPath p requestDark) := rfl
  have hdark : requestDark (begin t s) = enterDark (begin t s) := by
    rw [requestDark, show inShow (begin t s) = false from inShow_of_inStandby hs]
    rfl
  rw [hexec]
  refine yields_act (awake_of_live (live_of_inStandby hs) hd) ?_
  rw [onPath_of_ne hp, hdark, settle_otp, settle_gl]
  exact ⟨rfl, rfl, rfl, rfl⟩

theorem yields_standby_again {t : Nat} {p : Path} {s : State} (hd : resetDue t s = false) (hp : p ≠ .tap)
    (hs : inStandby s = true) : Yields (exec (.modeReqStandby t p) s) (fun u => Leaves t s u id) := by
  have hexec : exec (.modeReqStandby t p) s = act t s (onPath p requestStandby) := rfl
  have hstay : requestStandby (begin t s) = begin t s := by
    rw [requestStandby, show inShow (begin t s) = false from inShow_of_inStandby hs]
    rfl
  rw [hexec]
  exact yields_no_effect (by rw [onPath_of_ne hp, hstay]) hd

/-- The ghost light follows the safety inputs in Dark and in reset (R495, R504). -/
theorem modes_inputs (t c : Nat) (high : Bool) (s : State) (hd : resetDue t s = false) (hl : live s = false) (hc : c < 8) :
    let level := high && !s.th.railLow.getLsbD 1
    (s.gl.sinLevel.getLsbD c ≠ level →
      Yields (exec (.ghostLightSinChange t c high) s) (fun u => u.gl.sinLevel.getLsbD c = level ∧
        (∀ d < 8, d ≠ c → u.gl.sinLevel.getLsbD d = s.gl.sinLevel.getLsbD d) ∧
        u.gl.sinChanges = satAdd 24 s.gl.sinChanges 1 ∧
        Leaves t s u (fun x => { x with gl := { x.gl with sinLevel := 0, sinChanges := 0 } }))) ∧
    (s.gl.sinLevel.getLsbD c = level → Yields (exec (.ghostLightSinChange t c high) s) (fun u => Leaves t s u id)) := by
  intro level
  have hexec : exec (.ghostLightSinChange t c high) s = actAlways t s (ghostChange c high) := rfl
  rw [hexec]
  refine ⟨fun h => yields_actAlways hd ?_, fun h => yields_always_no_effect hd (ghostChange_stays h)⟩
  rw [ghostChange_changes (s := begin t s) hc hl h]
  simp only [settle_gl, begin_gl]
  refine ⟨?_, fun d hd8 hdc => ?_, trivial, _, rfl, rfl⟩
  · rw [flip_bit _ hc, if_pos rfl]
    exact (Bool.eq_not_of_ne (Ne.symm h)).symm
  · rw [flip_bit _ hd8, if_neg hdc]

/-- Settles O21: the requests, the entry and the exit, Dark, and the inputs of the ghost light. -/
theorem modes : Obligations.Modes := by
  refine ⟨fun t p s hd hp hs hload => ?_, fun t p s hd hp => ?_, modes_inputs⟩
  · obtain ⟨hrefused, hscheduled⟩ := modes_request t p s hd hp hs hload
    exact ⟨hrefused, hscheduled, refuseShow_order s⟩
  · exact ⟨fun m hs hat hm hr => yields_enterShow hd hs hat hm hr,
      fun m hs hat hm hr => yields_enterShow_refused hd hs hat hm hr, yields_enterShow_none hd, yields_exitShow hd hp,
      yields_dark hd hp, yields_dark_standby hd hp, yields_standby_again hd hp⟩

end Sys2Proof.Machine
end

section
/-! R498 to R503: the stage door. -/

namespace Sys2Proof.Machine

/-! ### The door's gate -/

theorem doorShut_zero {s : State} (h : doorShut s = 0) :
    s.door.zeroised = false ∧ rwsOpen s = true ∧ s.door.waitUntil ≤ s.now := by
  unfold doorShut at h
  split at h
  · omega
  · split at h
    · omega
    · split at h
      · omega
      · next hz hr hw =>
        exact ⟨by simpa using hz, by simpa using hr, by simpa using hw⟩

theorem awake_of_doorShut {t : Nat} {s : State} (hd : resetDue t s = false) (h : doorShut (begin t s) = 0) :
    awake t s = true := awake_of_rwsOpen (doorShut_zero h).2.1 hd

@[simp] theorem doorShut_doorCtrl (op scope slot : Nat) (s : State) : doorShut (doorCtrl op scope slot s) = doorShut s := rfl

theorem doorRun_shut {f : State → State} {s : State} (h : doorShut s ≠ 0) : doorRun f s = doorDone (doorShut s) s := if_pos h
theorem doorRun_open {f : State → State} {s : State} (h : doorShut s = 0) : doorRun f s = f s := if_neg (not_not.mpr h)

/-- A shut door refuses whatever operation Table 14.8 names. -/
theorem doorCommand_shut {op scope slot : Nat} {b : Bool} {s : State} (hlo : 1 ≤ op) (hhi : op ≤ 7) (h : doorShut s ≠ 0) :
    doorCommand op scope slot b s = doorDone (doorShut s) (doorCtrl op scope slot s) := by
  have h' : doorShut (doorCtrl op scope slot s) ≠ 0 := h
  unfold doorCommand
  interval_cases op <;> exact doorRun_shut h'

/-- R500 to R502: what a shut door does is to refuse. -/
theorem yields_door_shut {t op scope slot : Nat} {b : Bool} {s : State} (hs : awake t s = true) (hlo : 1 ≤ op) (hhi : op ≤ 7)
    (h : doorShut (begin t s) ≠ 0) : Yields (act t s (doorCommand op scope slot b)) (fun u =>
      u.door.result = doorShut (begin t s) ∧
      Leaves t s u (fun x => { x with door := { x.door with ctrl := 0, result := 0, resp := [], data := [] } })) := by
  refine yields_act hs ?_
  rw [doorCommand_shut hlo hhi h]
  exact ⟨by rw [settle_door]; rfl, _, rfl, rfl⟩

/-- An operation of a door that is not shut. -/
theorem yields_door {t op scope slot : Nat} {b : Bool} {s : State} {f : State → State} {P : State → Prop}
    (hd : resetDue t s = false) (h : doorShut (begin t s) = 0)
    (hop : doorOp op scope slot b (doorCtrl op scope slot (begin t s)) = doorRun f (doorCtrl op scope slot (begin t s)))
    (hP : P (settle s (f (doorCtrl op scope slot (begin t s))))) : Yields (act t s (doorCommand op scope slot b)) P := by
  refine yields_act (awake_of_doorShut hd h) ?_
  rw [doorCommand, hop, doorRun_open (show doorShut (doorCtrl op scope slot (begin t s)) = 0 from h)]
  exact hP

/-! ### Shut doors and timers -/

theorem challengeValid_some {s : State} {c : Nat} (h : s.door.chalAt = some c) :
    challengeValid s = decide (s.now < c + 60 * secTicks) := by rw [challengeValid, h, Option.any_some]

theorem expireChallenge_late {s : State} {c : Nat} (h : s.door.chalAt = some c) (hlate : c + 60 * secTicks ≤ s.now) :
    expireChallenge s = spendChallenge s := by
  rw [expireChallenge, challengeValid_some h, h, decide_eq_false (Nat.not_lt.mpr hlate)]
  rfl

theorem expireChallenge_early {s : State} {c : Nat} (h : s.door.chalAt = some c) (hearly : s.now < c + 60 * secTicks) :
    expireChallenge s = s := by
  rw [expireChallenge, challengeValid_some h, decide_eq_true hearly, Bool.not_true, Bool.and_false]
  rfl

/-- Settles O22: the gate of the door, and its two timers. -/
theorem doorShutAndTimers : Obligations.DoorShutAndTimers := by
  refine ⟨?shut, ?timers⟩
  case shut =>
    intro t p n b s hs hshut
    refine ⟨fun hz => if_pos hz, fun hz hr => ?_, fun c hc => ?_⟩
    · have hz' : (begin t s).door.zeroised = false := hz
      have hr' : rwsOpen (begin t s) = false := hr
      rw [doorShut, hz', hr']
      rfl
    · simp only [List.mem_cons, List.not_mem_nil, or_false] at hc
      rcases hc with rfl | rfl | rfl | rfl | rfl | rfl | rfl <;>
        exact yields_door_shut hs (by decide) (by decide) hshut
  case timers =>
    intro t s hs
    have hd := (awake_iff.mp hs).2
    have hexec : exec (.challengeExpiry t) s = act t s expireChallenge := rfl
    have hwait : exec (.doorWaitExpiry t) s = act t s endDoorWait := rfl
    rw [hexec, hwait]
    refine ⟨fun c hc hlate => yields_act hs ?_,
      fun c hc hearly => yields_no_effect (expireChallenge_early (s := begin t s) hc hearly) hd,
      fun hlate => yields_act hs ?_⟩
    · rw [expireChallenge_late (s := begin t s) hc hlate]
      exact ⟨by rw [settle_door]; rfl, _, rfl, rfl⟩
    · have hend : endDoorWait (begin t s) = { begin t s with door := { s.door with waitUntil := 0 } } := if_pos hlate
      rw [hend]
      exact ⟨by rw [settle_door], _, rfl, rfl⟩

/-! ### The challenge -/

theorem leBytes_length (n v : Nat) : (leBytes n v).length = n := by
  induction n generalizing v with
  | zero => rfl
  | succ n ih => simp [leBytes, ih]

/-- The block of R500: the UID, the nonce, the lifecycle state, the scope, and zeros. -/
def challengeBlock (s : State) (scope : Nat) : List Byte :=
  leBytes 8 s.otp.uid.toNat ++ leBytes 16 (freeValue s) ++ leBytes 1 (lcState s) ++ leBytes 1 (scope % 8) ++ leBytes 6 0

theorem challengeBlock_length (s : State) (scope : Nat) : (challengeBlock s scope).length = 32 := by
  simp [challengeBlock, leBytes_length]

theorem challengeBlock_uid (s : State) (scope : Nat) : (challengeBlock s scope).take 8 = leBytes 8 s.otp.uid.toNat := by
  have h8 : (leBytes 8 s.otp.uid.toNat).length = 8 := leBytes_length _ _
  rw [challengeBlock, List.append_assoc, List.append_assoc, List.append_assoc]
  exact List.take_left' h8

theorem challengeBlock_scope (s : State) (scope : Nat) :
    (challengeBlock s scope).getD 25 0 = BitVec.ofNat 8 (scope % 8) := by
  have h25 : (leBytes 8 s.otp.uid.toNat ++ leBytes 16 (freeValue s) ++ leBytes 1 (lcState s)).length = 25 := by
    simp [leBytes_length]
  rw [challengeBlock, List.append_assoc _ (leBytes 1 (scope % 8)), List.getD_append_right _ _ _ _ (by rw [h25]), h25]
  rfl

theorem doorChallenge_locked {s : State} {scope : Nat} (h : lcState s = 1) : doorChallenge scope s =
    doorDone 0 (tookFree { s with door := { s.door with
      chal := challengeBlock s scope, chalScope := scope % 8, chalAt := some s.now } }) :=
  if_neg (not_not.mpr h)

/-! ### Attempts -/

/-- An attempt by either credential from Locked. -/
theorem doorUnlock_locked {s : State} (h : lcState s = 1) (good readback : Bool) : doorUnlock good readback s =
    if challengeValid s then (if good then doorOpen readback s else doorFail s) else doorDone 3 (spendChallenge s) := by
  cases hv : challengeValid s <;> cases good <;> simp [doorUnlock, h, hv]

theorem lcState_opened {s : State} (h : lcState s = 1) {u : State} (hotp : u.otp = s.otp) (hgl : u.gl.fieldOpened = true) :
    lcState u = 2 := by
  unfold lcState at h ⊢
  rw [hotp]
  cases hl : s.otp.lifecycle with
  | opened => simp [hl] at h
  | retired => simp [hl] at h
  | locked => simp [hgl]

@[simp] theorem lcState_settle (b s : State) : lcState (settle b s) = lcState s := by simp [lcState]

/-- A match: the door is open for the scope asked for. -/
theorem doorOpen_spec (b : Bool) (s : State) :
    (doorOpen b s).gl.fieldOpened = true ∧ (doorOpen b s).gl.fails = 0 ∧ (doorOpen b s).otp = s.otp ∧
    (doorOpen b s).door.chalAt = none ∧
    (s.door.chalScope / 2 % 2 = 0 → (doorOpen b s).door.result = 0 ∧ (doorOpen b s).door.scope = s.door.chalScope ∧
      (doorOpen b s).door.zeroised = s.door.zeroised) ∧
    (s.door.chalScope / 2 % 2 = 1 → b = true → (doorOpen b s).door.result = 0 ∧ (doorOpen b s).door.zeroised = true ∧
      (doorOpen b s).door.closed = true ∧ (doorOpen b s).door.chal = []) ∧
    (s.door.chalScope / 2 % 2 = 1 → b = false → (doorOpen b s).door.result = 5 ∧
      (doorOpen b s).door.zeroised = false ∧ (doorOpen b s).door.closed = true) := by
  unfold doorOpen
  by_cases h : s.door.chalScope / 2 % 2 = 1
  · simp only [if_pos h]
    cases b
    · exact ⟨rfl, rfl, rfl, rfl, fun h0 => by omega, fun _ hb => by simp at hb, fun _ _ => ⟨rfl, rfl, rfl⟩⟩
    · exact ⟨rfl, rfl, rfl, rfl, fun h0 => by omega, fun _ _ => ⟨rfl, rfl, rfl, rfl⟩, fun _ hb => by simp at hb⟩
  · simp only [if_neg h]
    exact ⟨rfl, rfl, rfl, rfl, fun _ => ⟨rfl, rfl, rfl⟩, fun h1 => absurd h1 h, fun h1 => absurd h1 h⟩

/-- What an attempt gives, by the challenge and the credential. -/
def Attempt (t : Nat) (b good : Bool) (s : State) (c : Instr) : Prop :=
  (challengeValid (begin t s) = false → Yields (exec c s) (fun u => u.door.result = 3 ∧ u.door.chalAt = none ∧
    u.gl = s.gl)) ∧
  (challengeValid (begin t s) = true → good = false → Yields (exec c s) (fun u => u.door.result = 2 ∧
    u.door.chalAt = none ∧ u.gl.fails = satAdd 16 s.gl.fails 1 ∧ u.gl.fieldOpened = s.gl.fieldOpened ∧
    u.door.waitUntil = max s.now t + (if u.gl.fails ≤ 8 then secTicks else 60 * secTicks))) ∧
  (challengeValid (begin t s) = true → good = true → Yields (exec c s) (fun u => u.gl.fieldOpened = true ∧
    lcState u = 2 ∧ u.gl.fails = 0 ∧ u.door.chalAt = none ∧
    (s.door.chalScope / 2 % 2 = 0 → u.door.result = 0 ∧ u.door.scope = s.door.chalScope ∧
      u.door.zeroised = s.door.zeroised) ∧
    (s.door.chalScope / 2 % 2 = 1 → b = true → u.door.result = 0 ∧ u.door.zeroised = true ∧
      u.door.closed = true ∧ u.door.chal = []) ∧
    (s.door.chalScope / 2 % 2 = 1 → b = false → u.door.result = 5 ∧ u.door.zeroised = false ∧
      u.door.closed = true)))

/-- An operation of an open door that makes an attempt. -/
theorem attempt_of_command {t op scope slot : Nat} {b good : Bool} {s : State} {c : Instr} {f : State → State}
    (hd : resetDue t s = false) (h : doorShut (begin t s) = 0) (hl : lcState s = 1)
    (hexec : exec c s = act t s (doorCommand op scope slot b))
    (hop : doorOp op scope slot b (doorCtrl op scope slot (begin t s)) = doorRun f (doorCtrl op scope slot (begin t s)))
    (hf : f (doorCtrl op scope slot (begin t s)) = doorUnlock good b (doorCtrl op scope slot (begin t s))) :
    Attempt t b good s c := by
  have hlc : lcState (doorCtrl op scope slot (begin t s)) = 1 := hl
  have hcv : challengeValid (doorCtrl op scope slot (begin t s)) = challengeValid (begin t s) := rfl
  rw [Attempt, hexec]
  refine ⟨fun hv => yields_door hd h hop ?_, fun hv hg => yields_door hd h hop ?_, fun hv hg => yields_door hd h hop ?_⟩
  · rw [hf, doorUnlock_locked hlc, hcv, hv, settle_door, settle_gl]
    exact ⟨rfl, rfl, rfl⟩
  · rw [hf, doorUnlock_locked hlc, hcv, hv, hg, settle_door, settle_gl]
    refine ⟨rfl, rfl, rfl, rfl, ?_⟩
    have hwait : ∀ n : Nat, (if 8 < n then 60 else 1) * secTicks = if n ≤ 8 then secTicks else 60 * secTicks := by
      intro n
      split <;> split <;> omega
    exact congrArg (max s.now t + ·) (hwait _)
  · obtain ⟨hopened, hfails, hotp, hchal, hplain, hscan, hback⟩ := doorOpen_spec b (doorCtrl op scope slot (begin t s))
    rw [hf, doorUnlock_locked hlc, hcv, hv, hg, if_pos rfl, if_pos rfl, settle_door, settle_gl, lcState_settle]
    exact ⟨hopened, lcState_opened hlc hotp hopened, hfails, hchal, hplain, hscan, hback⟩

/-- Settles O23: the challenge, and the attempts by the key and by the password. -/
theorem doorUnlock_settled : Obligations.DoorUnlock := by
  refine ⟨?challenge, ?attempt⟩
  case challenge =>
    intro t p scope s hd h hl
    have hexec : exec (.doorChallenge t p scope) s = act t s (doorCommand 1 scope (fld s.door.ctrl 9 8) true) := rfl
    have hlc : lcState (doorCtrl 1 scope (fld s.door.ctrl 9 8) (begin t s)) = 1 := hl
    rw [hexec]
    refine yields_door hd h (f := doorChallenge scope) rfl ?_
    rw [doorChallenge_locked hlc]
    refine ⟨?_, ?_, ?_, ?_, ?_, ?_, ?_, _, rfl, rfl⟩
    · rw [settle_door]; rfl
    · rw [settle_door]; rfl
    · rw [settle_door]; exact challengeBlock_length _ _
    · rw [settle_door]; exact challengeBlock_uid _ _
    · rw [settle_door]; exact challengeBlock_scope _ _
    · rw [settle_door]; rfl
    · rw [challengeValid_some (c := max s.now t) (by rw [settle_door]; rfl), settle_now]
      exact decide_eq_true (Nat.lt_add_of_pos_right (by decide))
  case attempt =>
    intro t p b s hd h hl q hq
    simp only [List.mem_cons, List.not_mem_nil, or_false] at hq
    rcases hq with rfl | rfl
    · exact attempt_of_command hd h hl (op := 2) rfl rfl rfl
    · exact attempt_of_command hd h hl (op := 3) rfl rfl rfl

end Sys2Proof.Machine
end

section
/-! R498, R499, R503, Table 14.6: CLOSE and the OTP operations. -/

namespace Sys2Proof.Machine

/-! ### The operations of an open door -/

theorem doorClose_opened {s : State} (h : lcState s = 2) : doorClose s =
    doorDone 0 { s with gl := { s.gl with fieldOpened := false }, door := { s.door with scope := 0 } } := if_pos h

/-- Only the locked lifecycle reads Field-Opened. -/
theorem lifecycle_of_opened {s : State} (h : lcState s = 2) : s.otp.lifecycle = .locked := by
  unfold lcState at h
  cases hl : s.otp.lifecycle <;> simp [hl] at h ⊢

theorem lcState_of_otpScope {s : State} (h : otpScope s = true) : lcState s = 2 := by
  simp only [otpScope, Bool.and_eq_true, beq_iff_eq] at h
  exact h.1

theorem lcState_closed {s : State} (h : s.otp.lifecycle = .locked) (hf : s.gl.fieldOpened = false) : lcState s = 1 := by
  simp [lcState, h, hf]

/-- The slot after PROG_SLOT with hash `v`, which read back right where `ok`. -/
def programmedSlot (ok : Bool) (v : Nat) (k : KeySlot) : KeySlot :=
  if ok then { k with hash := some v } else { k with spent := true }

/-- PROG_SLOT on an empty slot that is not spent. -/
theorem doorProgSlot_empty {s : State} {n : Nat} (b : Bool) (ho : otpScope s = true) (hn : n < 4)
    (hh : (s.otp.keys.get {} n).hash = none) (hs : (s.otp.keys.get {} n).spent = false) : doorProgSlot n b s =
      doorDone (if b then 0 else 4) { s with otp := { s.otp with
        keys := s.otp.keys.set n (programmedSlot b (beNat (blockBytes s.door.data 8)) (s.otp.keys.get {} n)) } } := by
  simp [doorProgSlot, Nat.mod_eq_of_lt hn, ho, hh, hs, programmedSlot]

/-- The slot after REVOKE, whose bits read back right where `ok`. -/
def revokedSlot (ok : Bool) (k : KeySlot) : KeySlot := if ok then { k with revoked := true } else { k with revokeSpent := true }

/-- REVOKE, by whether the bits read back right. -/
theorem doorRevoke_spec {s : State} {n : Nat} {b ok : Bool} (ho : otpScope s = true) (hn : n < 4)
    (hok : (b && !(s.otp.keys.get {} n).revokeSpent) = ok) :
    (doorRevoke n b s).door.result = (if ok then 0 else 4) ∧
    (doorRevoke n b s).otp.keys = s.otp.keys.set n (revokedSlot ok (s.otp.keys.get {} n)) ∧
    (doorRevoke n b s).img = if s.img.keySlot = some n then { s.img with auth := false } else s.img := by
  have hclosed : (!otpScope s) = false := by rw [ho]; rfl
  by_cases hk : s.img.keySlot = some n
  · simp only [doorRevoke, Nat.mod_eq_of_lt hn, hok, hclosed, Bool.false_eq_true, if_false, if_pos hk]
    exact ⟨rfl, rfl, rfl⟩
  · simp only [doorRevoke, Nat.mod_eq_of_lt hn, hok, hclosed, Bool.false_eq_true, if_false, if_neg hk]
    exact ⟨rfl, rfl, rfl⟩

/-- RETIRE, by whether the bits read back right. -/
theorem doorRetire_good {s : State} (ho : otpScope s = true) (hs : s.otp.retireSpent = false) : doorRetire true s =
    doorDone 0 { s with otp := { s.otp with devKey := none, password := none, lifecycle := .retired }
                        gl := { s.gl with fieldOpened := false } } := by
  simp [doorRetire, ho, hs]

theorem doorRetire_bad {s : State} {b : Bool} (ho : otpScope s = true) (h : b = false ∨ s.otp.retireSpent = true) :
    doorRetire b s =
      doorDone 4 { s with otp := { s.otp with devKey := none, password := none, retireSpent := true } } := by
  have hbad : (b && !s.otp.retireSpent) = false := by rcases h with h | h <;> simp [h]
  have hclosed : (!otpScope s) = false := by rw [ho]; rfl
  simp only [doorRetire, hbad, hclosed, Bool.false_eq_true, if_false]

/-- Without scope OTP the operations on OTP are refused. -/
theorem otp_refused {s : State} (h : otpScope s = false) (n : Nat) (b : Bool) :
    doorProgSlot n b s = doorDone 1 s ∧ doorRevoke n b s = doorDone 1 s ∧ doorRetire b s = doorDone 1 s := by
  refine ⟨?_, ?_, ?_⟩
  · simp [doorProgSlot, h]
  · simp [doorRevoke, h]
  · simp [doorRetire, h]

/-! ### Table 14.6 -/

/-- What the TAP and scan reach follows the lifecycle. -/
theorem tap_scan (s : State) :
    (lcState s = 1 → tapOpen s = false ∧ scanOpen s = false) ∧
    (lcState s = 2 → tapOpen s = true ∧ scanOpen s = (s.door.zeroised && decide (s.door.scope / 2 % 2 = 1))) ∧
    (lcState s ≠ 1 → lcState s ≠ 2 → tapOpen s = true ∧ scanOpen s = true) := by
  refine ⟨fun h => ?_, fun h => ?_, fun h1 h2 => ?_⟩
  · exact ⟨by rw [tapOpen, h]; rfl, by simp only [scanOpen, h]⟩
  · exact ⟨by rw [tapOpen, h]; rfl, by simp only [scanOpen, h]⟩
  · refine ⟨by simp [tapOpen, h1], ?_⟩
    unfold scanOpen
    split
    · exact absurd ‹_› h1
    · exact absurd ‹_› h2
    · rfl

/-! ### The statement -/

/-- Settles O24: CLOSE, the OTP operations with and without their scope, and Table 14.6. -/
theorem doorOtp : Obligations.DoorOtp := by
  intro t p n s hd h
  obtain ⟨htap1, htap2, htap3⟩ := tap_scan s
  have hclose : exec (.doorClose t p) s = act t s (doorCommand 4 (fld s.door.ctrl 3 1) (fld s.door.ctrl 9 8) true) := rfl
  have hprog : ∀ b, exec (.doorProgSlot t p n b) s = act t s (doorCommand 5 (fld s.door.ctrl 3 1) n b) := fun _ => rfl
  have hrevoke : ∀ b, exec (.doorRevoke t p n b) s = act t s (doorCommand 6 (fld s.door.ctrl 3 1) n b) := fun _ => rfl
  have hretire : ∀ b, exec (.doorRetire t p b) s =
    act t s (doorCommand 7 (fld s.door.ctrl 3 1) (fld s.door.ctrl 9 8) b) := fun _ => rfl
  refine ⟨fun hl => ?close, fun ho hn hh hs => ?prog, fun ho hn hs => ?revoke, fun ho hn b hb => ?revokeBad,
    fun ho hn hh hs => ?progBad, fun ho b hb => ?retireBad, htap1, htap2, htap3, fun ho hs => ?retire, fun ho c hc => ?refused⟩
  case close =>
    rw [hclose]
    refine yields_door hd h (f := doorClose) rfl ?_
    rw [doorClose_opened (s := doorCtrl 4 _ _ (begin t s)) hl, settle_door, lcState_settle]
    exact ⟨rfl, lcState_closed (show s.otp.lifecycle = .locked from lifecycle_of_opened hl) rfl, rfl⟩
  case prog =>
    rw [hprog]
    refine yields_door hd h (f := doorProgSlot n true) rfl ?_
    rw [doorProgSlot_empty true (s := doorCtrl 5 _ _ (begin t s)) ho hn hh hs]
    refine ⟨?_, ?_, fun k hk hkn => ?_, _, rfl, rfl⟩
    · rw [settle_door]; rfl
    · rw [settle_otp, doorDone_otp, Tab.get_set_same]; rfl
    · rw [settle_otp, doorDone_otp, Tab.get_set_other _ _ _ hkn]; rfl
  case revoke =>
    rw [hrevoke]
    refine yields_door hd h (f := doorRevoke n true) rfl ?_
    have hok : (true && !((doorCtrl 6 (fld s.door.ctrl 3 1) n (begin t s)).otp.keys.get {} n).revokeSpent) = true := by
      rw [Bool.true_and, Bool.not_eq_true']
      exact hs
    obtain ⟨hres, hkeys, himg⟩ := doorRevoke_spec (s := doorCtrl 6 _ _ (begin t s)) ho hn hok
    rw [settle_door, settle_otp, settle_img, hres, hkeys, himg, Tab.get_set_same]
    exact ⟨rfl, rfl, fun hslot => congrArg Loader.auth (if_pos hslot), fun hslot => if_neg hslot⟩
  case revokeBad =>
    rw [hrevoke]
    refine yields_door hd h (f := doorRevoke n b) rfl ?_
    have hok : (b && !((doorCtrl 6 (fld s.door.ctrl 3 1) n (begin t s)).otp.keys.get {} n).revokeSpent) = false := by
      rcases hb with hb | hb
      · rw [hb, Bool.false_and]
      · rw [show ((doorCtrl 6 _ _ (begin t s)).otp.keys.get {} n).revokeSpent = true from hb, Bool.not_true, Bool.and_false]
    obtain ⟨hres, hkeys, -⟩ := doorRevoke_spec (s := doorCtrl 6 _ _ (begin t s)) ho hn hok
    rw [settle_door, settle_otp, hres, hkeys, Tab.get_set_same]
    exact ⟨rfl, rfl, rfl⟩
  case progBad =>
    rw [hprog]
    refine yields_door hd h (f := doorProgSlot n false) rfl ?_
    rw [doorProgSlot_empty false (s := doorCtrl 5 _ _ (begin t s)) ho hn hh hs, settle_door, settle_otp, doorDone_otp,
      Tab.get_set_same]
    exact ⟨rfl, hh, rfl⟩
  case retireBad =>
    rw [hretire]
    refine yields_door hd h (f := doorRetire b) rfl ?_
    rw [doorRetire_bad (s := doorCtrl 7 _ _ (begin t s)) ho hb, settle_door, settle_otp, lcState_settle]
    exact ⟨rfl, lcState_of_otpScope ho, rfl, rfl, rfl⟩
  case retire =>
    rw [hretire]
    refine yields_door hd h (f := doorRetire true) rfl ?_
    rw [doorRetire_good (s := doorCtrl 7 _ _ (begin t s)) ho hs, settle_door, settle_otp, lcState_settle]
    exact ⟨rfl, rfl, rfl, rfl, rfl⟩
  case refused =>
    simp only [List.mem_cons, List.not_mem_nil, or_false] at hc
    rcases hc with rfl | rfl | rfl
    · rw [hprog]
      refine yields_door hd h (f := doorProgSlot n true) rfl ?_
      rw [(otp_refused (s := doorCtrl 5 _ _ (begin t s)) ho n true).1, settle_door, settle_otp, settle_gl, settle_img]
      exact ⟨rfl, rfl, rfl, rfl⟩
    · rw [hrevoke]
      refine yields_door hd h (f := doorRevoke n true) rfl ?_
      rw [(otp_refused (s := doorCtrl 6 _ _ (begin t s)) ho n true).2.1, settle_door, settle_otp, settle_gl, settle_img]
      exact ⟨rfl, rfl, rfl, rfl⟩
    · rw [hretire]
      refine yields_door hd h (f := doorRetire true) rfl ?_
      rw [(otp_refused (s := doorCtrl 7 _ _ (begin t s)) ho n true).2.2, settle_door, settle_otp, settle_gl, settle_img]
      exact ⟨rfl, rfl, rfl, rfl⟩

end Sys2Proof.Machine
end

section
/-! R62 to R69, R522: the load window, the commands of the loader, and the ends of a load. -/

namespace Sys2Proof.Machine

/-! ### Bytes of a word -/

theorem leBytes_getElem {n i : Nat} (v : Nat) (h : i < (leBytes n v).length) :
    (leBytes n v)[i] = BitVec.ofNat 8 (v / 256 ^ i) := by
  induction n generalizing v i with
  | zero => simp [leBytes] at h
  | succ n ih =>
    cases i with
    | zero => simp [leBytes]
    | succ i =>
      simp only [leBytes, List.getElem_cons_succ]
      rw [ih, Nat.pow_succ', Nat.div_div_eq_div_mul]

/-- The bytes of a word, written least significant first, read back so, and the others stay. -/
theorem read_writeList_word {m : Memory} (h : m.wf = true) (o : Nat) (v : W32) :
    (∀ i < 4, ((m.writeList o (leBytes 4 v.toNat)).read (o + i)).toNat = v.toNat / 256 ^ i % 256) ∧
    (∀ a, a < o ∨ o + 4 ≤ a → (m.writeList o (leBytes 4 v.toNat)).read a = m.read a) := by
  have hlen : (leBytes 4 v.toNat).length = 4 := leBytes_length _ _
  refine ⟨fun i hi => ?_, fun a ha => ?_⟩
  · have hi' : i < (leBytes 4 v.toNat).length := by omega
    rw [Memory.read_writeList_inside _ m o i h hi', leBytes_getElem _ hi', BitVec.toNat_ofNat]
  · exact Memory.read_writeList_other _ m o a h (by omega)

/-! ### The load window -/

/-- A word inside the window of a load that is not being checked. -/
theorem loadWindow_full {p : Path} {s : State} (hload : s.img.load = none) (hk : s.img.kind = false) (o : Nat) (v : W32) :
    (loadWindow p o v s).2 = { s with img := { s.img with
      full := s.img.full.writeList (stagingOffset s o) (leBytes 4 v.toNat)
      stagedLen := max s.img.stagedLen (stagingOffset s o + 4) } } := by
  simp [loadWindow, hload, hk, stageBytes, leBytes]

theorem loadWindow_patch {p : Path} {s : State} (hload : s.img.load = none) (hk : s.img.kind = true) {o : Nat}
    (ho : o < 65536) (v : W32) : (loadWindow p o v s).2 = { s with img := { s.img with
      patchArea := s.img.patchArea.writeList (stagingOffset s o) (leBytes 4 v.toNat)
      stagedLen := max s.img.stagedLen (stagingOffset s o + 4) } } := by
  have ho' : ¬ 65536 ≤ o := by omega
  simp [loadWindow, hload, hk, ho', stageBytes, leBytes]

theorem loadWindow_discards {p : Path} {s : State} {o : Nat} (v : W32)
    (h : s.img.load ≠ none ∨ (s.img.kind = true ∧ 65536 ≤ o)) : (loadWindow p o v s).2 =
      violation p (loadBase + o) (if s.img.load = none then kindRule else kindBusy) s := by
  cases hl : s.img.load with
  | some j => simp [loadWindow, hl]
  | none =>
    obtain ⟨hk, ho⟩ := h.resolve_left (not_not.mpr hl)
    simp [loadWindow, hl, hk, ho]

/-! ### The end of a load -/

@[simp] theorem judgeShow_img (s : State) : (judgeShow s).img = s.img := by
  by_cases h : refuseShow s = 0
  · rw [judgeShow_scheduled h]
  · rw [judgeShow_refused h, setEvent_img]

theorem judgeShow_keeps_event {i : Nat} {s : State} (h : s.cb.event.getLsbD i = true) :
    (judgeShow s).cb.event.getLsbD i = true := by
  by_cases hr : refuseShow s = 0
  · rw [judgeShow_scheduled hr]
    exact h
  · rw [judgeShow_refused hr]
    simp [setEvent, h]

theorem endLoad_img (s : State) : (endLoad s).img = { s.img with load := none, stagedLen := 0 } := by
  unfold endLoad
  simp only
  split
  · rw [judgeShow_img]
  · rfl

theorem endLoad_keeps_event {i : Nat} {s : State} (h : s.cb.event.getLsbD i = true) :
    (endLoad s).cb.event.getLsbD i = true := by
  unfold endLoad
  simp only
  split
  · exact judgeShow_keeps_event h
  · exact h

theorem failLoad_img (x : Nat × Nat) (s : State) : (failLoad x s).img =
    { s.img with errCode := x.1, errSect := x.2, load := none, stagedLen := 0 } := by
  rw [failLoad, endLoad_img, setEvent_img]

theorem failLoad_event (x : Nat × Nat) (s : State) : (failLoad x s).cb.event.getLsbD evImageError = true :=
  endLoad_keeps_event (setEvent_event _ (by decide) _)

/-- A failed load, with the next boot copy where there is one. -/
def loadFailed (j : LoadJob) (x : Nat × Nat) (s : State) : State :=
  if j.src = 3 then nextCopy j.copy (failLoad x s) else failLoad x s

theorem nextCopy_img (n : Nat) (s : State) :
    (nextCopy n s).img = { s.img with kind := (nextCopy n s).img.kind, fetching := (nextCopy n s).img.fetching } := by
  unfold nextCopy
  split <;> rfl

theorem nextCopy_cb (n : Nat) (s : State) : (nextCopy n s).cb = s.cb := by
  unfold nextCopy
  split <;> rfl

theorem loadFailed_spec (j : LoadJob) (x : Nat × Nat) (s : State) :
    (loadFailed j x s).img.load = none ∧ (loadFailed j x s).img.stagedLen = 0 ∧ (loadFailed j x s).img.errCode = x.1 ∧
    (loadFailed j x s).img.active = s.img.active ∧ (loadFailed j x s).img.pending = s.img.pending ∧
    (loadFailed j x s).cb.event.getLsbD evImageError = true := by
  have hevent := failLoad_event x s
  unfold loadFailed
  split
  · rw [nextCopy_img, nextCopy_cb, failLoad_img]
    exact ⟨rfl, rfl, rfl, rfl, rfl, hevent⟩
  · rw [failLoad_img]
    exact ⟨rfl, rfl, rfl, rfl, rfl, hevent⟩

/-- Check 1 fails, at GO or at the end of the checks. -/
theorem judgeLoad_first {j : LoadJob} (s : State) (h : j.first ≠ 0) : judgeLoad j s = loadFailed j (j.first, 0) s := if_pos h

theorem judgeLoad_shut {j : LoadJob} {s : State} (h : j.first = 0) (hp : j.patch = false) (hr : rwsOpen s = false) :
    judgeLoad j s = loadFailed j (1, 0) s := by
  have hshut : (!j.patch && !rwsOpen s) = true := by rw [hp, hr]; rfl
  simp only [judgeLoad, h, hshut, ne_eq, not_true_eq_false, if_false, if_true, loadFailed]

/-- However a load ends, the loader is free. -/
theorem judgeLoad_ends (j : LoadJob) (s : State) : (judgeLoad j s).img.load = none ∧ (judgeLoad j s).img.stagedLen = 0 ∧
    ((judgeLoad j s).cb.event.getLsbD evImageDone = true ∨ (judgeLoad j s).cb.event.getLsbD evImageError = true) := by
  have hfail : ∀ x u, (loadFailed j x u).img.load = none ∧ (loadFailed j x u).img.stagedLen = 0 ∧
      ((loadFailed j x u).cb.event.getLsbD evImageDone = true ∨
        (loadFailed j x u).cb.event.getLsbD evImageError = true) := by
    intro x u
    obtain ⟨hload, hlen, -, -, -, hevent⟩ := loadFailed_spec j x u
    exact ⟨hload, hlen, Or.inr hevent⟩
  unfold judgeLoad
  simp only
  split
  · exact hfail _ _
  · split
    · exact hfail _ _
    · split
      · exact hfail _ _
      · split
        · exact hfail _ _
        · rw [endLoad_img]
          exact ⟨rfl, rfl, Or.inl (endLoad_keeps_event (setEvent_event _ (by decide) _))⟩

/-! ### Boot copies -/

/-- A fetched copy of at most 2 MiB is checked at once. -/
theorem fetchDone_loads {copy : Nat} {single : Bool} {bytes : List Byte} {s : State} (hload : s.img.load = none)
    (hf : s.img.fetching = some copy) (hn : (fetchLength bytes).getD 16 ≤ 2097152) :
    (fetchDone copy single bytes s).img.load = some
      { patch := false, bytes := bytes.take ((fetchLength bytes).getD 16), src := 3, copy := copy
        first := if rwsOpen s then 0 else 1 } ∧
    (fetchDone copy single bytes s).img.fetching = none ∧
    (fetchDone copy single bytes s).cb.bootSingle = (single || (fetchLength bytes).isNone) ∧
    (fetchDone copy single bytes s).cb.bootCopy = copy := by
  have hguard : ¬ (s.img.fetching ≠ some copy ∨ s.img.load.isSome = true) := by simp [hf, hload]
  rw [fetchDone, if_neg hguard]
  simp only [if_neg (Nat.not_lt.mpr hn)]
  exact ⟨rfl, rfl, rfl, rfl⟩

/-- A longer one fails, and the primary hands on to the secondary. -/
theorem fetchDone_fails {copy : Nat} {single : Bool} {bytes : List Byte} {s : State} (hload : s.img.load = none)
    (hf : s.img.fetching = some copy) (hn : 2097152 < (fetchLength bytes).getD 16) :
    (fetchDone copy single bytes s).img.load = none ∧ (fetchDone copy single bytes s).img.errCode = 5 ∧
    (fetchDone copy single bytes s).cb.event.getLsbD evImageError = true ∧
    (fetchDone copy single bytes s).img.fetching = (if copy = 1 then some 2 else none) := by
  have hguard : ¬ (s.img.fetching ≠ some copy ∨ s.img.load.isSome = true) := by simp [hf, hload]
  rw [fetchDone, if_neg hguard]
  simp only [if_pos hn]
  refine ⟨?_, ?_, ?_, ?_⟩
  · rw [nextCopy_img, failLoad_img]
  · rw [nextCopy_img, failLoad_img]
  · rw [nextCopy_cb]
    exact failLoad_event _ _
  · unfold nextCopy
    split
    · rfl
    · rw [failLoad_img]

/-! ### The statements -/

/-- Settles O25: the load window by the state of the loader, and GO, ABORT and CANCEL. -/
theorem loadWindowAndControl : Obligations.LoadWindowAndControl := by
  refine ⟨?window, ?control⟩
  case window =>
    intro t off p v s hs hp hbuf o
    obtain ⟨hfull, hpatch, hpool⟩ := hbuf
    have hexec : exec (.loadWindowWrite t p off v) s =
      act t s (onPath p (fun u => (loadWindow p (off % 0x100000 / 4 * 4) v u).2)) := rfl
    rw [hexec]
    refine ⟨fun hload hk => yields_act hs ?_, fun hload hk hoff => yields_act hs ?_, fun h => yields_act hs ?_⟩
    · obtain ⟨hin, hout⟩ := read_writeList_word hfull o v
      rw [onPath_of_ne hp, loadWindow_full (s := begin t s) hload hk]
      simp only [BuffersSound, settle_img, settle_wq]
      exact ⟨⟨Memory.writeList_wf _ _ _ hfull, hpatch, hpool⟩, hin, hout, rfl, _, rfl, rfl⟩
    · obtain ⟨hin, hout⟩ := read_writeList_word hpatch o v
      rw [onPath_of_ne hp, loadWindow_patch (s := begin t s) hload hk (by omega)]
      simp only [BuffersSound, settle_img, settle_wq]
      exact ⟨⟨hfull, Memory.writeList_wf _ _ _ hpatch, hpool⟩, hin, hout, rfl⟩
    · have h' : (begin t s).img.load ≠ none ∨ ((begin t s).img.kind = true ∧ 65536 ≤ off % 0x100000 / 4 * 4) :=
        h.imp_right fun ⟨hk, ho⟩ => ⟨hk, by omega⟩
      rw [onPath_of_ne hp, loadWindow_discards v h']
      exact ⟨leaves_violation _ _ _ _ _, settle_violation_event _ _ _ _ _, settle_cb_violKind _ _⟩
  case control =>
    intro t p s hs hp
    have hd := (awake_iff.mp hs).2
    have hgo : exec (.imageGo t p) s = act t s (onPath p (fun u => (imageGo p u).2)) := rfl
    have habort : exec (.imageAbort t p) s = act t s (onPath p imageAbort) := rfl
    have hcancel : exec (.patchCancel t p) s = act t s (onPath p cancelPatch) := rfl
    rw [hgo, habort, hcancel]
    refine ⟨fun hload => yields_act hs ?_, fun hload => yields_act hs ?_, fun hload => yields_act hs ?_,
      fun hload => yields_act hs ?_, fun hscene => yields_act hs ?_, fun hscene => yields_no_effect ?_ hd⟩
    · have hfree : ¬ (begin t s).img.load.isSome = true := by simp [hload]
      rw [onPath_of_ne hp, imageGo, if_neg hfree]
      exact ⟨by rw [settle_img]; rfl, by rw [settle_cb_bootCopy]; rfl, _, rfl, rfl⟩
    · have hbusy : (begin t s).img.load.isSome = true := Option.isSome_iff_ne_none.mpr hload
      rw [onPath_of_ne hp, imageGo, if_pos hbusy]
      exact ⟨leaves_violation _ _ _ _ _, settle_cb_violKind _ _, settle_violation_event _ _ _ _ _⟩
    · have hbusy : (begin t s).img.load.isSome = true := Option.isSome_iff_ne_none.mpr hload
      rw [onPath_of_ne hp, imageAbort, if_pos hbusy, settle_img, failLoad_img]
      exact ⟨rfl, rfl, rfl, settle_keeps_event (failLoad_event _ _), rfl⟩
    · have hfree : ¬ (begin t s).img.load.isSome = true := by simp [hload]
      rw [onPath_of_ne hp, imageAbort, if_neg hfree]
      exact ⟨by rw [settle_img], _, rfl, rfl⟩
    · have happly : ¬ (begin t s).img.sceneAt.any (fun x => coreCycle x == coreCycle (begin t s).now) = true :=
        Bool.not_eq_true _ ▸ hscene
      rw [onPath_of_ne hp, cancelPatch, if_neg happly]
      exact ⟨by rw [settle_img], by rw [settle_img], _, rfl, rfl⟩
    · rw [onPath_of_ne hp]
      exact if_pos hscene

/-- Settles O26: the checks end the load, check 1 is made at GO, and a boot copy is checked or fails. -/
theorem loaderEnds : Obligations.LoaderEnds := by
  intro t j s hs
  have hends : ∀ u : State, u.img.load = some j → endChecks u = judgeLoad j u := fun u h => by rw [endChecks, h]
  have hexec : exec (.imageChecksEnd t) s = act t s endChecks := rfl
  have hboot : ∀ copy single bytes, exec (.bootFetchDone t copy single bytes) s = act t s (fetchDone copy single bytes) :=
    fun _ _ _ => rfl
  rw [hexec]
  refine ⟨fun hj => yields_act hs ?_, fun hj hp hfirst hr => yields_act hs ?_, fun hj hfirst => yields_act hs ?_,
    fun h => ?_, fun h => ?_, rfl, fun copy single bytes hload hf hn => ?_, fun copy single bytes hload hf hn => ?_⟩
  · obtain ⟨hload, hlen, hevent⟩ := judgeLoad_ends j (begin t s)
    rw [hends (begin t s) hj, settle_img]
    exact ⟨hload, hlen, hevent.imp settle_keeps_event settle_keeps_event⟩
  · have hshut : judgeLoad j (begin t s) = loadFailed j (1, 0) (begin t s) := by
      by_cases h0 : j.first = 0
      · exact judgeLoad_shut h0 hp hr
      · rw [judgeLoad_first _ h0, show j.first = 1 by omega]
    obtain ⟨-, -, hcode, hactive, -, hevent⟩ := loadFailed_spec j (1, 0) (begin t s)
    rw [hends (begin t s) hj, hshut, settle_img]
    exact ⟨hcode, hactive, settle_keeps_event hevent⟩
  · obtain ⟨-, -, hcode, hactive, hpending, hevent⟩ := loadFailed_spec j (j.first, 0) (begin t s)
    rw [hends (begin t s) hj, judgeLoad_first _ hfirst, settle_img]
    exact ⟨hcode, hactive, hpending, settle_keeps_event hevent⟩
  · simp [firstCheck, Option.isSome_iff_ne_none, h]
  · simp [firstCheck, h]
  · rw [hboot]
    refine yields_act hs ?_
    obtain ⟨hl, hfe, hsingle, hcopy⟩ := fetchDone_loads (s := begin t s) (single := single) hload hf hn
    rw [settle_img, settle_cb_bootSingle, settle_cb_bootCopy]
    exact ⟨hl, hfe, hsingle, hcopy⟩
  · rw [hboot]
    refine yields_act hs ?_
    obtain ⟨hl, hcode, hevent, hfe⟩ := fetchDone_fails (s := begin t s) (single := single) hload hf hn
    rw [settle_img]
    exact ⟨hl, hcode, settle_keeps_event hevent, hfe⟩

end Sys2Proof.Machine
end

section
/-! R138 to R143: HOLD, the closing sequence of the emitter supply, and its readback. -/

namespace Sys2Proof.Machine

/-! ### A fault of the switches -/

/-- The state that a switch fault makes before the cues end. -/
def switchesOpened (s : State) : State := openSwitches { s with bat := { s.bat with swFault := true, due := [] } }

theorem switchFault_calm (s : State) : calm (switchFault s) = calm (switchesOpened s) := by
  rw [switchFault, cutCues_calm, setEvent_calm]
  rfl

/-- What a reading of the batten state that leaves the shots due aside finds after a switch fault. -/
theorem switchFault_bat {α : Type} (s : State) (f : Bat → α) (hf : ∀ b : Bat, f { b with due := [] } = f b) :
    f (switchFault s).bat = f (switchesOpened s).bat := by
  rw [← hf, calm_bat (switchFault_calm s), hf]

/-- Both switches are open, and SW_FAULT reads 1. -/
def SwitchFaulted (t : Nat) (s u : State) : Prop :=
  u.bat.swFault = true ∧ u.bat.lsCmd = false ∧ u.bat.hsCmd = false ∧ u.bat.emCmd = false ∧
    Leaves t s u (fun x => { calm x with bat := {} })

theorem settle_switchFault {t : Nat} {s v : State} (h : { calm v with bat := {} } = { calm (begin t s) with bat := {} }) :
    SwitchFaulted t s (settle s (switchFault v)) := by
  refine ⟨?_, ?_, ?_, ?_, _, rfl, ?_⟩
  · rw [settle_bat, switchFault_bat v Bat.swFault fun _ => rfl]; rfl
  · rw [settle_bat, switchFault_bat v Bat.lsCmd fun _ => rfl]; rfl
  · rw [settle_bat, switchFault_bat v Bat.hsCmd fun _ => rfl]; rfl
  · rw [settle_bat, switchFault_bat v Bat.emCmd fun _ => rfl]; rfl
  · exact (congrArg (fun x : State => { x with bat := {}, recent := {} }) (switchFault_calm v)).trans
      (congrArg (fun x : State => { x with recent := {} }) h)

/-- The closing sequence is over, and a disagreement that had not begun has not begun. -/
theorem switchFault_closing (s : State) : (switchFault s).bat.closing = none := by
  rw [switchFault_bat s Bat.closing fun _ => rfl]
  rfl

theorem switchFault_disagree {s : State} (h : s.bat.disagree = none) : (switchFault s).bat.disagree = none := by
  rw [switchFault_bat s Bat.disagree fun _ => rfl]
  have hd : (switchesOpened s).bat.disagree = if s.bat.lsCmd || s.bat.hsCmd then none else s.bat.disagree := rfl
  rw [hd, h, ite_self]

/-! ### The steps of the closing sequence -/

theorem closeSteps_none {s : State} (x : Nat) (h : s.bat.closing = none) : closeSteps x s = s := by
  have hhigh : closeHigh x s = s := by rw [closeHigh, h]
  rw [closeSteps, hhigh, closeTop, h]

theorem closeSteps_early {s : State} {k : Closing} {x : Nat} (h : s.bat.closing = some k) (hs : s.bat.hsCmd = false)
    (hx : x < k.since + 100 * usTicks) : closeSteps x s = s := by
  have hhigh : closeHigh x s = s := by simp [closeHigh, h, hx]
  rw [closeSteps, hhigh, closeTop, h]
  simp [hs]

theorem closeHigh_faults {s : State} {k : Closing} {x : Nat} (h : s.bat.closing = some k) (hs : s.bat.hsCmd = false)
    (hx : k.since + 100 * usTicks ≤ x) (hlow : (below25 k.low31 && below25 k.low30) = false) :
    closeHigh x s = switchFault s := by
  have hx' : ¬ x < k.since + 100 * usTicks := Nat.not_lt.mpr hx
  simp only [closeHigh, h, hs, hx', hlow, decide_false, Bool.or_false, Bool.false_eq_true, if_false]

theorem closeHigh_closes {s : State} {k : Closing} {x : Nat} (h : s.bat.closing = some k) (hs : s.bat.hsCmd = false)
    (hx : k.since + 100 * usTicks ≤ x) (hlow : (below25 k.low31 && below25 k.low30) = true) :
    closeHigh x s = { s with bat := { s.bat with hsCmd := true, cmdAt := k.since + 100 * usTicks } } := by
  have hx' : ¬ x < k.since + 100 * usTicks := Nat.not_lt.mpr hx
  simp only [closeHigh, h, hs, hx', hlow, decide_false, Bool.or_false, Bool.false_eq_true, if_false, if_true]

theorem closeTop_early {s : State} {k : Closing} {x : Nat} (h : s.bat.closing = some k)
    (hx : x < k.since + 200 * usTicks) : closeTop x s = s := by simp [closeTop, h, hx]

theorem closeTop_passes {s : State} {k : Closing} {x : Nat} (h : s.bat.closing = some k) (hs : s.bat.hsCmd = true)
    (hx : k.since + 200 * usTicks ≤ x) (htop : above75 k.top30 = true) :
    closeTop x s = { s with bat := { s.bat with closed := true, closing := none } } := by
  have hx' : ¬ x < k.since + 200 * usTicks := Nat.not_lt.mpr hx
  simp only [closeTop, h, hs, hx', htop, decide_false, Bool.not_true, Bool.or_false, Bool.false_eq_true, if_false, if_true]

theorem closeTop_faults {s : State} {k : Closing} {x : Nat} (h : s.bat.closing = some k) (hs : s.bat.hsCmd = true)
    (hx : k.since + 200 * usTicks ≤ x) (htop : above75 k.top30 = false) : closeTop x s = switchFault s := by
  have hx' : ¬ x < k.since + 200 * usTicks := Nat.not_lt.mpr hx
  simp only [closeTop, h, hs, hx', htop, decide_false, Bool.not_true, Bool.or_false, Bool.false_eq_true, if_false]

/-- SWITCH_FAULT: the steps that have come, and then a disagreement that has lasted. -/
def switchStep (s : State) : State :=
  if disagreeDue (closeSteps s.now s) then switchFault (closeSteps s.now s) else closeSteps s.now s

theorem switchStep_of_agree {s : State} (h : (closeSteps s.now s).bat.disagree = none) :
    switchStep s = closeSteps s.now s := by
  refine if_neg ?_
  rw [disagreeDue, h]
  exact Bool.false_ne_true

theorem closeReady_off {s : State} (h : closeReady s = true) : s.bat.hsCmd = false ∧ live s = true := by
  simp only [closeReady, Bool.and_eq_true, Bool.not_eq_true'] at h
  obtain ⟨⟨⟨⟨⟨⟨⟨⟨hshow, -⟩, -⟩, -⟩, -⟩, -⟩, -⟩, hhs⟩, -⟩ := h
  exact ⟨hhs, live_of_inShow hshow⟩

/-! ### The statement -/

/-- SWITCH_FAULT while the closing sequence runs, by the step that has come. -/
theorem emitterSupply_steps {t : Nat} {s : State} (hs : awake t s = true) {k : Closing} (hk : s.bat.closing = some k)
    (hhs : s.bat.hsCmd = false) (hdis : s.bat.disagree = none) (hx : k.since + 100 * usTicks ≤ max s.now t) :
    ((below25 k.low31 && below25 k.low30) = false →
      Yields (exec (.switchFault t) s) (SwitchFaulted t s)) ∧
    ((below25 k.low31 && below25 k.low30) = true →
      (max s.now t < k.since + 200 * usTicks → Yields (exec (.switchFault t) s) (fun u => u.bat.hsCmd = true ∧
        u.bat.lsCmd = s.bat.lsCmd ∧ u.bat.emCmd = s.bat.emCmd ∧ u.bat.closing = some k ∧
        Leaves t s u (fun x => { x with bat := {} }))) ∧
      (k.since + 200 * usTicks ≤ max s.now t → above75 k.top30 = true →
        Yields (exec (.switchFault t) s) (fun u => u.bat.hsCmd = true ∧ u.bat.lsCmd = s.bat.lsCmd ∧
          u.bat.emCmd = s.bat.emCmd ∧ u.bat.closed = true ∧ u.bat.closing = none ∧
          Leaves t s u (fun x => { x with bat := {} }))) ∧
      (k.since + 200 * usTicks ≤ max s.now t → above75 k.top30 = false →
        Yields (exec (.switchFault t) s) (SwitchFaulted t s))) := by
  have hexec : exec (.switchFault t) s = act t s switchStep := rfl
  rw [hexec]
  have hk' : (begin t s).bat.closing = some k := hk
  have hhs' : (begin t s).bat.hsCmd = false := hhs
  refine ⟨fun hlow => yields_act hs ?_, fun hlow => ⟨fun h200 => yields_act hs ?_, fun h200 htop => yields_act hs ?_,
    fun h200 htop => yields_act hs ?_⟩⟩
  · have hsteps : closeSteps (begin t s).now (begin t s) = switchFault (begin t s) := by
      rw [closeSteps, closeHigh_faults (x := (begin t s).now) hk' hhs' hx hlow, closeTop, switchFault_closing]
    rw [switchStep_of_agree (by rw [hsteps]; exact switchFault_disagree hdis), hsteps]
    exact settle_switchFault rfl
  all_goals
    have hhigh := closeHigh_closes (x := (begin t s).now) hk' hhs' hx hlow
    generalize hw : ({ begin t s with bat := { (begin t s).bat with
      hsCmd := true, cmdAt := k.since + 100 * usTicks } } : State) = w at hhigh
    have hwk : w.bat.closing = some k := by rw [← hw]; exact hk
    have hwhs : w.bat.hsCmd = true := by rw [← hw]
    have hwdis : w.bat.disagree = none := by rw [← hw]; exact hdis
    have hwls : w.bat.lsCmd = s.bat.lsCmd ∧ w.bat.emCmd = s.bat.emCmd := by rw [← hw]; exact ⟨rfl, rfl⟩
    have hframe : { w with bat := {}, recent := {} } = { begin t s with bat := {}, recent := {} } := by rw [← hw]
  · have hsteps : closeSteps (begin t s).now (begin t s) = w := by
      rw [closeSteps, hhigh, closeTop_early (x := (begin t s).now) hwk h200]
    rw [switchStep_of_agree (by rw [hsteps]; exact hwdis), hsteps, settle_bat]
    exact ⟨hwhs, hwls.1, hwls.2, hwk, _, rfl, hframe⟩
  · have hsteps : closeSteps (begin t s).now (begin t s) = { w with bat := { w.bat with closed := true, closing := none } } := by
      rw [closeSteps, hhigh, closeTop_passes (x := (begin t s).now) hwk hwhs h200 htop]
    rw [switchStep_of_agree (by rw [hsteps]; exact hwdis), hsteps, settle_bat]
    exact ⟨hwhs, hwls.1, hwls.2, rfl, rfl, _, rfl, hframe⟩
  · have hsteps : closeSteps (begin t s).now (begin t s) = switchFault w := by
      rw [closeSteps, hhigh, closeTop_faults (x := (begin t s).now) hwk hwhs h200 htop]
    rw [switchStep_of_agree (by rw [hsteps]; exact switchFault_disagree hwdis), hsteps]
    refine settle_switchFault ?_
    rw [← hw]
    rfl

/-- A readback sample. -/
theorem emitterSupply_sample {t : Nat} {s : State} (hs : awake t s = true) (a b : Nat) :
    (∀ k, s.bat.closing = some k → s.bat.hsCmd = false → s.bat.disagree = none → max s.now t < k.since + 100 * usTicks →
      Yields (exec (.emitterReadbackSample t a b) s) (fun u =>
        u.bat.hsRb = above75 a ∧ u.bat.lsRb = below25 b ∧
        u.bat.closing = some { k with low30 := a, low31 := b } ∧ Leaves t s u (fun x => { x with bat := {} }))) ∧
    (s.bat.closing = none → Yields (exec (.emitterReadbackSample t a b) s) (fun u =>
      u.bat.hsRb = above75 a ∧ u.bat.lsRb = below25 b ∧
      (readbackAgrees s a b = true → u.bat.disagree = none) ∧
      Leaves t s u (fun x => { x with bat := { x.bat with hsRb := false, lsRb := false, disagree := none } }))) := by
  have hexec : exec (.emitterReadbackSample t a b) s = act t s (readbackSample a b) := rfl
  rw [hexec]
  refine ⟨fun k hk hhs hdis hx => yields_act hs ?_, fun hk => yields_act hs ?_⟩
  · have hk' : (begin t s).bat.closing = some k := hk
    have htake : (takeReadback a b (begin t s)).bat.closing = some { k with low30 := a, low31 := b } := by
      simp [takeReadback, hk, hhs, Closing.sample]
    have hsample : readbackSample a b (begin t s) = takeReadback a b (begin t s) := by
      have hx' : (begin t s).now - 1 < k.since + 100 * usTicks := lt_of_le_of_lt (Nat.sub_le _ _) hx
      rw [readbackSample, closeSteps_early hk' hhs hx']
      exact closeSteps_early htake hhs hx
    rw [hsample, settle_bat]
    exact ⟨rfl, rfl, htake, _, rfl, rfl⟩
  · have hk' : (begin t s).bat.closing = none := hk
    have htake : (takeReadback a b (begin t s)).bat.closing = none := by simp [takeReadback, hk]
    have hsample : readbackSample a b (begin t s) = takeReadback a b (begin t s) := by
      rw [readbackSample, closeSteps_none _ hk', closeSteps_none _ htake]
    rw [hsample, settle_bat]
    refine ⟨rfl, rfl, fun hagree => ?_, _, rfl, ?_⟩
    · have hagree' : readbackAgrees (begin t s) a b = true := hagree
      simp [takeReadback, hagree']
    · simp [takeReadback, hk]

/-- Settles O27: by the command, and by the step of the closing sequence that has come. -/
theorem emitterSupply : Obligations.EmitterSupply := by
  intro t s hs
  have hd := (awake_iff.mp hs).2
  have hhold : exec (.holdExpiry t) s =
    act t s (fun u => if holdDue u then { u with bat := { u.bat with hold := false } } else u) := rfl
  have hclose : ∀ a b c d e, exec (.emitterCloseStart t a b c d e) s = act t s (fun u => if closeReady u then
    closeStart a b { since := u.now, low30 := c, low31 := d, top30 := e } u else u) := fun _ _ _ _ _ => rfl
  have hfault : exec (.switchFault t) s = act t s switchStep := rfl
  refine ⟨fun hset hlate => ?hold, fun a b c d e hr hab => ?start, fun a b c d e hr hab => ?fails, fun a b c d e hr => ?none,
    fun k hk hhs hdis => ⟨fun a b hx => (emitterSupply_sample hs a b).1 k hk hhs hdis hx,
      fun hx hlow => (emitterSupply_steps hs hk hhs hdis hx).1 hlow,
      fun hlow hx => (emitterSupply_steps hs hk hhs hdis hx).2 hlow⟩,
    fun hk a b => (emitterSupply_sample hs a b).2 hk, fun x hk hdis hx hcmd => ?lasting⟩
  case hold =>
    have hdue : holdDue (begin t s) = true := by
      rw [holdDue, begin_bat, hset, decide_eq_true (show s.bat.holdSince + secTicks ≤ (begin t s).now from hlate)]
      rfl
    rw [hhold]
    refine yields_act hs ?_
    rw [if_pos hdue, settle_bat]
    exact ⟨rfl, _, rfl, rfl⟩
  case start =>
    have hr' : closeReady (begin t s) = true := hr
    obtain ⟨hhs, -⟩ := closeReady_off hr
    rw [hclose]
    refine yields_act hs ?_
    rw [if_pos hr', closeStart, if_pos hab, settle_bat]
    exact ⟨rfl, hhs, rfl, rfl, _, rfl, rfl⟩
  case fails =>
    have hr' : closeReady (begin t s) = true := hr
    have hab' : ¬ (below25 a && above75 b) = true := Bool.not_eq_true _ ▸ hab
    rw [hclose]
    refine yields_act hs ?_
    rw [if_pos hr', closeStart, if_neg hab']
    exact settle_switchFault rfl
  case none =>
    have hr' : ¬ closeReady (begin t s) = true := Bool.not_eq_true _ ▸ hr
    rw [hclose]
    exact yields_no_effect (if_neg hr') hd
  case lasting =>
    have hk' : (begin t s).bat.closing = none := hk
    have hdue : disagreeDue (begin t s) = true := by
      rw [disagreeDue, begin_bat, hdis, Option.any_some, decide_eq_true (show x + 100 * usTicks < (begin t s).now from hx),
        decide_eq_true (show s.bat.cmdAt + 100 * usTicks < (begin t s).now from hcmd)]
      rfl
    rw [hfault]
    refine yields_act hs ?_
    rw [switchStep, closeSteps_none _ hk', if_pos hdue]
    exact settle_switchFault rfl

end Sys2Proof.Machine
end

section
/-! O28: a table with two entries under one batten. -/

namespace Sys2Proof.Machine

/-! ### A small image for counterexamples -/

/-- An image with nothing but one batten of its own node. -/
def bareImage : Image :=
  { format := 2, serial := 0, workSize := 0, toolVer := 0, nodes := [{ kind := 3, index := 0, first := 0 }]
    members := [], channels := [], battens := [], gov := [], profiles := [], fsets := []
    rej := { ambWeight := 0, nfRange := 0, nfDepth := 0, nfTol := 0, codeEn := false, ftaTrains := 0, ftaGate := 0
             ftaMin := 0, ftaResid := 0, ftaBlank := 0, codeSeed := 1, slotPhase := 0 }
    scene := { profiles := [], steps := [] }, templates := [], triggers := { patterns := [], masks := [] }
    queues := [], lanes := [], hk := defaultHk
    safety := { devId := 1, peerId := 0, timeExp := 0, tpInterval := 0, restart := 0, xchkN := 0, xtol := 0
                sin := [], refs := [], spikes := [], fields := [], crc := 0 } }

/-- A housekeeping cue whose one player is that batten. -/
def bareCue : CueRec :=
  { kind := 4, cls := 2, node := 0, profile := 0, flags := 0, points := 1, queue := 0, hqueue := 0xFFFF, start := 0
    period := 0, count := 1, bound := 0, trig := 0, rerun := 0, tag := 0, runtime := 0 }

/-! ### The refutation -/

/-- A shot of that cue. -/
def bareShot : Place :=
  { batten := 0, handle := 4096, cls := 2, kind := 4, occ := 0, point := 0, act := 0, idx := 0, reserve := false }

/-- Show, with the cue admitted and its shot due. Batten 0 has a second entry in its table, in which a fault waits: a
read of the table finds the first entry, but the fault takes effect all the same. -/
def hiddenFault : State :=
  { pwr := { mode := .show }
    img := { active := some bareImage }
    bat := { ch := [(0, {}), (0, { faultWait := true })], due := [(bareShot, 0)] }
    sm := { cues := [(0, { gen := 1, state := 2, cue := bareCue, source := .template, players := [0] })] } }

/-- No batten that the table shows has a fault that waits. -/
theorem hiddenFault_shows_none {b : Nat} {v : Batten} (h : hiddenFault.bat.ch.find b = some v) : v.faultWait = false := by
  have htab : hiddenFault.bat.ch = [(0, {}), (0, { faultWait := true })] := rfl
  rw [htab, Tab.find] at h
  split at h
  · cases h; rfl
  · rw [Tab.find] at h
    split at h
    · exact absurd ‹0 = b› ‹¬ 0 = b›
    · cases h

/-- The slot boundary ends the cue, whose shot is then kept under handle 0. -/
theorem hiddenFault_due : (slotBoundary (begin 0 hiddenFault)).bat.due = [({ bareShot with handle := 0 }, 0)] := by
  decide +kernel

/-- Refutes O28: in a table with two entries under one batten the fault that waits in the second takes effect although
no batten that the table shows has one; the boundary then changes a shot that was due. -/
theorem not_slotsAndShots : ¬ Obligations.SlotsAndShots := by
  intro h
  have hexec : exec (.slotBoundary 0) hiddenFault = .next (settle hiddenFault (slotBoundary (begin 0 hiddenFault))) := by
    have hdue : slotDue (begin 0 hiddenFault) = true := by decide +kernel
    have hact : exec (.slotBoundary 0) hiddenFault =
      act 0 hiddenFault (fun u => if slotDue u then slotBoundary u else u) := rfl
    rw [hact, act_live (by decide +kernel) (resetDue_of_none rfl), if_pos hdue]
  have hbad := h.1 0 hiddenFault (resetDue_of_none rfl) (by decide +kernel)
  rw [hexec, yields_next_iff] at hbad
  obtain ⟨-, -, -, -, -, -, hissued, -⟩ := hbad
  have hdue := hissued rfl fun b v hv => hiddenFault_shows_none hv
  rw [settle_bat, hiddenFault_due] at hdue
  have hkept : hiddenFault.bat.due ++ descriptor (stepCode (begin 0 hiddenFault)) hiddenFault.bat.slot =
      [(bareShot, 0)] := by decide +kernel
  rw [hkept] at hdue
  exact absurd hdue (by decide)

end Sys2Proof.Machine
end

section
/-! The cue bookkeeping as one relation: what it keeps, and what it never undoes. -/

namespace Sys2Proof.Machine

/-- The stage manager's state but for the cues, the calendar, the conditions and the counters that the cue bookkeeping
moves. -/
def desk (s : State) : Stage :=
  { s.sm with cues := [], books := [], slots := [], conds := [], cntLate := 0, cntRefused := 0 }

/-- `u` comes of `s` by cue bookkeeping: the frame is kept, no event is cleared, and no shot becomes due. -/
structure Tidy (s u : State) : Prop where
  calm : calm u = calm s
  desk : desk u = desk s
  events : ∀ i, s.cb.event.getLsbD i = true → u.cb.event.getLsbD i = true
  due : s.bat.due = [] → u.bat.due = []

namespace Tidy

theorem refl (s : State) : Tidy s s := ⟨rfl, rfl, fun _ h => h, fun h => h⟩

theorem trans {a b c : State} (hab : Tidy a b) (hbc : Tidy b c) : Tidy a c :=
  ⟨hbc.calm.trans hab.calm, hbc.desk.trans hab.desk, fun i h => hbc.events i (hab.events i h),
    fun h => hbc.due (hab.due h)⟩

theorem foldl {α : Type} (g : State → α → State) (h : ∀ u a, Tidy u (g u a)) (l : List α) (s : State) :
    Tidy s (l.foldl g s) := by
  induction l generalizing s with
  | nil => exact refl s
  | cons a r ih => exact (h s a).trans (ih (g s a))

end Tidy

/-! ### Updates of single groups -/

theorem setEvent_tidy (i : Nat) (s : State) : Tidy s (setEvent i s) :=
  ⟨rfl, rfl, fun j h => by simp [setEvent, h], fun h => h⟩

theorem eventIf_tidy (b : Bool) (i : Nat) (s : State) : Tidy s (eventIf b i s) := by
  cases b
  · exact Tidy.refl s
  · exact setEvent_tidy i s

theorem tookFree_tidy (s : State) : Tidy s (tookFree s) := ⟨rfl, rfl, fun _ h => h, fun h => h⟩
theorem setLane_tidy (l : Nat) (v : Lane) (s : State) : Tidy s (setLane l v s) := ⟨rfl, rfl, fun _ h => h, fun h => h⟩
theorem updLane_tidy (l : Nat) (f : Lane → Lane) (s : State) : Tidy s (updLane l f s) := setLane_tidy _ _ _
theorem pumpLane_tidy (l : Nat) (s : State) : Tidy s (pumpLane l s) := ⟨rfl, rfl, fun _ h => h, fun h => h⟩
theorem setQueue_tidy (q : Nat) (v : Queue) (s : State) : Tidy s (setQueue q v s) := ⟨rfl, rfl, fun _ h => h, fun h => h⟩
theorem freeCells_tidy (cs : List Nat) (s : State) : Tidy s (freeCells cs s) := ⟨rfl, rfl, fun _ h => h, fun h => h⟩

theorem countLost_tidy (q : Nat) (s : State) : Tidy s (countLost q s) :=
  ⟨rfl, rfl, fun j h => by simp [countLost, setEvent, h], fun h => h⟩

theorem releaseItems_tidy (q : Nat) (g : List Item) (s : State) : Tidy s (releaseItems q g s) :=
  ⟨rfl, rfl, fun _ h => h, fun h => h⟩

theorem autoRelease_tidy (q : Nat) (s : State) : Tidy s (autoRelease q s) := releaseItems_tidy q _ s

theorem updCue_tidy (h : Nat) (f : CueEntry → CueEntry) (s : State) : Tidy s (updCue h f s) := by
  unfold updCue
  split
  · exact ⟨rfl, rfl, fun _ h => h, fun h => h⟩
  · exact Tidy.refl s

theorem releaseCue_tidy (h : Nat) (s : State) : Tidy s (releaseCue h s) :=
  ⟨rfl, rfl, fun _ h => h, fun hd => by simp [releaseCue, hd]⟩

theorem keepIssued_tidy (h : Nat) (s : State) : Tidy s (keepIssued h s) :=
  ⟨rfl, rfl, fun _ h => h, fun hd => by simp [keepIssued, hd]⟩

theorem discardUnfired_tidy (h : Nat) (s : State) : Tidy s (discardUnfired h s) := ⟨rfl, rfl, fun _ h => h, fun h => h⟩
theorem noteWorst_tidy (s : State) : Tidy s (noteWorst s) := ⟨rfl, rfl, fun _ h => h, fun h => h⟩
theorem notePoints_tidy (k : Nat) (s : State) : Tidy s (notePoints k s) := ⟨rfl, rfl, fun _ h => h, fun h => h⟩

/-! ### Messages -/

theorem sendMsg_tidy (l vc ty : Nat) (bs : List Byte) (s : State) : Tidy s (sendMsg l vc ty bs s) := by
  unfold sendMsg
  split
  · exact (updLane_tidy _ _ s).trans (pumpLane_tidy _ _)
  · exact Tidy.refl s

theorem sendHouse_tidy (vc ty : Nat) (bs : List Byte) (s : State) : Tidy s (sendHouse vc ty bs s) := by
  unfold sendHouse
  split
  · exact sendMsg_tidy _ _ _ _ s
  · exact Tidy.refl s

/-! ### Items -/

theorem takeCell_tidy (q quota own : Nat) (ready : List Nat) (s : State) : Tidy s (takeCell q quota own ready s).2 := by
  unfold takeCell
  extract_lets room gone u take
  have hu : Tidy s u := by
    simp only [u]
    clear_value gone
    cases gone with
    | none => exact Tidy.refl s
    | some it => exact ((setQueue_tidy _ _ s).trans (freeCells_tidy _ _)).trans (countLost_tidy _ _)
  have htake : ∀ c, Tidy u (take c u) := fun c => ⟨rfl, rfl, fun _ h => h, fun h => h⟩
  split
  · split
    · exact hu.trans (htake _)
    · exact (hu.trans (htake _)).trans (tookFree_tidy _)
  · exact hu

theorem takeItemCells_tidy (q quota n : Nat) (ready got : List Nat) (s : State) :
    Tidy s (takeItemCells q quota n ready got s).2 := by
  induction n generalizing ready got s with
  | zero => exact Tidy.refl s
  | succ n ih =>
    have h := takeCell_tidy q quota got.length ready s
    unfold takeItemCells
    split
    · rename_i c u e
      rw [e] at h
      exact h.trans (ih _ _ u)
    · rename_i u e
      rw [e] at h
      exact h.trans (freeCells_tidy _ _)

theorem commitFrom_tidy (q k : Nat) (bs : List Byte) (got : List Nat) (s : State) : Tidy s (commitFrom q k bs got s).2 := by
  unfold commitFrom
  split
  · exact freeCells_tidy _ _
  · rename_i r _
    extract_lets n
    have h := (freeCells_tidy (got.drop n) s).trans
      (takeItemCells_tidy q r.quota (min n r.maxItem - got.length) [] (got.take n) (freeCells (got.drop n) s))
    split
    · rename_i u e
      rw [e] at h
      exact h.trans (countLost_tidy _ _)
    · rename_i cells u e
      rw [e] at h
      extract_lets v it w src x
      have hx : Tidy s x := h.trans ⟨rfl, rfl, fun _ h => h, fun h => h⟩
      split
      · exact (h.trans (freeCells_tidy _ _)).trans (countLost_tidy _ _)
      · split
        · exact hx.trans (setEvent_tidy _ _)
        · split
          · exact (hx.trans (setQueue_tidy _ _ _)).trans (autoRelease_tidy _ _)
          · exact hx

theorem commitDevice_tidy (q : Option Nat) (k : Nat) (bs : List Byte) (s : State) : Tidy s (commitDevice q k bs s) := by
  unfold commitDevice
  split
  · exact commitFrom_tidy _ _ _ _ s
  · exact ⟨rfl, rfl, fun _ h => h, fun h => h⟩

/-! ### The end of a cue -/

theorem abortGuest_tidy (l k : Nat) (s : State) : Tidy s (abortGuest l k s) := by
  unfold abortGuest
  split
  · exact (sendMsg_tidy _ _ _ _ s).trans (updLane_tidy _ _ _)
  · exact Tidy.refl s

theorem abortGuests_tidy (gs : List GuestPart) (s : State) : Tidy s (abortGuests gs s) := by
  refine Tidy.foldl _ (fun u g => ?_) gs s
  split
  · exact abortGuest_tidy _ _ _
  · exact Tidy.refl u

theorem completeCue_tidy (h : Nat) (s : State) : Tidy s (completeCue h s) := by
  unfold completeCue
  split
  · exact Tidy.refl s
  · split
    · exact Tidy.refl s
    · extract_lets e bytes u v
      have hu : Tidy s u := commitDevice_tidy _ _ _ s
      have hv : Tidy s v := by
        simp only [v]
        split
        · exact hu.trans (sendHouse_tidy _ _ _ _)
        · exact hu.trans (sendHouse_tidy _ _ _ _)
        · exact hu
      exact (hv.trans (updCue_tidy _ _ _)).trans (releaseCue_tidy _ _)

theorem endCue_tidy (h a b c : Nat) (s : State) : Tidy s (endCue h a b c s) := by
  unfold endCue
  split
  · exact Tidy.refl s
  · split
    · split
      · exact Tidy.refl s
      · exact (updCue_tidy _ _ s).trans (abortGuests_tidy _ _)
    · extract_lets u v
      have hu : Tidy s u := (((abortGuests_tidy _ s).trans (keepIssued_tidy _ _)).trans (releaseCue_tidy _ _)).trans
        (discardUnfired_tidy _ _)
      have hv : Tidy s v := hu.trans (updCue_tidy _ _ _)
      split
      · exact hv
      · exact hv.trans (completeCue_tidy _ _)

theorem endCues_tidy (p : CueEntry → Bool) (a b c : Nat) (s : State) : Tidy s (endCues p a b c s) := by
  refine Tidy.foldl _ (fun u h => ?_) _ s
  split
  · split
    · exact endCue_tidy _ _ _ _ u
    · exact Tidy.refl u
  · exact Tidy.refl u

theorem cutCues_tidy (f : Nat) (s : State) : Tidy s (cutCues f s) := endCues_tidy _ _ _ _ s
theorem failBatten_tidy (b : Nat) (s : State) : Tidy s (failBatten b s) := endCues_tidy _ _ _ _ s

theorem cueProgress_tidy (h : Nat) (s : State) : Tidy s (cueProgress h s) := by
  unfold cueProgress
  split
  · exact Tidy.refl s
  · split
    · split
      · exact Tidy.refl s
      · exact completeCue_tidy _ s
    · split
      · exact completeCue_tidy _ s
      · exact Tidy.refl s

/-! ### Promise conditions -/

theorem lateItem_tidy (code : Nat) (it : Item) (s : State) : Tidy s (lateItem code it s) := by
  unfold lateItem
  split
  · exact Tidy.refl s
  · extract_lets w was bits src1 src2 u
    have hu : Tidy s u := ⟨rfl, rfl, fun _ h => h, fun h => h⟩
    split
    · exact hu
    · exact hu.trans (updCue_tidy _ _ _)

theorem noteQueued_tidy (k : Nat) (s : State) : Tidy s (noteQueued k s) :=
  Tidy.foldl _ (fun u _ => Tidy.foldl _ (fun v it => lateItem_tidy _ it v) _ u) _ s

theorem setCond_tidy (c u : Nat) (b : Bool) (s : State) : Tidy s (setCond c u b s) := by
  unfold setCond
  extract_lets v put k
  have hput : ∀ w x, Tidy x (put w x) := fun w x => ⟨rfl, rfl, fun _ h => h, fun h => h⟩
  split
  · split
    · exact hput _ s
    · exact ((((hput _ s).trans (setEvent_tidy _ _)).trans (notePoints_tidy _ _)).trans (noteQueued_tidy _ _)).trans
        (noteWorst_tidy _)
  · split
    · exact hput _ s
    · exact Tidy.refl s

theorem refreshConds_tidy (s : State) : Tidy s (refreshConds s) :=
  (setCond_tidy _ _ _ s).trans (Tidy.foldl _ (fun u _ => setCond_tidy _ _ _ u) _ _)

/-! ### Housekeeping cues -/

theorem hkUpd_tidy (h n : Nat) (f : HkSum → HkSum) (s : State) : Tidy s (hkUpd h n f s) := updCue_tidy _ _ s

theorem hkCommit_tidy (h n kind : Nat) (s : State) : Tidy s (hkCommit h n kind s) := by
  unfold hkCommit
  split
  · exact Tidy.refl s
  · exact (((tookFree_tidy s).trans (commitFrom_tidy _ _ _ _ _)).trans (updCue_tidy _ _ _)).trans (cueProgress_tidy _ _)

theorem hkIfFull_tidy (h n kind : Nat) (s : State) : Tidy s (hkIfFull h n kind s) := by
  unfold hkIfFull
  split
  · exact Tidy.refl s
  · split
    · exact hkCommit_tidy _ _ _ s
    · exact Tidy.refl s

theorem hkPulse_tidy (f : Fired) (p i : Nat) (s : State) : Tidy s (hkPulse f p i s) := by
  unfold hkPulse
  split
  · exact Tidy.refl s
  · split
    · exact Tidy.refl s
    · exact (hkUpd_tidy _ _ _ s).trans (hkIfFull_tidy _ _ _ _)

end Sys2Proof.Machine
end

section
/-! R129 to R136: current sense, off-time samples, the governor and its buckets. -/

namespace Sys2Proof.Machine

/-! ### Battens -/

@[simp] theorem getBatten_setBatten_same (b : Nat) (v : Batten) (s : State) : getBatten (setBatten b v s) b = v :=
  Tab.get_set_same _ _ _ _

theorem getBatten_setBatten_other {b c : Nat} (h : c ≠ b) (v : Batten) (s : State) :
    getBatten (setBatten b v s) c = getBatten s c := Tab.get_set_other _ _ _ h

@[simp] theorem getBatten_settle (b0 s : State) (b : Nat) : getBatten (settle b0 s) b = getBatten s b := by simp [getBatten]

/-- Cue bookkeeping leaves what does not read the shots due, the battens among it. -/
theorem bat_of_calm {α : Type} {u s : State} (h : calm u = calm s) (f : Bat → α)
    (hf : ∀ x : Bat, f { x with due := [] } = f x) : f u.bat = f s.bat := by
  rw [← hf u.bat, calm_bat h, hf]

theorem getBatten_of_calm {u s : State} (h : calm u = calm s) (b : Nat) : getBatten u b = getBatten s b :=
  bat_of_calm h (fun x => x.ch.get {} b) fun _ => rfl

@[simp] theorem getBatten_battenFault_same (b : Nat) (f : Batten → Batten) (s : State) :
    getBatten (battenFault b f s) b = { f (getBatten s b) with faultWait := true } := getBatten_setBatten_same _ _ _

/-- Everything but the battens and the call board. -/
def battenFrame (s : State) : State := { s with bat := { s.bat with ch := [] }, cb := {}, recent := {} }

@[simp] theorem battenFrame_setBatten (b : Nat) (v : Batten) (s : State) : battenFrame (setBatten b v s) = battenFrame s := rfl
@[simp] theorem battenFrame_battenFault (b : Nat) (f : Batten → Batten) (s : State) :
    battenFrame (battenFault b f s) = battenFrame s := rfl

theorem eq_of_battenFrame {α : Type} {u s : State} (h : battenFrame u = battenFrame s) (f : State → α)
    (hf : ∀ x, f (battenFrame x) = f x) : f u = f s := by
  rw [← hf u, h, hf]

/-! ### The readings of a pulse -/

/-- The batten as a pulse's peak leaves it, before its faults. -/
def pulseRead (peak thr : Nat) (v : Batten) : Batten :=
  { v with peak := min peak 255, lowRun := if peak < thr then v.lowRun + 1 else 0 }

/-- The state after the open test. -/
def openTested (b peak : Nat) (s : State) : State :=
  if openN s ≤ (pulseRead peak (openThr s) (getBatten s b)).lowRun && !(pulseRead peak (openThr s) (getBatten s b)).opened then
    battenFault b (fun x => { x with opened := true }) (setBatten b (pulseRead peak (openThr s) (getBatten s b)) s)
  else setBatten b (pulseRead peak (openThr s) (getBatten s b)) s

theorem pulseFaults_eq (b peak : Nat) (s : State) : pulseFaults b peak s =
    if overThr s ≤ peak && !(getBatten s b).overCur then
      battenFault b (fun x => { x with overCur := true }) (openTested b peak s)
    else openTested b peak s := rfl

theorem openTested_batten (b peak : Nat) (s : State) : ∃ x o, getBatten (openTested b peak s) b =
    { pulseRead peak (openThr s) (getBatten s b) with opened := x, faultWait := o } := by
  unfold openTested
  split
  · exact ⟨true, true, by rw [getBatten_battenFault_same, getBatten_setBatten_same]⟩
  · exact ⟨_, _, getBatten_setBatten_same _ _ _⟩

/-- What a pulse's tests leave in the batten: the readings, the rings as they were, and the over-current latch. -/
theorem pulseFaults_batten (b peak : Nat) (s : State) : ∃ v, getBatten (pulseFaults b peak s) b = v ∧
    v.peak = min peak 255 ∧ v.lowRun = (if peak < openThr s then (getBatten s b).lowRun + 1 else 0) ∧
    v.ringS = (getBatten s b).ringS ∧ (overThr s ≤ peak → v.overCur = true) := by
  obtain ⟨x, o, hx⟩ := openTested_batten b peak s
  refine ⟨_, rfl, ?_⟩
  rw [pulseFaults_eq]
  split
  · rw [getBatten_battenFault_same, hx]
    exact ⟨rfl, rfl, rfl, fun _ => rfl⟩
  · next hno =>
    rw [hx]
    refine ⟨rfl, rfl, rfl, fun hover => ?_⟩
    by_contra hcur
    have hoff : (getBatten s b).overCur = false := Bool.not_eq_true _ ▸ hcur
    exact hno (by simp [hover, hoff])

theorem pulseFaults_frame (b peak : Nat) (s : State) : battenFrame (pulseFaults b peak s) = battenFrame s := by
  have hopen : battenFrame (openTested b peak s) = battenFrame s := by
    unfold openTested
    split <;> rfl
  rw [pulseFaults_eq]
  split
  · rw [battenFrame_battenFault, hopen]
  · exact hopen

/-- A peak at OVER or above sets the batten-fault event with its latch. -/
theorem pulseFaults_event {b peak : Nat} {s : State} (h : overThr s ≤ peak) (hc : (getBatten s b).overCur = false) :
    (pulseFaults b peak s).cb.event.getLsbD evBattenFault = true := by
  have hover : (overThr s ≤ peak && !(getBatten s b).overCur) = true := by
    rw [hc, decide_eq_true h]
    rfl
  rw [pulseFaults_eq, if_pos hover]
  exact setEvent_event _ (by decide) _

/-! ### The governor -/

/-- The batten with the integral in its three rings. -/
def ringed (x : Nat) (v : Batten) : Batten :=
  { v with ringS := ringAdd v.ringS x, ringM := ringAdd v.ringM x, ringL := ringAdd v.ringL x }

/-- The state with the integral taken, and the windows that are at their limits then. -/
def governed (b integral : Nat) (s : State) : State := setBatten b (ringed (min integral 65535) (getBatten s b)) s
def windowsOver (b integral : Nat) (s : State) : List Nat := [0, 1, 2].filter (overLimit (governed b integral s) b)

theorem governPulse_eq (b integral : Nat) (s : State) : governPulse b integral s =
    if windowsOver b integral s = [] then governed b integral s
    else if !s.bat.govTrip then govTrip b (windowsOver b integral s) (governed b integral s)
    else if s.bat.tripAt = s.now && s.bat.tripBat != b then govJoin b (windowsOver b integral s) (governed b integral s)
    else governed b integral s := rfl

/-- The state of a trip, before the cues end. -/
def tripped (b : Nat) (ws : List Nat) (s : State) : State := openSwitches { s with bat := { s.bat with
  govTrip := true, tripBat := b, tripWin := ws.headD 0, tripMulti := decide (1 < ws.length), tripAt := s.now, due := [] } }

theorem govTrip_tidy (b : Nat) (ws : List Nat) (s : State) : Tidy (tripped b ws s) (govTrip b ws s) :=
  (setEvent_tidy _ _).trans (cutCues_tidy _ _)

/-- However the governor decides, the pulses that wait, the events and the batten's own readings stay. -/
theorem governPulse_keeps (b integral : Nat) (s : State) :
    (governPulse b integral s).bat.fired = s.bat.fired ∧
    (∀ i, s.cb.event.getLsbD i = true → (governPulse b integral s).cb.event.getLsbD i = true) ∧
    getBatten (governPulse b integral s) b = ringed (min integral 65535) (getBatten s b) := by
  have hbat : getBatten (governed b integral s) b = ringed (min integral 65535) (getBatten s b) :=
    getBatten_setBatten_same _ _ _
  rw [governPulse_eq]
  split
  · exact ⟨rfl, fun _ h => h, hbat⟩
  · split
    · have ht := govTrip_tidy b (windowsOver b integral s) (governed b integral s)
      refine ⟨?_, fun i h => ht.events i h, ?_⟩
      · exact bat_of_calm ht.calm Bat.fired fun _ => rfl
      · rw [getBatten_of_calm ht.calm]
        exact hbat
    · split
      · exact ⟨rfl, fun _ h => h, hbat⟩
      · exact ⟨rfl, fun _ h => h, hbat⟩

/-- Window 0 is the first of those at their limits. -/
theorem windowsOver_short {b integral l : Nat} {s : State} (hl : govLimit s b 0 = some l)
    (h : l ≤ ringSum (ringAdd (getBatten s b).ringS (min integral 65535)) 32) :
    ∃ ws, windowsOver b integral s = 0 :: ws := by
  have hover : overLimit (governed b integral s) b 0 = true := by
    have hlim : govLimit (governed b integral s) b 0 = some l := hl
    have hsum : (getBatten (governed b integral s) b).windowSum 0 =
        ringSum (ringAdd (getBatten s b).ringS (min integral 65535)) 32 := by
      rw [governed, getBatten_setBatten_same]
      rfl
    rw [overLimit, hlim, Option.any_some, hsum]
    exact decide_eq_true h
  exact ⟨[1, 2].filter (overLimit (governed b integral s) b), by rw [windowsOver, List.filter_cons_of_pos hover]⟩

/-! ### A reading and its pulse -/

/-- The state with the pulse taken and its peak tested. -/
def pulseTaken (b peak : Nat) (f : Fired) (s : State) : State :=
  pulseFaults b peak { s with bat := { s.bat with fired := removeFirst f s.bat.fired } }

theorem pulseReady_of {b : Nat} {f : Fired} {s : State} (hf : s.bat.fired.find? (fun x => x.batten == b) = some f)
    (hr : f.readyAt ≤ s.now) (peak integral : Nat) :
    pulseReady b peak integral s = hkPulse f peak integral (governPulse b integral (pulseTaken b peak f s)) := by
  simp only [pulseReady, hf, if_neg (Nat.not_lt.mpr hr)]
  rfl

theorem pulseReady_none {b : Nat} {s : State} (h : ∀ f, s.bat.fired.find? (fun x => x.batten == b) = some f → s.now < f.readyAt)
    (peak integral : Nat) : pulseReady b peak integral s = s := by
  unfold pulseReady
  split
  · rfl
  · next f hf => exact if_pos (h f hf)

/-- The readings of a pulse. -/
theorem yields_pulse {t b : Nat} {s : State} (hs : awake t s = true) {f : Fired} (peak integral : Nat)
    (hf : s.bat.fired.find? (fun x => x.batten == b) = some f) (hr : f.readyAt ≤ max s.now t) :
    Yields (exec (.pulseSenseReady t b peak integral) s) (fun u =>
      u.bat.fired = removeFirst f s.bat.fired ∧ (getBatten u b).peak = min peak 255 ∧
      (overThr s ≤ peak → (getBatten u b).overCur = true) ∧
      (overThr s ≤ peak → (getBatten s b).overCur = false → u.cb.event.getLsbD evBattenFault = true) ∧
      (openThr s ≤ peak → (getBatten u b).lowRun = 0)) := by
  have hexec : exec (.pulseSenseReady t b peak integral) s = act t s (pulseReady b peak integral) := rfl
  rw [hexec]
  refine yields_act hs ?_
  rw [pulseReady_of (s := begin t s) hf hr]
  have htidy := hkPulse_tidy f peak integral (governPulse b integral (pulseTaken b peak f (begin t s)))
  obtain ⟨hfired, hevents, hbat⟩ := governPulse_keeps b integral (pulseTaken b peak f (begin t s))
  obtain ⟨v, hv, hpeak, hlow, -, hover⟩ := pulseFaults_batten b peak { begin t s with bat := { s.bat with
    fired := removeFirst f s.bat.fired } }
  have hv' : getBatten (pulseTaken b peak f (begin t s)) b = v := hv
  rw [settle_bat, getBatten_settle, getBatten_of_calm htidy.calm, hbat, hv',
    bat_of_calm htidy.calm Bat.fired fun _ => rfl]
  refine ⟨?_, hpeak, hover, fun ho hc => settle_keeps_event (htidy.events _ (hevents _ (pulseFaults_event ho hc))),
    fun ho => ?_⟩
  · rw [hfired, pulseTaken, eq_of_battenFrame (pulseFaults_frame _ _ _) (fun x => x.bat.fired) fun _ => rfl]
    rfl
  · exact hlow.trans (if_neg (Nat.not_lt.mpr ho))

/-- What the governor finds is what the pulse's tests leave of it. -/
theorem pulseTaken_governor (t b peak : Nat) (f : Fired) (s : State) :
    (∀ w, govLimit (pulseTaken b peak f (begin t s)) b w = govLimit s b w) ∧
    (getBatten (pulseTaken b peak f (begin t s)) b).ringS = (getBatten s b).ringS ∧
    { (pulseTaken b peak f (begin t s)).bat with ch := [], fired := [] } = { s.bat with ch := [], fired := [] } ∧
    (pulseTaken b peak f (begin t s)).now = max s.now t := by
  have hframe := pulseFaults_frame b peak { begin t s with bat := { s.bat with fired := removeFirst f s.bat.fired } }
  obtain ⟨v, hv, -, -, hring, -⟩ := pulseFaults_batten b peak { begin t s with bat := { s.bat with
    fired := removeFirst f s.bat.fired } }
  refine ⟨fun w => ?_, ?_, ?_, ?_⟩
  · exact eq_of_battenFrame hframe (fun x => govLimit x b w) fun _ => rfl
  · have hv' : getBatten (pulseTaken b peak f (begin t s)) b = v := hv
    rw [hv']
    exact hring
  · exact eq_of_battenFrame hframe (fun x => { x.bat with ch := [], fired := [] }) fun _ => rfl
  · exact eq_of_battenFrame hframe State.now fun _ => rfl

/-- A window at its limit: the trip, or one that joins it. -/
theorem yields_governor {t b l : Nat} {s : State} (hs : awake t s = true) {f : Fired} {peak integral : Nat}
    (hf : s.bat.fired.find? (fun x => x.batten == b) = some f) (hr : f.readyAt ≤ max s.now t) (hl : govLimit s b 0 = some l)
    (h : l ≤ ringSum (ringAdd (getBatten s b).ringS (min integral 65535)) 32) :
    (s.bat.govTrip = true → s.bat.tripAt = max s.now t → s.bat.tripBat ≠ b →
      Yields (exec (.pulseSenseReady t b peak integral) s) (fun u => u.bat.govTrip = true ∧ u.bat.tripMulti = true ∧
        u.bat.tripBat = min b s.bat.tripBat ∧ u.bat.lsCmd = s.bat.lsCmd ∧ u.bat.hsCmd = s.bat.hsCmd)) ∧
    (s.bat.govTrip = false → Yields (exec (.pulseSenseReady t b peak integral) s) (fun u => u.bat.govTrip = true ∧ u.bat.tripBat = b ∧
      u.bat.tripWin = 0 ∧ u.bat.emCmd = false ∧ u.bat.lsCmd = false ∧ u.bat.hsCmd = false ∧ u.bat.due = [])) := by
  have hexec : exec (.pulseSenseReady t b peak integral) s = act t s (pulseReady b peak integral) := rfl
  rw [hexec]
  obtain ⟨hlim, hring, hbat, hnow⟩ := pulseTaken_governor t b peak f s
  have hready := pulseReady_of (s := begin t s) hf hr peak integral
  generalize pulseTaken b peak f (begin t s) = w at hlim hring hbat hnow hready
  obtain ⟨ws, hws⟩ := windowsOver_short (integral := integral) ((hlim 0).trans hl) (by rw [hring]; exact h)
  have hne : windowsOver b integral w ≠ [] := by rw [hws]; exact List.cons_ne_nil _ _
  have hread : ∀ {α : Type} (g : Bat → α), (∀ x : Bat, g { x with ch := [], fired := [] } = g x) → g w.bat = g s.bat :=
    fun g hg => by rw [← hg w.bat, hbat, hg]
  have htrip := hread Bat.govTrip fun _ => rfl
  have hAt := hread Bat.tripAt fun _ => rfl
  have hBat := hread Bat.tripBat fun _ => rfl
  have htidy := hkPulse_tidy f peak integral (governPulse b integral w)
  refine ⟨fun ht hat hb => yields_act hs ?_, fun ht => yields_act hs ?_⟩
  · have hjoin : governPulse b integral w = govJoin b (windowsOver b integral w) (governed b integral w) := by
      have hsame : (w.bat.tripAt = w.now && w.bat.tripBat != b) = true := by
        rw [hAt, hat, hnow, hBat]
        simp [hb]
      have hon : ¬ (!w.bat.govTrip) = true := by rw [htrip, ht]; exact Bool.false_ne_true
      rw [governPulse_eq, if_neg hne, if_neg hon, if_pos hsame]
    have hcalmJ := htidy.calm
    rw [hjoin] at hcalmJ
    have hbatJ : ∀ {α : Type} (g : Bat → α), (∀ x : Bat, g { x with due := [] } = g x) → _ := fun g hg => bat_of_calm hcalmJ g hg
    rw [hready, hjoin, settle_bat]
    refine ⟨(hbatJ Bat.govTrip fun _ => rfl).trans (htrip.trans ht), hbatJ Bat.tripMulti fun _ => rfl, ?_,
      (hbatJ Bat.lsCmd fun _ => rfl).trans (hread Bat.lsCmd fun _ => rfl),
      (hbatJ Bat.hsCmd fun _ => rfl).trans (hread Bat.hsCmd fun _ => rfl)⟩
    refine (hbatJ Bat.tripBat fun _ => rfl).trans ?_
    have hlow : (govJoin b (windowsOver b integral w) (governed b integral w)).bat.tripBat =
        if decide (b < w.bat.tripBat) then b else w.bat.tripBat := rfl
    show (govJoin b (windowsOver b integral w) (governed b integral w)).bat.tripBat = _
    rw [hlow, hBat]
    by_cases hlt : b < s.bat.tripBat
    · simp [hlt, Nat.min_eq_left (Nat.le_of_lt hlt)]
    · simp [hlt, Nat.min_eq_right (Nat.not_lt.mp hlt)]
  · have htripped : governPulse b integral w = govTrip b (windowsOver b integral w) (governed b integral w) := by
      have hoff : (!w.bat.govTrip) = true := by rw [htrip, ht]; rfl
      rw [governPulse_eq, if_neg hne, if_pos hoff]
    have hall := (govTrip_tidy b (windowsOver b integral w) (governed b integral w)).trans (htripped ▸ htidy)
    have hbatT : ∀ {α : Type} (g : Bat → α), (∀ x : Bat, g { x with due := [] } = g x) → _ := fun g hg => bat_of_calm hall.calm g hg
    rw [hready, htripped, settle_bat]
    refine ⟨hbatT Bat.govTrip fun _ => rfl, hbatT Bat.tripBat fun _ => rfl, (hbatT Bat.tripWin fun _ => rfl).trans ?_,
      hbatT Bat.emCmd fun _ => rfl, hbatT Bat.lsCmd fun _ => rfl, hbatT Bat.hsCmd fun _ => rfl, ?_⟩
    · show (windowsOver b integral w).headD 0 = 0
      rw [hws]
      rfl
    · exact hall.due rfl

/-! ### Off-time samples -/

/-- Everything but the battens' own records. -/
def battensOnly (s : State) : State := { s with bat := { s.bat with ch := [] } }

theorem eq_of_battensOnly {α : Type} {u s : State} (h : battensOnly u = battensOnly s) (f : State → α)
    (hf : ∀ x, f (battensOnly x) = f x) : f u = f s := by
  rw [← hf u, h, hf]

/-- A sample at or below LEAK. -/
theorem offSample_quiet {b level : Nat} {s : State} (h : level ≤ leakThr s) :
    offSample b level s = setBatten b { getBatten s b with leakRun := 0 } s := by
  have hrun : (if leakThr s < level then (getBatten s b).leakRun + 1 else 0) = 0 := if_neg (Nat.not_lt.mpr h)
  simp only [offSample, hrun]
  rfl

/-- Quiet samples leave everything but their battens. -/
theorem offSamples_quiet {l : List Nat} {lev : Nat → Nat} {s : State} (h : ∀ c ∈ l, lev c ≤ leakThr s) :
    battensOnly (l.foldl (fun u c => offSample c (lev c) u) s) = battensOnly s ∧
    ∀ b ∉ l, getBatten (l.foldl (fun u c => offSample c (lev c) u) s) b = getBatten s b := by
  induction l generalizing s with
  | nil => exact ⟨rfl, fun b _ => rfl⟩
  | cons a r ih =>
    rw [List.foldl_cons, offSample_quiet (h a List.mem_cons_self)]
    obtain ⟨hframe, hbat⟩ := ih (s := setBatten a { getBatten s a with leakRun := 0 } s)
      fun c hc => h c (List.mem_cons_of_mem _ hc)
    refine ⟨hframe, fun b hb => ?_⟩
    have hba : b ≠ a := fun h => hb (h ▸ List.mem_cons_self)
    have hbr : b ∉ r := fun h => hb (List.mem_cons_of_mem _ h)
    rw [hbat b hbr, getBatten_setBatten_other hba]

/-- The slot's samples, of which only batten `b` reads anything, about that batten. -/
theorem offSamples_split {b level : Nat} {s : State} (hb : b < 64) (hd : offDue s = true) : ∃ r1 r2 : List Nat,
    b ∉ r1 ∧ b ∉ r2 ∧ offSamples [(b, level)] s = r2.foldl (fun u c => offSample c 0 u) (offSample b level
      (r1.foldl (fun u c => offSample c 0 u) { s with bat := { s.bat with offSlot := s.bat.slot } })) := by
  obtain ⟨r1, r2, hr⟩ := List.append_of_mem (List.mem_range.mpr hb)
  have hnodup : (r1 ++ b :: r2).Nodup := hr ▸ List.nodup_range
  obtain ⟨-, hcons, hdisj⟩ := List.nodup_append.mp hnodup
  have h1 : b ∉ r1 := fun h => hdisj b h b List.mem_cons_self rfl
  have h2 : b ∉ r2 := (List.nodup_cons.mp hcons).1
  have hother : ∀ c, c ≠ b → ((([(b, level)] : List (Nat × Nat)).find? (fun q => q.1 == c)).map Prod.snd).getD 0 = 0 := by
    intro c hc
    simp [Ne.symm hc]
  have hsame : ((([(b, level)] : List (Nat × Nat)).find? (fun q => q.1 == b)).map Prod.snd).getD 0 = level := by simp
  have hquiet : ∀ (r : List Nat) (x : State), b ∉ r → r.foldl (fun u c => offSample c
      (((([(b, level)] : List (Nat × Nat)).find? (fun q => q.1 == c)).map Prod.snd).getD 0) u) x =
      r.foldl (fun u c => offSample c 0 u) x := by
    intro r x hbr
    refine List.foldl_ext _ _ _ fun u c hc => ?_
    rw [hother c fun h => hbr (h ▸ hc)]
  refine ⟨r1, r2, h1, h2, ?_⟩
  rw [offSamples, if_pos hd, hr, List.foldl_append, List.foldl_cons, hsame, hquiet r1 _ h1, hquiet r2 _ h2]

/-! ### Buckets -/

/-- The batten with window `w` moved on by one bucket. -/
def bucketed (w : Nat) (v : Batten) : Batten :=
  match w with
  | 0 => { v with ringS := ringNext v.ringS 32 }
  | 1 => { v with ringM := ringNext v.ringM 100 }
  | _ => { v with ringL := ringNext v.ringL 100 }

/-- A bucket boundary moves the ring of window `w` on in every batten. -/
theorem bucket_batten (w : Nat) (hw : w ≤ 2) (s : State) {b : Nat} {v : Batten} (h : s.bat.ch.find b = some v) :
    bucketsPassed (advanceBucket w s) w = bucketsPassed s w + 1 ∧ ∃ x, (advanceBucket w s).bat.ch.find b = some x ∧
      x.ringS = (if w = 0 then ringNext v.ringS 32 else v.ringS) ∧
      x.ringM = (if w = 1 then ringNext v.ringM 100 else v.ringM) ∧
      x.ringL = (if w = 2 then ringNext v.ringL 100 else v.ringL) := by
  have hch : (advanceBucket w s).bat.ch = s.bat.ch.mapVals fun _ v => bucketed w v := by interval_cases w <;> rfl
  have hfind : (advanceBucket w s).bat.ch.find b = some (bucketed w v) := by rw [hch, Tab.find_mapVals, h, Option.map_some]
  interval_cases w <;> exact ⟨rfl, _, hfind, rfl, rfl, rfl⟩

/-! ### The statement -/

/-- A short latches in its batten, cuts the supply and sets the event. -/
structure ShortCut (b : Nat) (s u : State) : Prop where
  batten : (getBatten u b).short = true
  latch : u.bat.short = true
  emitter : u.bat.emCmd = false ∧ u.bat.lsCmd = false ∧ u.bat.hsCmd = false
  event : u.cb.event.getLsbD evBattenFault = true
  slot : u.bat.offSlot = s.bat.offSlot
  frame : ({ u with bat := {}, cb := {}, recent := {} } : State) = { s with bat := {}, cb := {}, recent := {} }

theorem shortFault_cut (b : Nat) (s : State) : ShortCut b s (shortFault b s) := by
  have hfault : getBatten (shortFault b s) b = getBatten (battenFault b (fun x => { x with short := true }) s) b := rfl
  have hcb : (shortFault b s).cb = (setEvent evBattenFault s).cb := rfl
  refine ⟨?_, rfl, ⟨rfl, rfl, rfl⟩, ?_, rfl, rfl⟩
  · rw [hfault, getBatten_battenFault_same]
  · rw [hcb]
    exact setEvent_event _ (by decide) s

/-- A second sample in a row above LEAK. -/
theorem offSample_short {b level : Nat} {s : State} (h : leakThr s < level) (hrun : 1 ≤ (getBatten s b).leakRun)
    (hshort : (getBatten s b).short = false) : ShortCut b s (offSample b level s) := by
  have htwice : (2 ≤ (getBatten s b).leakRun + 1 && !(getBatten s b).short) = true := by
    rw [hshort, decide_eq_true (show 2 ≤ (getBatten s b).leakRun + 1 by omega)]
    rfl
  have heq : offSample b level s = shortFault b (setBatten b { getBatten s b with leakRun := (getBatten s b).leakRun + 1 } s) := by
    simp only [offSample, if_pos h, htwice, if_true]
  obtain ⟨hbat, hlatch, hem, hevent, hslot, hframe⟩ :=
    shortFault_cut b (setBatten b { getBatten s b with leakRun := (getBatten s b).leakRun + 1 } s)
  rw [← heq] at hbat hlatch hem hevent hslot hframe
  exact ⟨hbat, hlatch, hem, hevent, hslot, hframe⟩

/-- Off-time samples of one batten that leaks twice in a row. -/
theorem yields_leak {t b level : Nat} {s : State} (hs : awake t s = true) (hb : b < 64) (hd : offDue (begin t s) = true)
    (hlevel : leakThr s < level) (hrun : 1 ≤ (getBatten s b).leakRun) (hshort : (getBatten s b).short = false) :
    Yields (exec (.offTimeSample t [(b, level)]) s) (fun u =>
      (getBatten u b).short = true ∧ u.bat.short = true ∧ u.bat.emCmd = false ∧ u.bat.lsCmd = false ∧
      u.bat.hsCmd = false ∧ u.cb.event.getLsbD evBattenFault = true ∧ u.bat.offSlot = s.bat.slot ∧
      Leaves t s u (fun x => { x with bat := {}, cb := {} })) := by
  have hexec : exec (.offTimeSample t [(b, level)]) s = act t s (offSamples [(b, level)]) := rfl
  obtain ⟨r1, r2, h1, h2, hsplit⟩ := offSamples_split (level := level) hb hd
  rw [hexec]
  refine yields_act hs ?_
  rw [hsplit]
  obtain ⟨hf1, hb1⟩ := offSamples_quiet (l := r1) (lev := fun _ => 0)
    (s := { begin t s with bat := { (begin t s).bat with offSlot := (begin t s).bat.slot } }) fun _ _ => Nat.zero_le _
  generalize List.foldl (fun u c => offSample c 0 u) _ r1 = w at hf1 hb1
  have hw : getBatten w b = getBatten s b := hb1 b h1
  have hthr : leakThr w = leakThr s := eq_of_battensOnly hf1 leakThr fun _ => rfl
  obtain ⟨hbat, hlatch, ⟨hem, hls, hhs⟩, hevent, hslot, hframe⟩ :=
    offSample_short (s := w) (b := b) (level := level) (by rw [hthr]; exact hlevel) (by rw [hw]; exact hrun) (by rw [hw]; exact hshort)
  generalize offSample b level w = v at hbat hlatch hem hls hhs hevent hslot hframe
  obtain ⟨hf2, hb2⟩ := offSamples_quiet (l := r2) (lev := fun _ => 0) (s := v) fun _ _ => Nat.zero_le _
  generalize List.foldl (fun u c => offSample c 0 u) _ r2 = x at hf2 hb2
  have hkept : ∀ {α : Type} (g : Bat → α), (∀ y : Bat, g { y with ch := [] } = g y) → g x.bat = g v.bat :=
    fun g hg => eq_of_battensOnly hf2 (fun y => g y.bat) fun y => hg y.bat
  have hcb : x.cb = v.cb := eq_of_battensOnly hf2 State.cb fun _ => rfl
  have hrest : ({ x with bat := {}, cb := {}, recent := {} } : State) = { v with bat := {}, cb := {}, recent := {} } :=
    eq_of_battensOnly hf2 (fun y => { y with bat := {}, cb := {}, recent := {} }) fun _ => rfl
  have hfirst : ({ w with bat := {}, cb := {}, recent := {} } : State) = { begin t s with bat := {}, cb := {}, recent := {} } :=
    eq_of_battensOnly hf1 (fun y => { y with bat := {}, cb := {}, recent := {} }) fun _ => rfl
  rw [getBatten_settle, settle_bat, hb2 b h2]
  refine ⟨hbat, (hkept Bat.short fun _ => rfl).trans hlatch, (hkept Bat.emCmd fun _ => rfl).trans hem,
    (hkept Bat.lsCmd fun _ => rfl).trans hls, (hkept Bat.hsCmd fun _ => rfl).trans hhs, settle_keeps_event ?_, ?_, x, rfl,
    hrest.trans (hframe.trans hfirst)⟩
  · rw [hcb]
    exact hevent
  · exact (hkept Bat.offSlot fun _ => rfl).trans (hslot.trans (eq_of_battensOnly hf1 (fun y => y.bat.offSlot) fun _ => rfl))

/-- Off-time samples at or below LEAK. -/
theorem yields_noLeak {t b level : Nat} {s : State} (hs : awake t s = true) (hb : b < 64) (hd : offDue (begin t s) = true)
    (hlevel : level ≤ leakThr s) :
    Yields (exec (.offTimeSample t [(b, level)]) s) (fun u => (getBatten u b).leakRun = 0 ∧ u.bat.offSlot = s.bat.slot ∧
      u.bat.short = s.bat.short ∧ Leaves t s u (fun x => { x with bat := {} })) := by
  have hexec : exec (.offTimeSample t [(b, level)]) s = act t s (offSamples [(b, level)]) := rfl
  obtain ⟨r1, r2, h1, h2, hsplit⟩ := offSamples_split (level := level) hb hd
  rw [hexec]
  refine yields_act hs ?_
  rw [hsplit]
  obtain ⟨hf1, -⟩ := offSamples_quiet (l := r1) (lev := fun _ => 0)
    (s := { begin t s with bat := { (begin t s).bat with offSlot := (begin t s).bat.slot } }) fun _ _ => Nat.zero_le _
  generalize List.foldl (fun u c => offSample c 0 u) _ r1 = w at hf1
  have hthr : leakThr w = leakThr s := eq_of_battensOnly hf1 leakThr fun _ => rfl
  rw [offSample_quiet (by rw [hthr]; exact hlevel)]
  obtain ⟨hf2, hb2⟩ := offSamples_quiet (l := r2) (lev := fun _ => 0)
    (s := setBatten b { getBatten w b with leakRun := 0 } w) fun _ _ => Nat.zero_le _
  generalize List.foldl (fun u c => offSample c 0 u) _ r2 = x at hf2 hb2
  have hf := hf2.trans hf1
  rw [getBatten_settle, settle_bat, hb2 b h2, getBatten_setBatten_same]
  exact ⟨rfl, eq_of_battensOnly hf (fun y => y.bat.offSlot) fun _ => rfl, eq_of_battensOnly hf (fun y => y.bat.short) fun _ => rfl,
    x, rfl, eq_of_battensOnly hf (fun y => { y with bat := {}, recent := {} }) fun _ => rfl⟩

/-- Settles O29: the readings of a pulse, the off-time samples, the governor, and its buckets. -/
theorem currentSenseAndGovernor : Obligations.CurrentSenseAndGovernor := by
  refine ⟨fun t b s hs => ?sense, fun t b l f peak integral s hs hf hr hl h => yields_governor hs hf hr hl h, fun t w s hs hd => ?bucket,
    fun t w s hs hd => ?noBucket⟩
  case sense =>
    have hdue := (awake_iff.mp hs).2
    refine ⟨fun f peak integral hf hr => yields_pulse hs peak integral hf hr, fun peak integral h => ?_, fun l hd => ?_,
      fun level hb hd hlevel hrun hshort => yields_leak hs hb hd hlevel hrun hshort,
      fun level hb hd hlevel => yields_noLeak hs hb hd hlevel⟩
    · have hexec : exec (.pulseSenseReady t b peak integral) s = act t s (pulseReady b peak integral) := rfl
      rw [hexec]
      exact yields_no_effect (pulseReady_none (s := begin t s) h peak integral) hdue
    · have hexec : exec (.offTimeSample t l) s = act t s (offSamples l) := rfl
      have hd' : ¬ offDue (begin t s) = true := Bool.not_eq_true _ ▸ hd
      rw [hexec]
      exact yields_no_effect (if_neg hd') hdue
  case bucket =>
    have hexec : exec (.govBucketAdvance t w) s = act t s (fun u => if bucketDue u w then advanceBucket w u else u) := rfl
    have hw : w ≤ 2 := by
      simp only [bucketDue, Bool.and_eq_true, decide_eq_true_eq] at hd
      exact hd.1
    rw [hexec]
    refine yields_act hs ?_
    rw [if_pos hd]
    have hpassed : ∀ y, bucketsPassed (settle s y) w = bucketsPassed y w := fun y => by simp only [bucketsPassed, settle_bat]
    refine ⟨?_, fun b v hv => ?_, _, rfl, rfl⟩
    · rw [hpassed]
      interval_cases w <;> rfl
    · rw [settle_bat]
      exact (bucket_batten w hw (begin t s) hv).2
  case noBucket =>
    have hexec : exec (.govBucketAdvance t w) s = act t s (fun u => if bucketDue u w then advanceBucket w u else u) := rfl
    have hd' : ¬ bucketDue (begin t s) w = true := Bool.not_eq_true _ ▸ hd
    rw [hexec]
    exact yields_no_effect (if_neg hd') (awake_iff.mp hs).2

end Sys2Proof.Machine
end

section
/-! R76 to R100, R119 to R128: what the end of a shot changes, the drive levels, the fault clears and the locks. -/

namespace Sys2Proof.Machine

/-! ### Tables -/

theorem Tab.get_eq_find {α : Type} (t : Tab α) (d : α) (k : Nat) : t.get d k = (t.find k).getD d := by
  induction t with
  | nil => rfl
  | cons q r ih =>
    obtain ⟨j, w⟩ := q
    by_cases h : j = k <;> simp [Tab.get, Tab.find, h, ih]

theorem Tab.get_mapVals {α : Type} (t : Tab α) (f : Nat → α → α) (d : α) (k : Nat) :
    (t.mapVals f).get d k = ((t.find k).map (f k)).getD d := by
  rw [Tab.get_eq_find, Tab.find_mapVals]

theorem Tab.mem_keys_of_find {α : Type} {t : Tab α} {k : Nat} (h : t.find k ≠ none) : k ∈ t.map Prod.fst := by
  by_contra hk
  exact h (Tab.find_eq_none fun p hp he => hk (List.mem_map.mpr ⟨p, hp, he⟩))

/-! ### Channels -/

@[simp] theorem getChan_setChan_same (c : Nat) (v : Channel) (s : State) : getChan (setChan c v s) c = v :=
  Tab.get_set_same _ _ _ _

theorem getChan_setChan_other {c d : Nat} (h : d ≠ c) (v : Channel) (s : State) : getChan (setChan c v s) d = getChan s d :=
  Tab.get_set_other _ _ _ h

@[simp] theorem getChan_settle (b s : State) (c : Nat) : getChan (settle b s) c = getChan s c := by simp [getChan]

/-- Everything but the channels, the shot counters, the flyman's data and the record of the clock cycle. -/
def shotFrame (s : State) : State :=
  { s with
    rx := { s.rx with chan := [], cntStop := 0, cntNoret := 0, cntCut := 0, cntVoid := 0, cntWref := 0, cntPre := 0 }
    saf := { s.saf with flyData := [], cntLate := 0 }, recent := {} }

theorem eq_of_shotFrame {α : Type} {u s : State} (h : shotFrame u = shotFrame s) (f : State → α)
    (hf : ∀ x, f (shotFrame x) = f x) : f u = f s := by
  rw [← hf u, h, hf]

theorem flyTake_shotFrame (c : Nat) (r : ShotResult) (s : State) : shotFrame (flyTake c r s) = shotFrame s := by
  unfold flyTake
  split
  · split <;> rfl
  · rfl

theorem flyTake_rx (c : Nat) (r : ShotResult) (s : State) : (flyTake c r s).rx = s.rx := by
  unfold flyTake
  split
  · split <;> rfl
  · rfl

theorem countWord_shotFrame (c : Nat) (w : W32) (s : State) : shotFrame (countWord c w s) = shotFrame s := by
  unfold countWord
  split <;> rfl

theorem countWord_chan (c : Nat) (w : W32) (s : State) : (countWord c w s).rx.chan = s.rx.chan := by
  unfold countWord
  split <;> rfl

theorem finishShot_shotFrame (c : Nat) (x : Shot) (o g v : Nat) (s : State) :
    shotFrame (finishShot c x o g v s) = shotFrame s := by
  unfold finishShot
  rw [flyTake_shotFrame, countWord_shotFrame]
  rfl

/-- The result of a shot. -/
def resultOf (c : Nat) (x : Shot) (o g v : Nat) : ShotResult :=
  { word := resultWord c x o g v, batten := x.batten, handle := x.handle, act := x.act, idx := x.idx, phase := x.phase,
    coarse := x.coarse, launched := x.launched, workLight := x.workLight, safetyCls := x.safetyCls,
    start := x.start, blanked := x.blanks }

/-- The channel once its shot has ended. -/
def finishedChan (c : Nat) (x : Shot) (o g v : Nat) (s : State) : Channel :=
  { getChan s c with
    shot := none, results := (getChan s c).results ++ [resultOf c x o g v]
    cutSeen := (getChan s c).cutSeen || decide (o = outCut)
    early := if s.now < x.start then (x.batten, x.startTb) :: (getChan s c).early.filter (fun e => decide (tbTick s < e.2))
      else (getChan s c).early }

theorem finishShot_chan (c : Nat) (x : Shot) (o g v : Nat) (s : State) :
    (finishShot c x o g v s).rx.chan = s.rx.chan.set c (finishedChan c x o g v s) := by
  unfold finishShot
  rw [flyTake_rx, countWord_chan]
  rfl

@[simp] theorem getChan_finishShot_same (c : Nat) (x : Shot) (o g v : Nat) (s : State) :
    getChan (finishShot c x o g v s) c = finishedChan c x o g v s := by
  rw [getChan, finishShot_chan, Tab.get_set_same]

theorem getChan_finishShot_other {c d : Nat} (h : d ≠ c) (x : Shot) (o g v : Nat) (s : State) :
    getChan (finishShot c x o g v s) d = getChan s d := by
  rw [getChan, finishShot_chan, Tab.get_set_other _ _ _ h, getChan]

/-! ### Shots that end Void -/

theorem voidShot_shotFrame (c : Nat) (s : State) : shotFrame (voidShot c s) = shotFrame s := by
  unfold voidShot
  split
  · exact finishShot_shotFrame _ _ _ _ _ _
  · rfl

theorem getChan_voidShot_other {c d : Nat} (h : d ≠ c) (s : State) : getChan (voidShot c s) d = getChan s d := by
  unfold voidShot
  split
  · exact getChan_finishShot_other h _ _ _ _ _
  · rfl

theorem getChan_voidShot_same (c : Nat) (s : State) :
    (getChan (voidShot c s) c).shot = none ∧ (getChan (voidShot c s) c).gateLost = (getChan s c).gateLost := by
  unfold voidShot
  split
  · rw [getChan_finishShot_same]
    exact ⟨rfl, rfl⟩
  · next h => exact ⟨h, rfl⟩

theorem voidShot_none {c d : Nat} {s : State} (h : (getChan s d).shot = none) : (getChan (voidShot c s) d).shot = none := by
  by_cases hd : d = c
  · subst hd
    exact (getChan_voidShot_same d s).1
  · rw [getChan_voidShot_other hd]
    exact h

theorem foldl_voidShot (l : List (Nat × Channel)) (s : State) :
    shotFrame (l.foldl (fun u p => voidShot p.1 u) s) = shotFrame s ∧
    ∀ c, c ∈ l.map Prod.fst ∨ (getChan s c).shot = none → (getChan (l.foldl (fun u p => voidShot p.1 u) s) c).shot = none := by
  induction l generalizing s with
  | nil => exact ⟨rfl, fun c h => h.elim (fun h => absurd h List.not_mem_nil) id⟩
  | cons p r ih =>
    obtain ⟨hframe, hnone⟩ := ih (voidShot p.1 s)
    refine ⟨hframe.trans (voidShot_shotFrame _ _), fun c h => hnone c ?_⟩
    rcases h with hmem | hs
    · rcases List.mem_cons.mp hmem with rfl | hr
      · exact .inr (getChan_voidShot_same p.1 s).1
      · exact .inl hr
    · exact .inr (voidShot_none hs)

theorem voidShots_shotFrame (s : State) : shotFrame (voidShots s) = shotFrame s := (foldl_voidShot s.rx.chan s).1

theorem voidShots_none (s : State) (c : Nat) : (getChan (voidShots s) c).shot = none := by
  refine (foldl_voidShot s.rx.chan s).2 c ?_
  by_cases h : s.rx.chan.find c = none
  · right
    rw [getChan, Tab.get_eq_find, h]
    rfl
  · exact .inl (Tab.mem_keys_of_find h)

/-! ### PH_LOCK -/

theorem phaseUnlock_of_off {s : State} (h : s.bat.phLock = false) : phaseUnlock s = s := by
  rw [phaseUnlock, h]
  rfl

/-- The channel with the marks of an unlock on its shot and its results. -/
def unlockedChan (s : State) (v : Channel) : Channel :=
  { v with
    shot := v.shot.map (fun x =>
      { x.relock s.now false with coarse := (x.relock s.now false).coarse || (x.launched && edgeLate s x.workLight x.start) })
    results := v.results.map (fun x => { x with coarse := x.coarse || (x.launched && edgeLate s x.workLight x.start) }) }

/-- What an unlock changes. -/
theorem phaseUnlock_of_on {s : State} (h : s.bat.phLock = true) :
    calm { phaseUnlock s with bat := {}, rx := {}, cal := {} } = calm { s with bat := {}, rx := {}, cal := {} } ∧
    (phaseUnlock s).bat = { s.bat with phLock := false, unlocks := inc32 s.bat.unlocks } ∧
    (phaseUnlock s).rx = { s.rx with chan := s.rx.chan.mapVals (fun _ v => unlockedChan s v) } ∧
    (phaseUnlock s).cal = s.cal ∧ (phaseUnlock s).pwr = s.pwr ∧
    (phaseUnlock s).cb = (setEvent evPhaseUnlock s).cb := by
  have hon : ¬ (!s.bat.phLock) = true := by rw [h]; exact Bool.false_ne_true
  unfold phaseUnlock
  rw [if_neg hon]
  exact ⟨rfl, rfl, rfl, rfl, rfl, rfl⟩

theorem losePhase_phLock (s : State) : (losePhase s).bat.phLock = false := by
  unfold losePhase
  split
  · next h => rw [show (voidTapRun (phaseUnlock s)).bat = (phaseUnlock s).bat from rfl, (phaseUnlock_of_on h).2.1]
  · next h => exact Bool.not_eq_true _ ▸ h

/-- An unlock ends no shot and begins none. -/
theorem losePhase_keeps (s : State) : (losePhase s).pwr = s.pwr ∧ (losePhase s).rx.tickLock = s.rx.tickLock ∧
    ∀ c, (getChan s c).shot = none → (getChan (losePhase s) c).shot = none := by
  unfold losePhase
  split
  · next h =>
    obtain ⟨-, -, hrx, -, hpwr, -⟩ := phaseUnlock_of_on h
    have htick : (phaseUnlock s).rx.tickLock = s.rx.tickLock := by rw [hrx]
    refine ⟨hpwr, htick, fun c hc => ?_⟩
    have hchan : (voidTapRun (phaseUnlock s)).rx.chan = s.rx.chan.mapVals fun _ v => unlockedChan s v := congrArg Rx.chan hrx
    rw [getChan, Tab.get_eq_find] at hc
    rw [getChan, hchan, Tab.get_mapVals]
    cases hf : s.rx.chan.find c with
    | none => rfl
    | some v =>
      rw [hf] at hc
      exact congrArg (Option.map _) hc
  · exact ⟨rfl, rfl, fun _ h => h⟩

/-- What the unlock of the fine-phase line leaves. -/
theorem losePhase_of_on {s : State} (h : s.bat.phLock = true) :
    (losePhase s).bat.unlocks = inc32 s.bat.unlocks ∧ (losePhase s).cb.event.getLsbD evPhaseUnlock = true ∧
    (losePhase s).cal.tapRun = false ∧
    calm { losePhase s with bat := {}, rx := {}, cal := {} } = calm { s with bat := {}, rx := {}, cal := {} } := by
  obtain ⟨hframe, hbat, -, -, -, hcb⟩ := phaseUnlock_of_on h
  rw [losePhase, if_pos h]
  refine ⟨congrArg Bat.unlocks hbat, ?_, rfl, hframe⟩
  rw [show (voidTapRun (phaseUnlock s)).cb = (setEvent evPhaseUnlock s).cb from hcb]
  exact setEvent_event _ (by decide) _

theorem phaseLock_of {n : Nat} {s : State} (hoff : s.bat.phLock = false) (htp : s.pwr.tpll = true) (hn : 4096 ≤ n) :
    phaseLock n s = if calibrating s then startTapRun (markCoarse { s with bat := { s.bat with phLock := true } })
      else markCoarse { s with bat := { s.bat with phLock := true } } := by
  have hgo : (!s.bat.phLock && s.pwr.tpll && decide (4096 ≤ n)) = true := by rw [hoff, htp, decide_eq_true hn]; rfl
  exact if_pos hgo

theorem phaseLock_of_not {n : Nat} {s : State} (h : s.bat.phLock = true ∨ s.pwr.tpll = false ∨ n < 4096) :
    phaseLock n s = s := by
  refine if_neg ?_
  rcases h with h | h | h
  · simp [h]
  · simp [h]
  · simp [Nat.not_le.mpr h]

/-- Points in act one or act two are coarse once the line has locked. -/
theorem markCoarse_points {s : State} {c : Nat} {v : HistChan} (h : (markCoarse s).hist.chan.find c = some v) :
    ∀ p ∈ v.cur, p.state = 1 ∨ p.state = 2 → p.coarse = true := by
  have hchan : (markCoarse s).hist.chan = s.hist.chan.mapVals (fun _ v =>
      { v with cur := v.cur.map (fun p => if p.state = 1 ∨ p.state = 2 then { p with coarse := true } else p) }) := rfl
  rw [hchan, Tab.find_mapVals] at h
  obtain ⟨w, -, rfl⟩ := Option.map_eq_some_iff.mp h
  intro p hp hstate
  obtain ⟨q, -, rfl⟩ := List.mem_map.mp hp
  split at hstate
  · next hq => rw [if_pos hq]
  · next hq => exact absurd hstate hq

/-! ### Drive levels -/

theorem updateDrive_of {b : Nat} {r : BatRec} {s : State} (h : batRec s b = some r) : ∃ ev, updateDrive b s = eventIf ev evWavelength
    (setBatten b { getBatten s b with
      nextLevel := (driveLevel s r (sourceTemp s (battenSource s b))).1
      nextDer := (driveLevel s r (sourceTemp s (battenSource s b))).2
      wlOob := wavelengthOob s r (sourceTemp s (battenSource s b)) (getBatten s b).wlOob } s) := by
  unfold updateDrive
  rw [h]
  exact ⟨_, rfl⟩

theorem eventIf_battenFrame (x : Bool) (i : Nat) (s : State) : battenFrame (eventIf x i s) = battenFrame s := by
  cases x <;> rfl

@[simp] theorem getBatten_eventIf (x : Bool) (i : Nat) (s : State) (b : Nat) : getBatten (eventIf x i s) b = getBatten s b := by
  cases x <;> rfl

theorem updateDrive_battenFrame (b : Nat) (s : State) : battenFrame (updateDrive b s) = battenFrame s := by
  cases h : batRec s b with
  | none => unfold updateDrive; rw [h]
  | some r =>
    obtain ⟨ev, hev⟩ := updateDrive_of h
    rw [hev, eventIf_battenFrame, battenFrame_setBatten]

theorem getBatten_updateDrive_other {b c : Nat} (h : c ≠ b) (s : State) : getBatten (updateDrive b s) c = getBatten s c := by
  cases hr : batRec s b with
  | none => unfold updateDrive; rw [hr]
  | some r =>
    obtain ⟨ev, hev⟩ := updateDrive_of hr
    rw [hev, getBatten_eventIf, getBatten_setBatten_other h]

theorem foldl_updateDrive_other {l : List Nat} {g b : Nat} (h : ∀ i ∈ l, 8 * g + i ≠ b) (s : State) :
    getBatten (l.foldl (fun u i => updateDrive (8 * g + i) u) s) b = getBatten s b := by
  induction l generalizing s with
  | nil => rfl
  | cons i r ih =>
    rw [List.foldl_cons, ih fun j hj => h j (List.mem_cons_of_mem _ hj),
      getBatten_updateDrive_other (h i List.mem_cons_self).symm]

theorem foldl_updateDrive_battenFrame (l : List Nat) (g : Nat) (s : State) :
    battenFrame (l.foldl (fun u i => updateDrive (8 * g + i) u) s) = battenFrame s := by
  induction l generalizing s with
  | nil => rfl
  | cons i r ih => rw [List.foldl_cons, ih, updateDrive_battenFrame]

/-- What the update of its group leaves of one batten: its own update, from what the group's other battens do not change. -/
theorem getBatten_updateGroup {b : Nat} {r : BatRec} {s : State} (h : batRec s b = some r) :
    getBatten (updateGroup (b / 8) s) b = { getBatten s b with
      nextLevel := (driveLevel s r (sourceTemp s (battenSource s b))).1
      nextDer := (driveLevel s r (sourceTemp s (battenSource s b))).2
      wlOob := wavelengthOob s r (sourceTemp s (battenSource s b)) (getBatten s b).wlOob } := by
  have hb : 8 * (b / 8) + b % 8 = b := by omega
  obtain ⟨r1, r2, hr⟩ := List.append_of_mem (List.mem_range.mpr (Nat.mod_lt b (by decide : 0 < 8)))
  have hnodup : (r1 ++ b % 8 :: r2).Nodup := hr ▸ List.nodup_range
  obtain ⟨-, hcons, hdisj⟩ := List.nodup_append.mp hnodup
  have h1 : ∀ i ∈ r1, 8 * (b / 8) + i ≠ b := fun i hi he => hdisj i hi (b % 8) List.mem_cons_self (by omega)
  have h2 : ∀ i ∈ r2, 8 * (b / 8) + i ≠ b := fun i hi he =>
    (List.nodup_cons.mp hcons).1 ((show i = b % 8 by omega) ▸ hi)
  have hframe := foldl_updateDrive_battenFrame r1 (b / 8) s
  have hbat := foldl_updateDrive_other h1 s
  rw [updateGroup, hr, List.foldl_append, List.foldl_cons, hb, foldl_updateDrive_other h2]
  generalize r1.foldl (fun u i => updateDrive (8 * (b / 8) + i) u) s = w at hframe hbat
  have hrec : batRec w b = some r := (eq_of_battenFrame hframe (fun x => batRec x b) fun _ => rfl).trans h
  have hlevel : driveLevel w r (sourceTemp w (battenSource w b)) = driveLevel s r (sourceTemp s (battenSource s b)) :=
    eq_of_battenFrame hframe (fun x => driveLevel x r (sourceTemp x (battenSource x b))) fun _ => rfl
  have hoob : ∀ was, wavelengthOob w r (sourceTemp w (battenSource w b)) was =
      wavelengthOob s r (sourceTemp s (battenSource s b)) was :=
    fun was => eq_of_battenFrame hframe (fun x => wavelengthOob x r (sourceTemp x (battenSource x b)) was) fun _ => rfl
  obtain ⟨ev, hev⟩ := updateDrive_of hrec
  rw [hev, getBatten_eventIf, getBatten_setBatten_same, hlevel, hoob, hbat]

/-- Settles O30: a group's next levels come of its battens' records, and no level in use changes. -/
theorem driveLevels : Obligations.DriveLevels := by
  intro t b r s hs hb hr
  have hexec : exec (.driveLevelUpdate t (b / 8)) s = act t s (fun u => if b / 8 < 8 then noteWorst (updateGroup (b / 8) u) else u) := rfl
  rw [hexec]
  refine yields_act hs ?_
  rw [if_pos (show b / 8 < 8 by omega)]
  have hframe := foldl_updateDrive_battenFrame (List.range 8) (b / 8) (begin t s)
  have hbat : getBatten (noteWorst (updateGroup (b / 8) (begin t s))) b = getBatten (updateGroup (b / 8) (begin t s)) b := rfl
  rw [getBatten_settle, hbat, getBatten_updateGroup (s := begin t s) hr]
  refine ⟨rfl, rfl, rfl, rfl, _, rfl, ?_⟩
  exact congrArg (fun x : State => { calm x with bat := x.bat, recent := {} }) hframe

/-! ### The fault clears -/

theorem clearBattens_faulted {b : Nat} {v : Batten} {s : State} (h : (clearBattens s).bat.ch.find b = some v) :
    v.faulted = false := by
  have hch : (clearBattens s).bat.ch = s.bat.ch.mapVals (fun _ v =>
      { v with opened := false, overCur := false, short := false, lowRun := 0, leakRun := 0, faultWait := false }) := rfl
  rw [hch, Tab.find_mapVals] at h
  obtain ⟨w, -, rfl⟩ := Option.map_eq_some_iff.mp h
  rfl

theorem clearGovernor_of_below {s : State} (h : ∀ b < 64, ∀ w < 3, overLimit s b w = false) : clearGovernor s =
    { s with bat := { s.bat with govTrip := false, tripMulti := false, tripWin := 0, tripBat := 0 } } := by
  refine if_pos (List.all_eq_true.mpr fun b hb => List.all_eq_true.mpr fun w hw => ?_)
  have hw3 : w < 3 := by
    simp only [List.mem_cons, List.not_mem_nil, or_false] at hw
    omega
  rw [h b (List.mem_range.mp hb) w hw3]
  rfl

theorem clearGovernor_of_over {s : State} {b w : Nat} (hb : b < 64) (hw : w < 3) (h : overLimit s b w = true) :
    clearGovernor s = s := by
  refine if_neg fun hall => ?_
  have hmem : w ∈ [0, 1, 2] := by
    simp only [List.mem_cons, List.not_mem_nil, or_false]
    omega
  have hlow := List.all_eq_true.mp (List.all_eq_true.mp hall b (List.mem_range.mpr hb)) w hmem
  rw [h] at hlow
  exact Bool.false_ne_true hlow

theorem onPath_clear {p : Path} (hp : p ≠ .tap) {s : State} (hr : rwsOpen s = true) (f : State → State) (t : Nat) :
    onPath p (fun u => (faultClear p f u).2) (begin t s) = f (begin t s) := by
  have hr' : rwsOpen (begin t s) = true := hr
  rw [onPath_of_ne hp]
  simp only [faultClear, if_pos hr']

theorem onPath_clear_shut {p : Path} (hp : p ≠ .tap) {s : State} (hr : rwsOpen s = false) (f : State → State) (t : Nat) :
    onPath p (fun u => (faultClear p f u).2) (begin t s) = violation p faultClrAddr kindRule (begin t s) := by
  have hr' : ¬ rwsOpen (begin t s) = true := Bool.not_eq_true _ ▸ hr
  rw [onPath_of_ne hp]
  simp only [faultClear, if_neg hr']

/-- Settles O31: the clears of BAT_FAULT_CLR, where they act and where they do not. -/
theorem faultClears : Obligations.FaultClears := by
  intro t p s hd hp
  have hcs : exec (.batCsClr t p) s = act t s (onPath p (fun u => (faultClear p clearBattens u).2)) := rfl
  have hsw : exec (.batSwClr t p) s = act t s (onPath p (fun u => (faultClear p clearSwitch u).2)) := rfl
  have hgov : exec (.batGovClr t p) s = act t s (onPath p (fun u => (faultClear p clearGovernor u).2)) := rfl
  refine ⟨fun hr => ?_, fun hr => ?_, fun hr hall => ?_, fun b w hr hb hw hover => ?_, fun hs hr c hc => ?_⟩
  · rw [hcs]
    refine yields_act (awake_of_rwsOpen hr hd) ?_
    rw [onPath_clear hp hr, settle_bat]
    exact ⟨rfl, fun b v hv => clearBattens_faulted (s := begin t s) hv, _, rfl, rfl⟩
  · rw [hsw]
    refine yields_act (awake_of_rwsOpen hr hd) ?_
    rw [onPath_clear hp hr, settle_bat]
    exact ⟨rfl, _, rfl, rfl⟩
  · rw [hgov]
    refine yields_act (awake_of_rwsOpen hr hd) ?_
    rw [onPath_clear hp hr, settle_bat, clearGovernor_of_below (s := begin t s) hall]
    exact ⟨rfl, rfl, _, rfl, rfl⟩
  · rw [hgov]
    refine yields_act (awake_of_rwsOpen hr hd) ?_
    rw [onPath_clear hp hr, settle_bat, clearGovernor_of_over (s := begin t s) hb hw hover]
    exact ⟨rfl, _, rfl, rfl⟩
  · have hshut : ∀ f, Yields (act t s (onPath p (fun u => (faultClear p f u).2))) (fun u =>
        Leaves t s u boardOnly ∧ u.cb.violKind = kindRule ∧ u.cb.event.getLsbD evAccess = true) := by
      intro f
      refine yields_act hs ?_
      rw [onPath_clear_shut hp hr]
      exact ⟨leaves_violation t p _ _ s, settle_cb_violKind _ _, settle_violation_event _ _ _ _ _⟩
    simp only [List.mem_cons, List.not_mem_nil, or_false] at hc
    rcases hc with rfl | rfl | rfl
    · rw [hcs]; exact hshut _
    · rw [hsw]; exact hshut _
    · rw [hgov]; exact hshut _

/-! ### The locks -/

/-- The line's own rises and falls. -/
theorem yields_phLock {t n : Nat} {s : State} (hs : awake t s = true) :
    (s.bat.phLock = false → s.pwr.tpll = true → 4096 ≤ n → Yields (exec (.phLockRise t n) s) (fun u =>
      u.bat.phLock = true ∧ (calibrating s = true → u.cal.tapRun = true ∧ u.cal.tapFirst = none ∧ u.cal.tapAt = max s.now t) ∧
      (calibrating s = false → u.cal = s.cal) ∧
      (∀ (c : Nat) (v : HistChan), u.hist.chan.find c = some v → ∀ p ∈ v.cur, p.state = 1 ∨ p.state = 2 → p.coarse = true) ∧
      Leaves t s u (fun x => { x with bat := { x.bat with phLock := false },
                                      rx := { x.rx with chan := [] }, hist := { x.hist with chan := [] },
                                      cal := { x.cal with tapRun := false, tapFirst := none, tapAt := 0 } }))) ∧
    (s.bat.phLock = true → 4 ≤ n → Yields (exec (.phLockFall t n) s) (fun u => u.bat.phLock = false ∧
      u.bat.unlocks = inc32 s.bat.unlocks ∧ u.cb.event.getLsbD evPhaseUnlock = true ∧ u.cal.tapRun = false ∧
      Leaves t s u (fun x => { calm x with bat := {}, rx := {}, cal := {} }))) := by
  have hrise : exec (.phLockRise t n) s = act t s (phaseLock n) := rfl
  have hfall : exec (.phLockFall t n) s = act t s (fun u => if 4 ≤ n then losePhase u else u) := rfl
  refine ⟨fun hoff htp hn => ?_, fun hon hn => ?_⟩
  · rw [hrise]
    refine yields_act hs ?_
    rw [phaseLock_of (s := begin t s) hoff htp hn, settle_bat, settle_cal, settle_hist]
    cases hc : calibrating s with
    | true =>
      have hc' : calibrating (begin t s) = true := hc
      rw [if_pos hc']
      exact ⟨rfl, fun _ => ⟨rfl, rfl, rfl⟩, fun h => absurd h Bool.noConfusion,
        fun c v hv => markCoarse_points (s := { begin t s with bat := { (begin t s).bat with phLock := true } }) hv,
        _, rfl, rfl⟩
    | false =>
      have hc' : ¬ calibrating (begin t s) = true := Bool.not_eq_true _ ▸ hc
      rw [if_neg hc']
      exact ⟨rfl, fun h => absurd h Bool.noConfusion, fun _ => rfl,
        fun c v hv => markCoarse_points (s := { begin t s with bat := { (begin t s).bat with phLock := true } }) hv,
        _, rfl, rfl⟩
  · rw [hfall]
    refine yields_act hs ?_
    have hlost := losePhase_phLock (begin t s)
    obtain ⟨hcount, hevent, hrun, hframe⟩ := losePhase_of_on (s := begin t s) hon
    rw [if_pos hn, settle_bat, settle_cal]
    exact ⟨hlost, hcount, settle_keeps_event hevent, hrun, _, rfl, hframe⟩

/-- The state with the TPLL unlocked, with a gate lost, with the bias out, before any shot ends. -/
def tpllDown (s : State) : State := { s with pwr := { s.pwr with tpll := false }, rx := { s.rx with tickLock := false } }
def gateDown (c : Nat) (s : State) : State :=
  setChan c { getChan s c with gateLost := true } { s with rx := { s.rx with tickLock := false } }
def biasDown (s : State) : State := { s with rx := { s.rx with biasOk := false } }

/-- A loss of the TPLL, of a channel's gate and of the bias. -/
theorem yields_lockLoss {t : Nat} {s : State} (hs : awake t s = true) :
    Yields (exec (.tpllUnlock ⟨t, none⟩) s) (fun u => u.pwr.tpll = false ∧ u.rx.tickLock = false ∧ u.bat.phLock = false ∧
      ∀ c, (getChan u c).shot = none) ∧
    (∀ c, c < 1552 → Yields (exec (.tpllUnlock ⟨t, some c⟩) s) (fun u => u.rx.tickLock = false ∧
      (getChan u c).shot = none ∧ (getChan u c).gateLost = true ∧ (∀ d, d ≠ c → getChan u d = getChan s d) ∧
      u.pwr = s.pwr ∧ u.bat = s.bat)) ∧
    Yields (exec (.biasOkFall t) s) (fun u => u.rx.biasOk = false ∧ (∀ c, (getChan u c).shot = none) ∧ u.bat = s.bat ∧
      u.pwr = s.pwr) := by
  have hall : exec (.tpllUnlock ⟨t, none⟩) s = act t s tpllUnlock := rfl
  have hbias : exec (.biasOkFall t) s = act t s biasFall := rfl
  refine ⟨?_, fun c hc => ?_, ?_⟩
  · rw [hall]
    refine yields_act hs ?_
    have hshots := voidShots_none (tpllDown (begin t s))
    have hframe := voidShots_shotFrame (tpllDown (begin t s))
    have heq : tpllUnlock (begin t s) = losePhase (voidShots (tpllDown (begin t s))) := rfl
    rw [heq]
    simp only [getChan_settle, settle_pwr, settle_rx, settle_bat]
    generalize voidShots _ = w at hshots hframe
    obtain ⟨hpwr, htick, hshot⟩ := losePhase_keeps w
    exact ⟨(congrArg (fun x => x.tpll) hpwr).trans (eq_of_shotFrame hframe (fun x => x.pwr.tpll) fun _ => rfl),
      htick.trans (eq_of_shotFrame hframe (fun x => x.rx.tickLock) fun _ => rfl), losePhase_phLock w,
      fun c => hshot c (hshots c)⟩
  · have hgate : exec (.tpllUnlock ⟨t, some c⟩) s = act t s (if c < 1552 then gateUnlock c else id) := rfl
    rw [hgate, if_pos hc]
    refine yields_act hs ?_
    obtain ⟨hnone, hlost⟩ := getChan_voidShot_same c (gateDown c (begin t s))
    have hframe := voidShot_shotFrame c (gateDown c (begin t s))
    have heq : gateUnlock c (begin t s) = voidShot c (gateDown c (begin t s)) := rfl
    rw [heq]
    simp only [getChan_settle, settle_pwr, settle_rx, settle_bat]
    refine ⟨eq_of_shotFrame hframe (fun x => x.rx.tickLock) fun _ => rfl, hnone, ?_, fun d hd => ?_,
      eq_of_shotFrame hframe State.pwr fun _ => rfl, eq_of_shotFrame hframe State.bat fun _ => rfl⟩
    · rw [hlost, gateDown, getChan_setChan_same]
    · rw [getChan_voidShot_other hd, gateDown, getChan_setChan_other hd]
      rfl
  · rw [hbias]
    refine yields_act hs ?_
    have hshots := voidShots_none (biasDown (begin t s))
    have hframe := voidShots_shotFrame (biasDown (begin t s))
    have heq : biasFall (begin t s) = voidShots (biasDown (begin t s)) := rfl
    rw [heq]
    simp only [getChan_settle, settle_pwr, settle_rx, settle_bat]
    exact ⟨eq_of_shotFrame hframe (fun x => x.rx.biasOk) fun _ => rfl, hshots, eq_of_shotFrame hframe State.bat fun _ => rfl,
      eq_of_shotFrame hframe State.pwr fun _ => rfl⟩

/-- The channels of a return of the locks. -/
theorem getChan_tickLockRise (s : State) (c : Nat) : (getChan (tickLockRise s) c).gateLost = false ∧
    (getChan (tickLockRise s) c).shot = (getChan s c).shot := by
  have hchan : (tickLockRise s).rx.chan = s.rx.chan.mapVals (fun _ v => { v with gateLost := false }) := rfl
  rw [getChan, hchan, Tab.get_mapVals, getChan, Tab.get_eq_find]
  cases s.rx.chan.find c with
  | none => exact ⟨rfl, rfl⟩
  | some v => exact ⟨rfl, rfl⟩

/-- The return of the tick and of the bias. -/
theorem yields_lockReturn {t : Nat} {s : State} (hs : awake t s = true) :
    Yields (exec (.tickLockRise t) s) (fun u => u.pwr.tpll = true ∧ u.rx.tickLock = true ∧
      (∀ c, (getChan u c).gateLost = false ∧ (getChan u c).shot = (getChan s c).shot) ∧
      Leaves t s u (fun x => { x with
        pwr := { x.pwr with tpll := false }, rx := { x.rx with tickLock := false, chan := [] } })) ∧
    (s.pwr.releasedAt + 16 * msTicks ≤ max s.now t → s.cal.bdRun = false → Yields (exec (.biasOkRise t) s) (fun u =>
      u.rx.biasOk = true ∧ Leaves t s u (fun x => { x with rx := { x.rx with biasOk := false } }))) ∧
    (s.cal.bdRun = true → Yields (exec (.biasOkRise t) s) (fun u => Leaves t s u id)) := by
  have htick : exec (.tickLockRise t) s = act t s tickLockRise := rfl
  have hbias : exec (.biasOkRise t) s = act t s biasRise := rfl
  refine ⟨?_, fun hat hrun => ?_, fun hrun => ?_⟩
  · rw [htick]
    refine yields_act hs ?_
    simp only [getChan_settle, settle_pwr, settle_rx]
    exact ⟨rfl, rfl, getChan_tickLockRise (begin t s), _, rfl, rfl⟩
  · have hhas : biasHasTarget (begin t s) = true := by
      have hrun' : (begin t s).cal.bdRun = false := hrun
      have hat' : (begin t s).pwr.releasedAt + 16 * msTicks ≤ (begin t s).now := hat
      rw [biasHasTarget, hrun', decide_eq_true hat']
      rfl
    rw [hbias]
    refine yields_act hs ?_
    rw [biasRise, if_pos hhas, settle_rx]
    exact ⟨rfl, _, rfl, rfl⟩
  · have hno : ¬ biasHasTarget (begin t s) = true := by
      have hrun' : (begin t s).cal.bdRun = true := hrun
      rw [biasHasTarget, hrun']
      simp
    rw [hbias]
    exact yields_no_effect (if_neg hno) (awake_iff.mp hs).2

/-- Settles O32: the rises and falls of PH_LOCK, of the TPLL lock and of BIAS_OK. -/
theorem locks : Obligations.Locks := by
  refine ⟨fun t n s hs => ?_, fun t s hs => ?_⟩
  · have hrise : exec (.phLockRise t n) s = act t s (phaseLock n) := rfl
    have hfall : exec (.phLockFall t n) s = act t s (fun u => if 4 ≤ n then losePhase u else u) := rfl
    have hdue := (awake_iff.mp hs).2
    refine ⟨(yields_phLock hs).1, fun h => ?_, (yields_phLock hs).2, fun hn => ?_⟩
    · rw [hrise]
      exact yields_no_effect (phaseLock_of_not (s := begin t s) h) hdue
    · rw [hfall]
      exact yields_no_effect (if_neg (Nat.not_le.mpr hn)) hdue
  · obtain ⟨hall, hgate, hbias⟩ := yields_lockLoss hs
    exact ⟨hall, hgate, hbias, yields_lockReturn hs⟩

end Sys2Proof.Machine
end

section
/-! R76 to R107: listening intervals, avalanches and coincidences, timeouts and the counter selection. -/

namespace Sys2Proof.Machine

theorem Yields.imp {o : Host.Outcome State Fault Refusal} {P Q : State → Prop} (h : Yields o P) (hi : ∀ u, P u → Q u) :
    Yields o Q := by
  obtain ⟨u, hu, hp⟩ := h
  exact ⟨u, hu, hi u hp⟩

/-! ### Result words -/

/-- The outcome's bits of a word with fields above and below them. -/
theorem outcome_of_sum {o b x a y : Nat} (ho : o < 8) (ha : a < 4) (hy : y < 16384) :
    (b * 268435456 + x * 134217728 + o * 16777216 + a * 4194304 + y) % 4294967296 / 16777216 % 8 = o := by omega

/-- The outcome field of a result word reads the outcome it was built with. -/
theorem wordOutcome_resultWord (c : Nat) (x : Shot) {o : Nat} (ho : o < 8) (g v : Nat) :
    wordOutcome (resultWord c x o g v) = o := by
  have hread : ∀ w : W32, wordOutcome w = w.toNat / 16777216 % 8 := fun w => by
    simp only [wordOutcome, fld_eq, Nat.reduceSub, Nat.reduceAdd, Nat.reducePow]
  have hv := Nat.mod_lt v (by decide : 0 < 16384)
  unfold resultWord
  rw [hread]
  split
  · simpa [word, Nat.mod_eq_of_lt ho] using outcome_of_sum (b := 0) (x := 0) (a := 0) (y := 0) ho
  · split
    · simpa [word, Nat.mod_eq_of_lt ho] using outcome_of_sum (b := 0) (x := 0) (a := 0) ho (by decide) hv
    · simpa [word, Nat.mod_eq_of_lt ho] using outcome_of_sum ho (Nat.mod_lt g (by decide : 0 < 4)) hv

/-- The word that the last result of a finished channel carries. -/
theorem finishedChan_last (c : Nat) (x : Shot) (o g v : Nat) (s : State) :
    (finishedChan c x o g v s).results.getLast?.map (fun r => r.word) = some (resultWord c x o g v) := by
  have hres : (finishedChan c x o g v s).results = (getChan s c).results ++ [resultOf c x o g v] := rfl
  rw [hres, List.getLast?_append, List.getLast?_singleton]
  rfl

/-! ### Intervals -/

/-- Writing one channel's shot. -/
theorem yields_putShot {t c : Nat} {y : Shot} {s : State} {i : Instr} {f : State → State} (hs : awake t s = true)
    (hexec : exec i s = act t s f)
    (hf : f (begin t s) = setChan c { getChan (begin t s) c with shot := some y } (begin t s)) :
    Yields (exec i s) (fun u => (getChan u c).shot = some y ∧ (∀ d, d ≠ c → getChan u d = getChan s d) ∧
      Leaves t s u (fun x => { x with rx := { x.rx with chan := [] } })) := by
  rw [hexec]
  refine yields_act hs ?_
  rw [hf, getChan_settle, getChan_setChan_same]
  refine ⟨rfl, fun d hd => ?_, _, rfl, rfl⟩
  rw [getChan_settle, getChan_setChan_other hd]
  rfl

theorem clearDetector_of {c : Nat} {p : Shot → Int → Bool} {x : Shot} {s : State} (hx : (getChan s c).shot = some x)
    (hp : p x (x.counter s.now) = true) :
    clearDetector c p s = setChan c { getChan s c with shot := some { x with detector := [] } } s := by
  simp only [clearDetector, hx, hp, if_true]

theorem listenOpen_tick0 {c : Nat} {x : Shot} {s : State} (hx : (getChan s c).shot = some x)
    (hv : x.counter s.now = 0) (hc : isReference c = false) : listenOpen c .tick0 s =
    setChan c { getChan s c with shot := some { x with interval := some .tick0, detector := [] } } s := by
  simp only [listenOpen, hx, openInterval, hv, hc]
  rfl

theorem listenOpen_segment {c g : Nat} {x : Shot} {s : State} (hx : (getChan s c).shot = some x)
    (hg : segmentOf x.segs (x.counter s.now) = some g) (ht : x.touches g = false) : listenOpen c (.segment g) s =
    setChan c { getChan s c with shot := some { x with interval := some (.segment g), detector := [] } } s := by
  simp only [listenOpen, hx, openInterval, hg, ht, if_true]
  rfl

/-! ### Avalanches -/

/-- The device time of an avalanche. -/
def avalancheTime (sub : Nat) (s : State) : Nat := 1024 * s.now + sub % 1024

/-- The state with the SPAD blind. -/
def blinded (c n sub : Nat) (s : State) : State :=
  setChan c { getChan s c with blind := (getChan s c).blind.set n (avalancheTime sub s + blindTime s c) } s

theorem spadEvent_of_deaf {c n sub : Nat} {s : State}
    (h : (maskOf s c).getLsbD n = true ∨ avalancheTime sub s < (getChan s c).blind.get 0 n) : spadEvent c n sub s = s := by
  refine if_pos ?_
  rcases h with h | h
  · rw [h, Bool.true_or]
  · have hlate : decide (1024 * s.now + sub % 1024 < (getChan s c).blind.get 0 n) = true := decide_eq_true h
    rw [hlate, Bool.or_true]

theorem spadEvent_of_heard {c n sub : Nat} {s : State} (hm : (maskOf s c).getLsbD n = false)
    (hb : (getChan s c).blind.get 0 n ≤ avalancheTime sub s) : spadEvent c n sub s =
    match (getChan s c).shot with
    | none => blinded c n sub s
    | some x =>
      if x.counts c (x.counter s.now) then
        if qualifies (blinded c n sub s) x (takeEvent x.detector n (avalancheTime sub s)) then
          tookFree (coincidence c { x with detector := takeEvent x.detector n (avalancheTime sub s) } (x.counter s.now)
            (blinded c n sub s))
        else tookFree (setChan c { getChan (blinded c n sub s) c with
          shot := some { x with detector := takeEvent x.detector n (avalancheTime sub s) } } (blinded c n sub s))
      else blinded c n sub s := by
  have hheard : ¬ ((maskOf s c).getLsbD n || decide (1024 * s.now + sub % 1024 < (getChan s c).blind.get 0 n)) = true := by
    have hearly : decide (1024 * s.now + sub % 1024 < (getChan s c).blind.get 0 n) = false := decide_eq_false (Nat.not_lt.mpr hb)
    rw [hm, hearly]
    exact Bool.false_ne_true
  exact if_neg hheard

/-- A shot listens in segment `g`, past RING_HOLD, and is not blanked there. -/
structure InGate (x : Shot) (g : Nat) (v : Int) : Prop where
  interval : x.interval = some (.segment g)
  positive : 0 < v
  segment : segmentOf x.segs v = some g
  held : (x.hold : Int) ≤ v
  heard : x.blankedAt v = false

theorem InGate.counts {x : Shot} {g : Nat} {v : Int} (h : InGate x g v) (c : Nat) : x.counts c v = true := by
  have hseg : (segmentOf x.segs v).isSome = true := by rw [h.segment]; rfl
  simp only [Shot.counts, h.interval, h.heard, hseg, decide_eq_true h.held]
  simp

/-- In the gate a qualified coincidence is the stop. -/
theorem InGate.coincidence {x : Shot} {g : Nat} {v : Int} (h : InGate x g v) (c : Nat) (d : List (Nat × Nat)) (s : State) :
    coincidence c { x with detector := d } v s = finishShot c { x with detector := d } outStop g v.toNat s := by
  have hneg : ¬ v < 0 := by have := h.positive; omega
  have hzero : ¬ (decide (v = 0) && !isReference c) = true := by
    rw [decide_eq_false (by have := h.positive; omega)]
    exact Bool.false_ne_true
  have hheard : Shot.blankedAt { x with detector := d } v = false := h.heard
  unfold Machine.coincidence
  simp only [if_neg hneg, if_neg hzero, h.segment, decide_eq_true h.held, hheard]
  rfl

@[simp] theorem getChan_tookFree (s : State) (c : Nat) : getChan (tookFree s) c = getChan s c := rfl

/-- The coincidence of an avalanche in the gate, one that qualifies and one that does not. -/
theorem spadEvent_inGate {c n sub g : Nat} {x : Shot} {s : State} (hm : (maskOf s c).getLsbD n = false)
    (hb : (getChan s c).blind.get 0 n ≤ avalancheTime sub s) (hx : (getChan s c).shot = some x)
    (hg : InGate x g (x.counter s.now)) :
    (qualifies (blinded c n sub s) x (takeEvent x.detector n (avalancheTime sub s)) = true →
      (getChan (spadEvent c n sub s) c).shot = none ∧
      (getChan (spadEvent c n sub s) c).results.getLast?.map (fun r => r.word) =
        some (resultWord c x outStop g (x.counter s.now).toNat)) ∧
    (qualifies (blinded c n sub s) x (takeEvent x.detector n (avalancheTime sub s)) = false →
      (getChan (spadEvent c n sub s) c).shot = some { x with detector := takeEvent x.detector n (avalancheTime sub s) } ∧
      (getChan (spadEvent c n sub s) c).results = (getChan s c).results) := by
  rw [spadEvent_of_heard hm hb]
  simp only [hx, hg.counts c, if_true]
  refine ⟨fun hq => ?_, fun hq => ?_⟩
  · rw [if_pos hq, getChan_tookFree, hg.coincidence, getChan_finishShot_same, finishedChan_last]
    exact ⟨rfl, rfl⟩
  · rw [if_neg (Bool.not_eq_true _ ▸ hq), getChan_tookFree, getChan_setChan_same, blinded, getChan_setChan_same]
    exact ⟨rfl, rfl⟩

/-- However an avalanche that is heard ends, its SPAD is blind. -/
theorem spadEvent_blind {c n sub : Nat} {s : State} (hm : (maskOf s c).getLsbD n = false)
    (hb : (getChan s c).blind.get 0 n ≤ avalancheTime sub s) :
    (getChan (spadEvent c n sub s) c).blind = (getChan s c).blind.set n (avalancheTime sub s + blindTime s c) := by
  have hblind : (getChan (blinded c n sub s) c).blind = (getChan s c).blind.set n (avalancheTime sub s + blindTime s c) := by
    rw [blinded, getChan_setChan_same]
  have hcoin : ∀ y v, (getChan (coincidence c y v (blinded c n sub s)) c).blind = (getChan (blinded c n sub s) c).blind := by
    intro y v
    unfold coincidence
    split
    · rw [getChan_setChan_same]
    · extract_lets put inGate z
      split
      · rw [getChan_finishShot_same]
        rfl
      · rw [getChan_setChan_same]
  rw [spadEvent_of_heard hm hb]
  split
  · exact hblind
  · split
    · split
      · rw [getChan_tookFree, hcoin, hblind]
      · rw [getChan_tookFree, getChan_setChan_same]
        exact hblind
    · exact hblind

/-- With K above 1 the span of the latest events decides, outside the 62.5 ps about the window. -/
theorem qualifies_of_many {x : Shot} (hk : 1 < x.k) (s : State) (d : List (Nat × Nat)) :
    (eventSpan d x.k = none → qualifies s x d = false) ∧
    ∀ span, eventSpan d x.k = some span → (512 * x.win + 256 ≤ span → qualifies s x d = false) ∧
      (span + 256 ≤ 512 * x.win → qualifies s x d = true) := by
  have hmany : decide (x.k ≤ 1) = false := decide_eq_false (Nat.not_le.mpr hk)
  refine ⟨fun h => ?_, fun span h => ⟨fun hwide => ?_, fun hclose => ?_⟩⟩
  · simp [qualifies, hmany, h]
  · simp [qualifies, hmany, h, spanQualifies, hwide]
  · have hnot : ¬ 512 * x.win + 256 ≤ span := by omega
    simp [qualifies, hmany, h, spanQualifies, hnot, hclose]

/-- An avalanche of a SPAD that is neither masked nor blind. -/
theorem yields_avalanche {t c n sub : Nat} {s : State} (hs : awake t s = true) (hn : n < 16) (hc : c < 1552)
    (hm : (maskOf s c).getLsbD n = false) (hb : (getChan s c).blind.get 0 n ≤ 1024 * max s.now t + sub % 1024) :
    Yields (exec (.spadEvent t c n sub) s) (fun u =>
      (getChan u c).blind.get 0 n = 1024 * max s.now t + sub % 1024 + blindTime s c ∧
      ∀ x g, (getChan s c).shot = some x → InGate x g (x.counter (max s.now t)) →
        (qualifies (blinded c n sub (begin t s)) x (takeEvent x.detector n (1024 * max s.now t + sub % 1024)) = true →
          (getChan u c).shot = none ∧ ((getChan u c).results.getLast?.map (fun r => r.word)) =
            some (resultWord c x outStop g (x.counter (max s.now t)).toNat)) ∧
        (qualifies (blinded c n sub (begin t s)) x (takeEvent x.detector n (1024 * max s.now t + sub % 1024)) = false →
          (getChan u c).shot = some { x with detector := takeEvent x.detector n (1024 * max s.now t + sub % 1024) } ∧
          (getChan u c).results = (getChan s c).results)) := by
  have hexec : exec (.spadEvent t c n sub) s =
      act t s (fun u => if c < 1552 ∧ n < 16 then spadEvent c n sub u else u) := rfl
  rw [hexec]
  refine yields_act hs ?_
  rw [if_pos ⟨hc, hn⟩, getChan_settle, spadEvent_blind (s := begin t s) hm hb, Tab.get_set_same]
  exact ⟨rfl, fun x g hx hg => spadEvent_inGate (s := begin t s) hm hb hx hg⟩

/-! ### RX_CNT_SEL -/

theorem selectCounters_of {v : W32} (h : fld v 10 0 ≤ 1551) (p : Path) (s : State) : (selectCounters p v s).2 =
    { s with rx := { s.rx with
      cntSel := merge 0x800007FF#32 s.rx.cntSel v
      cntStop := 0, cntNoret := 0, cntCut := 0, cntVoid := 0, cntWref := 0, cntPre := 0 } } := by
  rw [selectCounters, if_neg (Nat.not_lt.mpr h)]

theorem selectCounters_of_range {v : W32} (h : 1551 < fld v 10 0) (p : Path) (s : State) :
    (selectCounters p v s).2 = violation p cntSelAddr kindRange s := by
  rw [selectCounters, if_pos h]

/-! ### The statement -/

/-- A shot whose last segment has ended. -/
theorem yields_timeout {t c : Nat} {x : Shot} {s : State} (hs : awake t s = true) (hx : (getChan s c).shot = some x)
    (hl : (x.lastTick : Int) < x.counter (max s.now t)) :
    Yields (exec (.shotTimeout t c) s) (fun u => (getChan u c).shot = none ∧
      (getChan u c).results.length = (getChan s c).results.length + 1 ∧
      ((getChan u c).results.getLast?.map (fun r => wordOutcome r.word)) = some outNoReturn) := by
  have hexec : exec (.shotTimeout t c) s = act t s (shotTimeout c) := rfl
  have hx' : (getChan (begin t s) c).shot = some x := hx
  have hends : shotTimeout c (begin t s) = finishShot c x outNoReturn 0 0 (begin t s) := by
    simp only [shotTimeout, hx']
    exact if_pos hl
  rw [hexec]
  refine yields_act hs ?_
  rw [hends, getChan_settle, getChan_finishShot_same]
  refine ⟨rfl, ?_, ?_⟩
  · exact List.length_append.trans rfl
  · have hlast := finishedChan_last c x outNoReturn 0 0 (begin t s)
    have houtcome := congrArg (Option.map wordOutcome) hlast
    rw [Option.map_map, Option.map_some, wordOutcome_resultWord c x (by decide)] at houtcome
    exact houtcome

/-- Settles O33: listening intervals, timeouts, avalanches with their coincidences, and the counter selection. -/
theorem shotResults : Obligations.ShotResults := by
  refine ⟨fun t c x s hs hx => ?listening, fun t c s hs => ?shots, fun t p v s hs hp => ?counters⟩
  case listening =>
    have hopen : ∀ i, exec (.listenOpen t c i) s = act t s (listenOpen c i) := fun _ => rfl
    have hring : exec (.ringHoldEnd t c) s = act t s (ringHoldEnd c) := rfl
    have hblank : exec (.blankIntervalEnd t c) s = act t s (blankEnd c) := rfl
    refine ⟨fun hv hc => ?_, fun g hg ht => ?_, fun hv => ?_, fun b hb hv => ?_⟩
    · exact (yields_putShot hs (hopen _) (listenOpen_tick0 (s := begin t s) hx hv hc)).imp fun _ ⟨hshot, _, hl⟩ => ⟨hshot, hl⟩
    · exact (yields_putShot hs (hopen _) (listenOpen_segment (s := begin t s) hx hg ht)).imp fun _ ⟨hshot, _, hl⟩ => ⟨hshot, hl⟩
    · exact yields_putShot hs hring (clearDetector_of (s := begin t s) hx (decide_eq_true hv))
    · refine yields_putShot hs hblank (clearDetector_of (s := begin t s) hx ?_)
      exact List.any_eq_true.mpr ⟨b, hb, decide_eq_true hv⟩
  case shots =>
    have hdue := (awake_iff.mp hs).2
    have hexec : ∀ n sub, exec (.spadEvent t c n sub) s =
        act t s (fun u => if c < 1552 ∧ n < 16 then spadEvent c n sub u else u) := fun _ _ => rfl
    refine ⟨fun x hx hl => yields_timeout hs hx hl, fun n sub hn hc hm => ?_, fun n sub hn hc hb => ?_,
      fun n sub hn hc hm hb => ?_⟩
    · rw [hexec]
      exact yields_no_effect ((if_pos ⟨hc, hn⟩).trans (spadEvent_of_deaf (s := begin t s) (.inl hm))) hdue
    · rw [hexec]
      exact yields_no_effect ((if_pos ⟨hc, hn⟩).trans (spadEvent_of_deaf (s := begin t s) (.inr hb))) hdue
    · refine (yields_avalanche hs hn hc hm hb).imp fun u ⟨hblind, hgate⟩ => ⟨hblind, ?_, ?_⟩
      · intro x g hx hi hk hpos hseg hhold hclear
        refine (hgate x g hx ⟨hi, hpos, hseg, hhold, hclear⟩).1 ?_
        rw [qualifies, decide_eq_true hk, Bool.true_or]
      · intro x g hx hi hk hpos hseg hhold hclear
        obtain ⟨hstop, hon⟩ := hgate x g hx ⟨hi, hpos, hseg, hhold, hclear⟩
        obtain ⟨hfew, hspan⟩ := qualifies_of_many hk (blinded c n sub (begin t s))
          (takeEvent x.detector n (1024 * max s.now t + sub % 1024))
        exact ⟨fun h => hon (hfew h), fun span h => ⟨fun hw => hon ((hspan span h).1 hw), fun hw => hstop ((hspan span h).2 hw)⟩⟩
  case counters =>
    have hexec : exec (.rxCntSelWrite t p v) s = act t s (onPath p (fun u => (selectCounters p v u).2)) := rfl
    refine ⟨fun hr => ?_, fun hr => ?_⟩
    · rw [hexec]
      refine yields_act hs ?_
      rw [onPath_of_ne hp, selectCounters_of hr, settle_rx]
      exact ⟨rfl, rfl, rfl, rfl, rfl, rfl, rfl, _, rfl, rfl⟩
    · rw [hexec]
      refine yields_act hs ?_
      rw [onPath_of_ne hp, selectCounters_of_range hr]
      exact ⟨leaves_violation t p _ _ s, settle_cb_violKind _ _, settle_violation_addr _ _ _ _ _⟩

end Sys2Proof.Machine
end

section
/-! R451 to R466: calibration runs, their judgement, the updates of entries, bias and eyes. -/

namespace Sys2Proof.Machine

/-! ### Runs -/

theorem runTap_of_run {s : State} (h : s.cal.tapRun = true) : runTap s = s := if_pos h
theorem runTap_of_idle {s : State} (h : s.cal.tapRun = false) : runTap s = startTapRun s :=
  if_neg (Bool.not_eq_true _ ▸ h)

theorem standbyRun_of {s : State} (h : inStandby s = true) (p : Path) (f : State → State) : standbyRun p f s = f s := if_pos h
theorem standbyRun_of_not {s : State} (h : inStandby s = false) (p : Path) (f : State → State) :
    standbyRun p f s = violation p calCtrlAddr kindRule s := if_neg (Bool.not_eq_true _ ▸ h)

/-- RUN_TAP, RUN_CONV. -/
theorem yields_anyRun {t : Nat} {p : Path} {s : State} (hs : awake t s = true) (hp : p ≠ .tap) :
    Yields (exec (.calRunTap t p) s) (fun u => u.cal.tapRun = true ∧
      (s.cal.tapRun = true → u.cal = s.cal) ∧ Leaves t s u (fun x => { x with cal := {} })) ∧
    Yields (exec (.calRunConv t p) s) (fun u => u.cal.convRun = true ∧ u.cal.convCodes = [] ∧
      Leaves t s u (fun x => { x with cal := { x.cal with convRun := false, convCodes := [], convFirst := [] } })) := by
  have htap : exec (.calRunTap t p) s = act t s (onPath p runTap) := rfl
  have hconv : exec (.calRunConv t p) s = act t s (onPath p runConv) := rfl
  refine ⟨?_, ?_⟩
  · rw [htap]
    refine yields_act hs ?_
    rw [onPath_of_ne hp, settle_cal]
    cases hrun : s.cal.tapRun with
    | true =>
      rw [runTap_of_run (s := begin t s) hrun]
      exact ⟨hrun, fun _ => rfl, _, rfl, rfl⟩
    | false =>
      rw [runTap_of_idle (s := begin t s) hrun]
      exact ⟨rfl, fun h => absurd h Bool.noConfusion, _, rfl, rfl⟩
  · rw [hconv]
    refine yields_act hs ?_
    rw [onPath_of_ne hp, settle_cal]
    exact ⟨rfl, rfl, _, rfl, rfl⟩

/-- RUN_SKEW and RUN_BD, which only Standby takes. -/
theorem yields_standbyRun {t : Nat} {p : Path} {s : State} (hs : awake t s = true) (hp : p ≠ .tap) :
    (inStandby s = true → Yields (exec (.calRunSkew t p) s) (fun u => u.cal.skewRun = true ∧ u.cal.wlShots = [] ∧
      Leaves t s u (fun x => { x with cal := { x.cal with skewRun := false, wlShots := [], entries := [] } }))) ∧
    (inStandby s = true → Yields (exec (.calRunBd t p) s) (fun u => u.cal.bdRun = true ∧ u.rx.biasOk = false ∧
      ∀ c, (getChan u c).shot = none)) ∧
    (inStandby s = false → ∀ c ∈ [Instr.calRunSkew t p, .calRunBd t p], Yields (exec c s) (fun u =>
      Leaves t s u boardOnly ∧ u.cb.violKind = kindRule ∧ u.cb.violAddr = 0x000D0000#32)) := by
  have hskew : exec (.calRunSkew t p) s = act t s (onPath p (standbyRun p startSkew)) := rfl
  have hbd : exec (.calRunBd t p) s = act t s (onPath p (standbyRun p startSearch)) := rfl
  refine ⟨fun hm => ?_, fun hm => ?_, fun hm c hc => ?_⟩
  · rw [hskew]
    refine yields_act hs ?_
    rw [onPath_of_ne hp, standbyRun_of (s := begin t s) hm, settle_cal]
    exact ⟨rfl, rfl, _, rfl, rfl⟩
  · rw [hbd]
    refine yields_act hs ?_
    have hshots := voidShots_none (biasDown { begin t s with cal := { s.cal with bdRun := true, bdFirst := none } })
    have hframe := voidShots_shotFrame (biasDown { begin t s with cal := { s.cal with bdRun := true, bdFirst := none } })
    have heq : startSearch (begin t s) =
        voidShots (biasDown { begin t s with cal := { s.cal with bdRun := true, bdFirst := none } }) := rfl
    rw [onPath_of_ne hp, standbyRun_of (s := begin t s) hm, heq]
    simp only [settle_cal, settle_rx, getChan_settle]
    exact ⟨eq_of_shotFrame hframe (fun x => x.cal.bdRun) fun _ => rfl,
      eq_of_shotFrame hframe (fun x => x.rx.biasOk) fun _ => rfl, hshots⟩
  · have hshut : ∀ f, Yields (act t s (onPath p (standbyRun p f))) (fun u =>
        Leaves t s u boardOnly ∧ u.cb.violKind = kindRule ∧ u.cb.violAddr = 0x000D0000#32) := by
      intro f
      refine yields_act hs ?_
      rw [onPath_of_ne hp, standbyRun_of_not (s := begin t s) hm]
      exact ⟨leaves_violation t p _ _ s, settle_cb_violKind _ _, settle_violation_addr _ _ _ _ _⟩
    simp only [List.mem_cons, List.not_mem_nil, or_false] at hc
    rcases hc with rfl | rfl
    · rw [hskew]; exact hshut _
    · rw [hbd]; exact hshut _

/-! ### Entries -/

theorem entry_updEntry_same (k : Nat) (f : CalEntry → CalEntry) (s : State) :
    (updEntry k f s).cal.entries.get {} k = f (s.cal.entries.get {} k) := Tab.get_upd_same _ _ _ _

/-- A rejected quantity counts, is marked, sets the event, and leaves everything else. -/
structure Rejected (q : Nat) (s u : State) : Prop where
  counts : u.cal.cntRej = inc32 s.cal.cntRej
  marked : u.cal.lastRej.getLsbD q = true
  event : u.cb.event.getLsbD evCalibration = true
  rest : u = { s with cal := { s.cal with lastRej := u.cal.lastRej, cntRej := u.cal.cntRej }, cb := u.cb, recent := u.recent }

theorem rejectCal_rejected {q : Nat} (hq : q < 6) (s : State) : Rejected q s (rejectCal q s) := by
  refine ⟨rfl, ?_, setEvent_event _ (by decide) _, rfl⟩
  have hrej : (rejectCal q s).cal.lastRej = s.cal.lastRej ||| (1#6 <<< q) := rfl
  rw [hrej, BitVec.getLsbD_or]
  interval_cases q <;> simp

theorem judgeEntry_reject {k : Nat} (hk : 64 ≤ k) (s : State) :
    judgeEntry k none none false s = rejectCal 2 (updEntry k (fun e => { e with state := 3 }) s) := by
  have hno : ¬ k < 64 := Nat.not_lt.mpr hk
  simp only [judgeEntry, if_neg hno]

theorem skewRunEnds_cal (s : State) : ∃ x, skewRunEnds s = { s with cal := { s.cal with skewRun := x } } := by
  unfold skewRunEnds
  split
  · exact ⟨_, rfl⟩
  · exact ⟨_, rfl⟩

/-- An entry without a stop in its coarse pass. -/
theorem yields_blindEntry {t k : Nat} {s : State} (hs : awake t s = true) (hk : 64 ≤ k) (hk' : k < 1616)
    (hc : calibrating s = true) (hb : (s.cal.entries.get {} k).blind = true) :
    Yields (exec (.calEntryComplete t k) s) (fun u => (u.cal.entries.get {} k).state = 3 ∧
      u.cal.lastRej.getLsbD 2 = true ∧ u.cal.cntRej = inc32 s.cal.cntRej ∧
      u.cb.event.getLsbD evCalibration = true ∧ Leaves t s u (fun x => { x with cal := {}, cb := {} })) := by
  have hexec : exec (.calEntryComplete t k) s = act t s (entryComplete k) := rfl
  have hgo : (decide (k < 1616) && calibrating (begin t s)) = true := by
    have hc' : calibrating (begin t s) = true := hc
    rw [decide_eq_true hk', hc']
    rfl
  have hblind : ((begin t s).cal.entries.get {} k).blind = true := hb
  rw [hexec]
  refine yields_act hs ?_
  rw [entryComplete, if_pos hgo, completeEntry, if_pos hblind, judgeEntry_reject hk]
  obtain ⟨hcount, hmark, hevent, hrest⟩ := rejectCal_rejected (q := 2) (by decide)
    (updEntry k (fun e => { e with state := 3 }) (begin t s))
  have hentry : ((rejectCal 2 (updEntry k (fun e => { e with state := 3 }) (begin t s))).cal.entries.get {} k).state = 3 :=
    congrArg CalEntry.state (entry_updEntry_same k (fun e => { e with state := 3 }) (begin t s))
  generalize rejectCal 2 _ = w at hcount hmark hevent hrest hentry
  obtain ⟨x, hx⟩ := skewRunEnds_cal w
  rw [hx, settle_cal]
  refine ⟨hentry, hmark, hcount, settle_keeps_event hevent, _, rfl, ?_⟩
  exact congrArg (fun y : State => { y with cal := {}, cb := {}, recent := {} }) hrest

/-! ### Eyes -/

theorem smallestEye_of {v : Lane} {w : List Nat} {a : Nat} (hl : w.length = if v.rate = 0 then 1 else 3) (ha : a ∈ w)
    (hmin : ∀ x ∈ w, a ≤ x) : smallestEye v w = min a 65535 := by
  have htake : w.take (eyeCount v) = w := List.take_of_length_le (Nat.le_of_eq hl)
  have hsmall : w.min? = some a := List.min?_eq_some_iff.mpr ⟨ha, hmin⟩
  rw [smallestEye, htake, hsmall, Nat.min_comm]
  rfl

/-- A lane in ACTIVE is measured. -/
theorem yields_eyes {t l a b : Nat} {w h : List Nat} {s : State} (hs : awake t s = true) (hl : l < 4)
    (hactive : (getLane s l).state = .active)
    (hdue : ∀ e, (getLane s l).eyeAt = some e → e < (getLane s l).since ∨ e + 100 * msTicks ≤ max s.now t)
    (hw : w.length = (if (getLane s l).rate = 0 then 1 else 3)) (hh : h.length = w.length)
    (ha : a ∈ w) (hamin : ∀ x ∈ w, a ≤ x) (hb : b ∈ h) (hbmin : ∀ x ∈ h, b ≤ x) :
    Yields (exec (.eyeMonitor t l w h) s) (fun u =>
      (getLane u l).eyeW = min a 65535 ∧ (getLane u l).eyeH = min b 65535 ∧ (getLane u l).eyeAt = some (max s.now t) ∧
      (∀ m, m ≠ l → getLane u m = getLane s m) ∧ Leaves t s u (fun x => { x with ln := { x.ln with lanes := [] } })) := by
  have hexec : exec (.eyeMonitor t l w h) s = act t s (eyeMeasured l w h) := rfl
  have hnow : eyeDue (begin t s) l = true := by
    have hlane : getLane (begin t s) l = getLane s l := rfl
    have hpassed : (getLane s l).eyeAt.all
        (fun e => decide (e < (getLane s l).since) || decide (e + 100 * msTicks ≤ (begin t s).now)) = true := by
      cases he : (getLane s l).eyeAt with
      | none => rfl
      | some e =>
        rw [Option.all_some, Bool.or_eq_true]
        exact (hdue e he).imp decide_eq_true decide_eq_true
    simp only [eyeDue, hlane, decide_eq_true hl, hactive, hpassed]
    rfl
  have hwide : smallestEye (getLane (begin t s) l) w = min a 65535 := smallestEye_of hw ha hamin
  have hhigh : smallestEye (getLane (begin t s) l) h = min b 65535 := smallestEye_of (hh.trans hw) hb hbmin
  rw [hexec]
  refine yields_act hs ?_
  rw [eyeMeasured, if_pos hnow]
  simp only [getLane_settle, getLane_updLane_same]
  refine ⟨hwide, hhigh, rfl, fun m hm => ?_, _, rfl, rfl⟩
  rw [getLane_updLane_other hm]
  rfl

/-- A lane measured less than 100 ms ago in this ACTIVE. -/
theorem eyeDue_of_recent {l e : Nat} {s : State} (he : (getLane s l).eyeAt = some e) (hsince : (getLane s l).since ≤ e)
    (hlt : s.now < e + 100 * msTicks) : eyeDue s l = false := by
  have hold : (getLane s l).eyeAt.all
      (fun e => decide (e < (getLane s l).since) || decide (e + 100 * msTicks ≤ s.now)) = false := by
    rw [he, Option.all_some, decide_eq_false (Nat.not_lt.mpr hsince), decide_eq_false (Nat.not_le.mpr hlt)]
    rfl
  rw [eyeDue, hold, Bool.and_false]

/-- Settles O35: the runs of CAL_CTRL and the recalibration, and the updates of entries, bias and eyes. -/
theorem calibrationRunsAndUpdates : Obligations.CalibrationRunsAndUpdates := by
  refine ⟨fun t p s hs hp => ?runs, fun t s hs => ?updates⟩
  case runs =>
    have hexec : exec (.tapRecalTrigger t) s = act t s (fun u => if tapRecalDue u then startTapRun u else u) := rfl
    obtain ⟨htap, hconv⟩ := yields_anyRun hs hp
    obtain ⟨hskew, hbd, hshut⟩ := yields_standbyRun hs hp
    refine ⟨htap, hconv, hskew, hbd, hshut, fun hd => ?_, fun hd => ?_⟩
    · rw [hexec]
      refine yields_act hs ?_
      rw [if_pos hd, settle_cal]
      exact ⟨rfl, rfl, _, rfl, rfl⟩
    · rw [hexec]
      exact yields_no_effect (if_neg (Bool.not_eq_true _ ▸ hd)) (awake_iff.mp hs).2
  case updates =>
    have hdue := (awake_iff.mp hs).2
    have hremeasure : ∀ b, exec (.edelayRemeasure t b) s =
        act t s (fun u => if b < 64 && calibrating u && remeasureDue u b then restartEntry b u else u) := fun _ => rfl
    have hbias : exec (.biasTargetUpdate t) s = act t s (fun u => if biasDue u then updateBias u else u) := rfl
    refine ⟨fun k hk hk' hc hb => yields_blindEntry hs hk hk' hc hb, fun k hc => ?_, fun b hc => ?_, fun b hb hc hd => ?_,
      fun hd hsound => ?_, fun l w h a b hl hactive he hw hh ha hamin hb hbmin =>
        yields_eyes hs hl hactive he hw hh ha hamin hb hbmin, fun l w h e he hsince hlt => ?_⟩
    · have hexec : exec (.calEntryComplete t k) s = act t s (entryComplete k) := rfl
      have hc' : calibrating (begin t s) = false := hc
      rw [hexec]
      refine yields_no_effect (if_neg ?_) hdue
      rw [hc', Bool.and_false]
      exact Bool.false_ne_true
    · have hc' : calibrating (begin t s) = false := hc
      rw [hremeasure]
      refine yields_no_effect (if_neg ?_) hdue
      rw [hc', Bool.and_false, Bool.false_and]
      exact Bool.false_ne_true
    · have hgo : (decide (b < 64) && calibrating (begin t s) && remeasureDue (begin t s) b) = true := by
        have hc' : calibrating (begin t s) = true := hc
        rw [decide_eq_true hb, hc', hd]
        rfl
      rw [hremeasure]
      refine yields_act hs ?_
      rw [if_pos hgo, settle_cal]
      exact ⟨entry_updEntry_same b _ (begin t s), rfl, _, rfl, rfl⟩
    · have hsound' : ¬ ((begin t s).th.spots.get {} 2).broken = true := Bool.not_eq_true _ ▸ hsound
      rw [hbias]
      refine yields_act hs ?_
      rw [if_pos hd, updateBias, if_neg hsound', settle_cal]
      exact ⟨rfl, rfl, _, rfl, rfl⟩
    · have hexec : exec (.eyeMonitor t l w h) s = act t s (eyeMeasured l w h) := rfl
      rw [hexec]
      exact yields_no_effect (if_neg (Bool.not_eq_true _ ▸ eyeDue_of_recent (s := begin t s) he hsince hlt)) hdue

/-! ### The judgement of a run -/

/-- The state of a code-density run's end. -/
def densityCounted (counts : List Nat) (s : State) : State := { s with cal := { s.cal with tapCounts := counts } }
def densityOver (counts : List Nat) (s : State) : State :=
  { s with cal := { s.cal with tapCounts := counts, tapRun := false, tapFirst := none } }

theorem densityRunEnd_first {counts : List Nat} {s : State} (hr : s.cal.tapRun = true) (hf : s.cal.tapFirst = none) :
    densityRunEnd counts s =
      { s with cal := { s.cal with tapCounts := counts, tapFirst := some (tapsOfCounts counts) } } := by
  have hon : ¬ (!s.cal.tapRun) = true := by rw [hr]; exact Bool.false_ne_true
  simp only [densityRunEnd, if_neg hon, hf]

theorem densityRunEnd_repeat {counts : List Nat} {a : List Int} {s : State} (hr : s.cal.tapRun = true)
    (hf : s.cal.tapFirst = some a) :
    densityRunEnd counts s = judgeTaps a (tapsOfCounts counts) (densityOver counts s) := by
  have hon : ¬ (!s.cal.tapRun) = true := by rw [hr]; exact Bool.false_ne_true
  simp only [densityRunEnd, if_neg hon, hf]
  rfl

theorem judgeTaps_of_implausible {a b : List Int} (h : tapsPlausible b = false) (s : State) : judgeTaps a b s = rejectCal 0 s := by
  refine if_neg ?_
  rw [h, Bool.and_false, Bool.false_and]
  exact Bool.false_ne_true

/-- The tap positions that a set gives with itself. -/
def ownTaps (a : List Int) : Tab Int :=
  (List.range 32).map (fun p => (p, ((List.range 32).map (fun p => meanOf (a.getD p 0) (a.getD p 0))).getD p 0))

/-- A set agrees with itself. -/
theorem judgeTaps_same {a : List Int} (h : tapsPlausible a = true) (s : State) : ∃ w, judgeTaps a a s = acceptCal 0 w ∧
    w.cal.newTaps = some (coreCycle s.now, ownTaps a) ∧ w.fs = s.fs ∧ w.cal.tapRun = s.cal.tapRun := by
  have hagree : (List.range 32).all (fun p => within (a.getD p 0) (a.getD p 0) 2) = true :=
    List.all_eq_true.mpr fun p _ => by simp [within]
  have hgo : (tapsPlausible a && tapsPlausible a && (List.range 32).all (fun p => within (a.getD p 0) (a.getD p 0) 2)) = true := by
    rw [h, hagree]
    rfl
  exact ⟨_, if_pos hgo, rfl, rfl, rfl⟩

/-- A table over a list of keys reads its function. -/
theorem Tab.get_map_keys {α : Type} {l : List Nat} {k : Nat} (hk : k ∈ l) (f : Nat → α) (d : α) :
    Tab.get (l.map (fun p => (p, f p))) d k = f k := by
  induction l with
  | nil => exact absurd hk List.not_mem_nil
  | cons a r ih =>
    by_cases h : a = k
    · simp [Tab.get, h]
    · have hr : k ∈ r := (List.mem_cons.mp hk).resolve_left (Ne.symm h)
      simpa [Tab.get, h] using ih hr

theorem even_low_bits (a b c d : Bool) (q : BitVec 6) :
    (BitVec.ofNat 6 (bn false + 2 * bn a + 4 * bn b + 8 * bn c + 16 * bn d) ||| (q &&& 0x20#6)).getLsbD 0 = false := by
  rw [BitVec.getLsbD_or, BitVec.getLsbD_and]
  cases a <;> cases b <;> cases c <;> cases d <;> simp [bn]

/-- Taps that are accepted while no scene runs apply at once. -/
theorem acceptCal_taps {s : State} {x : Nat × Tab Int} (h : s.cal.newTaps = some x) (hidle : s.fs.sceneRun = false) :
    (acceptCal 0 s).cal.taps = x.2 ∧ (acceptCal 0 s).cal.valid.getLsbD 0 = true ∧
    (acceptCal 0 s).cal.tapRun = s.cal.tapRun ∧ (acceptCal 0 s).cal.pendingQ.getLsbD 0 = false := by
  have heq : acceptCal 0 s = applyAll { s with cal := { s.cal with
      lastRej := s.cal.lastRej &&& ~~~(1#6 <<< 0), valid := s.cal.valid ||| (1#6 <<< 0)
      pendingQ := s.cal.pendingQ ||| (1#6 <<< 0) } } := if_neg (Bool.not_eq_true _ ▸ hidle)
  rw [heq]
  refine ⟨?_, ?_, rfl, ?_⟩
  · simp only [applyAll, applyCal, h]
    rfl
  · simp only [applyAll, applyCal, BitVec.getLsbD_or]
    simp
  · simp only [applyAll, applyCal, Cal.pendingBits, h]
    exact even_low_bits _ _ _ _ _

/-- The end of a code-density run. -/
theorem yields_density {t : Nat} {s : State} (hs : awake t s = true) :
    (∀ counts, s.cal.tapRun = true → s.cal.tapFirst = none → Yields (exec (.codeDensityRunEnd t counts) s) (fun u =>
      u.cal.tapFirst = some (tapsOfCounts counts) ∧ u.cal.tapRun = true ∧ u.cal.taps = s.cal.taps ∧
      Leaves t s u (fun x => { x with cal := { x.cal with tapFirst := none, tapCounts := [] } }))) ∧
    (∀ counts a, s.cal.tapRun = true → s.cal.tapFirst = some a → tapsPlausible (tapsOfCounts counts) = false →
      Yields (exec (.codeDensityRunEnd t counts) s) (fun u => u.cal.tapRun = false ∧ u.cal.taps = s.cal.taps ∧
        u.cal.cntRej = inc32 s.cal.cntRej ∧ u.cal.lastRej.getLsbD 0 = true ∧
        u.cb.event.getLsbD evCalibration = true ∧ Leaves t s u (fun x => { x with cal := {}, cb := {} }))) ∧
    (∀ counts a, s.cal.tapRun = true → s.cal.tapFirst = some a → a = tapsOfCounts counts → tapsPlausible a = true →
      s.fs.sceneRun = false → Yields (exec (.codeDensityRunEnd t counts) s) (fun u => u.cal.tapRun = false ∧
        u.cal.valid.getLsbD 0 = true ∧ u.cal.pendingQ.getLsbD 0 = false ∧
        (∀ p < 32, u.cal.taps.get 0 p = meanOf (a.getD p 0) (a.getD p 0)))) := by
  have hexec : ∀ counts, exec (.codeDensityRunEnd t counts) s = act t s (densityRunEnd counts) := fun _ => rfl
  refine ⟨fun counts hr hf => ?_, fun counts a hr hf himp => ?_, fun counts a hr hf ha hok hidle => ?_⟩
  · rw [hexec]
    refine yields_act hs ?_
    rw [densityRunEnd_first (s := begin t s) hr hf, settle_cal]
    exact ⟨rfl, hr, rfl, _, rfl, rfl⟩
  · rw [hexec]
    refine yields_act hs ?_
    rw [densityRunEnd_repeat (s := begin t s) hr hf, judgeTaps_of_implausible himp, settle_cal]
    obtain ⟨hcount, hmark, hevent, -⟩ := rejectCal_rejected (q := 0) (by decide) (densityOver counts (begin t s))
    exact ⟨rfl, rfl, hcount, hmark, settle_keeps_event hevent, _, rfl, rfl⟩
  · rw [hexec]
    refine yields_act hs ?_
    rw [densityRunEnd_repeat (s := begin t s) hr hf, ← ha]
    obtain ⟨w, hw, hnew, hfs, hrun⟩ := judgeTaps_same hok (densityOver counts (begin t s))
    have hidle' : w.fs.sceneRun = false := by rw [hfs]; exact hidle
    obtain ⟨htaps, hvalid, hkept, hpend⟩ := acceptCal_taps hnew hidle'
    rw [hw, settle_cal]
    refine ⟨hkept.trans hrun, hvalid, hpend, fun p hp => ?_⟩
    rw [htaps, ownTaps, Tab.get_map_keys (List.mem_range.mpr hp), List.getD_eq_getElem?_getD, List.getElem?_map,
      List.getElem?_range hp]
    rfl

/-! ### Breakdown searches -/

/-- A search none of whose steps fired half of the SPADs finds nothing. -/
theorem searchFound_none {s : State} {fired : List Nat}
    (h : ∀ (i f : Nat), i < 61 → fired[i]? = some f → 2 * f < unmaskedSpads s) : searchFound s fired = none := by
  have hnone : ((List.range 61).zip fired).find? (fun q => decide (unmaskedSpads s ≤ 2 * q.2)) = none := by
    refine List.find?_eq_none.mpr fun q hq => ?_
    obtain ⟨i, hi⟩ := List.mem_iff_getElem?.mp hq
    obtain ⟨hrange, hfired⟩ := List.getElem?_zip_eq_some.mp hi
    obtain ⟨hlt, -⟩ := List.getElem?_eq_some_iff.mp hrange
    have hsmall := h i q.2 (by rw [List.length_range] at hlt; exact hlt) hfired
    simp [hsmall]
  rw [searchFound, hnone, Option.map_none]

/-- The first of the steps at which half of the SPADs fired. -/
theorem searchFound_some {s : State} {fired : List Nat} {i f : Nat} (hi : i < 61) (hf : fired[i]? = some f)
    (hhalf : unmaskedSpads s ≤ 2 * f) (hfirst : ∀ (j g : Nat), j < i → fired[j]? = some g → 2 * g < unmaskedSpads s) :
    searchFound s fired = some (s.otp.vbd - 1500 + 50 * (i : Int)) := by
  have hfind : ((List.range 61).zip fired).find? (fun q => decide (unmaskedSpads s ≤ 2 * q.2)) = some (i, f) := by
    obtain ⟨hlen, hget⟩ := List.getElem?_eq_some_iff.mp hf
    have hzip : i < ((List.range 61).zip fired).length := by
      rw [List.length_zip, List.length_range]
      omega
    refine List.find?_eq_some_iff_getElem.mpr ⟨decide_eq_true hhalf, i, hzip, ?_, fun j hj => ?_⟩
    · rw [List.getElem_zip, List.getElem_range, hget]
    · have hsmall := hfirst j _ hj (List.getElem?_eq_getElem (by omega))
      rw [List.getElem_zip]
      simpa using hsmall
  rw [searchFound, hfind, Option.map_some]

theorem searchEnd_first {fired : List Nat} {s : State} (hr : s.cal.bdRun = true) (hf : s.cal.bdFirst = none) :
    searchEnd fired s = match searchFound s fired with
      | none => rejectCal 3 { s with cal := { s.cal with bdRun := false } }
      | some mv => { s with cal := { s.cal with bdFirst := some (some (referBreakdown s mv (s.th.spots.get {} 2).tj)) } } := by
  have hon : ¬ (!s.cal.bdRun) = true := by rw [hr]; exact Bool.false_ne_true
  simp only [searchEnd, if_neg hon, hf]
  cases searchFound s fired <;> rfl

/-- Settles O36: a run's first result waits, its repeat is judged with it, and a search finds the first step. -/
theorem calibrationJudged : Obligations.CalibrationJudged := by
  intro t s hs
  obtain ⟨hwait, hreject, haccept⟩ := yields_density hs
  have hexec : ∀ fired, exec (.breakdownSearchEnd t fired) s = act t s (searchEnd fired) := fun _ => rfl
  refine ⟨hwait, hreject, haccept, fun fired hr hf hnone => ?_, fun fired i f hr hf hi hfi hhalf hfirst => ?_⟩
  · rw [hexec]
    refine yields_act hs ?_
    rw [searchEnd_first (s := begin t s) hr hf, searchFound_none (s := begin t s) hnone, settle_cal]
    obtain ⟨hcount, hmark, -, -⟩ := rejectCal_rejected (q := 3) (by decide)
      { begin t s with cal := { (begin t s).cal with bdRun := false } }
    exact ⟨rfl, rfl, hcount, hmark⟩
  · rw [hexec]
    refine yields_act hs ?_
    rw [searchEnd_first (s := begin t s) hr hf, searchFound_some (s := begin t s) hi hfi hhalf hfirst, settle_cal]
    exact ⟨rfl, hr, _, rfl, rfl⟩

end Sys2Proof.Machine
end

section
/-! O37: a table of waiting converter values with its keys out of order. -/

namespace Sys2Proof.Machine

/-- A converter's codes without an error. -/
def trueCodes : ConvCodes := { c0 := 0, c25 := 4096, c75 := 12287, c100 := 16383 }

/-- Standby, with a converter slice that has taken its time and the first of its two readings. The values that wait for
converter 0 stand behind those for converter 1 in their table: a value entered for converter 0 goes before both, and
the older one, which is applied after it, is what stays. -/
def shadowedValue : State :=
  { cal := { newConv := [(1, 0, 5, 6), (0, 0, 5, 6)] }
    rh := { kinds := [(1, { running := some 0 })], convFirst := [(0, trueCodes)] } }

/-- The slice's end leaves the value that waited before, not the mean of the two readings. -/
theorem shadowedValue_conv :
    (endSlice 1 [] true (some trueCodes) (begin 100000 shadowedValue)).cal.conv.find 0 = some (5, 6) := by
  decide +kernel

/-- Refutes O37: the values that wait for the converters apply in the order of their table, so that one which stands
there for the same converter already, behind the place of the accepted value, overrides it. -/
theorem not_rehearsalSlices : ¬ Obligations.RehearsalSlices := by
  intro h
  have hs : awake 100000 shadowedValue = true := by decide +kernel
  have hexec : exec (.sliceEnd 100000 1 [] true (some trueCodes)) shadowedValue =
      .next (settle shadowedValue (endSlice 1 [] true (some trueCodes) (begin 100000 shadowedValue))) := by
    have hact : exec (.sliceEnd 100000 1 [] true (some trueCodes)) shadowedValue =
      act 100000 shadowedValue (endSlice 1 [] true (some trueCodes)) := rfl
    rw [hact, act_live (awake_iff.mp hs).1 (awake_iff.mp hs).2]
  obtain ⟨-, -, -, -, hend, -⟩ := h 100000 1 0 shadowedValue hs (by decide)
  have hbad := hend [] true true (some trueCodes) rfl (by decide +kernel) (fun h => absurd h (by decide))
    (fun _ => ⟨trueCodes, rfl, fun h => absurd h (by decide), fun a ha => by cases ha; decide +kernel⟩)
    (fun h => absurd h (by decide)) (fun h => absurd h (by decide)) (fun h => absurd h (by decide))
  rw [hexec, yields_next_iff] at hbad
  obtain ⟨-, -, -, -, -, -, hconv, -⟩ := hbad
  obtain ⟨-, hrepeat⟩ := hconv rfl trueCodes rfl
  obtain ⟨-, -, hmean⟩ := hrepeat trueCodes rfl
  have hvalue := hmean (by decide +kernel) rfl rfl
  rw [settle_cal, shadowedValue_conv] at hvalue
  exact absurd hvalue (by decide)

end Sys2Proof.Machine
end

section
/-! R227, R228, R267, R371, R372: submissions from registers, templates, lanes and calendars. -/

namespace Sys2Proof.Machine

/-! ### The control word of a template submission -/

theorem templateWord_fields (i : Nat) :
    flag (word [(16, 10, i), (1, 1, 1), (0, 1, 1)]) 0 = true ∧ flag (word [(16, 10, i), (1, 1, 1), (0, 1, 1)]) 1 = true ∧
    fld (word [(16, 10, i), (1, 1, 1), (0, 1, 1)]) 25 16 = i % 1024 := by
  have hw : word [(16, 10, i), (1, 1, 1), (0, 1, 1)] = BitVec.ofNat 32 (i % 1024 * 65536 + 3) := by simp [word]
  rw [hw]
  refine ⟨?_, ?_, ?_⟩
  · simp only [flag, BitVec.getLsbD_ofNat, Nat.testBit_zero]
    simp
    omega
  · have hbit : (i % 1024 * 65536 + 3).testBit 1 = true := by
      rw [Nat.testBit_succ, Nat.testBit_zero]
      simp
      omega
    simp only [flag, BitVec.getLsbD_ofNat, hbit]
    rfl
  · simp only [fld_eq, BitVec.toNat_ofNat, Nat.reduceSub, Nat.reduceAdd, Nat.reducePow]
    omega

/-! ### GO -/

theorem submitGo_idle {s : State} (h : s.sm.resBusy = false) (p : Path) (x : Submission) :
    submitGo p x s = (true, submit x { s with sm := { s.sm with resBusy := true } }) := if_neg (Bool.not_eq_true _ ▸ h)

theorem submitGo_busy {s : State} (h : s.sm.resBusy = true) (p : Path) (x : Submission) :
    submitGo p x s = (false, violation p submitCtrlAddr kindBusy s) := if_pos h

/-- The state with SM_SUBMIT_CTRL written. -/
def ctrlWritten (v : W32) (s : State) : State := { s with sm := { s.sm with subCtrl := v &&& 0x03FF0002#32 } }

/-- A write of GO without TPL, and one of GO with TPL. -/
theorem submitCtrl_record (p : Path) (s : State) : submitCtrl p 1#32 s = submitGo p
    { cue := cueOfWords s.sm.submit, source := .port p } (ctrlWritten 1#32 s) := rfl

theorem submitCtrl_template (i : Nat) (p : Path) (s : State) :
    (submitCtrl p (word [(16, 10, i), (1, 1, 1), (0, 1, 1)]) s).2 = tookFree (submitGo p
      { cue := templateAt (ctrlWritten (word [(16, 10, i), (1, 1, 1), (0, 1, 1)]) s) (i % 1024), source := .template }
      (ctrlWritten (word [(16, 10, i), (1, 1, 1), (0, 1, 1)]) s)).2 := by
  obtain ⟨hgo, htpl, hidx⟩ := templateWord_fields i
  simp only [submitCtrl, hgo, htpl, hidx]
  rfl

/-- GO while BUSY reads 0. -/
theorem yields_go {t : Nat} {p : Path} {s : State} (hs : awake t s = true) (hp : p ≠ .tap) (hb : s.sm.resBusy = false) :
    Yields (exec (.cueSubmit t p) s) (fun u => u.sm.resBusy = true ∧
      u.sm.fifo = s.sm.fifo ++ [{ cue := cueOfWords s.sm.submit, source := .port p }] ∧
      Leaves t s u (fun x => { x with sm := { x.sm with subCtrl := 0, resBusy := false, fifo := [] } })) ∧
    (∀ i m c, i < 1024 → s.img.active = some m → m.templates[i]? = some c →
      Yields (exec (.cueSubmitTemplate t p i) s) (fun u => u.sm.resBusy = true ∧
        u.sm.fifo = s.sm.fifo ++ [{ cue := c, source := .template }] ∧
        Leaves t s u (fun x => { x with free := 0, sm := { x.sm with subCtrl := 0, resBusy := false, fifo := [] } }))) := by
  have hrec : exec (.cueSubmit t p) s = act t s (onPath p (fun u => (submitCtrl p 1#32 u).2)) := rfl
  refine ⟨?_, fun i m c hi hm hc => ?_⟩
  · rw [hrec]
    refine yields_act hs ?_
    rw [onPath_of_ne hp, submitCtrl_record, submitGo_idle (s := ctrlWritten 1#32 (begin t s)) hb, settle_sm]
    exact ⟨rfl, rfl, _, rfl, rfl⟩
  · have htpl : exec (.cueSubmitTemplate t p i) s =
        act t s (onPath p (fun u => (submitCtrl p (word [(16, 10, i), (1, 1, 1), (0, 1, 1)]) u).2)) := rfl
    have hat : templateAt (ctrlWritten (word [(16, 10, i), (1, 1, 1), (0, 1, 1)]) (begin t s)) (i % 1024) = c := by
      have himg : (ctrlWritten (word [(16, 10, i), (1, 1, 1), (0, 1, 1)]) (begin t s)).img.active = some m := hm
      rw [templateAt, himg, Option.bind_some, Nat.mod_eq_of_lt hi, hc, Option.getD_some]
    rw [htpl]
    refine yields_act hs ?_
    rw [onPath_of_ne hp, submitCtrl_template, hat, submitGo_idle (s := ctrlWritten _ (begin t s)) hb, settle_sm]
    exact ⟨rfl, rfl, _, rfl, rfl⟩

/-- GO while BUSY reads 1. -/
theorem yields_goBusy {t : Nat} {p : Path} {s : State} (hs : awake t s = true) (hp : p ≠ .tap) (hb : s.sm.resBusy = true)
    (i : Nat) : ∀ c ∈ [Instr.cueSubmit t p, .cueSubmitTemplate t p i], Yields (exec c s) (fun u =>
      u.cb.violKind = kindBusy ∧ u.cb.violAddr = 0x00010120#32 ∧ u.cb.event.getLsbD evAccess = true ∧
      Leaves t s u (fun x => { x with free := 0, cb := {}, sm := { x.sm with subCtrl := 0 } })) := by
  have hrec : exec (.cueSubmit t p) s = act t s (onPath p (fun u => (submitCtrl p 1#32 u).2)) := rfl
  have htpl : exec (.cueSubmitTemplate t p i) s =
      act t s (onPath p (fun u => (submitCtrl p (word [(16, 10, i), (1, 1, 1), (0, 1, 1)]) u).2)) := rfl
  intro c hc
  simp only [List.mem_cons, List.not_mem_nil, or_false] at hc
  rcases hc with rfl | rfl
  · rw [hrec]
    refine yields_act hs ?_
    rw [onPath_of_ne hp, submitCtrl_record, submitGo_busy (s := ctrlWritten 1#32 (begin t s)) hb]
    exact ⟨settle_cb_violKind _ _, settle_violation_addr _ _ _ _ _, settle_violation_event _ _ _ _ _, _, rfl, rfl⟩
  · rw [htpl]
    refine yields_act hs ?_
    rw [onPath_of_ne hp, submitCtrl_template, submitGo_busy (s := ctrlWritten _ (begin t s)) hb]
    refine ⟨settle_cb_violKind _ _, settle_cb_violAddr _ _, settle_keeps_event ?_, _, rfl, rfl⟩
    exact setEvent_event _ (by decide) _

/-! ### Lanes -/

theorem yields_laneCue {t l : Nat} {c : CueRec} {s : State} (hs : awake t s = true) (hl : fromHouse s l = true) :
    Yields (exec (.laneCue t l c) s) (fun u =>
      u.sm.fifo = s.sm.fifo ++ [{ cue := c, source := .lane l }] ∧
      (getLane u l).rxSeq = ((getLane s l).rxSeq + framesOf (getLane s l) 1 32) % 256 ∧
      Leaves t s u (fun x => lanesOnly { x with sm := { x.sm with fifo := [] } })) := by
  have hexec : exec (.laneCue t l c) s = act t s (laneCue l c) := rfl
  have hl' : fromHouse (begin t s) l = true := hl
  rw [hexec]
  refine yields_act hs ?_
  rw [laneCue, if_pos hl', settle_sm, getLane_settle]
  refine ⟨rfl, ?_, _, rfl, rfl⟩
  have hlane : ∀ x w, getLane (submit x w) l = getLane w l := fun _ _ => rfl
  rw [hlane, takeMessage, takeKeyed, getLane_updLane_same]
  rfl

theorem yields_laneCalendar {t l : Nat} {bs : List Byte} {s : State} (hs : awake t s = true) (hl : fromHouse s l = true) :
    (0x11 ≤ (getLane s l).ver → Yields (exec (.laneCalendar t l bs) s) (fun u =>
      u.pk.waiting = s.pk.waiting ++ [(l, bs)] ∧
      Leaves t s u (fun x => lanesOnly { x with pk := { x.pk with waiting := [] } }))) ∧
    ((getLane s l).ver < 0x11 → Yields (exec (.laneCalendar t l bs) s) (fun u =>
      (getLane u l).cntFrameErr = inc32 (getLane s l).cntFrameErr ∧
      (getLane u l).block =
        some (blockCredit, ((creditBits 0 0 (((getLane s l).rxSeq + 255) % 256) false true : Nat) : Int)) ∧
      Leaves t s u lanesOnly)) := by
  have hexec : exec (.laneCalendar t l bs) s = act t s (laneCalendar l bs) := rfl
  have hl' : ¬ (!fromHouse (begin t s) l) = true := by
    have h : fromHouse (begin t s) l = true := hl
    rw [h]
    exact Bool.false_ne_true
  refine ⟨fun hv => ?_, fun hv => ?_⟩
  · rw [hexec]
    refine yields_act hs ?_
    have hok : calendarOk (begin t s) l = true := decide_eq_true hv
    rw [laneCalendar, if_neg hl', if_pos hok, settle_pk]
    exact ⟨rfl, _, rfl, rfl⟩
  · rw [hexec]
    refine yields_act hs ?_
    have hok : ¬ calendarOk (begin t s) l = true := fun h => absurd (of_decide_eq_true h) (Nat.not_le.mpr hv)
    rw [laneCalendar, if_neg hl', if_neg hok, getLane_settle, refuseFrame, getLane_updLane_same, frameError]
    simp only [getLane_updLane_same]
    exact ⟨rfl, rfl, _, rfl, rfl⟩

/-! ### The unpacker -/

theorem foldl_submit (l : Nat) (cs : List CueRec) (s : State) :
    cs.foldl (fun x c => submit { cue := c, source := .calendar l } x) s =
      { s with sm := { s.sm with fifo := s.sm.fifo ++ cs.map (fun c => { cue := c, source := .calendar l }) } } := by
  induction cs generalizing s with
  | nil => simp
  | cons c r ih =>
    rw [List.foldl_cons, ih]
    simp [submit]

theorem unpackNext_ok {l : Nat} {bs : List Byte} {r : List (Nat × List Byte)} {cs : List CueRec} {s : State}
    (hw : s.pk.waiting = (l, bs) :: r) (h : unwrapCalendar bs = .ok cs) : unpackNext s =
      cs.foldl (fun x c => submit { cue := c, source := .calendar l } x)
        (unpackNote (1 + l) 1 0 { s with pk := { s.pk with waiting := r } }) := by
  simp only [unpackNext, hw, h]

theorem unpackNext_error {l c : Nat} {bs : List Byte} {r : List (Nat × List Byte)} {s : State}
    (hw : s.pk.waiting = (l, bs) :: r) (h : unwrapCalendar bs = .error c) :
    unpackNext s = unpackNote (1 + l) 1 c { s with pk := { s.pk with waiting := r } } := by
  simp only [unpackNext, hw, h]

/-- Settles O38: every source of submissions joins the one queue. -/
theorem submissions : Obligations.Submissions := by
  intro t p s hs hp
  have hunpack : exec (.unpackDone t) s = act t s unpackNext := rfl
  refine ⟨fun hb => (yields_go hs hp hb).1, fun i m c hb => (yields_go hs hp hb).2 i m c,
    fun i hb => yields_goBusy hs hp hb i, fun l c hl => yields_laneCue hs hl,
    fun l bs hl => (yields_laneCalendar hs hl).1, fun l bs hl => (yields_laneCalendar hs hl).2,
    fun l bs r hw => ⟨fun cs h => ?_, fun c h => ?_⟩⟩
  · rw [hunpack]
    refine yields_act hs ?_
    rw [unpackNext_ok (s := begin t s) hw h, foldl_submit, settle_pk, settle_sm]
    exact ⟨rfl, rfl, rfl, _, rfl, rfl⟩
  · rw [hunpack]
    refine yields_act hs ?_
    rw [unpackNext_error (s := begin t s) hw h, settle_pk, settle_sm]
    exact ⟨rfl, rfl, rfl, _, rfl, rfl⟩

end Sys2Proof.Machine
end

section
/-! R229, R230, R237, R241: the decision of the submission that came first. -/

namespace Sys2Proof.Machine

/-! ### Entries -/

theorem nthFree_le (used : List Nat) (n : Nat) : nthFree used n ≤ n + used.length := by
  induction used generalizing n with
  | nil => exact Nat.le_refl n
  | cons a r ih =>
    have hstep := ih (if a ≤ n then n + 1 else n)
    have hlen : (a :: r).length = r.length + 1 := rfl
    rw [show nthFree (a :: r) n = nthFree r (if a ≤ n then n + 1 else n) from rfl]
    by_cases ha : a ≤ n
    · rw [if_pos ha] at hstep ⊢
      omega
    · rw [if_neg ha] at hstep ⊢
      omega

/-- A table that is not full has a free index below 4,096. -/
theorem newIndex_lt {s : State} (h : (s.sm.cues.filter (fun q => q.2.state != 0)).length < 4096) : newIndex s < 4096 := by
  have hlen : (usedIndexes s).length = (s.sm.cues.filter (fun q => q.2.state != 0)).length := List.length_map _
  have hle := nthFree_le (usedIndexes s) (freeValue s % max 1 (4096 - (usedIndexes s).length))
  have hmod := Nat.mod_lt (freeValue s) (show 0 < max 1 (4096 - (usedIndexes s).length) by omega)
  rw [newIndex]
  omega

/-- The entry of a new cue is found by its handle. -/
theorem findCue_enterCue {e : CueEntry} {s : State} (hi : newIndex s < 4096) (hst : e.state ≠ 0) :
    (findCue (enterCue e s).2 (enterCue e s).1).map CueEntry.state = some e.state := by
  have hcues : (enterCue e s).2.sm.cues = s.sm.cues.set (newIndex s) { e with gen := newGen s (newIndex s), order := s.sm.orders } := rfl
  have hhandle : (enterCue e s).1 = newIndex s + 4096 * newGen s (newIndex s) := rfl
  have hmod : (newIndex s + 4096 * newGen s (newIndex s)) % 4096 = newIndex s := by omega
  have hdiv : (newIndex s + 4096 * newGen s (newIndex s)) / 4096 = newGen s (newIndex s) := by omega
  rw [findCue, hcues, hhandle, hmod, hdiv, Tab.find_set_same, Option.bind_some]
  simp [hst]

/-- A submission that passes found room in the table. -/
theorem judge_room {s : State} {e : CueEntry} {b : Nat} (h : judge s e = (0, b)) (hst : e.state ≠ 1) :
    (s.sm.cues.filter (fun q => q.2.state != 0)).length < 4096 := by
  by_contra hfull
  have hfull' : 4096 ≤ (s.sm.cues.filter (fun q => q.2.state != 0)).length := Nat.not_lt.mp hfull
  unfold judge at h
  simp only [hfull', decide_true, Bool.true_and, bne_iff_ne.mpr hst, if_true] at h
  split at h
  · cases h
  · split at h
    · cases h
    · split at h <;> cases h

/-! ### The decision -/

theorem answer_port (p : Path) (accept : Bool) (reason resource handle start : Nat) (s : State) :
    answer (.port p) accept reason resource handle start s = { s with sm := { s.sm with
      cntAccept := satAdd 32 s.sm.cntAccept (bn accept), cntReject := satAdd 32 s.sm.cntReject (bn !accept)
      resBusy := false, resAccept := accept, resReason := reason, resResource := resource
      resHandle := handle, subStart := BitVec.ofNat 32 start } } := rfl

theorem decideNext_of_none {s : State} (h : s.sm.deciding.isSome = true ∨ s.sm.fifo = []) : decideNext s = s := by
  unfold decideNext
  rcases h with h | h
  · exact if_pos h
  · rw [h]
    split <;> rfl

theorem decideNext_first {x : Submission} {r : List Submission} {s : State} (hd : s.sm.deciding = none)
    (hf : s.sm.fifo = x :: r) : decideNext s = decide1 x { s with sm := { s.sm with fifo := r } } := by
  simp only [decideNext, hd, hf]
  rfl

/-- A submission of a register path that is shut out. -/
theorem decide1_shutOut {x : Submission} {p : Path} {s : State} (hx : x.source = .port p) (h : shutOut s = true) :
    decide1 x s = answer (.port p) false 0x0F 0 0 0 s := by
  have hw : withdrawn x s = false := by rw [withdrawn, hx]
  simp only [decide1, hw, h, hx]
  rfl

theorem decide1_judged {x : Submission} {p : Path} {s : State} {a b : Nat} (hx : x.source = .port p) (h : shutOut s = false)
    (hl : linkCount s ≠ 0) (hj : judge s (entryFor s x.cue x.source) = (a, b)) (ha : a ≠ 0) :
    decide1 x s = answer (.port p) false a b 0 0 s := by
  have hw : withdrawn x s = false := by rw [withdrawn, hx]
  rw [hx] at hj
  simp only [decide1, hw, h, hx, hj, if_neg hl, if_pos ha]
  rfl

theorem decide1_armed {x : Submission} {p : Path} {s : State} {b : Nat} (hx : x.source = .port p) (h : shutOut s = false)
    (hl : linkCount s ≠ 0) (hj : judge s (entryFor s x.cue x.source) = (0, b))
    (hg : (entryFor s x.cue x.source).guests = []) (ha : cueArmed x.cue = true) :
    decide1 x s = answer (.port p) true 0 0 (enterCue { entryFor s x.cue x.source with state := 1 } s).1 0
      (enterCue { entryFor s x.cue x.source with state := 1 } s).2 := by
  have hw : withdrawn x s = false := by rw [withdrawn, hx]
  have harmed : cueArmed (entryFor s x.cue x.source).cue = true := ha
  rw [hx] at hj hg harmed ⊢
  simp only [decide1, hw, h, hx, hj, if_neg hl, hg, harmed]
  rfl

theorem decide1_placed {x : Submission} {p : Path} {s w : State} {b st : Nat} (hx : x.source = .port p) (h : shutOut s = false)
    (hl : linkCount s ≠ 0) (hj : judge s (entryFor s x.cue x.source) = (0, b))
    (hg : (entryFor s x.cue x.source).guests = []) (ha : cueArmed x.cue = false)
    (hp : placeFirst (enterCue (entryFor s x.cue x.source) s).1 (entryFor s x.cue x.source)
      (enterCue (entryFor s x.cue x.source) s).2 = .ok (w, st)) :
    decide1 x s = accepted (enterCue (entryFor s x.cue x.source) s).1 st (.port p) w := by
  have hw : withdrawn x s = false := by rw [withdrawn, hx]
  have harmed : cueArmed (entryFor s x.cue x.source).cue = false := ha
  rw [hx] at hj hg harmed hp ⊢
  simp only [decide1, hw, h, hx, hj, if_neg hl, hg, harmed, hp]
  rfl

/-- A cue without guests is answered once it is placed. -/
theorem accepted_alone {h st : Nat} {p : Path} {w : State} (hg : (findCue w h).map CueEntry.guests = some []) :
    ∃ v, accepted h st (.port p) w = answer (.port p) true 0 0 h st v := by
  obtain ⟨e, he, hguests⟩ := Option.map_eq_some_iff.mp hg
  simp only [accepted, he, hguests]
  exact ⟨_, rfl⟩

/-! ### The statement -/

/-- The block when the submission is decided. -/
def decidedOn (t : Nat) (r : List Submission) (s : State) : State := begin t { s with sm := { s.sm with fifo := r } }

theorem yields_decision {t : Nat} {x : Submission} {r : List Submission} {s : State} (hs : awake t s = true)
    (hd : s.sm.deciding = none) (hf : s.sm.fifo = x :: r) {P : State → Prop} (h : P (settle s (decide1 x (decidedOn t r s)))) :
    Yields (exec (.admissionDecision t) s) P := by
  have hexec : exec (.admissionDecision t) s = act t s decideNext := rfl
  rw [hexec]
  refine yields_act hs ?_
  rw [decideNext_first (s := begin t s) hd hf]
  exact h

/-- Settles O39: what the submission that came first is answered. -/
theorem admission : Obligations.Admission := by
  intro t s hs
  have hexec : exec (.admissionDecision t) s = act t s decideNext := rfl
  refine ⟨fun h => ?_, fun x r p hd hf hx => ⟨fun hshut => ?_, fun a b hshut hl hj ha => ?_,
    fun b hshut hl hj hg ha => ?_, fun b w st hshut hl hj hg ha hp hguests => ?_⟩⟩
  · rw [hexec]
    exact yields_no_effect (decideNext_of_none (s := begin t s) h) (awake_iff.mp hs).2
  · refine yields_decision hs hd hf ?_
    rw [decide1_shutOut (s := decidedOn t r s) hx hshut, answer_port, settle_sm]
    exact ⟨rfl, rfl, rfl, rfl, rfl, rfl, rfl, rfl, _, rfl, rfl⟩
  · refine yields_decision hs hd hf ?_
    rw [decide1_judged (s := decidedOn t r s) hx hshut hl hj ha, answer_port, settle_sm]
    exact ⟨rfl, rfl, rfl, rfl, rfl, rfl, rfl, rfl, _, rfl, rfl⟩
  · refine yields_decision hs hd hf ?_
    have hroom := newIndex_lt (judge_room hj (by decide : (2 : Nat) ≠ 1))
    have hfound := findCue_enterCue (e := { entryFor (decidedOn t r s) x.cue x.source with state := 1 }) hroom Nat.one_ne_zero
    have hcues : ∀ u h, findCue (settle s u) h = findCue u h := fun u h => by simp only [findCue, settle_sm]
    rw [decide1_armed (s := decidedOn t r s) hx hshut hl hj hg ha, answer_port, hcues, settle_sm]
    exact ⟨rfl, rfl, rfl, rfl, rfl, hfound, rfl, _, rfl, rfl⟩
  · refine yields_decision hs hd hf ?_
    obtain ⟨v, hv⟩ := accepted_alone (h := (enterCue (entryFor (decidedOn t r s) x.cue x.source) (decidedOn t r s)).1)
      (st := st) (p := p) hguests
    rw [decide1_placed (s := decidedOn t r s) hx hshut hl hj hg ha hp]
    rw [hv, answer_port, settle_sm]
    exact ⟨rfl, rfl, rfl, rfl, rfl⟩

end Sys2Proof.Machine
end

section
/-! R252, R253, R269, R270, R405: aborts, and the windows on the calendar and on the cues. -/

namespace Sys2Proof.Machine

/-! ### Cue entries -/

theorem findCue_of_cues {u s : State} (h : u.sm.cues = s.sm.cues) (k : Nat) : findCue u k = findCue s k := by
  rw [findCue, findCue, h]

@[simp] theorem findCue_settle (b s : State) (k : Nat) : findCue (settle b s) k = findCue s k :=
  findCue_of_cues (by rw [settle_sm]) k

theorem findCue_gen {s : State} {k : Nat} {e : CueEntry} (h : findCue s k = some e) :
    e.gen = k / 4096 ∧ e.state ≠ 0 := by
  obtain ⟨x, -, hx⟩ := Option.bind_eq_some_iff.mp h
  split at hx
  · next hc =>
    cases hx
    simpa using hc
  · cases hx

theorem updCue_of {s : State} {k : Nat} {e : CueEntry} (h : findCue s k = some e) (f : CueEntry → CueEntry) :
    updCue k f s = { s with sm := { s.sm with cues := s.sm.cues.set (k % 4096) (f e) } } := by
  rw [updCue, h]

theorem findCue_updCue_same {s : State} {k : Nat} {e : CueEntry} (h : findCue s k = some e) (f : CueEntry → CueEntry) :
    findCue (updCue k f s) k = if (f e).gen == k / 4096 && (f e).state != 0 then some (f e) else none := by
  rw [updCue_of h]
  have hcues : ({ s with sm := { s.sm with cues := s.sm.cues.set (k % 4096) (f e) } } : State).sm.cues.find (k % 4096) =
      some (f e) := Tab.find_set_same _ _ _
  rw [findCue, hcues, Option.bind_some]

/-- An update that keeps the entry's generation, and leaves it in use. -/
theorem findCue_updCue_live {s : State} {k : Nat} {e : CueEntry} (h : findCue s k = some e) {f : CueEntry → CueEntry}
    (hg : (f e).gen = e.gen) (hs : (f e).state ≠ 0) : findCue (updCue k f s) k = some (f e) := by
  rw [findCue_updCue_same h, hg, (findCue_gen h).1]
  simp [hs]

/-- An entry that is freed is not found. -/
theorem findCue_updCue_free {s : State} {k : Nat} {f : CueEntry → CueEntry} (hf : ∀ e, (f e).state = 0) :
    findCue (updCue k f s) k = none := by
  cases h : findCue s k with
  | none => rw [updCue, h]; exact h
  | some e => rw [findCue_updCue_same h, hf e]; simp

theorem updCue_kept (k : Nat) (f : CueEntry → CueEntry) (s : State) : (updCue k f s).sm.books = s.sm.books ∧
    (updCue k f s).bat = s.bat ∧ (updCue k f s).sm.deciding = s.sm.deciding := by
  unfold updCue
  split <;> exact ⟨rfl, rfl, rfl⟩

/-! ### What a cue gives up -/

/-- Nothing of the calendar and of the shots that are due belongs to cue `k`. -/
def Released (k : Nat) (s : State) : Prop :=
  (∀ b ∈ s.sm.books, b.handle ≠ k) ∧ ∀ q ∈ s.bat.due, q.1.handle ≠ k

theorem releaseCue_released (k : Nat) (s : State) : Released k (releaseCue k s) := by
  refine ⟨fun b hb => ?_, fun q hq => ?_⟩
  · exact bne_iff_ne.mp (List.mem_filter.mp hb).2
  · exact bne_iff_ne.mp (List.mem_filter.mp hq).2

theorem Released.updCue {k : Nat} {s : State} (h : Released k s) (f : CueEntry → CueEntry) : Released k (updCue k f s) := by
  obtain ⟨hbooks, hbat, -⟩ := updCue_kept k f s
  unfold Released
  rw [hbooks, hbat]
  exact h

@[simp] theorem lanesOnly_abortGuest (l k : Nat) (s : State) : lanesOnly (abortGuest l k s) = lanesOnly s := by
  unfold abortGuest
  split <;> simp

@[simp] theorem lanesOnly_abortGuests (gs : List GuestPart) (s : State) : lanesOnly (abortGuests gs s) = lanesOnly s := by
  unfold abortGuests
  induction gs generalizing s with
  | nil => rfl
  | cons g r ih =>
    rw [List.foldl_cons, ih]
    split
    · exact lanesOnly_abortGuest _ _ s
    · rfl

/-- A completed cue has given everything up and has no entry; one whose guests still run stays as it was. -/
theorem completeCue_cases (k : Nat) (s : State) :
    completeCue k s = s ∨ (Released k (completeCue k s) ∧ findCue (completeCue k s) k = none) := by
  unfold completeCue
  split
  · exact .inl rfl
  · split
    · exact .inl rfl
    · exact .inr ⟨releaseCue_released _ _, findCue_updCue_free fun _ => rfl⟩

/-- The cue as its end leaves it, before it completes. -/
def ending (k status reason fault : Nat) (e : CueEntry) (s : State) : State :=
  updCue k (fun x => { x with state := 4, status := some (status, reason, fault), reason := reason })
    (discardUnfired k (releaseCue k (keepIssued k (abortGuests e.guests s))))

/-- A cue that ends gives up its bookings and its shots, and is Ending with its status while it has an entry. -/
theorem endCue_ended {k status reason fault : Nat} {e : CueEntry} {s : State} (h : findCue s k = some e) (hst : e.state ≠ 4) :
    Released k (endCue k status reason fault s) ∧
    ∀ x, findCue (endCue k status reason fault s) k = some x → x.state = 4 ∧ x.status = some (status, reason, fault) := by
  have heq : endCue k status reason fault s = if pointsLive (ending k status reason fault e s) k then
      ending k status reason fault e s else completeCue k (ending k status reason fault e s) := by
    simp only [endCue, h, if_neg hst]
    rfl
  have hcues : findCue (discardUnfired k (releaseCue k (keepIssued k (abortGuests e.guests s)))) k = some e := by
    have hsm := (lanesOnly_groups (lanesOnly_abortGuests e.guests s)).2.2.2.1
    have hkept : (discardUnfired k (releaseCue k (keepIssued k (abortGuests e.guests s)))).sm.cues =
        (abortGuests e.guests s).sm.cues := rfl
    exact (findCue_of_cues (hkept.trans (by rw [hsm])) k).trans h
  have hrel : Released k (ending k status reason fault e s) := by
    refine Released.updCue (s := discardUnfired k (releaseCue k (keepIssued k (abortGuests e.guests s)))) ?_ _
    exact releaseCue_released k (keepIssued k (abortGuests e.guests s))
  have hfound : ∀ x, findCue (ending k status reason fault e s) k = some x →
      x.state = 4 ∧ x.status = some (status, reason, fault) := by
    intro x hx
    rw [ending, findCue_updCue_live hcues rfl (Nat.succ_ne_zero 3)] at hx
    cases hx
    exact ⟨rfl, rfl⟩
  rw [heq]
  split
  · exact ⟨hrel, hfound⟩
  · rcases completeCue_cases k (ending k status reason fault e s) with hc | ⟨hr, hn⟩
    · rw [hc]
      exact ⟨hrel, hfound⟩
    · exact ⟨hr, fun x hx => by rw [hn] at hx; cases hx⟩

/-! ### The request -/

theorem endedCue_of_find {s : State} {k : Nat} {e : CueEntry} (h : findCue s k = some e) : endedCue s k = false := by
  obtain ⟨x, hx, hf⟩ := Option.bind_eq_some_iff.mp h
  split at hf
  · next hc =>
    have hne : (x.state == 0) = false := by
      simp only [Bool.and_eq_true, bne_iff_ne] at hc
      exact beq_false_of_ne hc.2
    rw [endedCue, hx, Option.any_some, hne, Bool.and_false]
  · cases hf

theorem abortRequest_unknown {s : State} {k : Nat} (h : findCue s k = none) (he : endedCue s k = false) :
    abortRequest k s = (2, s) := by
  rw [abortRequest, if_neg (Bool.not_eq_true _ ▸ he), abortCue, h]

theorem abortRequest_ended {s : State} {k : Nat} (he : endedCue s k = true) :
    abortRequest k s = (1, { s with sm := { s.sm with cntAbortLost := inc32 s.sm.cntAbortLost } }) := if_pos he

theorem abortRequest_deciding {s : State} {k : Nat} {e : CueEntry} (h : findCue s k = some e)
    (hd : s.sm.deciding.any (fun d => d.1 == k) = true) : abortRequest k s =
      (0, releaseCue k (updCue k (fun x => { x with status := some (1, 1, 0), reason := 1 }) s)) := by
  simp only [abortRequest, endedCue_of_find h, abortCue, h, hd]
  rfl

theorem abortRequest_ending {s : State} {k : Nat} {e : CueEntry} (h : findCue s k = some e)
    (hd : s.sm.deciding.any (fun d => d.1 == k) = false) (hst : e.state = 4) : abortRequest k s =
      (0, updCue k (fun x => { x with status := some (1, 1, 0), reason := 1, abortMet := true }) s) := by
  simp only [abortRequest, endedCue_of_find h, abortCue, h, hd, hst]
  rfl

theorem abortRequest_running {s : State} {k : Nat} {e : CueEntry} (h : findCue s k = some e)
    (hd : s.sm.deciding.any (fun d => d.1 == k) = false) (hst : e.state ≠ 4) :
    abortRequest k s = (0, endCue k 1 1 0 s) := by
  simp only [abortRequest, endedCue_of_find h, abortCue, h, hd, if_neg hst]
  rfl

/-- A split cue that is aborted before its guests' decisions gives its bookings up, and keeps its place and its state. -/
theorem withdrawn_split {s : State} {k : Nat} {e : CueEntry} (h : findCue s k = some e) :
    let w := releaseCue k (updCue k (fun x => { x with status := some (1, 1, 0), reason := 1 }) s)
    (∀ b ∈ w.sm.books, b.handle ≠ k) ∧
    (findCue w k).map (fun x => (x.state, x.status)) = some (e.state, some (1, 1, 0)) ∧
    w.sm.deciding = s.sm.deciding ∧ calm w = calm s := by
  intro w
  have hkept : w.sm.cues = (updCue k (fun x => { x with status := some (1, 1, 0), reason := 1 }) s).sm.cues := rfl
  have hlive := findCue_updCue_live h (f := fun x => { x with status := some (1, 1, 0), reason := 1 }) rfl (findCue_gen h).2
  refine ⟨(releaseCue_released k _).1, ?_, ?_, (releaseCue_calm _ _).trans (updCue_calm _ _ _)⟩
  · rw [findCue_of_cues hkept, hlive]
    rfl
  · exact (updCue_kept k (fun x => { x with status := some (1, 1, 0), reason := 1 }) s).2.2

/-! ### SM_ABORT -/

/-- The result of a write to SM_ABORT on top of what the abort does. -/
def abortNoted (was : State) (r : Nat × State) : State :=
  tookFree { r.2 with sm := { r.2.sm with
    abortWas := was.sm.abortRes, abortRes := r.1, abortDone := was.now + freeValue r.2 % (2 * usTicks + 1) } }

theorem abortWrite_busy {s : State} (h : s.now < s.sm.abortDone) (p : Path) (k : Nat) :
    abortWrite p k s = (false, violation p abortAddr kindBusy s) := if_pos (decide_eq_true h)

theorem abortWrite_taken {s : State} (h : s.sm.abortDone ≤ s.now) (p : Path) (k : Nat) :
    abortWrite p k s = (true, abortNoted s (abortRequest (k % 65536) s)) :=
  if_neg fun hb => absurd (of_decide_eq_true hb) (Nat.not_lt.mpr h)

theorem yields_abort {t h : Nat} {p : Path} {s : State} (hs : awake t s = true) (hp : p ≠ .tap)
    (hd : s.sm.abortDone ≤ max s.now t) {P : State → Prop}
    (hP : P (settle s (abortNoted (begin t s) (abortRequest (h % 65536) (begin t s))))) :
    Yields (exec (.cueAbort t p h) s) P := by
  have hexec : exec (.cueAbort t p h) s = act t s (onPath p (fun u => (abortWrite p h u).2)) := rfl
  rw [hexec]
  refine yields_act hs ?_
  rw [onPath_of_ne hp, abortWrite_taken (s := begin t s) hd]
  exact hP

theorem abortNoted_cues (was : State) (r : Nat × State) (k : Nat) : findCue (abortNoted was r) k = findCue r.2 k := rfl

/-- The writes to SM_ABORT, by what the handle names. -/
theorem yields_cueAbort {t h : Nat} {p : Path} {s : State} (hs : awake t s = true) (hp : p ≠ .tap)
    (hd : s.sm.abortDone ≤ max s.now t) :
    let k := h % 65536
    let result := fun (x : Stage) => { x with abortRes := 0, abortWas := 0, abortDone := 0 }
    Yields (exec (.cueAbort t p h) s) (fun u => u.sm.abortDone ≤ max s.now t + 2 * usTicks ∧
        u.sm.abortWas = s.sm.abortRes) ∧
      (findCue s k = none → endedCue s k = false → Yields (exec (.cueAbort t p h) s) (fun u =>
        u.sm.abortRes = 2 ∧ Leaves t s u (fun x => { x with free := 0, sm := result x.sm }))) ∧
      (endedCue s k = true → Yields (exec (.cueAbort t p h) s) (fun u =>
        u.sm.abortRes = 1 ∧ u.sm.cntAbortLost = inc32 s.sm.cntAbortLost ∧
        Leaves t s u (fun x => { x with free := 0, sm := { result x.sm with cntAbortLost := 0 } }))) ∧
      (∀ e, findCue s k = some e → s.sm.deciding.any (fun d => d.1 == k) = true →
        Yields (exec (.cueAbort t p h) s) (fun u => u.sm.abortRes = 0 ∧ (∀ b ∈ u.sm.books, b.handle ≠ k) ∧
          (findCue u k).map (fun x => (x.state, x.status)) = some (e.state, some (1, 1, 0)) ∧
          u.sm.deciding = s.sm.deciding ∧ Leaves t s u calm)) ∧
      (∀ e, findCue s k = some e → s.sm.deciding.any (fun d => d.1 == k) = false → e.state ≠ 4 →
        Yields (exec (.cueAbort t p h) s) (fun u =>
        u.sm.abortRes = 0 ∧ (∀ b ∈ u.sm.books, b.handle ≠ k) ∧ (∀ q ∈ u.bat.due, q.1.handle ≠ 0 → q.1.handle ≠ k) ∧
        (∀ x, findCue u k = some x → x.state = 4 ∧ x.status = some (1, 1, 0)) ∧ Leaves t s u calm)) ∧
      (∀ e, findCue s k = some e → s.sm.deciding.any (fun d => d.1 == k) = false → e.state = 4 →
        Yields (exec (.cueAbort t p h) s) (fun u =>
        u.sm.abortRes = 0 ∧ (findCue u k).map (fun x => (x.state, x.abortMet, x.status)) = some (4, true, some (1, 1, 0)) ∧
        Leaves t s u (fun x => { x with free := 0, sm := { result x.sm with cues := [] } }))) := by
  intro k result
  refine ⟨?_, fun hn he => ?_, fun he => ?_, fun e hf hdec => ?_, fun e hf hdec hst => ?_, fun e hf hdec hst => ?_⟩
  · refine yields_abort hs hp hd ?_
    rw [settle_sm]
    have hmod := Nat.mod_lt (freeValue (abortRequest (h % 65536) (begin t s)).2) (show 0 < 2 * usTicks + 1 by omega)
    exact ⟨Nat.add_le_add_left (Nat.lt_succ_iff.mp hmod) _, rfl⟩
  · refine yields_abort hs hp hd ?_
    rw [abortRequest_unknown (s := begin t s) hn he, settle_sm]
    exact ⟨rfl, _, rfl, rfl⟩
  · refine yields_abort hs hp hd ?_
    rw [abortRequest_ended (s := begin t s) he, settle_sm]
    exact ⟨rfl, rfl, _, rfl, rfl⟩
  · refine yields_abort hs hp hd ?_
    rw [abortRequest_deciding (s := begin t s) hf hdec, settle_sm, findCue_settle, abortNoted_cues]
    obtain ⟨hbooks, hfound, hdeciding, hcalm⟩ := withdrawn_split (s := begin t s) hf
    generalize releaseCue k (updCue k (fun x => { x with status := some (1, 1, 0), reason := 1 }) (begin t s)) = w at *
    exact ⟨rfl, hbooks, hfound, hdeciding, _, rfl, hcalm⟩
  · refine yields_abort hs hp hd ?_
    rw [abortRequest_running (s := begin t s) hf hdec hst, settle_sm, findCue_settle, abortNoted_cues, settle_bat]
    obtain ⟨⟨hbooks, hdue⟩, hfound⟩ := endCue_ended (status := 1) (reason := 1) (fault := 0) (s := begin t s) hf hst
    exact ⟨rfl, hbooks, fun q hq _ => hdue q hq, hfound, _, rfl, endCue_calm k 1 1 0 (begin t s)⟩
  · refine yields_abort hs hp hd ?_
    rw [abortRequest_ending (s := begin t s) hf hdec hst, settle_sm, findCue_settle, abortNoted_cues]
    have hlive := findCue_updCue_live (s := begin t s) hf
      (f := fun x => { x with status := some (1, 1, 0), reason := 1, abortMet := true }) rfl (findCue_gen hf).2
    refine ⟨rfl, ?_, _, rfl, ?_⟩
    · exact (congrArg (Option.map fun x : CueEntry => (x.state, x.abortMet, x.status)) hlive).trans (by rw [Option.map_some, hst])
    · rw [updCue_of (s := begin t s) hf]
      rfl

/-! ### The windows, and ABORT of the house link -/

theorem wordsOf_get (bs : List Byte) {n i : Nat} (hi : i < n) :
    (wordsOf bs n).get 0 i = BitVec.ofNat 32 (le bs (4 * i) 4) :=
  Tab.get_map_keys (List.mem_range.mpr hi) (fun i => BitVec.ofNat 32 (le bs (4 * i) 4)) 0


theorem yields_laneAbort {t l h : Nat} {s : State} (hs : awake t s = true) (hl : fromHouse s l = true) {P : State → Prop}
    (hP : P (settle s (sendHouse 1 0x05 (leBytes 4 (abortRequest (h % 65536) (takeMessage l 1 4 (begin t s))).1)
      (abortRequest (h % 65536) (takeMessage l 1 4 (begin t s))).2))) :
    Yields (exec (.laneAbort t l h) s) P := by
  have hexec : exec (.laneAbort t l h) s = act t s (laneAbort l h) := rfl
  have hl' : fromHouse (begin t s) l = true := hl
  rw [hexec]
  refine yields_act hs ?_
  rw [laneAbort, if_pos hl']
  exact hP

/-- An answer changes nothing but the lanes. -/
theorem sendHouse_kept (vc ty : Nat) (bs : List Byte) (s : State) : (sendHouse vc ty bs s).sm = s.sm ∧
    (sendHouse vc ty bs s).bat = s.bat ∧ ∀ k, findCue (sendHouse vc ty bs s) k = findCue s k := by
  have hlanes := lanesOnly_sendHouse vc ty bs s
  have hsm := eq_of_lanesOnly hlanes State.sm fun _ => rfl
  exact ⟨hsm, eq_of_lanesOnly hlanes State.bat fun _ => rfl, fun k => findCue_of_cues (by rw [hsm]) k⟩

/-- The answer's lanes come of the lanes, the image and the time alone. -/
theorem sendHouse_ln (vc ty : Nat) (bs : List Byte) {u s : State} (hln : u.ln = s.ln) (hnow : u.now = s.now) :
    (sendHouse vc ty bs u).ln = (sendHouse vc ty bs s).ln := by
  have hlane : ∀ l, getLane u l = getLane s l := fun l => by rw [getLane, getLane, hln]
  have htrained : ∀ l, laneTrained u l = laneTrained s l := fun l => by rw [laneTrained, laneTrained, hlane]
  have hhouse : houseLane u = houseLane s := by simp only [houseLane, hlane, funext htrained]
  unfold sendHouse
  rw [hhouse]
  split
  · unfold sendMsg
    rw [htrained]
    split
    · simp only [pumpLane, updLane, setLane, getLane, hln, hnow]
    · exact hln
  · exact hln

theorem calm_of_lanesOnly {u s : State} (h : lanesOnly u = lanesOnly s) : calm u = calm s :=
  eq_of_lanesOnly h calm fun _ => rfl

/-- Settles O40: what an abort gives, by what its handle names, and what the windows show. -/
theorem abortsAndViews : Obligations.AbortsAndViews := by
  intro t h p s hs hp k result
  refine ⟨fun hb => ?_, fun hd => yields_cueAbort hs hp hd, fun l hl => ?lane, fun l hl => ?_, ?_, ?_⟩
  case lane =>
    intro v
    refine ⟨fun hn he => ?_, fun he => ?_, fun e hf hdec hst => ?_, fun e hf hdec hst => ?_⟩
    · refine yields_laneAbort hs hl ?_
      rw [abortRequest_unknown (s := v) hn he, settle_ln, settle_sm]
      exact ⟨rfl, (sendHouse_kept _ _ _ _).1, _, rfl,
        congrArg (fun x : State => { x with recent := {} }) (lanesOnly_sendHouse 1 0x05 (leBytes 4 2) v)⟩
    · refine yields_laneAbort hs hl ?_
      rw [abortRequest_ended (s := v) he, settle_ln, settle_sm]
      obtain ⟨hsm, -, -⟩ := sendHouse_kept 1 0x05 (leBytes 4 1) { v with sm := { v.sm with cntAbortLost := inc32 v.sm.cntAbortLost } }
      refine ⟨?_, ?_, _, rfl, ?_⟩
      · exact sendHouse_ln 1 0x05 (leBytes 4 1) rfl rfl
      · rw [hsm]
        rfl
      · exact eq_of_lanesOnly (lanesOnly_sendHouse 1 0x05 (leBytes 4 1) { v with sm := { v.sm with cntAbortLost := inc32 v.sm.cntAbortLost } })
          (fun x => { lanesOnly { x with sm := { x.sm with cntAbortLost := 0 } } with recent := {} }) fun _ => rfl
    · refine yields_laneAbort hs hl ?_
      rw [abortRequest_running (s := v) hf hdec hst, settle_ln, settle_sm, settle_bat]
      obtain ⟨hsm, hbat, hcue⟩ := sendHouse_kept 1 0x05 (leBytes 4 0) (endCue k 1 1 0 v)
      obtain ⟨⟨hbooks, hdue⟩, hfound⟩ := endCue_ended (status := 1) (reason := 1) (fault := 0) (s := v) hf hst
      refine ⟨rfl, ?_, ?_, fun x hx => ?_, _, rfl, ?_⟩
      · rw [hsm]; exact hbooks
      · rw [hbat]; exact fun q hq _ => hdue q hq
      · rw [findCue_settle, hcue] at hx
        exact hfound x hx
      · exact (calm_of_lanesOnly (lanesOnly_sendHouse _ _ _ _)).trans ((endCue_calm k 1 1 0 v).trans
          (calm_of_lanesOnly (u := v) (s := begin t s) rfl))
    · refine yields_laneAbort hs hl ?_
      rw [abortRequest_ending (s := v) hf hdec hst, settle_ln, findCue_settle]
      have hlive := findCue_updCue_live (s := v) hf
        (f := fun x => { x with status := some (1, 1, 0), reason := 1, abortMet := true }) rfl (findCue_gen hf).2
      have hupd := updCue_of (s := v) hf (fun x => { x with status := some (1, 1, 0), reason := 1, abortMet := true })
      generalize updCue k (fun x => { x with status := some (1, 1, 0), reason := 1, abortMet := true }) v = w at hlive hupd
      obtain ⟨-, -, hcue⟩ := sendHouse_kept 1 0x05 (leBytes 4 0) w
      refine ⟨?_, ?_, _, rfl, ?_⟩
      · exact sendHouse_ln 1 0x05 (leBytes 4 0) (by rw [hupd]) (by rw [hupd])
      · rw [hcue, hlive, Option.map_some, hst]
      · exact (eq_of_lanesOnly (lanesOnly_sendHouse 1 0x05 (leBytes 4 0) w)
          (fun x => { lanesOnly { x with sm := { x.sm with cues := [] } } with recent := {} }) fun _ => rfl).trans (by rw [hupd])
  · have hexec : exec (.cueAbort t p h) s = act t s (onPath p (fun u => (abortWrite p h u).2)) := rfl
    rw [hexec]
    refine yields_act hs ?_
    rw [onPath_of_ne hp, abortWrite_busy (s := begin t s) hb]
    exact ⟨leaves_violation t p _ _ s, settle_cb_violKind _ _, settle_violation_addr _ _ _ _ _⟩
  · have hexec : exec (.laneAbort t l h) s = act t s (laneAbort l h) := rfl
    have hl' : ¬ fromHouse (begin t s) l = true := Bool.not_eq_true _ ▸ hl
    rw [hexec]
    exact yields_no_effect (if_neg hl') (awake_iff.mp hs).2
  · have hexec : exec (.calendarSelect t p h) s = act t s (onPath p (calendarSelect h)) := rfl
    rw [hexec]
    refine yields_act hs ?_
    rw [onPath_of_ne hp, settle_sm]
    refine ⟨rfl, fun i hi => ?_, _, rfl, rfl⟩
    exact wordsOf_get _ hi
  · have hexec : exec (.cueSelect t p h) s = act t s (onPath p (cueSelect h)) := rfl
    rw [hexec]
    refine yields_act hs ?_
    rw [onPath_of_ne hp, settle_sm]
    refine ⟨rfl, fun i hi => ?_, _, rfl, rfl⟩
    exact wordsOf_get _ hi

end Sys2Proof.Machine
end

section
/-! R236, R243, R245: the horizon, measured capacity and the end of conditions; what planning keeps of the stage
manager. -/

namespace Sys2Proof.Machine

/-! ### What a booking keeps of the stage manager -/

@[simp] theorem updCue_desk (h : Nat) (f : CueEntry → CueEntry) (s : State) : desk (updCue h f s) = desk s := (updCue_tidy h f s).desk

@[simp] theorem book_desk (w : For) (g r n : Nat) (s : State) : desk (book w g r n s) = desk s := by
  unfold book
  simp only
  split
  · rfl
  · split <;> rfl

@[simp] theorem putPlace_desk (n : Nat) (p : Place) (s : State) : desk (putPlace n p s) = desk s := rfl
@[simp] theorem removePlaces_desk (h b lo hi : Nat) (s : State) : desk (removePlaces h b lo hi s) = desk s := rfl

@[simp] theorem movePlace_desk (m h b : Nat) (s : State) : desk (movePlace m h b s) = desk s := by
  unfold movePlace
  split
  · rfl
  · simp only
    split
    · rfl
    · rw [foldl_keeps desk _ (fun u q => by simp)]
      rfl

@[simp] theorem moveDisplaced_desk (l : List (Nat × Place)) (s : State) : desk (moveDisplaced l s) = desk s :=
  foldl_keeps desk _ (fun u q => by simp) l s

theorem layShots_desk (stop : Option Nat) (l : List (Place × Nat)) (c : Nat) (got : List (Nat × Place)) (s : State) :
    OkKeeps desk s (layShots stop c got s l) Prod.fst := by
  induction l generalizing c got s with
  | nil => exact okKeeps_ok rfl
  | cons q r ih =>
    obtain ⟨p, least⟩ := q
    unfold layShots
    simp only
    split
    · exact okKeeps_error _ _
    · intro x hx
      rw [ih _ _ _ x hx, moveDisplaced_desk, putPlace_desk]

theorem placeAll_desk (h : Nat) (e : CueEntry) (stop : Option Nat) (start : Nat → Nat) (l : List Nat) (s : State)
    (got : List (Nat × Place)) : OkKeeps desk s (placeAll h e stop start s got l) Prod.fst := by
  induction l generalizing s got with
  | nil => exact okKeeps_ok rfl
  | cons b r ih =>
    unfold placeAll
    exact okKeeps_bind (layShots_desk _ _ _ _ _) fun x => ih _ _

theorem bookWords_desk (h : Nat) (e : CueEntry) (stop : Option Nat) (force : Bool) (chans : List Nat)
    (l : List (Nat × Place)) (s : State) : OkKeeps desk s (bookWords h e stop force chans s l) id := by
  induction l generalizing s with
  | nil => exact okKeeps_ok rfl
  | cons q r ih =>
    obtain ⟨n, p⟩ := q
    unfold bookWords
    simp only
    split
    · exact okKeeps_error _ _
    · split
      · exact okKeeps_error _ _
      · intro x hx
        rw [ih _ x hx, foldl_keeps desk _ (fun u y => book_desk _ _ _ _ u)]

theorem bookPoint_desk (w : For) (e : CueEntry) (p : ActProfile) (stop : Option Nat) (force : Bool) (tl c : Nat)
    (s : State) : OkKeeps desk s (bookPoint w e p stop force tl c s) id := by
  unfold bookPoint
  extract_lets cls g lane gN gF gE cells cyc
  split
  · exact okKeeps_error _ _
  · split
    · exact okKeeps_error _ _
    · simp only
      split
      · split <;> exact okKeeps_error _ _
      · split
        · exact okKeeps_ok (by simp)
        · split
          · exact okKeeps_error _ _
          · refine okKeeps_ok ?_
            rw [id, foldl_keeps desk _ (fun v q => book_desk _ _ _ _ v)]
            simp

theorem bookPoints_desk (h : Nat) (e : CueEntry) (p : ActProfile) (stop : Option Nat) (force : Bool)
    (l : List (Nat × Nat × Bool)) (s : State) : OkKeeps desk s (bookPoints h e p stop force s l) id := by
  induction l generalizing s with
  | nil => exact okKeeps_ok rfl
  | cons q r ih =>
    obtain ⟨tl, c, spare⟩ := q
    unfold bookPoints
    exact okKeeps_bind (bookPoint_desk _ _ _ _ _ _ _ _) fun x => ih _

theorem bookConversions_desk (w : For) (r : Nat) (stop : Option Nat) (fuel g left last : Nat) (s : State) :
    OkKeeps desk s (bookConversions w r stop fuel g left last s) Prod.fst := by
  induction fuel generalizing g left last s with
  | zero => exact okKeeps_error _ _
  | succ fuel ih =>
    unfold bookConversions
    split
    · exact okKeeps_ok rfl
    · split
      · exact okKeeps_error _ _
      · split
        · intro x hx
          rw [ih _ _ _ _ x hx, book_desk]
        · exact ih _ _ _ _

theorem bookRecord_desk (w : For) (e : CueEntry) (tl : Nat) (s : State) : OkKeeps desk s (bookRecord w e tl s) id := by
  unfold bookRecord
  extract_lets g lane gN gF
  clear_value lane
  split
  · exact okKeeps_error _ _
  · split
    · exact okKeeps_error _ _
    · simp only
      split
      · exact okKeeps_ok (by simp)
      · split
        · exact okKeeps_error _ _
        · exact okKeeps_ok (by simp)

theorem bookHkPlayer_desk (h : Nat) (e : CueEntry) (t : Nat) (stop : Option Nat) (got : List (Nat × Place)) (s : State)
    (n : Nat) : OkKeeps desk s (bookHkPlayer h e t stop got s n) id := by
  unfold bookHkPlayer
  extract_lets w
  split
  · exact okKeeps_ok rfl
  · split
    · exact okKeeps_ok rfl
    · split
      · refine okKeeps_bind (f := Prod.fst) ?_ fun x => bookRecord_desk _ _ _ _
        refine okKeeps_foldl _ (fun u r v hr => okKeeps_bind hr fun x => ?_) _ (okKeeps_ok rfl)
        exact okKeeps_map (bookConversions_desk _ _ _ _ _ _ _ _) fun y => rfl
      · exact bookRecord_desk _ _ _ _

theorem bookGuests_desk (h : Nat) (e : CueEntry) (t : Nat) (scene : Option FixedScene) (s : State) :
    OkKeeps desk s (bookGuests h e t scene s) id := by
  unfold bookGuests
  split
  · exact okKeeps_ok rfl
  · simp only
    split
    · exact okKeeps_ok rfl
    · split
      · exact okKeeps_ok (foldl_keeps desk _ (fun u g => book_desk _ _ _ _ u) _ s)
      · exact okKeeps_error _ _

theorem planOccurrence_desk (h t : Nat) (scene : Option FixedScene) (s : State) :
    OkKeeps desk s (planOccurrence h t scene s) id := by
  unfold planOccurrence
  split
  · exact okKeeps_error _ _
  · extract_lets force stop
    refine okKeeps_bind (placeAll_desk _ _ _ _ _ _ _) fun x => ?_
    extract_lets booked
    refine okKeeps_map (f := id) ?_ fun u => updCue_desk _ _ _
    refine okKeeps_bind (f := id) ?_ fun u => bookGuests_desk _ _ _ _ _
    simp only [booked]
    split
    · exact okKeeps_foldl _ (fun u r n hr => okKeeps_bind hr fun y => bookHkPlayer_desk _ _ _ _ _ _ _) _ (okKeeps_ok rfl)
    · split
      · exact okKeeps_ok rfl
      · split
        · exact okKeeps_error _ _
        · refine okKeeps_bind (f := id) ?_ fun y => bookPoints_desk _ _ _ _ _ _ _
          exact okKeeps_foldl _ (fun u r n hr => okKeeps_bind hr fun y => bookWords_desk _ _ _ _ _ _ _) _ (okKeeps_ok rfl)

@[simp] theorem refuseOccurrence_desk (h reason : Nat) (s : State) : desk (refuseOccurrence h reason s) = desk s := by
  rw [refuseOccurrence, (cueProgress_tidy _ _).desk, (setEvent_tidy _ _).desk]
  exact updCue_desk _ _ _

@[simp] theorem admitSafety_desk (fuel upto h : Nat) (s : State) : desk (admitSafety fuel upto h s) = desk s := by
  induction fuel generalizing s with
  | zero => rfl
  | succ fuel ih =>
    unfold admitSafety
    split
    · rfl
    · simp only
      rw [ih, updCue_desk]
      split
      · exact planOccurrence_desk _ _ _ _ _ ‹_›
      · exact refuseOccurrence_desk _ _ _

@[simp] theorem safetyFirst_desk (upto : Nat) (s : State) : desk (safetyFirst upto s) = desk s :=
  foldl_keeps desk _ (fun u h => by simp) _ s

theorem planLater_desk (fuel h t : Nat) (scene : Option FixedScene) (s : State) :
    OkKeeps desk s (planLater fuel h t scene s) id := by
  induction fuel generalizing s with
  | zero => exact okKeeps_error _ _
  | succ fuel ih =>
    unfold planLater
    intro x hx
    cases hp : planOccurrence h t scene s with
    | error e => simp [hp, Except.bind] at hx
    | ok u =>
      simp only [hp, Except.bind] at hx
      split at hx
      · cases hx
        exact planOccurrence_desk _ _ _ _ _ hp
      · rw [ih _ x hx, safetyFirst_desk]

@[simp] theorem admitLater_desk (fuel h : Nat) (s : State) : desk (admitLater fuel h s) = desk s := by
  induction fuel generalizing s with
  | zero => rfl
  | succ fuel ih =>
    unfold admitLater
    split
    · rfl
    · split
      · rfl
      · simp only
        rw [ih, updCue_desk]
        split
        · exact refuseOccurrence_desk _ _ _
        · split
          · rename_i x hx
            split at hx
            · exact planOccurrence_desk _ _ _ _ x hx
            · exact planLater_desk _ _ _ _ _ x hx
          · exact refuseOccurrence_desk _ _ _

/-! ### The horizon -/

@[simp] theorem placeSlice_desk (k : Nat) (s : State) : desk (placeSlice s k) = desk s := by
  unfold placeSlice
  extract_lets now v
  split
  · rfl
  · split
    · rfl
    · extract_lets u
      split
      · exact moveDisplaced_desk _ _
      · rfl

/-- Taking a group in counts it, whatever the planning does. -/
theorem advanceCalendar_entered {s : State} (h : inShow s = true) (hroom : s.sm.entered + 1 < groupNow s + 4096) :
    (advanceCalendar s).sm.entered = s.sm.entered + 1 := by
  have hgo : (inShow s && decide (s.sm.entered + 1 < groupNow s + horizonGroups)) = true := by
    rw [h, Bool.true_and]
    exact decide_eq_true hroom
  have hdesk : desk (advanceCalendar s) = desk { s with sm := { s.sm with entered := s.sm.entered + 1 } } := by
    rw [advanceCalendar, if_pos hgo]
    simp only
    rw [(refreshConds_tidy _).desk, placeSlice_desk, placeSlice_desk, foldl_keeps desk _ (fun u h => admitLater_desk 64 h u)]
    exact eq_of_spotFrame (spotFrame_fixScenes _ _) desk fun _ => rfl
  exact congrArg Stage.entered hdesk

theorem advanceCalendar_full {s : State} (h : inShow s = false ∨ groupNow s + 4096 ≤ s.sm.entered + 1) :
    advanceCalendar s = s := by
  refine if_neg ?_
  rcases h with h | h
  · rw [h, Bool.false_and]
    exact Bool.false_ne_true
  · have hfull : decide (s.sm.entered + 1 < groupNow s + horizonGroups) = false := decide_eq_false (Nat.not_lt.mpr h)
    rw [hfull, Bool.and_false]
    exact Bool.false_ne_true

/-! ### Measured capacity -/

/-- The capacity after a measurement `m` (R243). -/
def remeasured (m : Nat) (c : Capacity) : Capacity :=
  if m < c.cap then { cap := m, runs := [] }
  else if m = c.cap then { c with runs := [] }
  else if (c.runs ++ [m]).length < 16 then { c with runs := c.runs ++ [m] }
  else { cap := (c.runs ++ [m]).foldl min m, runs := [] }

theorem capacityMeasure_of {r : Nat} (hr : r < 25) (n : Nat) (s : State) : capacityMeasure r n s = refreshConds { s with
    sm := { s.sm with caps := s.sm.caps.set r (remeasured (measuredCap r n) (s.sm.caps.get { cap := nominalCap r } r)) } } :=
  if_neg (Nat.not_le.mpr hr)

theorem remeasured_cap (m : Nat) (c : Capacity) : (m < c.cap → (remeasured m c).cap = m) ∧
    (c.cap < m → c.runs.length < 15 → (remeasured m c).cap = c.cap) ∧
    (c.cap < m → c.runs.length = 15 → (remeasured m c).cap = (c.runs ++ [m]).foldl min m) := by
  have hlen : (c.runs ++ [m]).length = c.runs.length + 1 := List.length_append
  refine ⟨fun h => ?_, fun h hl => ?_, fun h hl => ?_⟩
  · rw [remeasured, if_pos h]
  · rw [remeasured, if_neg (Nat.lt_asymm h), if_neg (Nat.ne_of_gt h), if_pos (by omega)]
  · rw [remeasured, if_neg (Nat.lt_asymm h), if_neg (Nat.ne_of_gt h), if_neg (by omega)]

/-- Settles O41: the horizon, the capacities that are published, and the conditions that end. -/
theorem calendarAndCapacity : Obligations.CalendarAndCapacity := by
  intro t s hs
  have hadvance : exec (.calendarAdvance t) s = act t s advanceCalendar := rfl
  have hmeasure : ∀ r n, exec (.capacityMeasure t r n) s = act t s (capacityMeasure r n) := fun _ _ => rfl
  have hclear : ∀ code, exec (.promiseConditionClear t code) s = act t s (clearCond code) := fun _ => rfl
  have hdue := (awake_iff.mp hs).2
  refine ⟨fun hm hroom => ?_, fun h => ?_, fun r n hr => ?_, fun r n hr => ?_, fun code => ?_⟩
  · rw [hadvance]
    refine yields_act hs ?_
    rw [settle_sm]
    exact advanceCalendar_entered (s := begin t s) hm hroom
  · rw [hadvance]
    exact yields_no_effect (advanceCalendar_full (s := begin t s) h) hdue
  · intro c
    rw [hmeasure]
    refine yields_act hs ?_
    have htidy := refreshConds_tidy { begin t s with sm := { s.sm with caps := s.sm.caps.set r (remeasured (measuredCap r n) c) } }
    have hcaps : (capacityMeasure r n (begin t s)).sm.caps = s.sm.caps.set r (remeasured (measuredCap r n) c) := by
      rw [capacityMeasure_of hr]
      exact congrArg Stage.caps htidy.desk
    have hcalm : calm (capacityMeasure r n (begin t s)) = calm (begin t s) := by
      rw [capacityMeasure_of hr]
      exact htidy.calm
    obtain ⟨hlow, hfew, hmany⟩ := remeasured_cap (measuredCap r n) c
    rw [settle_sm, hcaps, Tab.get_set_same]
    exact ⟨hlow, hfew, hmany, fun q hq => Tab.find_set_other _ _ hq, _, rfl, hcalm⟩
  · rw [hmeasure]
    exact yields_no_effect (if_pos hr) hdue
  · rw [hclear]
    refine yields_act hs ?_
    rw [settle_sm]
    refine ⟨fun k v hv => ?_, _, rfl, rfl⟩
    have hconds : (clearCond code (begin t s)).sm.conds = s.sm.conds.mapVals (fun k c =>
        if k / 100 = code ∧ c.okSince.any (fun x => decide (x + msTicks ≤ (begin t s).now)) then { inForce := false, okSince := none }
        else c) := rfl
    rw [hconds, Tab.find_mapVals, hv]
    rfl

end Sys2Proof.Machine
end

section
/-! R255, R258, R259, R262: trigger units, their samples and their firings. -/

namespace Sys2Proof.Machine

/-! ### Lists of handles -/

theorem mem_firsts {l : List Nat} {x : Nat} (h : x ∈ l) (seen : List Nat) (hs : x ∉ seen) : x ∈ firsts seen l := by
  induction l generalizing seen with
  | nil => exact h
  | cons a r ih =>
    unfold firsts
    by_cases hxa : x = a
    · subst hxa
      rw [if_neg hs]
      exact List.mem_cons_self
    · have hr : x ∈ r := (List.mem_cons.mp h).resolve_left hxa
      split
      · exact ih hr seen hs
      · exact List.mem_cons_of_mem _ (ih hr _ fun hm => (List.mem_cons.mp hm).elim hxa hs)

theorem mem_firsts_nil {l : List Nat} {x : Nat} (h : x ∈ l) : x ∈ firsts [] l := mem_firsts h [] List.not_mem_nil

theorem foldl_fixed {α β : Type} {g : β → α → β} {l : List α} {s : β} (h : ∀ a ∈ l, g s a = s) : l.foldl g s = s := by
  induction l with
  | nil => rfl
  | cons a r ih =>
    rw [List.foldl_cons, h a List.mem_cons_self]
    exact ih fun b hb => h b (List.mem_cons_of_mem _ hb)

/-! ### What a firing's actions keep -/

/-- The stage manager's state beside the cue bookkeeping and the submissions, and the time. -/
def watch (s : State) : Stage × Nat := ({ desk s with fifo := [] }, tbUs s)

theorem watch_of_tidy {s u : State} (h : Tidy s u) : watch u = watch s := by
  have hnow := calm_now h.calm
  have hofs : (Machine.calm u).tbOffset = (Machine.calm s).tbOffset := congrArg State.tbOffset h.calm
  have hofs : u.tbOffset = s.tbOffset := hofs
  have htb : tbUs u = tbUs s := by rw [tbUs, tbTick, tbOf, hnow, hofs, tbUs, tbTick, tbOf]
  rw [watch, h.desk, htb, watch]

theorem eq_of_watch {α : Type} {u s : State} (h : watch u = watch s) (f : Stage → α)
    (hf : ∀ x : Stage, f { x with cues := [], books := [], slots := [], conds := [], cntLate := 0, cntRefused := 0, fifo := [] } = f x) :
    f u.sm = f s.sm := by
  rw [← hf u.sm, ← hf s.sm]
  exact congrArg f (congrArg Prod.fst h)

@[simp] theorem submit_watch (x : Submission) (s : State) : watch (submit x s) = watch s := rfl

theorem startWaiting_watch (hs : List Nat) (s : State) : watch (startWaiting hs s) = watch s :=
  foldl_keeps watch _ (fun u h => by split <;> rfl) hs s

theorem abortCue_tidy (h r : Nat) (s : State) : Tidy s (abortCue h r s).2 := by
  unfold abortCue
  split
  · exact Tidy.refl s
  · split
    · exact (updCue_tidy _ _ s).trans (releaseCue_tidy _ _)
    · split
      · exact updCue_tidy _ _ s
      · exact endCue_tidy _ _ _ _ s

theorem watch_with (v : State) (rh : Rehearsal) (cal : Cal) (rx : Rx) :
    watch { v with rh := rh, cal := cal, rx := rx } = watch v := rfl

theorem updKind_watch (k : Nat) (f : SliceKind → SliceKind) (s : State) : watch (updKind k f s) = watch s := rfl

theorem leaveSlice_watch (k : Nat) (s : State) : watch (leaveSlice k s) = watch s := by
  rw [leaveSlice, updKind_watch]
  rfl

theorem preemptSlice_watch (k : Nat) (s : State) : watch (preemptSlice k s) = watch s := by
  unfold preemptSlice
  split
  · rfl
  · split
    · rfl
    · dsimp only
      rw [watch_with, updKind_watch, leaveSlice_watch]

theorem capture_watch (f : Firing) (s : State) : watch (capture f s) = watch s := by
  unfold capture
  split
  · rfl
  · split
    · rfl
    · simp only
      rw [watch_of_tidy (commitDevice_tidy _ _ _ _), serve]
      split
      · exact preemptSlice_watch _ _
      · rfl

/-! ### A firing -/

/-- The cues a firing stops. -/
def firingStops (f : Firing) (a : State × Taken) : List Nat :=
  (if flag (trigB a.1 f.unit) 1 then f.cues.filter (fun h => (findCue a.1 h).isSome || a.2.stops.contains h) else []).filter
    (fun h => !a.2.stops.contains h)

/-- The state with the cues started and stopped. -/
def firingActed (f : Firing) (a : State × Taken) : State :=
  (firingStops f a).foldl (fun x h => (abortCue h 4 x).2)
    (startWaiting (if flag (trigB a.1 f.unit) 0 then waitingOn a.1 f.unit else []) a.1)

theorem firingActed_watch (f : Firing) (a : State × Taken) : watch (firingActed f a) = watch a.1 := by
  rw [firingActed, foldl_keeps watch _ (fun x h => watch_of_tidy (abortCue_tidy h 4 x)), startWaiting_watch]

/-- What a firing of unit `n` leaves: its bit set, its timer restarted, the sample as it was, and where the bus was
taken, the code on the bus. -/
structure UnitFired (n : Nat) (taken : Bool) (s u : State) : Prop where
  stat : u.sm.trigStat = s.sm.trigStat ||| (1#64 <<< n)
  timer : u.sm.trig = s.sm.trig.upd {} n (fun x => { x with since := tbUs s })
  time : tbUs u = tbUs s
  sample : u.sm.busCodes = s.sm.busCodes ∧ u.sm.swFired = s.sm.swFired ∧ u.sm.sampleAt = s.sm.sampleAt
  bus : taken = true → u.sm.busOut = s.sm.busOut

theorem fireUnit_fired (f : Firing) (a : State × Taken) : UnitFired f.unit a.2.bus a.1 (fireUnit f a).1 := by
  have hacted := firingActed_watch f a
  unfold fireUnit
  extract_lets s b starts targets stops bus suppressed captured flags u src1 src2 v w
  have hu : watch u = watch s := hacted
  have hx : watch (eventIf (flag b 4) evTrigger w) = watch v :=
    (watch_of_tidy (eventIf_tidy _ _ w)).trans (watch_of_tidy (commitDevice_tidy _ _ _ v))
  have hkept : ∀ {α : Type} (g : Stage → α), (∀ x : Stage, g { x with
      cues := [], books := [], slots := [], conds := [], cntLate := 0, cntRefused := 0, fifo := [] } = g x) → g u.sm = g s.sm :=
    fun g hg => eq_of_watch hu g hg
  have hlast : ∀ {α : Type} (g : Stage → α), (∀ x : Stage, g { x with
      cues := [], books := [], slots := [], conds := [], cntLate := 0, cntRefused := 0, fifo := [] } = g x) →
      g (eventIf (flag b 4) evTrigger w).sm = g v.sm := fun g hg => eq_of_watch hx g hg
  have htv : tbUs v = tbUs u := rfl
  have htu : tbUs u = tbUs s := congrArg Prod.snd hu
  have hte : tbUs (eventIf (flag b 4) evTrigger w) = tbUs s := (congrArg Prod.snd hx).trans (htv.trans htu)
  refine ⟨?_, ?_, hte, ⟨?_, ?_, ?_⟩, fun hb => ?_⟩
  · exact (hlast Stage.trigStat fun _ => rfl).trans (congrArg (· ||| (1#64 <<< f.unit)) (hkept Stage.trigStat fun _ => rfl))
  · have htrig : (eventIf (flag b 4) evTrigger w).sm.trig = s.sm.trig :=
      (hlast Stage.trig fun _ => rfl).trans (hkept Stage.trig fun _ => rfl)
    have hrestart : ∀ x : State, (restartTimer f.unit x).sm.trig =
        x.sm.trig.upd {} f.unit (fun y => { y with since := tbUs x }) := fun _ => rfl
    rw [hrestart, htrig, hte]
  · exact (hlast Stage.busCodes fun _ => rfl).trans (hkept Stage.busCodes fun _ => rfl)
  · exact (hlast Stage.swFired fun _ => rfl).trans (hkept Stage.swFired fun _ => rfl)
  · exact (hlast Stage.sampleAt fun _ => rfl).trans (hkept Stage.sampleAt fun _ => rfl)
  · have hbus : v.sm.busOut = u.sm.busOut := by
      refine if_neg ?_
      have hb' : a.2.bus = true := hb
      rw [hb']
      simp
    exact (hlast Stage.busOut fun _ => rfl).trans (hbus.trans (hkept Stage.busOut fun _ => rfl))

/-! ### The firings of a boundary -/

/-- Unit `n` has fired at time `T`. -/
def HasFired (n T : Nat) (s : State) : Prop := s.sm.trigStat.getLsbD n = true ∧ (s.sm.trig.get {} n).since = T

theorem UnitFired.hasFired {n : Nat} {taken : Bool} {s u : State} (hn : n < 64) (h : UnitFired n taken s u) :
    HasFired n (tbUs s) u := by
  refine ⟨?_, ?_⟩
  · rw [h.stat, BitVec.getLsbD_or]
    simp [hn]
  · rw [h.timer, Tab.get_upd_same]

/-- A firing undoes no other unit's, at one time. -/
theorem UnitFired.keeps {n m : Nat} {taken : Bool} {s u : State} (h : UnitFired m taken s u) (hs : HasFired n (tbUs s) s) :
    HasFired n (tbUs s) u := by
  refine ⟨?_, ?_⟩
  · rw [h.stat, BitVec.getLsbD_or, hs.1, Bool.true_or]
  · rw [h.timer]
    by_cases hm : n = m
    · rw [hm, Tab.get_upd_same]
    · rw [Tab.get_upd_other _ _ _ hm]
      exact hs.2

theorem foldl_fireUnit (fs : List Firing) (a : State × Taken) :
    let r := (fs.foldl (fun a f => fireUnit f a) a).1
    tbUs r = tbUs a.1 ∧
    (r.sm.busCodes = a.1.sm.busCodes ∧ r.sm.swFired = a.1.sm.swFired ∧ r.sm.sampleAt = a.1.sm.sampleAt) ∧
    ∀ n, n < 64 → HasFired n (tbUs a.1) a.1 ∨ (∃ f ∈ fs, f.unit = n) → HasFired n (tbUs a.1) r := by
  induction fs generalizing a with
  | nil =>
    refine ⟨rfl, ⟨rfl, rfl, rfl⟩, fun n _ h => ?_⟩
    rcases h with h | ⟨f, hf, -⟩
    · exact h
    · exact absurd hf List.not_mem_nil
  | cons f r ih =>
    have hf := fireUnit_fired f a
    obtain ⟨htime, ⟨hcodes, hsw, hat⟩, hfired⟩ := ih (fireUnit f a)
    obtain ⟨hcodes1, hsw1, hat1⟩ := hf.sample
    refine ⟨htime.trans hf.time, ⟨hcodes.trans hcodes1, hsw.trans hsw1, hat.trans hat1⟩, fun n hn h => ?_⟩
    rw [← hf.time]
    refine hfired n hn ?_
    rw [hf.time]
    rcases h with h | ⟨g, hg, rfl⟩
    · exact .inl (hf.keeps h)
    · rcases List.mem_cons.mp hg with rfl | hr
      · exact .inl (hf.hasFired hn)
      · exact .inr ⟨g, hr, rfl⟩

/-- Every firing of a boundary fires its unit, and the sample stays. -/
theorem fireAll_fired (fs : List Firing) (s : State) : tbUs (fireAll fs s) = tbUs s ∧
    ((fireAll fs s).sm.busCodes = s.sm.busCodes ∧ (fireAll fs s).sm.swFired = s.sm.swFired ∧
      (fireAll fs s).sm.sampleAt = s.sm.sampleAt) ∧
    ∀ f ∈ fs, f.unit < 64 → HasFired f.unit (tbUs s) (fireAll fs s) := by
  have hcap : watch (fs.foldl (fun u f => capture f u) s) = watch s := foldl_keeps watch _ (fun u f => capture_watch f u) _ s
  obtain ⟨htime, ⟨hcodes, hsw, hat⟩, hfired⟩ := foldl_fireUnit fs
    (fs.foldl (fun u f => capture f u) s, { stops := [], bus := false })
  have htb : tbUs (fs.foldl (fun u f => capture f u) s) = tbUs s := congrArg Prod.snd hcap
  refine ⟨htime.trans htb, ⟨hcodes.trans (eq_of_watch hcap Stage.busCodes fun _ => rfl),
    hsw.trans (eq_of_watch hcap Stage.swFired fun _ => rfl), hat.trans (eq_of_watch hcap Stage.sampleAt fun _ => rfl)⟩,
    fun f hf hn => ?_⟩
  have h := hfired f.unit hn (.inr ⟨f, hf, rfl⟩)
  rw [htb] at h
  exact h

/-! ### The sample -/

/-- Whatever a unit's sample shows, the firing is the unit's own. -/
theorem sampleUnit_unit {s : State} {codes : List Nat} {n : Nat} {f : Firing} (h : (sampleUnit s codes n).2 = some f) :
    f.unit = n := by
  unfold sampleUnit at h
  extract_lets u at h
  split at h
  · cases h
  · split at h
    · split at h
      · extract_lets cues hit at h
        split at h
        · cases h; rfl
        · cases h
      · cases h
    · split at h
      · cases h
      · split at h
        · split at h
          · cases h
          · obtain ⟨x, -, rfl⟩ := Option.map_eq_some_iff.mp h
            rfl
        · obtain ⟨x, -, rfl⟩ := Option.map_eq_some_iff.mp h
          rfl
    · split at h
      · cases h; rfl
      · cases h
    · split at h
      · cases h; rfl
      · cases h

/-- Noting a sample leaves every unit's timer, and changes nothing but the units. -/
theorem noteSample_keeps (m : Nat) (cs : List Nat) (s : State) (n : Nat) :
    ((noteSample m cs s).sm.trig.get {} n).since = (s.sm.trig.get {} n).since := by
  have htrig : (noteSample m cs s).sm.trig = s.sm.trig.upd {} m (fun u => { u with seen := [], cues := cs }) := rfl
  rw [htrig]
  by_cases h : n = m
  · rw [h, Tab.get_upd_same]
  · rw [Tab.get_upd_other _ _ _ h]

/-- Everything but the units. -/
def unitsOnly (s : State) : State := { s with sm := { s.sm with trig := [] } }

theorem eq_of_unitsOnly {α : Type} {u s : State} (h : unitsOnly u = unitsOnly s) (f : State → α)
    (hf : ∀ x, f (unitsOnly x) = f x) : f u = f s := by
  rw [← hf u, h, hf]

/-- A unit's time is out whatever its sample noted. -/
theorem timeoutDue_of_unitsOnly {u s : State} (h : unitsOnly u = unitsOnly s) {n : Nat}
    (hs : (u.sm.trig.get {} n).since = (s.sm.trig.get {} n).since) : timeoutDue u n = timeoutDue s n := by
  have hB : trigB u n = trigB s n := eq_of_unitsOnly h (fun x => trigB x n) fun _ => rfl
  have hE : trigEnabled u n = trigEnabled s n := eq_of_unitsOnly h (fun x => trigEnabled x n) fun _ => rfl
  have hT : tbUs u = tbUs s := eq_of_unitsOnly h tbUs fun _ => rfl
  simp only [timeoutDue, hB, hE, hT, hs]

/-- What unit `n` finds at the boundary. -/
def unitSample (s : State) (n : Nat) : Option (List Nat) × Option Firing := sampleUnit s (s.sm.busCodes ++ s.sm.busOut.toList) n

/-- A boundary: the samples are noted in `u`, its inputs are taken, and the firings `fs` follow. -/
structure Boundary (s u : State) (fs : List Firing) : Prop where
  eq : triggerSample s =
    fireAll fs { u with sm := { u.sm with busCodes := [], busOut := none, swFired := [], sampleAt := tbUs s } }
  frame : unitsOnly u = unitsOnly s
  since : ∀ n, (u.sm.trig.get {} n).since = (s.sm.trig.get {} n).since
  same : (∀ n < 64, (unitSample s n).1 = none) → u = s
  firings : ∀ f, f ∈ fs ↔ ∃ n < 64, boundaryFiring u n (unitSample s n).2 = some f

theorem triggerSample_boundary (s : State) : ∃ u fs, Boundary s u fs := by
  refine ⟨_, _, rfl, ?_, fun n => ?_, fun h => ?_, fun f => ?_⟩
  · refine foldl_keeps unitsOnly _ (fun u r => ?_) _ s
    split <;> rfl
  · refine foldl_keeps (fun x : State => (x.sm.trig.get {} n).since) _ (fun u r => ?_) _ s
    split
    · exact noteSample_keeps _ _ u n
    · rfl
  · rw [List.foldl_map]
    refine foldl_fixed fun n hn => ?_
    have hnone : (sampleUnit s (s.sm.busCodes ++ s.sm.busOut.toList) n).1 = none := h n (List.mem_range.mp hn)
    simp only [hnone]
  · simp only [List.mem_filterMap, List.mem_map, List.mem_range]
    constructor
    · rintro ⟨_, ⟨n, hn, rfl⟩, hf⟩
      exact ⟨n, hn, hf⟩
    · rintro ⟨n, hn, hf⟩
      exact ⟨_, ⟨n, hn, rfl⟩, hf⟩

/-- A unit that fires at the boundary. -/
theorem triggerSample_hasFired {s : State} {n : Nat} (hn : n < 64)
    (h : (unitSample s n).2 ≠ none ∨ timeoutDue s n = true) : HasFired n (tbUs s) (triggerSample s) := by
  obtain ⟨u, fs, hb⟩ := triggerSample_boundary s
  have hunit : ∃ f, f.unit = n ∧ boundaryFiring u n (unitSample s n).2 = some f := by
    cases hf : (unitSample s n).2 with
    | some f => exact ⟨f, sampleUnit_unit hf, rfl⟩
    | none =>
      have hdue : timeoutDue u n = true := by
        rw [timeoutDue_of_unitsOnly hb.frame (hb.since n)]
        exact h.resolve_left fun hne => hne hf
      exact ⟨forcedFiring u n, rfl, if_pos hdue⟩
  obtain ⟨f, rfl, hf⟩ := hunit
  have htime : tbUs u = tbUs s := eq_of_unitsOnly hb.frame tbUs fun _ => rfl
  have hfired := (fireAll_fired fs { u with sm := { u.sm with
    busCodes := [], busOut := none, swFired := [], sampleAt := tbUs s } }).2.2 f ((hb.firings f).mpr ⟨f.unit, hn, hf⟩) hn
  have hthen : HasFired f.unit (tbUs u) _ := hfired
  rw [htime] at hthen
  rw [hb.eq]
  exact hthen

/-- A cue-bus unit whose code came, and a software unit that was triggered. -/
theorem sampleUnit_fires {s : State} {codes : List Nat} {n : Nat} (he : trigEnabled s n = true)
    (h : (trigSrc s n = 2 ∧ trigId s n ∈ codes) ∨ (trigSrc s n = 3 ∧ n ∈ s.sm.swFired)) :
    (sampleUnit s codes n).2 ≠ none := by
  rcases h with ⟨hsrc, hmem⟩ | ⟨hsrc, hmem⟩
  · simp [sampleUnit, he, hsrc, hmem]
  · simp [sampleUnit, he, hsrc, hmem]

/-- With no unit enabled the boundary fires nothing. -/
theorem triggerSample_disabled {s : State} (h : ∀ m < 64, trigEnabled s m = false) : triggerSample s =
    { s with sm := { s.sm with busCodes := [], busOut := none, swFired := [], sampleAt := tbUs s } } := by
  have hunit : ∀ n < 64, unitSample s n = (none, none) := fun n hn => by simp [unitSample, sampleUnit, h n hn]
  obtain ⟨u, fs, hb⟩ := triggerSample_boundary s
  have hu : u = s := hb.same fun n hn => by rw [hunit n hn]
  have hnone : fs = [] := by
    refine List.eq_nil_iff_forall_not_mem.mpr fun f hf => ?_
    obtain ⟨n, hn, hfire⟩ := (hb.firings f).mp hf
    have hoff : timeoutDue u n = false := by rw [hu]; simp [timeoutDue, h n hn]
    rw [hunit n hn, boundaryFiring, hoff] at hfire
    exact absurd hfire (by simp)
  rw [hb.eq, hnone, hu]
  rfl

/-! ### The statement -/

theorem triggerTimeout_of_not {n : Nat} {s : State} (h : timeoutDue s n = false) : triggerTimeout n s = s := by
  rw [triggerTimeout, h]
  rfl

theorem triggerTimeout_sampling {n : Nat} {s : State} (h : timeoutDue s n = true) (hd : sampleDue s = true) :
    triggerTimeout n s = triggerSample s := by
  rw [triggerTimeout, h, hd]
  rfl

theorem triggerTimeout_alone {n : Nat} {s : State} (h : timeoutDue s n = true) (hd : sampleDue s = false) :
    triggerTimeout n s = (fireUnit (forcedFiring s n) (s, { stops := [], bus := s.sm.busOut.isSome })).1 := by
  rw [triggerTimeout, h, hd]
  rfl

theorem timeoutDue_lt {n : Nat} {s : State} (h : timeoutDue s n = true) : n < 64 := by
  simp only [timeoutDue, Bool.and_eq_true, decide_eq_true_eq] at h
  exact h.1.1.1

theorem hasFired_settle {n T : Nat} {b s : State} (h : HasFired n T s) : HasFired n T (settle b s) := by
  unfold HasFired
  rw [settle_sm]
  exact h

/-- Settles O42: samples, firings, timeouts and software triggers. -/
theorem triggers : Obligations.Triggers := by
  intro t n p s hs hp
  have hsample : exec (.triggerSample t) s = act t s (fun u => if sampleDue u then triggerSample u else u) := rfl
  have htimeout : exec (.triggerTimeout t n) s = act t s (triggerTimeout n) := rfl
  have hsoft : exec (.triggerSoftware t p n) s = act t s (onPath p (softTrigger n)) := rfl
  obtain ⟨hlive, hdue⟩ := awake_iff.mp hs
  refine ⟨fun hd => ?_, fun ht hd => ?_, fun ht hd hb => ?_, fun hd hoff => ?_, fun hd => ?_, fun ht => ?_, fun ht => ?_,
    fun he hsrc => ?_, fun h => ?_⟩
  · rw [hsample]
    refine yields_act hs ?_
    obtain ⟨u, fs, hb⟩ := triggerSample_boundary (begin t s)
    obtain ⟨-, ⟨hcodes, hsw, hat⟩, -⟩ := fireAll_fired fs { u with sm := { u.sm with
      busCodes := [], busOut := none, swFired := [], sampleAt := tbUs (begin t s) } }
    rw [← hb.eq] at hcodes hsw hat
    rw [if_pos hd, settle_sm]
    refine ⟨hcodes, hsw, hat, fun hn he hf => ?_, fun ht => ?_⟩
    · exact triggerSample_hasFired (s := begin t s) hn (.inl (sampleUnit_fires (s := begin t s) he hf))
    · exact triggerSample_hasFired (timeoutDue_lt ht) (.inr ht)
  · rw [htimeout, hsample, act_live hlive hdue, act_live hlive hdue, triggerTimeout_sampling ht hd, if_pos hd]
  · rw [htimeout]
    refine yields_act hs ?_
    obtain ⟨-, -, -, ⟨-, -, hat⟩, hbus⟩ := fireUnit_fired (forcedFiring (begin t s) n)
      (begin t s, { stops := [], bus := (begin t s).sm.busOut.isSome })
    rw [triggerTimeout_alone ht hd, settle_sm]
    exact ⟨hbus hb, hat⟩
  · rw [hsample]
    refine yields_act hs ?_
    rw [if_pos hd, triggerSample_disabled (s := begin t s) hoff, settle_sm]
    exact ⟨rfl, rfl, _, rfl, rfl⟩
  · rw [hsample]
    exact yields_no_effect (if_neg (Bool.not_eq_true _ ▸ hd)) hdue
  · rw [htimeout]
    refine yields_act hs (hasFired_settle (n := n) (T := tbUs (begin t s)) ?_)
    cases hd : sampleDue (begin t s) with
    | true =>
      rw [triggerTimeout_sampling ht hd]
      exact triggerSample_hasFired (timeoutDue_lt ht) (.inr ht)
    | false =>
      rw [triggerTimeout_alone ht hd]
      exact (fireUnit_fired (forcedFiring (begin t s) n)
        (begin t s, { stops := [], bus := (begin t s).sm.busOut.isSome })).hasFired (timeoutDue_lt ht)
  · rw [htimeout]
    exact yields_no_effect (triggerTimeout_of_not ht) hdue
  · have hgo : (trigEnabled (begin t s) (n % 64) && trigSrc (begin t s) (n % 64) == 3) = true := by
      have he' : trigEnabled (begin t s) (n % 64) = true := he
      have hsrc' : trigSrc (begin t s) (n % 64) = 3 := hsrc
      rw [he', hsrc']
      rfl
    rw [hsoft]
    refine yields_act hs ?_
    rw [onPath_of_ne hp, softTrigger, if_pos hgo, settle_sm]
    refine ⟨mem_firsts_nil (List.mem_append_right _ List.mem_cons_self), _, rfl, rfl⟩
  · have hgo : ¬ (trigEnabled (begin t s) (n % 64) && trigSrc (begin t s) (n % 64) == 3) = true := by
      rcases h with h | h
      · have he' : trigEnabled (begin t s) (n % 64) = false := h
        rw [he']
        exact Bool.false_ne_true
      · have hsrc' : (trigSrc (begin t s) (n % 64) == 3) = false := beq_false_of_ne h
        rw [hsrc', Bool.and_false]
        exact Bool.false_ne_true
    rw [hsoft]
    refine yields_no_effect ?_ hdue
    rw [onPath_of_ne hp, softTrigger, if_neg hgo]

end Sys2Proof.Machine
end

section
/-! The scene program and the control of the follow spot (R279 to R291). -/

namespace Sys2Proof.Machine

/-! ### What the planning of scenes leaves alone -/

/-- The follow spot without its plan and the tick at which its conditions came together. -/
def spotRest (s : State) : FollowSpot :=
  { s.fs with fixed := [], planStep := 0, planRep := 0, cur := none, readyAt := none }

theorem spotRest_fixOne (k : Nat) (p : Option FixedScene) (s : State) : spotRest (fixOne k p s) = spotRest s := by
  unfold fixOne
  split <;> rfl

theorem readyAt_fixOne (k : Nat) (p : Option FixedScene) (s : State) : (fixOne k p s).fs.readyAt = s.fs.readyAt := by
  unfold fixOne
  split <;> rfl

theorem cur_fixOne (k : Nat) (p : Option FixedScene) (s : State) : (fixOne k p s).fs.cur = s.fs.cur := by
  unfold fixOne
  split <;> rfl

/-- What every single scene keeps, the planning of the horizon keeps. -/
theorem keeps_fixScenes {α : Type} (f : State → α) (h : ∀ k p x, f (fixOne k p x) = f x) (n : Nat) (s : State) :
    f (fixScenes n s) = f s := by
  induction n generalizing s with
  | zero => rfl
  | succ n ih =>
    unfold fixScenes
    split
    · rfl
    · split
      · rw [ih, h]
      · rfl

theorem spotRest_planProgram (us : Nat) (s : State) : spotRest (planProgram us s) = spotRest s := by
  rw [planProgram, keeps_fixScenes spotRest spotRest_fixOne, spotRest_fixOne]
  rfl

theorem readyAt_planProgram (us : Nat) (s : State) : (planProgram us s).fs.readyAt = s.fs.readyAt := by
  rw [planProgram, keeps_fixScenes (fun x => x.fs.readyAt) readyAt_fixOne, readyAt_fixOne]

theorem spotRest_trackReady (s : State) : spotRest (trackReady s) = spotRest s := by
  unfold trackReady
  split
  · split
    · rfl
    · dsimp only
      split
      · rw [spotRest_planProgram]
        rfl
      · rfl
  · rfl

/-- What reads nothing of the plan reads the same once `readyAt` has followed its conditions. -/
theorem trackReady_keeps {α : Type} (f : FollowSpot → α) (hf : ∀ x, f (spotRest x) = f x.fs) (s : State) :
    f (trackReady s).fs = f s.fs := by
  rw [← hf, spotRest_trackReady, hf]

theorem trackReady_readyAt {s : State} (hw : sceneWanted s = true) (hr : (s.fs.sceneRun && !s.fs.stop) = false) :
    (trackReady s).fs.readyAt = some (s.fs.readyAt.getD (tbTick s)) := by
  rw [trackReady, if_pos hw, if_neg (Bool.not_eq_true _ ▸ hr)]
  dsimp only
  split
  · rw [readyAt_planProgram]
  · rfl

theorem trackReady_unready {s : State} (hw : sceneWanted s = false) : (trackReady s).fs.readyAt = none := by
  rw [trackReady, if_neg (Bool.not_eq_true _ ▸ hw)]

theorem stopScene_keeps {α : Type} (f : FollowSpot → α) (hf : ∀ x : State, f { spotRest x with stop := false } = f x.fs)
    (s : State) : f (stopScene s).fs = f s.fs := by
  have h := trackReady_keeps (fun x : FollowSpot => { spotRest { s with fs := x } with stop := false }) (fun _ => rfl)
    { s with fs := { s.fs with stop := s.fs.sceneRun } }
  have hs : ({ spotRest (stopScene s) with stop := false } : FollowSpot) = { spotRest s with stop := false } := h
  rw [← hf, hs, hf]

theorem stopScene_stop (s : State) : (stopScene s).fs.stop = s.fs.sceneRun :=
  trackReady_keeps FollowSpot.stop (fun _ => rfl) _

theorem leaves_of_spotFrame {t : Nat} {s v : State} (h : spotFrame v = spotFrame (begin t s)) :
    Leaves t s (settle s v) (fun x => { x with fs := {} }) :=
  ⟨v, rfl, congrArg (fun x : State => { x with recent := {} }) h⟩

/-! ### A follow-spot fault -/

/-- The follow spot of `s` once fault `c` is latched. -/
def faulted (c : Nat) (s : State) : State :=
  { s with fs := { s.fs with
    fault := c, hold := true, held := true, release := false, parkNext := true, cntFe := inc32 s.fs.cntFe } }

theorem fsFault_eq (c : Nat) (s : State) : fsFault c s =
    (let w := endCues (fun e => e.cue.kind == 0) 2 0x13 0 (noteWorst (setEvent evFollowSpot (stopScene (faulted c s))))
    if gatedField w then latchCause 0x0F w else w) := rfl

/-- A fault latches its cause, holds the loop, counts and sets its event. -/
theorem fsFault_kept (c : Nat) (s : State) : (fsFault c s).fs = (stopScene (faulted c s)).fs ∧
    (fsFault c s).cb.event.getLsbD evFollowSpot = true := by
  rw [fsFault_eq]
  generalize stopScene (faulted c s) = u
  have htidy := (noteWorst_tidy (setEvent evFollowSpot u)).trans
    (endCues_tidy (fun e => e.cue.kind == 0) 2 0x13 0 (noteWorst (setEvent evFollowSpot u)))
  have hfs : (endCues (fun e => e.cue.kind == 0) 2 0x13 0 (noteWorst (setEvent evFollowSpot u))).fs = u.fs :=
    calm_fs htidy.calm
  have hev := htidy.events _ (setEvent_event evFollowSpot (by decide) u)
  dsimp only
  split
  · exact ⟨(latchCause_keeps _ _ State.fs fun _ => rfl).trans hfs, latchCause_keeps_event _ hev⟩
  · exact ⟨hfs, hev⟩

theorem fsFault_fault (c : Nat) (s : State) : (fsFault c s).fs.fault = c := by
  rw [(fsFault_kept c s).1]
  exact stopScene_keeps FollowSpot.fault (fun _ => rfl) (faulted c s)

theorem fsFault_cntFe (c : Nat) (s : State) : (fsFault c s).fs.cntFe = inc32 s.fs.cntFe := by
  rw [(fsFault_kept c s).1]
  exact stopScene_keeps FollowSpot.cntFe (fun _ => rfl) (faulted c s)

/-! ### The start of the program -/

theorem spotFrame_nextScene (k : Nat) (s : State) : spotFrame (nextScene k s) = spotFrame s := by
  have hfix : spotFrame (if s.fs.fixed.isEmpty then fixOne k s.fs.cur s else s) = spotFrame s := by
    split
    · exact spotFrame_fixOne k _ s
    · rfl
  unfold nextScene
  dsimp only
  generalize (if s.fs.fixed.isEmpty then fixOne k s.fs.cur s else s) = u at hfix
  split
  · exact hfix
  · exact hfix

/-- A scene that begins shows its step and repeat, and leaves the rest of the follow spot but its plan. -/
theorem nextScene_keeps {α : Type} (f : FollowSpot → α)
    (hf : ∀ x : State, f { spotRest x with step := 0, rep := 0 } = f x.fs) (k : Nat) (s : State) :
    f (nextScene k s).fs = f s.fs := by
  have hfix : spotRest (if s.fs.fixed.isEmpty then fixOne k s.fs.cur s else s) = spotRest s := by
    split
    · exact spotRest_fixOne k _ s
    · rfl
  have hnext : ({ spotRest (nextScene k s) with step := 0, rep := 0 } : FollowSpot) =
      { spotRest s with step := 0, rep := 0 } := by
    unfold nextScene
    dsimp only
    generalize (if s.fs.fixed.isEmpty then fixOne k s.fs.cur s else s) = u at hfix
    rw [← hfix]
    split <;> rfl
  rw [← hf, hnext, hf]

/-- The first scene starts on a multiple of 80 µs, at least 32 µs after its conditions came together. -/
theorem sceneStartUs_bound (r : Nat) : r + 32 * usTicks ≤ usTicks * sceneStartUs r ∧ sceneStartUs r % 80 = 0 := by
  constructor
  · have hpos : 0 < 80 * usTicks := by decide
    have hdiv := Nat.lt_mul_div_succ (r + 32 * usTicks + 80 * usTicks - 1) hpos
    rw [sceneStartUs, ceilDiv, ← Nat.mul_assoc, Nat.mul_comm usTicks]
    rw [Nat.mul_add] at hdiv
    omega
  · rw [sceneStartUs, Nat.mul_mod_right]

theorem programStart_due {s : State} {r : Nat} (hr : s.fs.readyAt = some r) (hready : sceneReady s = true)
    (hus : sceneStartUs r ≤ tbUs s) : programStart s = startProgram (sceneStartUs r) s := by
  have hgo : (sceneReady s && decide (sceneStartUs r ≤ tbUs s)) = true := by
    rw [hready, decide_eq_true hus]
    rfl
  unfold programStart
  rw [hr]
  exact if_pos hgo

theorem programStart_waits {s : State} (h : s.fs.readyAt = none ∨ sceneReady s = false ∨
    s.fs.readyAt.any (fun r => decide (tbUs s < sceneStartUs r)) = true) : programStart s = s := by
  unfold programStart
  split
  · next r hr =>
    refine if_neg fun hgo => ?_
    obtain ⟨hready, hus⟩ := Bool.and_eq_true_iff.mp hgo
    rcases h with h | h | h
    · rw [hr] at h; cases h
    · rw [hready] at h; cases h
    · rw [hr, Option.any_some, decide_eq_true_eq] at h
      exact absurd (decide_eq_true_eq.mp hus) (Nat.not_le.mpr h)
  · rfl

/-! ### The obligation -/

/-- The loop held at its last drive code. -/
def heldLoop (s : State) : State :=
  { s with fs := { s.fs with
    hold := true, held := true, release := false, parkNext := s.fs.parkNext && s.fs.hold
    out := if s.fs.held then s.fs.out else s.fs.drv } }

theorem setHold_held (p : Path) {s : State} (h : scanActive s = false) : (setHold p s).2 = stopScene (heldLoop s) := by
  rw [setHold, if_neg (Bool.not_eq_true _ ▸ h)]
  rfl

theorem clearFault_cleared {s : State} (hheld : s.fs.held = true) (h : s.fs.fault = 0 ∨ s.fs.rangeRun < 2) :
    clearFault s = { s with fs := { s.fs with fault := 0, feTimer := 0 } } := by
  rw [clearFault, if_pos hheld]
  dsimp only
  rcases h with h | h
  · rw [if_pos h]
  · rw [if_neg (Nat.not_le.mpr h), ite_self]

theorem clearFault_again {s : State} (hheld : s.fs.held = true) (hf : s.fs.fault ≠ 0) (hr : 2 ≤ s.fs.rangeRun) :
    clearFault s = fsFault 2 { s with fs := { s.fs with fault := 0, feTimer := 0 } } := by
  rw [clearFault, if_pos hheld]
  dsimp only
  rw [if_neg hf, if_pos hr]

/-- Settles O43: each bit of FS_CTRL, and the start of the program. -/
theorem followSpotControl : Obligations.FollowSpotControl := by
  intro t p s hs hp
  have hhold : exec (.fsHold t p) s = act t s (onPath p (fun u => (setHold p u).2)) := rfl
  have hrel : exec (.fsRelease t p) s = act t s (onPath p (fun u => (clearHold p u).2)) := rfl
  have hrun : exec (.fsRunSet t p) s = act t s (onPath p setRun) := rfl
  have hstop : exec (.fsRunClear t p) s = act t s (onPath p clearRun) := rfl
  have hclr : exec (.fsFeClr t p) s = act t s (onPath p clearFault) := rfl
  have hstart : exec (.sceneProgramStart t) s = act t s programStart := rfl
  have hdue := (awake_iff.mp hs).2
  rw [hhold, hrel, hrun, hstop, hclr, hstart]
  refine ⟨fun hscan => ?_, fun hscan => ?_, fun hh hok => ?_, fun hh hok => ?_, fun hh => ?_, ?_, ?_, fun hheld h => ?_,
    fun hheld hf hr => ?_, fun hheld => ?_, fun r hr hready hus => ?_, fun r _ => sceneStartUs_bound r, fun h => ?_⟩
  · refine yields_act hs ?_
    rw [onPath_of_ne hp, setHold_held p (s := begin t s) hscan]
    have hrest {α : Type} (f : FollowSpot → α) (hf) := stopScene_keeps f hf (heldLoop (begin t s))
    rw [settle_fs]
    exact ⟨hrest FollowSpot.hold fun _ => rfl, hrest FollowSpot.held fun _ => rfl,
      hrest FollowSpot.release fun _ => rfl, hrest FollowSpot.drv fun _ => rfl, hrest FollowSpot.out fun _ => rfl,
      hrest FollowSpot.run fun _ => rfl, leaves_of_spotFrame (spotFrame_stopScene _)⟩
  · refine yields_act hs ?_
    have hscan' : scanActive (begin t s) = true := hscan
    rw [onPath_of_ne hp, setHold, if_pos hscan']
    exact ⟨leaves_violation t p _ _ s, settle_cb_violKind _ _, settle_cb_violAddr _ _⟩
  · refine yields_act hs ?_
    have hh' : ¬ (!(begin t s).fs.hold) = true := by rw [begin_fs, hh]; exact Bool.false_ne_true
    have hok' : releasable (begin t s) = true := hok
    rw [onPath_of_ne hp, clearHold, if_neg hh', if_pos hok', settle_fs]
    exact ⟨rfl, rfl, rfl, _, rfl, rfl⟩
  · refine yields_act hs ?_
    have hh' : ¬ (!(begin t s).fs.hold) = true := by rw [begin_fs, hh]; exact Bool.false_ne_true
    have hok' : ¬ releasable (begin t s) = true := Bool.not_eq_true _ ▸ hok
    rw [onPath_of_ne hp, clearHold, if_neg hh', if_neg hok']
    exact ⟨leaves_violation t p _ _ s, settle_cb_violKind _ _, settle_cb_violAddr _ _⟩
  · refine yields_no_effect ?_ hdue
    have hh' : (!(begin t s).fs.hold) = true := by rw [begin_fs, hh]; rfl
    rw [onPath_of_ne hp, clearHold, if_pos hh']
  · refine yields_act hs ?_
    rw [onPath_of_ne hp, setRun, settle_fs]
    have hrest {α : Type} (f : FollowSpot → α) (hf) := trackReady_keeps f hf
      { begin t s with fs := { s.fs with run := true } }
    refine ⟨hrest FollowSpot.run fun _ => rfl, hrest FollowSpot.drv fun _ => rfl, hrest FollowSpot.held fun _ => rfl,
      fun hheld hshow h => trackReady_readyAt (s := { begin t s with fs := { s.fs with run := true } }) ?_ ?_,
      leaves_of_spotFrame (spotFrame_trackReady _)⟩
    · have hshow' : inShow { begin t s with fs := { s.fs with run := true } } = true := hshow
      rw [sceneWanted, hshow']
      simp [hheld]
    · rcases h with h | h <;> simp [h]
  · refine yields_act hs ?_
    rw [onPath_of_ne hp, clearRun, settle_fs]
    have hrest {α : Type} (f : FollowSpot → α) (hf) := stopScene_keeps f hf
      { begin t s with fs := { s.fs with run := false } }
    exact ⟨hrest FollowSpot.run fun _ => rfl, stopScene_stop _, trackReady_unready rfl,
      hrest FollowSpot.drv fun _ => rfl, leaves_of_spotFrame (spotFrame_stopScene _)⟩
  · refine yields_act hs ?_
    rw [onPath_of_ne hp, clearFault_cleared (s := begin t s) hheld h, settle_fs]
    exact ⟨rfl, rfl, hheld, _, rfl, rfl⟩
  · refine yields_act hs ?_
    rw [onPath_of_ne hp, clearFault_again (s := begin t s) hheld hf hr, settle_fs]
    exact ⟨fsFault_fault _ _, fsFault_cntFe _ _, settle_keeps_event (fsFault_kept _ _).2⟩
  · refine yields_no_effect ?_ hdue
    have hheld' : ¬ (begin t s).fs.held = true := Bool.not_eq_true _ ▸ hheld
    rw [onPath_of_ne hp, clearFault, if_neg hheld']
  · refine yields_act hs ?_
    rw [programStart_due (s := begin t s) hr hready hus, settle_fs]
    have hran := nextScene_keeps FollowSpot.ranBefore (fun _ => rfl) (sceneStartUs r / 5) (begin t s)
    have hscene := nextScene_keeps FollowSpot.scene (fun _ => rfl) (sceneStartUs r / 5) (begin t s)
    refine ⟨rfl, rfl, ?_, leaves_of_spotFrame (spotFrame_nextScene (sceneStartUs r / 5) (begin t s))⟩
    show (if (nextScene _ _).fs.ranBefore = true then ((nextScene _ _).fs.scene + 1) % 65536 else _) = _
    rw [hran, hscene]
    rfl
  · exact yields_no_effect (programStart_waits (s := begin t s) h) hdue

end Sys2Proof.Machine
end

section
/-! O44: a table of waiting emission delays with two entries under one batten. -/

namespace Sys2Proof.Machine

/-- A scene at 100 Hz that begins with the timebase. -/
def firstScene : FixedScene :=
  { start := 0, prof := { shape := 1, rate := 100, azStart := 0, azEnd := 0, flyback := 0, stare := 0, comp := 0 }
    step := 0, rep := 0, reverse := false }

/-- Show, with a scene that is over 10 ms after the start of the timebase and the next one fixed. Two accepted delays
wait under batten 0: a read of their table finds the first, but both apply in turn, so that the second stays. -/
def doubleDelay : State :=
  { pwr := { mode := .show }
    fs := { hold := false, run := true, held := false, sceneRun := true, cur := some firstScene, fixed := [firstScene] }
    cal := { newEd := [(0, (0, 1)), (0, (0, 2))] } }

theorem doubleDelay_applied :
    (loopPeriod (loopPeriodOf (tbTick (begin 40000000 doubleDelay))) (min 0 65535) false
      (begin 40000000 doubleDelay)).cal.edelay.find 0 = some 2 := by
  decide +kernel

/-- Refutes O44: in a table with two waiting delays under one batten the one that a read of the table does not find
applies last, and so is the one in use after the scene change. -/
theorem not_loopPeriods : ¬ Obligations.LoopPeriods := by
  intro h
  have hs : awake 40000000 doubleDelay = true := by decide +kernel
  have hdue : loopDue (begin 40000000 doubleDelay) = true := by decide +kernel
  have hexec : exec (.loopPeriod 40000000 0 false) doubleDelay =
      .next (settle doubleDelay (loopPeriod (loopPeriodOf (tbTick (begin 40000000 doubleDelay))) (min 0 65535) false
        (begin 40000000 doubleDelay))) := by
    have hact : exec (.loopPeriod 40000000 0 false) doubleDelay = act 40000000 doubleDelay (fun u =>
      if loopDue u then loopPeriod (loopPeriodOf (tbTick u)) (min 0 65535) false u else u) := rfl
    rw [hact, act_live (awake_iff.mp hs).1 (awake_iff.mp hs).2, if_pos hdue]
  obtain ⟨hrun, -⟩ := h
  obtain ⟨-, hchange, -⟩ := hrun 40000000 0 _ 0 false 0 0 0 0 0 [] [] doubleDelay hs hdue rfl
  have hbad := hchange firstScene firstScene [] rfl rfl rfl rfl rfl rfl (by decide +kernel) rfl
  rw [hexec, yields_next_iff] at hbad
  obtain ⟨-, -, -, -, -, -, happlied, -⟩ := hbad
  have hdelay := happlied 0 0 1 rfl (by decide +kernel)
  rw [settle_cal, doubleDelay_applied] at hdelay
  exact absurd hdelay (by decide)

end Sys2Proof.Machine
end

section
/-! Safety boundaries and permits (R303, R305, R308). -/

namespace Sys2Proof.Machine

/-! ### The safety state at the end of a command -/

/-- The safety state once the curtain has dropped. -/
def droppedSafety (x : Safety) : Safety :=
  { x with
    curtain := false, outA := x.outA.opened, outB := x.outB.opened, cntDemand := inc32 x.cntDemand
    main := x.main.dropped, fly := x.fly.dropped }

theorem settle_saf_cases (b s : State) :
    (settle b s).saf = s.saf ∨ s.saf.curtain = true ∧ curtainAllowed s = false ∧ (settle b s).saf = droppedSafety s.saf := by
  cases hup : s.saf.curtain with
  | false => exact .inl (settle_saf_of_down hup)
  | true =>
    rcases settle_cases b s with ⟨-, h⟩ | ⟨hno, h⟩
    · exact .inl (by rw [h])
    · refine .inr ⟨rfl, hno, ?_⟩
      rw [h]
      simp only [dropCurtain, if_pos hup]
      rfl

/-- What reads nothing that a drop changes is the same at the end of a command. -/
theorem settle_saf_keeps {α : Type} (f : Safety → α) (hf : ∀ x, f (droppedSafety x) = f x) (b s : State) :
    f (settle b s).saf = f s.saf := by
  rcases settle_saf_cases b s with h | ⟨-, -, h⟩
  · rw [h]
  · rw [h, hf]

theorem dropped_seen (e : Evaluator) (i : Nat) : (e.dropped.spikes.get {} i).seen = (e.spikes.get {} i).seen := by
  rw [Evaluator.dropped, Tab.get_mapVals, Tab.get_eq_find]
  cases e.spikes.find i <;> rfl

theorem settle_main_seen (b s : State) (i : Nat) :
    ((settle b s).saf.main.spikes.get {} i).seen = (s.saf.main.spikes.get {} i).seen :=
  settle_saf_keeps (fun x => (x.main.spikes.get {} i).seen) (fun x => dropped_seen x.main i) b s

theorem settle_fly_seen (b s : State) (i : Nat) :
    ((settle b s).saf.fly.spikes.get {} i).seen = (s.saf.fly.spikes.get {} i).seen :=
  settle_saf_keeps (fun x => (x.fly.spikes.get {} i).seen) (fun x => dropped_seen x.fly i) b s

/-! ### Causes that stay -/

/-- Everything but the safety state, the call board and the running clock cycle. -/
def aside (s : State) : State := { s with saf := {}, cb := {}, recent := {} }

/-- The safety state without its causes and what a reset changes. -/
def uncaused (x : Safety) : Safety :=
  { x with cause := 0, causes := 0, present := 0, absent := [], outA := {}, outB := {}, resetReq := false }

/-- Cause `c` is latched, and its condition has been present in the running period. -/
def Latched (c : Nat) (s : State) : Prop := s.saf.causes.getLsbD c = true ∧ s.saf.present.getLsbD c = true

/-- A step among causes: nothing else changes, and causes whose condition was present stay. -/
structure CausesOnly (s u : State) : Prop where
  aside : aside u = aside s
  saf : uncaused u.saf = uncaused s.saf
  latched : ∀ c, Latched c s → Latched c u

theorem CausesOnly.refl (s : State) : CausesOnly s s := ⟨rfl, rfl, fun _ h => h⟩

theorem CausesOnly.trans {s u v : State} (h : CausesOnly s u) (h' : CausesOnly u v) : CausesOnly s v :=
  ⟨h'.aside.trans h.aside, h'.saf.trans h.saf, fun c hc => h'.latched c (h.latched c hc)⟩

theorem causeBit_getLsbD (i c : Nat) : (causeBit i).getLsbD c = (decide (c < 20) && decide (c = i)) := by
  rw [causeBit, BitVec.getLsbD_shiftLeft, BitVec.getLsbD_one]
  by_cases hc : c < 20 <;> by_cases hi : c < i <;> simp [hc, hi] <;> omega

theorem latchCause_latched (c : Nat) (s : State) : CausesOnly s (latchCause c s) := by
  refine ⟨latchCause_frame c s, ?_, fun i hi => ?_⟩
  · unfold latchCause
    split <;> rfl
  · obtain ⟨hc, hp⟩ := hi
    unfold latchCause
    split
    · exact ⟨hc, by simp [hp]⟩
    · exact ⟨by simp [setEvent, hc], by simp [setEvent, hp]⟩

theorem latched_latchCause {c : Nat} (hc : c < 20) (s : State) : Latched c (latchCause c s) := by
  refine ⟨latchCause_causes hc s, ?_⟩
  unfold latchCause
  split <;> simp [setEvent, causeBit_getLsbD, hc]

theorem latchAll (l : List Nat) (s : State) : CausesOnly s (l.foldl (fun x c => latchCause c x) s) := by
  induction l generalizing s with
  | nil => exact .refl s
  | cons c l ih => exact (latchCause_latched c s).trans (ih _)

theorem latched_latchAll {l : List Nat} {c : Nat} (hl : c ∈ l) (hc : c < 20) (s : State) :
    Latched c (l.foldl (fun x c => latchCause c x) s) := by
  induction l generalizing s with
  | nil => cases hl
  | cons d l ih =>
    rcases List.mem_cons.mp hl with rfl | h
    · exact (latchAll l _).latched _ (latched_latchCause hc s)
    · exact ih h _

/-- The bits of a list of causes. -/
theorem causeBits_getLsbD (l : List Nat) (m : BitVec 20) (c : Nat) (hm : m.getLsbD c = false) (hc : c ∉ l) :
    (l.foldl (fun m c => m ||| causeBit c) m).getLsbD c = false := by
  induction l generalizing m with
  | nil => exact hm
  | cons d l ih =>
    rw [List.mem_cons, not_or] at hc
    obtain ⟨hd, hl⟩ := hc
    exact ih _ (by rw [BitVec.getLsbD_or, hm, causeBit_getLsbD, decide_eq_false hd, Bool.and_false]; rfl) hl

theorem clearCauses_causes (cs : List Nat) (s : State) : CausesOnly s (clearCauses cs s) := by
  refine ⟨rfl, rfl, fun c hc => ?_⟩
  obtain ⟨hc, hp⟩ := hc
  refine ⟨?_, hp⟩
  have hlt : c < 20 := BitVec.lt_of_getLsbD hc
  have hgone : c ∉ cs.filter (fun c => s.saf.causes.getLsbD c && mayClear s c) := by
    simp [mayClear, hp]
  have hkept := causeBits_getLsbD _ 0 c BitVec.getLsbD_zero hgone
  rw [clearCauses]
  simp only [BitVec.getLsbD_and, BitVec.getLsbD_not, hc, hlt, hkept, decide_true, Bool.not_false, Bool.and_true]

theorem applyReset_causes (s : State) : CausesOnly s (applyReset s) := by
  unfold applyReset
  split
  · exact CausesOnly.trans (u := { s with saf := { s.saf with resetReq := false } }) ⟨rfl, rfl, fun _ h => h⟩
      (clearCauses_causes _ _)
  · exact .refl s

/-- How long each cause has been absent. -/
def countAbsent (s : State) : State :=
  { s with saf := { s.saf with absent := (List.range 20).foldl (fun t c =>
    t.set c (if s.saf.present.getLsbD c then 0 else t.get 0 c + 1)) s.saf.absent } }

theorem setAbsent_causes (t : Tab Nat) (s : State) : CausesOnly s { s with saf := { s.saf with absent := t } } :=
  ⟨rfl, rfl, fun _ h => h⟩

theorem countAbsent_causes (s : State) : CausesOnly s (countAbsent s) := setAbsent_causes _ s

theorem autoRestart_eq (s : State) : autoRestart s =
    if (safetyBlock s).any (fun b => b.restart == 1) then
      clearCauses (demandCauses.filter (fun c => c != 0x08 && decide (2 ≤ (countAbsent s).saf.absent.get 0 c))) (countAbsent s)
    else countAbsent s := rfl

theorem autoRestart_causes (s : State) : CausesOnly s (autoRestart s) := by
  rw [autoRestart_eq]
  split
  · exact (countAbsent_causes s).trans (clearCauses_causes _ _)
  · exact countAbsent_causes s

/-- The conditions that stand at the boundary were present in the period. -/
def noteStanding (s : State) : State := { s with saf := { s.saf with present := s.saf.present ||| standing s } }

theorem noteStanding_causes (s : State) : CausesOnly s (noteStanding s) :=
  ⟨rfl, rfl, fun _ h => ⟨h.1, by simp [noteStanding, h.2]⟩⟩

/-! ### The end of a period -/

/-- The causes that the end of period `n` raises. -/
def raisedAt (b : SafetyBlock) (n : Nat) (ok : Bool) (s : State) : List Nat :=
  (evaluateBoth b n s).1 ++ (if ok then [] else [0x13])

/-- The causes at the end of a period: raised, reset and restarted. -/
def judgedPeriod (b : SafetyBlock) (n : Nat) (ok : Bool) (s : State) : State :=
  autoRestart (applyReset (noteStanding ((raisedAt b n ok s).foldl (fun x c => latchCause c x) (evaluateBoth b n s).2)))

theorem judgedPeriod_causes (b : SafetyBlock) (n : Nat) (ok : Bool) (s : State) :
    CausesOnly (evaluateBoth b n s).2 (judgedPeriod b n ok s) :=
  (latchAll _ _).trans ((noteStanding_causes _).trans ((applyReset_causes _).trans (autoRestart_causes _)))

/-- A copy of the block that fails its CRC. -/
theorem judgedPeriod_copy (b : SafetyBlock) (n : Nat) (s : State) : Latched 0x13 (judgedPeriod b n false s) :=
  ((noteStanding_causes _).trans ((applyReset_causes _).trans (autoRestart_causes _))).latched _
    (latched_latchAll (List.mem_append_right _ List.mem_cons_self) (by decide) _)

/-- The boundary that ends period `n`, with the causes of the period judged. -/
theorem endPeriod_eq {s : State} {b : SafetyBlock} (hb : safetyBlock s = some b) (n : Nat) (mc fc : Bool) :
    ∃ good, endPeriod n mc fc s = { judgedPeriod b n (mc && fc) s with saf := { (judgedPeriod b n (mc && fc) s).saf with
      good := good, present := standing (judgedPeriod b n (mc && fc) s), mainData := [], flyData := []
      period := inc32 (judgedPeriod b n (mc && fc) s).saf.period, boundary := n + 2
      boundaryAt := (judgedPeriod b n (mc && fc) s).now, gotPermit := false } } := by
  rw [endPeriod, hb]
  exact ⟨_, rfl⟩

/-! ### What an evaluation leaves -/

theorem evaluateBoth_kept (b : SafetyBlock) (n : Nat) (s : State) :
    aside (evaluateBoth b n s).2 = aside s ∧ (evaluateBoth b n s).2.saf.period = s.saf.period := by
  unfold evaluateBoth
  split <;> exact ⟨rfl, rfl⟩

theorem evaluateBoth_idle (b : SafetyBlock) (n : Nat) {s : State} (h : inShow s = false) :
    (evaluateBoth b n s).2.saf.main = idlePeriod s b false (safetyP s) n s.saf.main ∧
    (evaluateBoth b n s).2.saf.fly = idlePeriod s b true (safetyP s) n s.saf.fly := by
  rw [evaluateBoth, if_neg (Bool.not_eq_true _ ▸ h)]
  exact ⟨rfl, rfl⟩

/-- An evaluator's position of a spike. -/
def positionOf (s : State) (b : SafetyBlock) (fly : Bool) (k : SpikeRec) : Option Int :=
  if fly then flyPosition s b k else mainPosition s k

/-- A spike whose position is given, in a table. -/
def noteSpike (s : State) (b : SafetyBlock) (fly : Bool) (p n : Nat) (t : Tab SpikeEval) (k : SpikeRec) : Tab SpikeEval :=
  match positionOf s b fly k with
  | some x => t.set k.spikeId ((t.get {} k.spikeId).next p n s.saf.curtain s.saf.everUp (k.dir != 2) (some x))
  | none => t

theorem idlePeriod_eq (s : State) (b : SafetyBlock) (fly : Bool) (p n : Nat) (e : Evaluator) :
    (idlePeriod s b fly p n e).permit = false ∧ (idlePeriod s b fly p n e).spikes =
      b.spikes.foldl (noteSpike s b fly p n) (e.spikes.mapVals (fun _ v => { v with seen := false })) :=
  ⟨rfl, rfl⟩

section
variable {s : State} {b : SafetyBlock} {fly : Bool} {p n : Nat}

theorem noteSpike_keeps_seen {t : Tab SpikeEval} {i : Nat} (h : (t.get {} i).seen = true) (k : SpikeRec) :
    ((noteSpike s b fly p n t k).get {} i).seen = true := by
  unfold noteSpike
  split
  · by_cases hk : i = k.spikeId
    · rw [hk, Tab.get_set_same]
      rfl
    · rw [Tab.get_set_other _ _ _ hk]
      exact h
  · exact h

theorem noteSpikes_keep_seen (l : List SpikeRec) {t : Tab SpikeEval} {i : Nat} (h : (t.get {} i).seen = true) :
    ((l.foldl (noteSpike s b fly p n) t).get {} i).seen = true := by
  induction l generalizing t with
  | nil => exact h
  | cons k l ih => exact ih (noteSpike_keeps_seen h k)

/-- A spike with a position is seen. -/
theorem noteSpikes_seen {l : List SpikeRec} {t : Tab SpikeEval} {k : SpikeRec} {x : Int} (hk : k ∈ l)
    (hx : positionOf s b fly k = some x) : ((l.foldl (noteSpike s b fly p n) t).get {} k.spikeId).seen = true := by
  induction l generalizing t with
  | nil => cases hk
  | cons j l ih =>
    rcases List.mem_cons.mp hk with rfl | hk
    · refine noteSpikes_keep_seen l ?_
      rw [noteSpike, hx]
      simp only [Tab.get_set_same]
      rfl
    · exact ih hk

/-- Without a position for any spike none is seen. -/
theorem noteSpikes_unseen (l : List SpikeRec) (t : Tab SpikeEval) (h : ∀ k, positionOf s b fly k = none) (i : Nat) :
    ((l.foldl (noteSpike s b fly p n) (t.mapVals (fun _ v => { v with seen := false }))).get {} i).seen = false := by
  rw [foldl_fixed fun k _ => by rw [noteSpike, h], Tab.get_mapVals]
  cases t.find i <;> rfl
end

theorem positionOf_main_none {s : State} (h : s.saf.mainData = []) (b : SafetyBlock) (k : SpikeRec) :
    positionOf s b false k = none := by
  simp [positionOf, mainPosition, h]

theorem positionOf_fly_none {s : State} (h : s.saf.flyData = []) (b : SafetyBlock) (k : SpikeRec) :
    positionOf s b true k = none := by
  have hnone : ∀ c, usable s b c = [] := fun c => by rw [usable, h]; rfl
  have hflat : k.flyCh.flatMap (usable s b) = [] := by simp [hnone]
  rw [positionOf, if_pos rfl, flyPosition, hflat]
  rfl

/-! ### The STATUS frame -/

theorem sendSirel_kept (ty dst : Nat) (payload : List Byte) (s : State) :
    lanesOnly { sendSirel ty dst payload s with saf := {} } = lanesOnly { s with saf := {} } ∧
    { (sendSirel ty dst payload s).saf with sirel := {} } = { s.saf with sirel := {} } := by
  have hseq : ∀ seq, lanesOnly { sendSirelSeq ty dst seq payload s with saf := {} } = lanesOnly { s with saf := {} } ∧
      { (sendSirelSeq ty dst seq payload s).saf with sirel := {} } = { s.saf with sirel := {} } := by
    intro seq
    unfold sendSirelSeq
    split
    · exact ⟨rfl, rfl⟩
    · dsimp only
      have hmsg {u : State} (bs : List Byte) := (lanesOnly_sendMsg 1 2 0x01 bs (sendMsg 0 2 0x01 bs u)).trans
        (lanesOnly_sendMsg 0 2 0x01 bs u)
      exact ⟨eq_of_lanesOnly (hmsg _) (fun x => lanesOnly { x with saf := {} }) fun _ => rfl,
        eq_of_lanesOnly (hmsg _) (fun x => { x.saf with sirel := {} }) fun _ => rfl⟩
  obtain ⟨hrest, hsaf⟩ := hseq s.saf.sirel.txSeq
  exact ⟨hrest, hsaf⟩

/-- STATUS changes the connection and the lanes. -/
theorem sendStatus_kept (s : State) : lanesOnly { sendStatus s with saf := {} } = lanesOnly { s with saf := {} } ∧
    { (sendStatus s).saf with sirel := {} } = { s.saf with sirel := {} } := by
  unfold sendStatus
  split
  · split
    · exact ⟨rfl, rfl⟩
    · exact sendSirel_kept _ _ _ s
  · exact ⟨rfl, rfl⟩

/-! ### The boundary -/

theorem safetyBlock_of_due {s : State} (h : safetyDue s = true) : ∃ b, safetyBlock s = some b := by
  have hp : 0 < safetyP s := of_decide_eq_true (Bool.and_eq_true_iff.mp h).1
  cases hi : s.img.active with
  | none => simp [safetyP, hi] at hp
  | some i => exact ⟨i.safety, by rw [safetyBlock, hi]; rfl⟩

/-- What the boundary that ends period `n` leaves. -/
structure BoundaryLeft (b : SafetyBlock) (n : Nat) (ok : Bool) (s u : State) : Prop where
  boundary : u.saf.boundary = n + 2
  period : u.saf.period = inc32 s.saf.period
  boundaryAt : u.saf.boundaryAt = s.now
  gotPermit : u.saf.gotPermit = false
  mainData : u.saf.mainData = []
  flyData : u.saf.flyData = []
  copy : ok = false → u.saf.causes.getLsbD 0x13 = true
  idle : inShow s = false → u.saf.main = idlePeriod s b false (safetyP s) n s.saf.main ∧
    u.saf.fly = idlePeriod s b true (safetyP s) n s.saf.fly
  rest : lanesOnly { aside u with saf := {} } = lanesOnly (aside s)

theorem endPeriod_left {s : State} {b : SafetyBlock} (hb : safetyBlock s = some b) (n : Nat) (mc fc : Bool) :
    BoundaryLeft b n (mc && fc) s (endPeriod n mc fc s) := by
  obtain ⟨good, he⟩ := endPeriod_eq hb n mc fc
  have hcauses := judgedPeriod_causes b n (mc && fc) s
  obtain ⟨haside, hperiod⟩ := evaluateBoth_kept b n s
  have hrest : aside (judgedPeriod b n (mc && fc) s) = aside s := hcauses.aside.trans haside
  have hnow : (aside (judgedPeriod b n (mc && fc) s)).now = (aside s).now := congrArg State.now hrest
  have hper : (uncaused (judgedPeriod b n (mc && fc) s).saf).period = (uncaused (evaluateBoth b n s).2.saf).period :=
    congrArg Safety.period hcauses.saf
  have hmain : (uncaused (judgedPeriod b n (mc && fc) s).saf).main = (uncaused (evaluateBoth b n s).2.saf).main :=
    congrArg Safety.main hcauses.saf
  have hfly : (uncaused (judgedPeriod b n (mc && fc) s).saf).fly = (uncaused (evaluateBoth b n s).2.saf).fly :=
    congrArg Safety.fly hcauses.saf
  have hcopy : (mc && fc) = false → (judgedPeriod b n (mc && fc) s).saf.causes.getLsbD 0x13 = true := by
    intro h
    rw [h]
    exact (judgedPeriod_copy b n s).1
  rw [he]
  generalize judgedPeriod b n (mc && fc) s = v at *
  refine ⟨rfl, ?_, hnow, rfl, rfl, rfl, hcopy, fun hs => ?_, congrArg lanesOnly hrest⟩
  · exact congrArg inc32 (hper.trans hperiod)
  · obtain ⟨hm, hf⟩ := evaluateBoth_idle b n hs
    exact ⟨hmain.trans hm, hfly.trans hf⟩

theorem safetyBoundary_left {s : State} {b : SafetyBlock} (hb : safetyBlock s = some b) (mc fc : Bool) :
    BoundaryLeft b (s.saf.boundary - 1) (mc && fc) s (safetyBoundary mc fc s) := by
  have hleft := endPeriod_left hb (s.saf.boundary - 1) mc fc
  rw [safetyBoundary]
  generalize endPeriod (s.saf.boundary - 1) mc fc s = v at hleft
  obtain ⟨hrest, hsaf⟩ := sendStatus_kept v
  have hkeeps {α : Type} (f : Safety → α) (hf : ∀ x : Safety, f { x with sirel := {} } = f x) :
      f (sendStatus v).saf = f v.saf := by
    rw [← hf, hsaf, hf]
  refine ⟨(hkeeps Safety.boundary fun _ => rfl).trans hleft.boundary,
    (hkeeps Safety.period fun _ => rfl).trans hleft.period,
    (hkeeps Safety.boundaryAt fun _ => rfl).trans hleft.boundaryAt,
    (hkeeps Safety.gotPermit fun _ => rfl).trans hleft.gotPermit,
    (hkeeps Safety.mainData fun _ => rfl).trans hleft.mainData,
    (hkeeps Safety.flyData fun _ => rfl).trans hleft.flyData, fun h => ?_, fun h => ?_, ?_⟩
  · rw [hkeeps Safety.causes fun _ => rfl]
    exact hleft.copy h
  · rw [hkeeps Safety.main fun _ => rfl, hkeeps Safety.fly fun _ => rfl]
    exact hleft.idle h
  · exact (congrArg (fun x : State => { x with cb := {}, recent := {} }) hrest).trans hleft.rest

/-! ### Permits -/

/-- The flyman withdraws, the message counts as missing, and cause 0x0E latches. -/
theorem badPermit_left (s : State) : (badPermit (flyWithdraw s)).saf.gotPermit = true ∧
    (badPermit (flyWithdraw s)).saf.missing = s.saf.missing + 1 ∧
    (badPermit (flyWithdraw s)).saf.main.permit = false ∧ (badPermit (flyWithdraw s)).saf.fly.permit = false ∧
    (badPermit (flyWithdraw s)).saf.causes.getLsbD 0x0E = true ∧ aside (badPermit (flyWithdraw s)) = aside s := by
  have hstep (v : State) := latchCause_latched 0x0E v
  rw [badPermit]
  have h := hstep { flyWithdraw s with saf := { (flyWithdraw s).saf with missing := (flyWithdraw s).saf.missing + 1 } }
  have hc := latchCause_causes (c := 0x0E) (by decide)
    { flyWithdraw s with saf := { (flyWithdraw s).saf with missing := (flyWithdraw s).saf.missing + 1 } }
  generalize latchCause 0x0E _ = u at h hc
  have hsaf {α : Type} (f : Safety → α) := congrArg f h.saf
  exact ⟨hsaf Safety.gotPermit, hsaf Safety.missing, hsaf fun x => x.main.permit, hsaf fun x => x.fly.permit, hc, h.aside⟩

/-- Another missing message, short of the watchdog. -/
theorem yields_badPermit {t : Nat} {s v : State} {f : State → State} (hs : awake t s = true)
    (hf : f (begin t s) = watchdog (badPermit (flyWithdraw v))) (hv : aside v = aside (begin t s))
    (hmiss : v.saf.missing = s.saf.missing) (hm : s.saf.missing < 3) :
    Yields (act t s f) (fun u => u.saf.gotPermit = true ∧ u.saf.missing = s.saf.missing + 1 ∧
      u.saf.main.permit = false ∧ u.saf.fly.permit = false ∧ u.saf.causes.getLsbD 0x0E = true ∧
      Leaves t s u (fun x => { x with cb := {}, saf := {} })) := by
  refine yields_act hs ?_
  rw [hf]
  obtain ⟨hgot, hmissing, hmain, hfly, hcause, haside⟩ := badPermit_left v
  rw [watchdog, if_neg (by rw [hmissing, hmiss]; omega)]
  exact ⟨(settle_saf_gotPermit _ _).trans hgot, (settle_saf_missing _ _).trans (hmissing.trans (by rw [hmiss])),
    (settle_saf_keeps (fun x => x.main.permit) (fun _ => rfl) _ _).trans hmain,
    (settle_saf_keeps (fun x => x.fly.permit) (fun _ => rfl) _ _).trans hfly,
    by rw [settle_saf_causes]; exact hcause, _, rfl, haside.trans hv⟩

/-- A reset reads neither the safety state nor the call board. -/
theorem resetDevice_of_aside {s u : State} (h : aside u = aside s) (cause hold : Nat) :
    resetDevice cause hold u = resetDevice cause hold s := by
  have h' : resetDevice cause hold (aside u) = resetDevice cause hold (aside s) := by rw [h]
  exact h'

/-- The fourth missing message. -/
theorem yields_watchdog {t : Nat} {s v : State} {f : State → State} (hs : awake t s = true)
    (hf : f (begin t s) = watchdog (badPermit (flyWithdraw v))) (hv : aside v = aside (begin t s))
    (hmiss : v.saf.missing = s.saf.missing) (hm : 3 ≤ s.saf.missing) :
    Yields (act t s f) (fun u => ResetBy 4 holdWatchdog t s u) := by
  refine yields_act hs ?_
  rw [hf]
  obtain ⟨-, hmissing, -, -, -, haside⟩ := badPermit_left v
  rw [watchdog, if_pos (by rw [hmissing, hmiss]; omega), resetDevice_of_aside (haside.trans hv)]
  exact resetBy_settle (by decide) (by decide) holdWatchdog t s s

/-- The main evaluator's message, with period number `n`, as the flyman takes it. -/
def messageCame (n : Nat) (s : State) : State :=
  { s with saf := { s.saf with
    message := some { period := n % 2 ^ 24, permit := s.saf.verdict, spikes := sentSpikes s } } }

/-- The flyman takes the verdict. -/
def verdictTaken (n : Nat) (s : State) : State :=
  { messageCame n s with saf := { (messageCame n s).saf with
    gotPermit := true, missing := 0, main := { s.saf.main with permit := s.saf.verdict } } }

theorem permitMessage_ignored {n : Nat} {x : Bool} {s : State}
    (h : x = false ∨ s.saf.gotPermit = true ∨ safetyP s = 0 ∨ linkCount s = 0) : permitMessage n x s = s := by
  rw [permitMessage, if_pos]
  rcases h with h | h | h | h <;> simp [h]

section
variable {n : Nat} {s : State} (hg : s.saf.gotPermit = false) (hp : safetyP s ≠ 0) (hl : linkCount s ≠ 0)
include hg hp hl

theorem permitMessage_heard : permitMessage n true s = if n % 2 ^ 24 = flyPeriod s then verdictTaken n s
    else watchdog (badPermit (flyWithdraw (messageCame n s))) := by
  have hgo : ¬ (!true || s.saf.gotPermit || safetyP s == 0 || linkCount s == 0) = true := by simp [hg, hp, hl]
  rw [permitMessage, if_neg hgo]
  rfl
end

/-- Settles O45: the safety boundary, and permit messages that come or do not. -/
theorem safetyBoundaries : Obligations.SafetyBoundaries := by
  intro t s hs
  have hbound : ∀ a b, exec (.safetyBoundary t a b) s =
    act t s (fun u => if safetyDue u then safetyBoundary a b u else u) := fun _ _ => rfl
  have hmsg : ∀ n x, exec (.permitMessage t n x) s = act t s (permitMessage n x) := fun _ _ => rfl
  have htime : exec (.permitTimeout t) s =
    act t s (fun u => if permitLate u then watchdog (badPermit (flyWithdraw u)) else u) := rfl
  have hdue := (awake_iff.mp hs).2
  refine ⟨fun a b hd => ?_, fun a b hd => ?_, fun n x h => ?_, fun n hg hp hl hn => ?_, fun n hg hp hl hn hm => ?_,
    fun n hg hp hl hn hm => ?_, fun hd hm => ?_, fun hd hm => ?_, fun hd => ?_⟩
  · rw [hbound]
    refine yields_act hs ?_
    rw [if_pos hd]
    obtain ⟨blk, hb⟩ := safetyBlock_of_due hd
    have hleft := safetyBoundary_left hb a b
    refine ⟨(settle_saf_boundary _ _).trans hleft.boundary, (settle_saf_period _ _).trans hleft.period,
      (settle_saf_boundaryAt _ _).trans hleft.boundaryAt, (settle_saf_gotPermit _ _).trans hleft.gotPermit,
      (settle_saf_mainData _ _).trans hleft.mainData, (settle_saf_flyData _ _).trans hleft.flyData,
      fun h => by rw [settle_saf_causes]; exact hleft.copy h, fun hidle => ?_, _, rfl, hleft.rest⟩
    obtain ⟨hm, hf⟩ := hleft.idle hidle
    obtain ⟨hmp, hms⟩ := idlePeriod_eq (begin t s) blk false (safetyP (begin t s)) ((begin t s).saf.boundary - 1) s.saf.main
    obtain ⟨hfp, hfs⟩ := idlePeriod_eq (begin t s) blk true (safetyP (begin t s)) ((begin t s).saf.boundary - 1) s.saf.fly
    have hmain : (settle s (safetyBoundary a b (begin t s))).saf.main.permit = false :=
      (settle_saf_keeps (fun x => x.main.permit) (fun _ => rfl) _ _).trans (by rw [hm]; exact hmp)
    have hfly : (settle s (safetyBoundary a b (begin t s))).saf.fly.permit = false :=
      (settle_saf_keeps (fun x => x.fly.permit) (fun _ => rfl) _ _).trans (by rw [hf]; exact hfp)
    refine ⟨hmain, hfly, fun hnone i => ?_, fun hnone i => ?_, fun c hc k hk => ?_⟩
    · rw [settle_main_seen, hm]
      exact noteSpikes_unseen (s := begin t s) _ _ (positionOf_main_none hnone blk) i
    · rw [settle_fly_seen, hf]
      exact noteSpikes_unseen (s := begin t s) _ _ (positionOf_fly_none hnone blk) i
    · obtain rfl : blk = c := Option.some.inj (hb.symm.trans hc)
      refine ⟨fun x hx => ?_, fun x hx => ?_⟩
      · rw [settle_main_seen, hm]
        exact noteSpikes_seen (s := begin t s) (fly := false) hk hx
      · rw [settle_fly_seen, hf]
        exact noteSpikes_seen (s := begin t s) (fly := true) hk hx
  · rw [hbound]
    exact yields_no_effect (if_neg (Bool.not_eq_true _ ▸ hd)) hdue
  · rw [hmsg]
    exact yields_no_effect (permitMessage_ignored (s := begin t s) h) hdue
  · rw [hmsg]
    refine yields_act hs ?_
    have hn' : n % 2 ^ 24 = flyPeriod (begin t s) := hn
    rw [permitMessage_heard (s := begin t s) hg hp hl, if_pos hn']
    exact ⟨settle_saf_gotPermit _ _, settle_saf_missing _ _,
      settle_saf_keeps (fun x => x.main.permit) (fun _ => rfl) _ _,
      settle_saf_keeps Safety.message (fun _ => rfl) _ _, settle_saf_causes _ _, _, rfl, rfl⟩
  · rw [hmsg]
    exact yields_badPermit (v := messageCame n (begin t s)) hs
      ((permitMessage_heard (s := begin t s) hg hp hl).trans (if_neg hn)) rfl rfl hm
  · rw [hmsg]
    exact yields_watchdog (v := messageCame n (begin t s)) hs
      ((permitMessage_heard (s := begin t s) hg hp hl).trans (if_neg hn)) rfl rfl hm
  · rw [htime]
    exact yields_badPermit hs (if_pos hd) rfl rfl hm
  · rw [htime]
    exact yields_watchdog hs (if_pos hd) rfl rfl hm
  · rw [htime]
    exact yields_no_effect (if_neg (Bool.not_eq_true _ ▸ hd)) hdue

end Sys2Proof.Machine
end

section
/-! Safe outputs and safety inputs (R321 to R328). -/

namespace Sys2Proof.Machine

/-! ### A safe output -/

@[simp] theorem getOut_setOut (o : Nat) (v : SafeOutput) (s : State) : getOut (setOut o v s) o = v := by
  unfold getOut setOut
  split <;> rfl

theorem getOut_of_saf {u s : State} (h : u.saf = s.saf) (o : Nat) : getOut u o = getOut s o := by
  rw [getOut, getOut, h]

theorem aside_setOut (o : Nat) (v : SafeOutput) (s : State) : aside (setOut o v s) = aside s := by
  unfold setOut
  split <;> rfl

/-- The safety state without its two outputs. -/
def outless (x : Safety) : Safety := { x with outA := {}, outB := {} }

theorem outless_setOut (o : Nat) (v : SafeOutput) (s : State) : outless (setOut o v s).saf = outless s.saf := by
  unfold setOut
  split <;> rfl

/-- A drop opens both switches of an output, and its off-state test must pass anew. -/
theorem getOut_settle_cases (b s : State) (o : Nat) :
    getOut (settle b s) o = getOut s o ∨ getOut (settle b s) o = (getOut s o).opened := by
  rcases settle_saf_cases b s with h | ⟨-, -, h⟩
  · exact .inl (getOut_of_saf h o)
  · refine .inr ?_
    rw [getOut, getOut, h]
    split <;> rfl

/-- What a drop leaves of an output. -/
theorem getOut_settle {α : Type} (f : SafeOutput → α) (hf : ∀ v : SafeOutput, f v.opened = f v) (b s : State) (o : Nat) :
    f (getOut (settle b s) o) = f (getOut s o) := by
  rcases getOut_settle_cases b s o with h | h
  · rw [h]
  · rw [h, hf]

/-- Switches that are open stay open. -/
theorem getOut_settle_open {b s : State} {o : Nat} (hh : (getOut s o).hs = false) (hl : (getOut s o).ls = false) :
    (getOut (settle b s) o).hs = false ∧ (getOut (settle b s) o).ls = false := by
  rcases getOut_settle_cases b s o with h | h
  · rw [h]
    exact ⟨hh, hl⟩
  · rw [h]
    exact ⟨rfl, rfl⟩

/-- A latch leaves every output. -/
theorem getOut_latchCause (c : Nat) (s : State) (o : Nat) : getOut (latchCause c s) o = getOut s o := by
  unfold latchCause
  split <;> rfl

/-- What a wrong reading leaves: its cause, and the output marked. -/
theorem outputFault_left (o : Nat) (s : State) :
    getOut (outputFault o s) o = { getOut s o with fault := true, offOk := false } ∧
    (outputFault o s).saf.causes.getLsbD 0x0A = true ∧ aside (outputFault o s) = aside s ∧
    uncaused (outputFault o s).saf = uncaused s.saf := by
  refine ⟨?_, latchCause_causes (by decide) _, ?_, ?_⟩
  · rw [outputFault, getOut_latchCause, getOut_setOut]
  · exact (latchCause_latched 0x0A _).aside.trans (aside_setOut o _ s)
  · exact (latchCause_latched 0x0A _).saf.trans
      (congrArg (fun x : Safety => { x with cause := 0, causes := 0, present := 0, absent := [], resetReq := false })
        (outless_setOut o _ s))

/-! ### A readback slice that yields -/

/-- Everything that a service request of a readback slice leaves alone. -/
def unserved (s : State) : State :=
  { s with sm := {}, rh := { s.rh with kinds := [], cntPre := 0, saved := [] }, cal := {}, rx := {} }

theorem unserved_updKind (k : Nat) (f : SliceKind → SliceKind) (s : State) : unserved (updKind k f s) = unserved s := rfl

theorem unserved_leaveSlice (k : Nat) (s : State) : unserved (leaveSlice k s) = unserved s := by
  rw [leaveSlice, unserved_updKind]
  rfl

theorem unserved_with (v : State) (n : Nat) (l : List (Nat × CalEntry)) (cal : Cal) (rx : Rx) :
    unserved { v with rh := { v.rh with cntPre := n, saved := l }, cal := cal, rx := rx } = unserved v := rfl

theorem unserved_serve (k i : Nat) (s : State) : unserved (serve k i s) = unserved s := by
  unfold serve preemptSlice
  split
  · split
    · rfl
    · split
      · rfl
      · dsimp only
        rw [unserved_with, unserved_updKind, unserved_leaveSlice]
  · rfl

theorem serve_keeps {α : Type} (f : State → α) (hf : ∀ x, f (unserved x) = f x) (k i : Nat) (s : State) :
    f (serve k i s) = f s := by
  rw [← hf, unserved_serve, hf]

/-! ### The raise of the curtain -/

/-- The raise begins: readback slices yield, and its end is set. -/
def raiseBegun (n : Nat) (s : State) : State :=
  { serve 4 1 (serve 4 0 s) with saf := { (serve 4 1 (serve 4 0 s)).saf with
    raiseEnd := (serve 4 1 (serve 4 0 s)).now + n * usTicks } }

theorem raiseBegun_saf (n : Nat) (s : State) :
    (raiseBegun n s).saf = { s.saf with raiseEnd := s.now + n * usTicks } := by
  have hsaf : (serve 4 1 (serve 4 0 s)).saf = s.saf :=
    (serve_keeps State.saf (fun _ => rfl) 4 1 _).trans (serve_keeps State.saf (fun _ => rfl) 4 0 s)
  have hnow : (serve 4 1 (serve 4 0 s)).now = s.now :=
    (serve_keeps State.now (fun _ => rfl) 4 1 _).trans (serve_keeps State.now (fun _ => rfl) 4 0 s)
  rw [raiseBegun, hsaf, hnow]

theorem curtainAllowed_raised (n : Nat) (s : State) :
    curtainAllowed (raiseCurtain (raiseBegun n s)) = curtainAllowed s := by
  have hserve : curtainAllowed (serve 4 1 (serve 4 0 s)) = curtainAllowed s :=
    (serve_keeps curtainAllowed (fun _ => rfl) 4 1 _).trans (serve_keeps curtainAllowed (fun _ => rfl) 4 0 s)
  exact hserve

theorem tryRaise_eq (a1 b1 a2 b2 : PinRead) (s : State) : tryRaise a1 b1 a2 b2 s =
    (let early := !(raiseStep2 a1 && raiseStep2 b1)
     let okA := if early then raiseStep2 a1 else raiseStep4 a2
     let okB := if early then raiseStep2 b1 else raiseStep4 b2
     if okA && okB then raiseCurtain (raiseBegun (if early then 150 else 350) s)
     else raiseFails okA okB (raiseBegun (if early then 150 else 350) s)) := rfl

theorem tryRaise_raises {a1 b1 a2 b2 : PinRead} (s : State)
    (h : (raiseStep2 a1 && raiseStep2 b1 && raiseStep4 a2 && raiseStep4 b2) = true) :
    tryRaise a1 b1 a2 b2 s = raiseCurtain (raiseBegun 350 s) := by
  simp only [Bool.and_eq_true] at h
  obtain ⟨⟨⟨ha1, hb1⟩, ha2⟩, hb2⟩ := h
  rw [tryRaise_eq]
  simp [ha1, hb1, ha2, hb2]

/-- A wrong reading of either output ends the raise. -/
theorem tryRaise_fails {a1 b1 a2 b2 : PinRead} (s : State)
    (h : (raiseStep2 a1 && raiseStep2 b1 && raiseStep4 a2 && raiseStep4 b2) = false) :
    ∃ okA okB, (okA && okB) = false ∧ tryRaise a1 b1 a2 b2 s =
      raiseFails okA okB (raiseBegun (if raiseStep2 a1 && raiseStep2 b1 then 350 else 150) s) := by
  rw [tryRaise_eq]
  cases hearly : raiseStep2 a1 && raiseStep2 b1 with
  | false => exact ⟨raiseStep2 a1, raiseStep2 b1, hearly, by simp [hearly]⟩
  | true =>
    rw [Bool.and_assoc, hearly, Bool.true_and] at h
    exact ⟨raiseStep4 a2, raiseStep4 b2, h, by simp [h]⟩

/-- A failed raise: its cause latches, and everything but the outputs and the causes stays. -/
theorem raiseFails_left {okA okB : Bool} (h : (okA && okB) = false) (s : State) :
    (raiseFails okA okB s).saf.causes.getLsbD 0x0A = true ∧ uncaused (raiseFails okA okB s).saf = uncaused s.saf ∧
    ((raiseFails okA okB s).saf.outA.hs = false ∧ (raiseFails okA okB s).saf.outA.ls = false) ∧
    (raiseFails okA okB s).saf.outB.hs = false ∧ (raiseFails okA okB s).saf.outB.ls = false := by
  obtain ⟨-, hcA, -, hsA⟩ := outputFault_left 0 s
  cases okB with
  | false =>
    obtain ⟨-, hc, -, hs⟩ := outputFault_left 1 (if okA then s else outputFault 0 s)
    refine ⟨hc, hs.trans ?_, ⟨rfl, rfl⟩, rfl, rfl⟩
    cases okA with
    | true => rfl
    | false => exact hsA
  | true =>
    cases okA with
    | true => cases h
    | false => exact ⟨hcA, hsA, ⟨rfl, rfl⟩, rfl, rfl⟩

/-! ### Test pulses -/

/-- A test pulse begins: a readback slice yields, and the pulse's end is set. -/
def pulseBegun (o : Nat) (s : State) : State :=
  { serve 4 o s with saf := { (serve 4 o s).saf with pulseEnd := (serve 4 o s).now + 250 * usTicks } }

/-- The output counts the test. -/
def pulsed (o : Nat) (s : State) : SafeOutput := { getOut (pulseBegun o s) o with tests := (getOut (pulseBegun o s) o).tests + 1 }

theorem pulseBegun_saf (o : Nat) (s : State) :
    (pulseBegun o s).saf = { s.saf with pulseEnd := s.now + 250 * usTicks } := by
  have hsaf : (serve 4 o s).saf = s.saf := serve_keeps State.saf (fun _ => rfl) 4 o s
  have hnow : (serve 4 o s).now = s.now := serve_keeps State.now (fun _ => rfl) 4 o s
  rw [pulseBegun, hsaf, hnow]

theorem pulsed_eq (o : Nat) (s : State) : pulsed o s = { getOut s o with tests := (getOut s o).tests + 1 } := by
  have h : getOut (pulseBegun o s) o = getOut s o := by
    rw [getOut, getOut, pulseBegun_saf]
  rw [pulsed, h]

/-- A pulse that a curtain-down command interrupts. -/
def pulseCut (o : Nat) (s : State) : State :=
  setOut o { pulsed o s with lastTest := 3 } { pulseBegun o s with saf := { (pulseBegun o s).saf with
    cntTpDisc := inc32 (pulseBegun o s).saf.cntTpDisc } }

/-- A pulse that is judged. -/
def pulseJudged (o : Nat) (pass : Bool) (s : State) : State :=
  setOut o ((pulsed o s).judged pass) { pulseBegun o s with saf := { (pulseBegun o s).saf with
    cntTp := inc32 (pulseBegun o s).saf.cntTp } }

theorem testPulse_cut (o : Nat) (p q : PinRead) (s : State) : testPulse o p q true s = dropCurtain (pulseCut o s) := rfl

theorem testPulse_judged (o : Nat) (p q : PinRead) (s : State) : testPulse o p q false s =
    if testPasses (pulsed o s) p q then pulseJudged o (testPasses (pulsed o s) p q) s
    else outputFault o (pulseJudged o (testPasses (pulsed o s) p q) s) := rfl

theorem testPasses_pulsed (o : Nat) (p q : PinRead) (s : State) :
    testPasses (pulsed o s) p q = testPasses (getOut s o) p q := by
  rw [pulsed_eq]
  rfl

theorem outless_pulseCut (o : Nat) (s : State) : outless (pulseCut o s).saf =
    outless { s.saf with pulseEnd := s.now + 250 * usTicks, cntTpDisc := inc32 s.saf.cntTpDisc } := by
  rw [pulseCut, outless_setOut, pulseBegun_saf]

theorem outless_pulseJudged (o : Nat) (pass : Bool) (s : State) : outless (pulseJudged o pass s).saf =
    outless { s.saf with pulseEnd := s.now + 250 * usTicks, cntTp := inc32 s.saf.cntTp } := by
  rw [pulseJudged, outless_setOut, pulseBegun_saf]

/-- The safety state once the curtain has been commanded down. -/
theorem dropCurtain_saf_cases (s : State) : s.saf.curtain = false ∧ (dropCurtain s).saf = s.saf ∨
    s.saf.curtain = true ∧ (dropCurtain s).saf = droppedSafety s.saf := by
  unfold dropCurtain
  split
  · exact .inr ⟨‹_›, rfl⟩
  · exact .inl ⟨(Bool.not_eq_true _).mp ‹_›, rfl⟩

/-! ### The levels of the pins -/

theorem foldl_setBit (f : Nat → Bool) (l : List Nat) (m : BitVec 8) {n : Nat} (hn : n < 8) :
    (l.foldl (fun w i => if f i then w ||| (1#8 <<< i) else w) m).getLsbD n =
      (m.getLsbD n || (l.contains n && f n)) := by
  induction l generalizing m with
  | nil => simp
  | cons i l ih =>
    have hstep : (if f i then m ||| (1#8 <<< i) else m).getLsbD n = (m.getLsbD n || (n == i && f n)) := by
      by_cases hi : n = i
      · subst hi
        cases f n <;> simp [hn]
      · have hbit : (1#8 <<< i).getLsbD n = false := by
          rw [BitVec.getLsbD_shiftLeft, BitVec.getLsbD_one]
          by_cases hlt : n < i <;> simp [hlt]; omega
        cases f i <;> simp [hi, BitVec.getLsbD_or, hbit]
    rw [List.foldl_cons, ih, hstep, List.contains_cons]
    cases n == i <;> cases f n <;> simp

/-- PWR_GL_SIN.LEVEL shows the eight levels. -/
theorem levelBits_getLsbD (levels : List Bool) {n : Nat} (hn : n < 8) :
    (levelBits levels).getLsbD n = levels.getD n false := by
  have hmem : (List.range 8).contains n = true := by simp [hn]
  rw [levelBits, foldl_setBit (fun i => levels.getD i false) _ _ hn, hmem]
  simp

theorem readLevels_getD (s : State) (levels : List Bool) (n : Nat) :
    (readLevels s levels).getD n false = (levels.getD n false && !s.th.railLow.getLsbD 1) := by
  rw [readLevels, List.getD_eq_getElem?_getD, List.getD_eq_getElem?_getD, List.getElem?_map]
  cases levels[n]? <;> rfl

/-! ### One safety input -/

/-- What a sample of input `i`, configured by `c`, leaves: `v` is its new record, and whether its release is a reset. -/
structure InputHeard (c : SinCfg) (pa pb : Bool) (i : Nat) (v : SafeInput × Bool) (u : State) : Prop where
  a : (u.saf.inputs.get {} i).a = pa
  b : (u.saf.inputs.get {} i).b = pb
  state : (u.saf.inputs.get {} i).state = v.1.state
  guard : c.role = 1 → v.1.state = some .opened → u.saf.causes.getLsbD 0x07 = true
  stop : c.role = 2 → v.1.state = some .opened → u.saf.causes.getLsbD 0x08 = true
  reset : c.role = 3 → v.2 = true → u.saf.resetReq = true

/-- A sample of another input: input `i` stays, and so do causes and a reset that waits. -/
structure InputKept (i : Nat) (s u : State) : Prop where
  aside : aside u = aside s
  input : u.saf.inputs.get {} i = s.saf.inputs.get {} i
  causes : ∀ k, s.saf.causes.getLsbD k = true → u.saf.causes.getLsbD k = true
  reset : s.saf.resetReq = true → u.saf.resetReq = true

theorem InputHeard.keep {c : SinCfg} {pa pb : Bool} {i : Nat} {v : SafeInput × Bool} {s u : State}
    (h : InputHeard c pa pb i v s) (hk : InputKept i s u) : InputHeard c pa pb i v u where
  a := by rw [hk.input]; exact h.a
  b := by rw [hk.input]; exact h.b
  state := by rw [hk.input]; exact h.state
  guard hr ho := hk.causes _ (h.guard hr ho)
  stop hr ho := hk.causes _ (h.stop hr ho)
  reset hr ho := hk.reset (h.reset hr ho)

/-- A latch changes neither an input nor a waiting reset. -/
theorem latchCause_inputs (k : Nat) (s : State) : (latchCause k s).saf.inputs = s.saf.inputs ∧
    (latchCause k s).saf.resetReq = s.saf.resetReq ∧
    ∀ j, s.saf.causes.getLsbD j = true → (latchCause k s).saf.causes.getLsbD j = true := by
  unfold latchCause
  split
  · exact ⟨rfl, rfl, fun _ h => h⟩
  · exact ⟨rfl, rfl, fun j h => by simp [setEvent, h]⟩

/-- The causes that a sample may latch, or the reset it may ask for. -/
theorem sampleInput_step (b : SafetyBlock) (levels : List Bool) (s : State) (j : Nat) :
    aside (sampleInput b levels s j) = aside s ∧
    (∀ k, s.saf.causes.getLsbD k = true → (sampleInput b levels s j).saf.causes.getLsbD k = true) ∧
    (s.saf.resetReq = true → (sampleInput b levels s j).saf.resetReq = true) ∧
    ((sampleInput b levels s j).saf.inputs = s.saf.inputs ∨
      ∃ v, (sampleInput b levels s j).saf.inputs = s.saf.inputs.set j v) := by
  unfold sampleInput
  split
  · exact ⟨rfl, fun _ h => h, fun h => h, .inl rfl⟩
  · dsimp only
    split
    · exact ⟨rfl, fun _ h => h, fun h => h, .inr ⟨_, rfl⟩⟩
    · have hlatch (k : Nat) (v : SafeInput) := latchCause_inputs k { s with saf := { s.saf with inputs := s.saf.inputs.set j v } }
      split
      · obtain ⟨hi, hr, hc⟩ := hlatch 0x07 _
        exact ⟨latchCause_frame _ _, hc, fun h => hr.trans h, .inr ⟨_, hi⟩⟩
      · split
        · obtain ⟨hi, hr, hc⟩ := hlatch 0x08 _
          exact ⟨latchCause_frame _ _, hc, fun h => hr.trans h, .inr ⟨_, hi⟩⟩
        · split
          · exact ⟨rfl, fun _ h => h, fun _ => rfl, .inr ⟨_, rfl⟩⟩
          · exact ⟨rfl, fun _ h => h, fun h => h, .inr ⟨_, rfl⟩⟩

theorem sampleInput_kept (b : SafetyBlock) (levels : List Bool) (s : State) {i j : Nat} (h : i ≠ j) :
    InputKept i s (sampleInput b levels s j) := by
  obtain ⟨haside, hc, hr, hi⟩ := sampleInput_step b levels s j
  refine ⟨haside, ?_, hc, hr⟩
  rcases hi with hi | ⟨v, hi⟩
  · rw [hi]
  · rw [hi, Tab.get_set_other _ _ _ h]

theorem sampleInput_heard {b : SafetyBlock} {c : SinCfg} {i : Nat} (hc : b.sin[i]? = some c) (levels : List Bool) (s : State) :
    InputHeard c (levels.getD (2 * i) false) (levels.getD (2 * i + 1) false) i
      ((s.saf.inputs.get {} i).sample s.now c s.rh.drPass (levels.getD (2 * i) false) (levels.getD (2 * i + 1) false))
      (sampleInput b levels s i) := by
  have hread : ∀ x : SafeInput × Bool, x = (s.saf.inputs.get {} i).sample s.now c s.rh.drPass
      (levels.getD (2 * i) false) (levels.getD (2 * i + 1) false) →
      x.1.a = levels.getD (2 * i) false ∧ x.1.b = levels.getD (2 * i + 1) false := by
    rintro x rfl
    exact ⟨rfl, rfl⟩
  unfold sampleInput
  rw [hc]
  dsimp only
  generalize (s.saf.inputs.get {} i).sample s.now c s.rh.drPass _ _ = v at hread ⊢
  obtain ⟨ha, hb⟩ := hread v rfl
  split
  case isTrue h0 =>
    exact ⟨by rw [Tab.get_set_same]; exact ha, by rw [Tab.get_set_same]; exact hb, by rw [Tab.get_set_same],
      fun h => absurd (h0.symm.trans h) (by decide), fun h => absurd (h0.symm.trans h) (by decide),
      fun h => absurd (h0.symm.trans h) (by decide)⟩
  case isFalse h0 =>
    have hset {u : State} (h : u.saf.inputs = s.saf.inputs.set i v.1) : (u.saf.inputs.get {} i) = v.1 := by
      rw [h, Tab.get_set_same]
    have hlatch (k : Nat) := latchCause_inputs k { s with saf := { s.saf with inputs := s.saf.inputs.set i v.1 } }
    have hcause {k : Nat} (hk : k < 20) :=
      latchCause_causes hk { s with saf := { s.saf with inputs := s.saf.inputs.set i v.1 } }
    split
    case isTrue h1 =>
      obtain ⟨hrole, -⟩ := Bool.and_eq_true_iff.mp h1
      have hrole : c.role = 1 := of_decide_eq_true hrole
      have hin := hset (hlatch 0x07).1
      exact ⟨by rw [hin]; exact ha, by rw [hin]; exact hb, by rw [hin], fun _ _ => hcause (by decide),
        fun h => absurd (hrole.symm.trans h) (by decide), fun h => absurd (hrole.symm.trans h) (by decide)⟩
    case isFalse h1 =>
      have hno1 (hr : c.role = 1) (ho : v.1.state = some .opened) : False := h1 (by simp [hr, ho])
      split
      case isTrue h2 =>
        obtain ⟨hrole, -⟩ := Bool.and_eq_true_iff.mp h2
        have hrole : c.role = 2 := of_decide_eq_true hrole
        have hin := hset (hlatch 0x08).1
        exact ⟨by rw [hin]; exact ha, by rw [hin]; exact hb, by rw [hin],
          fun h => absurd (hrole.symm.trans h) (by decide), fun _ _ => hcause (by decide),
          fun h => absurd (hrole.symm.trans h) (by decide)⟩
      case isFalse h2 =>
        have hno2 (hr : c.role = 2) (ho : v.1.state = some .opened) : False := h2 (by simp [hr, ho])
        split
        case isTrue h3 =>
          have hin := Tab.get_set_same s.saf.inputs {} v.1 i
          exact ⟨by rw [hin]; exact ha, by rw [hin]; exact hb, by rw [hin], fun hr ho => (hno1 hr ho).elim,
            fun hr ho => (hno2 hr ho).elim, fun _ _ => rfl⟩
        case isFalse h3 =>
          have hin := Tab.get_set_same s.saf.inputs {} v.1 i
          exact ⟨by rw [hin]; exact ha, by rw [hin]; exact hb, by rw [hin], fun hr ho => (hno1 hr ho).elim,
            fun hr ho => (hno2 hr ho).elim, fun hr hv => absurd (by simp [hr, hv]) h3⟩

/-- The inputs of a list are sampled in turn, each once. -/
theorem sampleInputs_heard {b : SafetyBlock} {c : SinCfg} {i : Nat} (hc : b.sin[i]? = some c) (levels : List Bool)
    {l : List Nat} (hl : l.Nodup) (hi : i ∈ l) (s : State) :
    InputHeard c (levels.getD (2 * i) false) (levels.getD (2 * i + 1) false) i
      ((s.saf.inputs.get {} i).sample s.now c s.rh.drPass (levels.getD (2 * i) false) (levels.getD (2 * i + 1) false))
      (l.foldl (sampleInput b levels) s) := by
  induction l generalizing s with
  | nil => cases hi
  | cons j l ih =>
    obtain ⟨hj, hl⟩ := List.nodup_cons.mp hl
    rcases List.mem_cons.mp hi with rfl | hi
    · have hrest : ∀ (l : List Nat) (u : State), i ∉ l → InputKept i u (l.foldl (sampleInput b levels) u) := by
        intro l
        induction l with
        | nil => exact fun u _ => ⟨rfl, rfl, fun _ h => h, fun h => h⟩
        | cons k l ih =>
          intro u hk
          rw [List.mem_cons, not_or] at hk
          have h1 := sampleInput_kept b levels u hk.1
          have h2 := ih (sampleInput b levels u k) hk.2
          exact ⟨h2.aside.trans h1.aside, h2.input.trans h1.input, fun n h => h2.causes n (h1.causes n h),
            fun h => h2.reset (h1.reset h)⟩
      exact (sampleInput_heard hc levels s).keep (hrest l _ hj)
    · have hkept := sampleInput_kept b levels s (i := i) (j := j) fun h => hj (h ▸ hi)
      have hnow : (aside (sampleInput b levels s j)).now = (aside s).now := congrArg State.now hkept.aside
      have hrh : (aside (sampleInput b levels s j)).rh = (aside s).rh := congrArg State.rh hkept.aside
      have hnow : (sampleInput b levels s j).now = s.now := hnow
      have hrh : (sampleInput b levels s j).rh = s.rh := hrh
      have := ih hl hi (sampleInput b levels s j)
      rwa [hkept.input, hnow, hrh] at this

theorem aside_sampleInputs (b : SafetyBlock) (levels : List Bool) (l : List Nat) (s : State) :
    aside (l.foldl (sampleInput b levels) s) = aside s := by
  induction l generalizing s with
  | nil => rfl
  | cons j l ih => exact (ih _).trans (sampleInput_step b levels s j).1

/-! ### The obligation -/

/-- The pins are read: PWR_GL_SIN shows their levels. -/
def pinsRead (levels : List Bool) (s : State) : State :=
  { s with gl := { s.gl with sinLevel := levelBits (readLevels s levels) } }

/-- The four inputs take the levels of their pins. -/
def inputsRead (b : SafetyBlock) (levels : List Bool) (s : State) : State :=
  (List.range 4).foldl (sampleInput b (readLevels s levels)) (pinsRead levels s)

/-- A sample of the pins: the inputs in turn, then the guard start-up test. -/
theorem sampleInputs_block {s : State} {b : SafetyBlock} (hb : safetyBlock s = some b) (levels : List Bool) :
    ∃ done, sampleInputs levels s =
      { inputsRead b levels s with saf := { (inputsRead b levels s).saf with guardDone := done } } := by
  have hb' : safetyBlock (pinsRead levels s) = some b := hb
  have hread : sampleInputs levels s = sampleRead (readLevels s levels) (pinsRead levels s) := rfl
  rw [hread, sampleRead, hb']
  exact ⟨_, rfl⟩

theorem sampleInputs_left {s : State} {b : SafetyBlock} {c : SinCfg} {i : Nat} (hb : safetyBlock s = some b)
    (hi : i < 4) (hc : b.sin[i]? = some c) (levels : List Bool) :
    let pin := fun n => (readLevels s levels).getD n false
    InputHeard c (pin (2 * i)) (pin (2 * i + 1)) i
      ((s.saf.inputs.get {} i).sample s.now c s.rh.drPass (pin (2 * i)) (pin (2 * i + 1))) (sampleInputs levels s) ∧
    aside (sampleInputs levels s) = aside (pinsRead levels s) := by
  obtain ⟨done, he⟩ := sampleInputs_block hb levels
  obtain ⟨ha, hb, hstate, hguard, hstop, hreset⟩ := sampleInputs_heard hc (readLevels s levels) (l := List.range 4)
    List.nodup_range (List.mem_range.mpr hi) (pinsRead levels s)
  have haside := aside_sampleInputs b (readLevels s levels) (List.range 4) (pinsRead levels s)
  rw [he]
  exact ⟨⟨ha, hb, hstate, hguard, hstop, hreset⟩, haside⟩

theorem overcurrent_small {o ma d : Nat} {s : State} (h : ma ≤ 700 ∨ d < 20 * usTicks) : overcurrent o ma d s = s := by
  rw [overcurrent, if_neg]
  simp only [Bool.and_eq_true, decide_eq_true_eq]
  omega

/-- An interrupted pulse counts as discarded and drops the curtain. -/
theorem yields_pulse_cut {t o : Nat} {s : State} (hs : awake t s = true) (p q : PinRead) :
    Yields (act t s (testPulse o p q true)) (fun u => u.saf.cntTpDisc = inc32 s.saf.cntTpDisc ∧
      (getOut u o).lastTest = 3 ∧ u.saf.curtain = false ∧ u.saf.pulseEnd = max s.now t + 250 * usTicks ∧
      (s.saf.curtain = true → (getOut u o).hs = false ∧ (getOut u o).ls = false) ∧
      (getOut u o).tests = (getOut s o).tests + 1 ∧ u.saf.causes = s.saf.causes) := by
  refine yields_act hs ?_
  rw [testPulse_cut]
  have hcut := outless_pulseCut o (begin t s)
  have hout : getOut (pulseCut o (begin t s)) o = { pulsed o (begin t s) with lastTest := 3 } := getOut_setOut _ _ _
  rw [pulsed_eq] at hout
  generalize pulseCut o (begin t s) = v at *
  have hsaf {α : Type} (f : Safety → α) := congrArg f hcut
  have hup : v.saf.curtain = s.saf.curtain := hsaf Safety.curtain
  have hdown : (dropCurtain v).saf.curtain = false := dropCurtain_curtain v
  rcases dropCurtain_saf_cases v with ⟨h, e⟩ | ⟨h, e⟩
  · have hget : getOut (settle s (dropCurtain v)) o = getOut v o :=
      getOut_of_saf ((settle_saf_of_down hdown).trans e) o
    rw [hget, settle_saf_of_down hdown, e, hout]
    exact ⟨hsaf Safety.cntTpDisc, rfl, h, hsaf Safety.pulseEnd,
      fun hc => absurd ((hup.symm.trans h).symm.trans hc) (by decide), rfl, hsaf Safety.causes⟩
  · have hget : getOut (settle s (dropCurtain v)) o = (getOut v o).opened := by
      rw [getOut, getOut, settle_saf_of_down hdown, e]
      split <;> rfl
    rw [hget, settle_saf_of_down hdown, e, hout]
    exact ⟨hsaf Safety.cntTpDisc, rfl, rfl, hsaf Safety.pulseEnd, fun _ => ⟨rfl, rfl⟩, rfl, hsaf Safety.causes⟩

/-- A pulse is judged by its readings. -/
theorem yields_pulse_judged {t o : Nat} {s : State} (hs : awake t s = true) (p q : PinRead) :
    Yields (act t s (testPulse o p q false)) (fun u => u.saf.cntTp = inc32 s.saf.cntTp ∧
      u.saf.pulseEnd = max s.now t + 250 * usTicks ∧ (getOut u o).tests = (getOut s o).tests + 1 ∧
      (testPasses (getOut s o) p q = true → (getOut u o).lastTest = 1 ∧ u.saf.causes = s.saf.causes) ∧
      (testPasses (getOut s o) p q = false → (getOut u o).lastTest = 2 ∧ (getOut u o).fault = true ∧
        u.saf.causes.getLsbD 0x0A = true)) := by
  refine yields_act hs ?_
  rw [testPulse_judged, testPasses_pulsed]
  have hjudged := outless_pulseJudged o (testPasses (getOut (begin t s) o) p q) (begin t s)
  have hout : getOut (pulseJudged o (testPasses (getOut (begin t s) o) p q) (begin t s)) o =
      (pulsed o (begin t s)).judged (testPasses (getOut (begin t s) o) p q) := getOut_setOut _ _ _
  rw [pulsed_eq] at hout
  have hget : getOut (begin t s) o = getOut s o := rfl
  rw [hget] at hjudged hout ⊢
  cases hpass : testPasses (getOut s o) p q with
  | true =>
    rw [hpass] at hjudged hout
    rw [if_pos rfl]
    generalize pulseJudged o true (begin t s) = v at *
    have hsaf {α : Type} (f : Safety → α) := congrArg f hjudged
    rw [getOut_settle SafeOutput.tests (fun _ => rfl), getOut_settle SafeOutput.lastTest (fun _ => rfl), hout]
    exact ⟨(settle_saf_cntTp _ _).trans (hsaf Safety.cntTp),
      (settle_saf_keeps Safety.pulseEnd (fun _ => rfl) _ _).trans (hsaf Safety.pulseEnd), rfl,
      fun _ => ⟨rfl, (settle_saf_causes _ _).trans (hsaf Safety.causes)⟩, fun h => absurd h (by decide)⟩
  | false =>
    rw [hpass] at hjudged hout
    rw [if_neg Bool.false_ne_true]
    obtain ⟨hfault, hcause, -, huncaused⟩ := outputFault_left o (pulseJudged o false (begin t s))
    rw [hout] at hfault
    have hcount := congrArg Safety.cntTp huncaused
    have hlast := congrArg Safety.pulseEnd huncaused
    have hcount' := congrArg Safety.cntTp hjudged
    have hlast' := congrArg Safety.pulseEnd hjudged
    generalize pulseJudged o false (begin t s) = w at *
    generalize outputFault o w = v at *
    rw [getOut_settle SafeOutput.tests (fun _ => rfl), getOut_settle SafeOutput.lastTest (fun _ => rfl),
      getOut_settle SafeOutput.fault (fun _ => rfl), hfault]
    exact ⟨(settle_saf_cntTp _ _).trans (hcount.trans hcount'),
      (settle_saf_keeps Safety.pulseEnd (fun _ => rfl) _ _).trans (hlast.trans hlast'), rfl, fun h => absurd h (by decide),
      fun _ => ⟨rfl, rfl, by rw [settle_saf_causes]; exact hcause⟩⟩

/-- The output with the readings of its pins. -/
def pinsShown (o : Nat) (q : PinRead) (s : State) : State :=
  setOut o { getOut s o with hsHigh := q.hs, lsHigh := q.ls } s

theorem outputReadback_eq {o : Nat} (ho : o < 2) (q : PinRead) (s : State) : outputReadback o q s =
    if !(getOut s o).hs && !(getOut s o).ls && q.hs then outputFault o (pinsShown o q s) else pinsShown o q s := by
  rw [outputReadback, if_neg (Nat.not_le.mpr ho)]
  rfl

/-- A readback sample shows the pins; a high pin of an open output is a fault. -/
theorem outputReadback_left {o : Nat} (ho : o < 2) (q : PinRead) (s : State) :
    (getOut (outputReadback o q s) o).hsHigh = q.hs ∧ (getOut (outputReadback o q s) o).lsHigh = q.ls ∧
    aside (outputReadback o q s) = aside s ∧
    (if !(getOut s o).hs && !(getOut s o).ls && q.hs then (outputReadback o q s).saf.causes.getLsbD 0x0A = true
     else (outputReadback o q s).saf.causes = s.saf.causes) := by
  have hout : getOut (pinsShown o q s) o = { getOut s o with hsHigh := q.hs, lsHigh := q.ls } := getOut_setOut _ _ _
  have hrest : aside (pinsShown o q s) = aside s := aside_setOut _ _ _
  have hsaf : outless (pinsShown o q s).saf = outless s.saf := outless_setOut _ _ _
  rw [outputReadback_eq ho]
  split
  · obtain ⟨hfault, hcause, haside, -⟩ := outputFault_left o (pinsShown o q s)
    rw [hfault, hout]
    exact ⟨rfl, rfl, haside.trans hrest, hcause⟩
  · rw [hout]
    have hcauses := congrArg Safety.causes hsaf
    exact ⟨rfl, rfl, hrest, hcauses⟩

/-- Settles O46: the raise, test pulses, over-current, readback and safety inputs. -/
theorem safeOutputsAndInputs : Obligations.SafeOutputsAndInputs := by
  intro t o s hs
  have hraise : ∀ a1 b1 a2 b2, exec (.curtainRaise t a1 b1 a2 b2) s =
    act t s (fun u => if raiseFree u then tryRaise a1 b1 a2 b2 u else u) := fun _ _ _ _ => rfl
  have hpulse : ∀ p q i, exec (.testPulse t o p q i) s =
    act t s (fun u => if pulseDue u o then testPulse o p q i u else u) := fun _ _ _ => rfl
  have hover : ∀ ma d, exec (.safeOutputOvercurrent t o ma d) s = act t s (overcurrent o ma d) := fun _ _ => rfl
  have hread : ∀ q, exec (.safeOutputReadbackSample t o q) s = act t s (outputReadback o q) := fun _ => rfl
  have hsample : ∀ levels, exec (.safetyInputSample t levels) s = act t s (sampleInputs levels) := fun _ => rfl
  have hdisc : ∀ i, exec (.sinDiscrepancy t i) s =
    act t s (fun u => if discDue u i then discrepancy i u else u) := fun _ => rfl
  obtain ⟨hlive, hdue⟩ := awake_iff.mp hs
  have hnopulse : pulseDue (begin t s) o = false →
      ∀ p q i, Yields (exec (.testPulse t o p q i) s) (fun u => Leaves t s u id) := by
    intro hd p q i
    rw [hpulse]
    exact yields_no_effect (if_neg (Bool.not_eq_true _ ▸ hd)) hdue
  refine ⟨fun a1 b1 a2 b2 hfree hok => ?_, fun a1 b1 a2 b2 hfree hbad => ?_, fun a1 b1 a2 b2 hfree => ?_,
    fun p q hd => ?_, fun p q hd => ?_, fun p q i hd => hnopulse hd p q i, fun hbusy => ?_, fun ma d ho hma hlast => ?_,
    fun ma d h => ?_, fun q ho => ?_, fun levels b i c hb hi hc => ?_, fun i hd => ?_, fun i hd => ?_⟩
  · rw [hraise]
    refine yields_act hs ?_
    rw [if_pos hfree, tryRaise_raises (begin t s) hok]
    have hallow : curtainAllowed (begin t s) = true := by
      simp only [raiseFree, Bool.and_eq_true] at hfree
      exact hfree.1.1
    have hsettle : (settle s (raiseCurtain (raiseBegun 350 (begin t s)))).saf = (raiseCurtain (raiseBegun 350 (begin t s))).saf := by
      rcases settle_saf_cases s (raiseCurtain (raiseBegun 350 (begin t s))) with h | ⟨-, hno, -⟩
      · exact h
      · rw [curtainAllowed_raised, hallow] at hno
        cases hno
    have hbegun := raiseBegun_saf 350 (begin t s)
    have hcauses : (raiseBegun 350 (begin t s)).saf.causes = s.saf.causes := by rw [hbegun]; rfl
    have hend : (raiseBegun 350 (begin t s)).saf.raiseEnd = max s.now t + 350 * usTicks := by rw [hbegun]; rfl
    rw [hsettle]
    exact ⟨rfl, rfl, hend, rfl, rfl, rfl, rfl, settle_keeps_event (setEvent_event _ (by decide) _), hcauses⟩
  · rw [hraise]
    refine yields_act hs ?_
    obtain ⟨okA, okB, hno, he⟩ := tryRaise_fails (begin t s) hbad
    rw [if_pos hfree, he]
    obtain ⟨hcause, hsaf, ⟨hAh, hAl⟩, hBh, hBl⟩ := raiseFails_left hno
      (raiseBegun (if raiseStep2 a1 && raiseStep2 b1 then 350 else 150) (begin t s))
    rw [raiseBegun_saf] at hsaf
    have hdown : s.saf.curtain = false := by
      simp only [raiseFree, Bool.and_eq_true, Bool.not_eq_true'] at hfree
      exact hfree.1.2
    generalize raiseFails okA okB _ = v at *
    have hcurtain : v.saf.curtain = false := (congrArg Safety.curtain hsaf).trans hdown
    have hend := congrArg Safety.raiseEnd hsaf
    rw [settle_saf_of_down hcurtain]
    exact ⟨hcurtain, hend, hAh, hAl, hBh, hBl, hcause⟩
  · rw [hraise]
    exact yields_no_effect (if_neg (Bool.not_eq_true _ ▸ hfree)) hdue
  · rw [hpulse]
    rw [act_live hlive hdue, if_pos hd, ← act_live hlive hdue]
    exact yields_pulse_cut hs p q
  · rw [hpulse]
    rw [act_live hlive hdue, if_pos hd, ← act_live hlive hdue]
    exact yields_pulse_judged hs p q
  · have hd : pulseDue (begin t s) o = false := by
      have hnot : decide ((begin t s).saf.raiseEnd ≤ (begin t s).now) = false := decide_eq_false (Nat.not_le.mpr hbusy)
      rw [pulseDue, hnot, Bool.and_false, Bool.false_and]
    exact ⟨hd, hnopulse hd⟩
  · rw [hover]
    refine yields_act hs ?_
    have hgo : (decide (o < 2) && decide (700 < ma) && decide (20 * usTicks ≤ d)) = true := by
      simp only [Bool.and_eq_true, decide_eq_true_eq]
      exact ⟨⟨ho, hma⟩, hlast⟩
    rw [overcurrent, if_pos hgo]
    obtain ⟨hfault, hcause, haside, -⟩ := outputFault_left o (setOut o (getOut (begin t s) o).opened (begin t s))
    rw [getOut_setOut] at hfault
    obtain ⟨hh, hl⟩ := getOut_settle_open (b := s)
      (s := outputFault o (setOut o (getOut (begin t s) o).opened (begin t s))) (o := o) (by rw [hfault]; rfl) (by rw [hfault]; rfl)
    exact ⟨hh, hl, by rw [settle_saf_causes]; exact hcause, _, rfl, haside.trans (aside_setOut _ _ _)⟩
  · rw [hover]
    exact yields_no_effect (overcurrent_small h) hdue
  · rw [hread]
    refine yields_act hs ?_
    obtain ⟨hh, hl, haside, hcause⟩ := outputReadback_left ho q (begin t s)
    rw [getOut_settle SafeOutput.hsHigh (fun _ => rfl), getOut_settle SafeOutput.lsHigh (fun _ => rfl), settle_saf_causes]
    refine ⟨hh, hl, fun hh hl hq => ?_, fun h => ?_, _, rfl, haside⟩
    · rwa [if_pos] at hcause
      have hh : (getOut (begin t s) o).hs = false := hh
      have hl : (getOut (begin t s) o).ls = false := hl
      rw [hh, hl, hq]
      rfl
    · rwa [if_neg] at hcause
      rcases h with h | h | h
      · simp [h]
      · have h : (getOut (begin t s) o).hs = true := h
        simp [h]
      · have h : (getOut (begin t s) o).ls = true := h
        simp [h]
  · intro pin v
    rw [hsample]
    refine yields_act hs ?_
    have hlevel : ∀ n, (readLevels (begin t s) levels).getD n false = pin n := readLevels_getD (begin t s) levels
    obtain ⟨hheard, haside⟩ := sampleInputs_left (s := begin t s) hb hi hc levels
    dsimp only at hheard
    rw [hlevel, hlevel] at hheard
    rw [settle_gl, settle_saf_inputs, settle_saf_causes, settle_saf_resetReq]
    have hgl : (aside (sampleInputs levels (begin t s))).gl = (aside (pinsRead levels (begin t s))).gl :=
      congrArg State.gl haside
    have hgl : (sampleInputs levels (begin t s)).gl = (pinsRead levels (begin t s)).gl := hgl
    refine ⟨fun n hn => ?_, hheard.a, hheard.b, hheard.state, hheard.guard, hheard.stop, hheard.reset, _, rfl,
      congrArg (fun x : State => { x with gl := { x.gl with sinLevel := 0 } }) haside⟩
    rw [hgl, pinsRead, levelBits_getLsbD _ hn, hlevel]
  · rw [hdisc]
    refine yields_act hs ?_
    rw [if_pos hd, discrepancy]
    obtain ⟨hin, -⟩ := latchCause_inputs 0x09
      { begin t s with saf := { s.saf with inputs := s.saf.inputs.upd {} i (fun v => { v with fault := true }) } }
    have hcause := latchCause_causes (c := 0x09) (by decide)
      { begin t s with saf := { s.saf with inputs := s.saf.inputs.upd {} i (fun v => { v with fault := true }) } }
    have haside := latchCause_frame 0x09
      { begin t s with saf := { s.saf with inputs := s.saf.inputs.upd {} i (fun v => { v with fault := true }) } }
    rw [settle_saf_inputs, settle_saf_causes]
    refine ⟨?_, hcause, _, rfl, haside⟩
    refine (congrArg (fun x : Tab SafeInput => (x.get {} i).fault) hin).trans ?_
    dsimp only
    rw [Tab.upd, Tab.get_set_same]
  · rw [hdisc]
    exact yields_no_effect (if_neg (Bool.not_eq_true _ ▸ hd)) hdue

end Sys2Proof.Machine
end

section
/-! Sirel frames and commissioning (R331 to R336). -/

namespace Sys2Proof.Machine

/-! ### What a frame that goes out leaves -/

/-- Everything but the lanes, the frames sent and the SEQ of the next one. -/
def unsent (s : State) : State :=
  lanesOnly { s with saf := { s.saf with sirel := { s.saf.sirel with sent := [], txSeq := 0 } } }

theorem unsent_of_lanesOnly {u s : State} (h : lanesOnly u = lanesOnly s) : unsent u = unsent s :=
  eq_of_lanesOnly h unsent fun _ => rfl

theorem unsent_sendSirelSeq (ty dst seq : Nat) (payload : List Byte) (s : State) :
    unsent (sendSirelSeq ty dst seq payload s) = unsent s := by
  unfold sendSirelSeq
  split
  · rfl
  · dsimp only
    exact (unsent_of_lanesOnly ((lanesOnly_sendMsg _ _ _ _ _).trans (lanesOnly_sendMsg _ _ _ _ _))).trans rfl

theorem unsent_sendSirel (ty dst : Nat) (payload : List Byte) (s : State) :
    unsent (sendSirel ty dst payload s) = unsent s :=
  unsent_sendSirelSeq ty dst s.saf.sirel.txSeq payload s

/-- A frame under the connection, or to the peer of a commissioning exchange. -/
theorem unsent_send (b : SafetyBlock) (ty d d' seq : Nat) (payload : List Byte) (s : State) :
    unsent (if b.peerId = 0 then sendSirelSeq ty d seq payload s else sendSirel ty d' payload s) = unsent s := by
  split
  · exact unsent_sendSirelSeq _ _ _ _ _
  · exact unsent_sendSirel _ _ _ _

theorem eq_of_unsent {α : Type} {u s : State} (h : unsent u = unsent s) (f : State → α)
    (hf : ∀ x, f (unsent x) = f x) : f u = f s := by
  rw [← hf u, h, hf]

/-! ### What the connection and its frames leave alone -/

/-- Everything but the lanes, the connection and the counter of free values. -/
def unconnected (s : State) : State :=
  lanesOnly { s with free := 0, recent := {}, saf := { s.saf with sirel := {} } }

theorem unconnected_of_unsent {u s : State} (h : unsent u = unsent s) : unconnected u = unconnected s :=
  eq_of_unsent h unconnected fun _ => rfl

/-- A RESULT ends the exchange and changes nothing else. -/
theorem sendResult_left {s : State} {b : SafetyBlock} (hb : safetyBlock s = some b) (r slot : Nat) :
    (sendResult r slot s).saf.sirel.commWait = false ∧ unconnected (sendResult r slot s) = unconnected s := by
  rw [sendResult, hb]
  refine ⟨rfl, Eq.trans ?_ (unconnected_of_unsent (unsent_send b 0x13 s.saf.sirel.commPeer b.peerId 1
    (leBytes 1 r ++ leBytes 1 slot ++ leBytes 2 0 ++ leBytes 4 b.crc) s))⟩
  rfl

theorem sendResultNoSlot_left {s : State} {b : SafetyBlock} (hb : safetyBlock s = some b) (r : Nat) :
    (sendResultNoSlot r s).saf.sirel.commWait = false ∧ unconnected (sendResultNoSlot r s) = unconnected s :=
  sendResult_left hb r (freeValue s % 256)

/-! ### The commissioning exchange -/

/-- The device that asks, and the SEQ of its PREPARE. -/
def asked (f : SirelFrame) (s : State) : State :=
  { s with saf := { s.saf with sirel := { s.saf.sirel with commPeer := f.src, commSeq := f.seq, commWait := false } } }

/-- The exchange that a PREPARE opens. -/
def opened (f : SirelFrame) (s : State) : State :=
  tookFree { asked f s with saf := { (asked f s).saf with sirel := { (asked f s).saf.sirel with
    commWait := true, commCrc := le f.payload 0 4, commSer := le f.payload 4 4, commSlot := (freeSlot s).getD 0
    nonce := freeValue s % 2 ^ 32, openedAt := s.now, released := false } } }

theorem prepare_refused {b : SafetyBlock} {f : SirelFrame} {s : State}
    (h : prepareCheck s b (le f.payload 0 4) (le f.payload 4 4) ≠ 0) :
    prepare b f s = sendResultNoSlot (prepareCheck s b (le f.payload 0 4) (le f.payload 4 4)) (asked f s) := by
  rw [prepare]
  dsimp only
  exact if_pos h

theorem prepare_passes {b : SafetyBlock} {f : SirelFrame} {s : State}
    (h : prepareCheck s b (le f.payload 0 4) (le f.payload 4 4) = 0) : unsent (prepare b f s) = unsent (opened f s) := by
  rw [prepare]
  dsimp only
  rw [if_neg (not_not_intro h)]
  exact unsent_send b 0x11 _ _ _ _ _

theorem freeSlot_of_passes {s : State} {b : SafetyBlock} {c n : Nat} (h : prepareCheck s b c n = 0) :
    some ((freeSlot s).getD 0) = freeSlot s := by
  have hsome : (freeSlot s).isNone = false := by
    by_contra hno
    rw [Bool.not_eq_false] at hno
    simp only [prepareCheck, hno, if_true] at h
    split_ifs at h
  cases hf : freeSlot s with
  | none => rw [hf] at hsome; cases hsome
  | some n => rfl

/-- The payload of the CONFIRM that repeats what was proposed. -/
def proposal (c : Sirel) : List Byte :=
  leBytes 4 c.commCrc ++ leBytes 1 c.commSlot ++ leBytes 3 0 ++ leBytes 4 c.nonce

/-- The slot that a CONFIRM programs. -/
def programmed (rb : Bool) (s : State) : State :=
  let slot : CommSlot := { crc := s.saf.sirel.commCrc, serial := s.saf.sirel.commSer, confirmed := rb }
  { s with otp := { s.otp with comm := s.otp.comm.set s.saf.sirel.commSlot slot } }

section
variable {f : SirelFrame} {s : State} (hw : s.saf.sirel.commWait = true)
include hw

theorem confirm_good (rb : Bool) (hp : f.payload = proposal s.saf.sirel) (hr : s.saf.sirel.released = true)
    (ht : s.now ≤ s.saf.sirel.openedAt + 60 * secTicks) :
    confirm f rb s = sendResult (if rb then 0 else 8) s.saf.sirel.commSlot (programmed rb s) := by
  have hwait : ¬ (!s.saf.sirel.commWait) = true := by simp [hw]
  have hopen : ¬ (!s.saf.sirel.released || decide (s.saf.sirel.openedAt + 60 * secTicks < s.now)) = true := by
    rw [hr, decide_eq_false (Nat.not_lt.mpr ht)]
    decide
  rw [proposal] at hp
  rw [confirm]
  dsimp only
  rw [if_neg hwait, if_neg (not_not_intro hp), if_neg hopen]
  rfl

theorem confirm_bad (rb : Bool) (h : ¬ f.payload = proposal s.saf.sirel ∨ s.saf.sirel.released = false ∨
    s.saf.sirel.openedAt + 60 * secTicks < s.now) : ∃ r, confirm f rb s = sendResult r s.saf.sirel.commSlot s := by
  have hwait : ¬ (!s.saf.sirel.commWait) = true := by simp [hw]
  rw [confirm]
  dsimp only
  rw [if_neg hwait]
  by_cases hp : f.payload = proposal s.saf.sirel
  · have hlate : (!s.saf.sirel.released || decide (s.saf.sirel.openedAt + 60 * secTicks < s.now)) = true := by
      rcases h with h | h | h
      · exact absurd hp h
      · rw [h]
        rfl
      · rw [decide_eq_true h, Bool.or_true]
    rw [proposal] at hp
    exact ⟨7, by rw [if_neg (not_not_intro hp), if_pos hlate]⟩
  · exact ⟨6, if_pos hp⟩
end

/-! ### The way of a frame -/

/-- A frame on a trained house lane, its message counted. -/
def heard (l n : Nat) (s : State) : State := takeMessage l 2 n s

theorem lanesOnly_heard (l n : Nat) (s : State) : lanesOnly (heard l n s) = lanesOnly s := lanesOnly_takeMessage l 2 n s

theorem laneTrained_heard (l n : Nat) (s : State) : laneTrained (heard l n s) l = laneTrained s l := by
  rw [laneTrained, laneTrained, heard, takeMessage, takeKeyed, getLane_updLane_same]
  rfl

theorem safetyBlock_heard {s : State} {b : SafetyBlock} (hb : safetyBlock s = some b) (l n : Nat) :
    safetyBlock (heard l n s) = some b :=
  (eq_of_lanesOnly (lanesOnly_heard l n s) safetyBlock fun _ => rfl).trans hb

theorem sirelAct_prepare {b : SafetyBlock} {f : SirelFrame} (h : f.type = 0x10) (rb : Bool) (s : State) :
    sirelAct b f rb s = prepare b f s := by
  simp only [sirelAct, h]

theorem sirelAct_confirm {b : SafetyBlock} {f : SirelFrame} (h : f.type = 0x12) (rb : Bool) (s : State) :
    sirelAct b f rb s = confirm f rb s := by
  simp only [sirelAct, h]

section
variable {l : Nat} {bs : List Byte} {b : SafetyBlock} {s : State} (hh : fromHouse s l = true) (hb : safetyBlock s = some b)
include hh hb

/-- A frame from a trained house lane, by its SCODE and by whether there is a connection. -/
theorem sirelFrame_heard (n : Nat) (rb : Bool) : sirelFrame l bs rb (sirelArrives l n s) =
    if !(sirelOfBytes bs).scode then
      { heard l n s with saf := { (heard l n s).saf with cntCrc := inc32 (heard l n s).saf.cntCrc } }
    else if b.peerId = 0 then sirelAlone b (sirelOfBytes bs) rb (heard l n s)
    else sirelPeer b (sirelOfBytes bs) rb (heard l n s) := by
  obtain ⟨hl, htrained⟩ := Bool.and_eq_true_iff.mp hh
  have hin : ¬ (decide (2 ≤ l) || !laneTrained (heard l n s) l) = true := by
    rw [laneTrained_heard, htrained, decide_eq_false (Nat.not_le.mpr (of_decide_eq_true hl))]
    decide
  have harrives : sirelArrives l n s = heard l n s := if_pos hh
  rw [harrives, sirelFrame, if_neg hin, safetyBlock_heard hb]
end

/-- The connection without what marks the last frame that was taken. -/
def connection (c : Sirel) : Sirel := { c with lastSeq := none, texp := 0, lastAt := 0 }

/-- What a frame that is taken has done before it acts: `v` is the state it acts on. -/
structure FrameTaken (b : SafetyBlock) (f : SirelFrame) (s v : State) : Prop where
  rest : unconnected v = unconnected s
  connection : connection v.saf.sirel = connection s.saf.sirel
  marked : b.peerId ≠ 0 → v.saf.sirel.lastSeq = some f.seq ∧ v.saf.sirel.lastAt = s.now

section
variable {l : Nat} {bs : List Byte} {b : SafetyBlock} {s : State} (hh : fromHouse s l = true) (hb : safetyBlock s = some b)
include hh hb

/-- A sound frame of the peer acts, and marks its SEQ and its time. -/
theorem sirelFrame_peer (hp : b.peerId ≠ 0) (ht : sirelTaken s b (sirelOfBytes bs) = true) (n : Nat) (rb : Bool) :
    ∃ v, sirelFrame l bs rb (sirelArrives l n s) = sirelAct b (sirelOfBytes bs) rb v ∧
      FrameTaken b (sirelOfBytes bs) s v := by
  rw [sirelFrame_heard hh hb]
  generalize sirelOfBytes bs = f at *
  simp only [sirelTaken, Bool.and_eq_true, if_neg hp] at ht
  obtain ⟨⟨⟨hscode, hsound⟩, hdst⟩, hsrc, hseq⟩ := ht
  have hlanes := lanesOnly_heard l n s
  have hsaf : (heard l n s).saf = s.saf := (lanesOnly_groups hlanes).2.2.2.2.2.1
  have hnow : (heard l n s).now = s.now := (lanesOnly_groups hlanes).1
  have hrest : unconnected (heard l n s) = unconnected s := eq_of_lanesOnly hlanes unconnected fun _ => rfl
  have hnew : (heard l n s).saf.sirel.lastSeq ≠ some f.seq := by
    rw [hsaf]
    intro h
    simp [h] at hseq
  have hgood : ¬ (!f.sound || f.src != b.peerId || f.dst != b.devId
      || (heard l n s).saf.sirel.lastSeq.any (fun n => (n + 1) % 65536 != f.seq)) = true := by
    rw [hsaf]
    cases hlast : s.saf.sirel.lastSeq with
    | none => simp [hsound, beq_iff_eq.mp hdst, beq_iff_eq.mp hsrc]
    | some m =>
      rw [hlast] at hseq
      simp only [Option.all_some, Bool.and_eq_true, beq_iff_eq] at hseq
      simp [hsound, beq_iff_eq.mp hdst, beq_iff_eq.mp hsrc, hseq.1]
  rw [hscode, if_neg (by decide), if_neg hp, sirelPeer, if_neg hnew, if_neg hgood]
  have hconn : connection (heard l n s).saf.sirel = connection s.saf.sirel := by rw [hsaf]
  exact ⟨_, rfl, hrest, hconn, fun _ => ⟨rfl, hnow⟩⟩

/-- A frame of the commissioning exchange is taken with and without a connection. -/
theorem sirelFrame_taken (hty : (sirelOfBytes bs).type = 0x10 ∨ (sirelOfBytes bs).type = 0x12)
    (ht : sirelTaken s b (sirelOfBytes bs) = true) (n : Nat) (rb : Bool) :
    ∃ v, sirelFrame l bs rb (sirelArrives l n s) = sirelAct b (sirelOfBytes bs) rb v ∧
      FrameTaken b (sirelOfBytes bs) s v := by
  by_cases hp : b.peerId = 0
  · rw [sirelFrame_heard hh hb]
    generalize sirelOfBytes bs = f at *
    simp only [sirelTaken, Bool.and_eq_true, if_pos hp] at ht
    obtain ⟨⟨⟨hscode, hsound⟩, hdst⟩, hsrc, hkind⟩ := ht
    have hlanes := lanesOnly_heard l n s
    have hsaf : (heard l n s).saf = s.saf := (lanesOnly_groups hlanes).2.2.2.2.2.1
    have hrws : rwsOpen (heard l n s) = rwsOpen s := eq_of_lanesOnly hlanes rwsOpen fun _ => rfl
    have hrest : unconnected (heard l n s) = unconnected s := eq_of_lanesOnly hlanes unconnected fun _ => rfl
    have hmine : ¬ (!f.sound || f.dst != b.devId || f.src == 0) = true := by
      have hsrc : f.src ≠ 0 := by simpa using hsrc
      simp [hsound, beq_iff_eq.mp hdst, hsrc]
    have hact : sirelAlone b f rb (heard l n s) = sirelAct b f rb (heard l n s) := by
      rw [sirelAlone, if_neg hmine, hrws, hsaf]
      rcases hty with hty | hty
      · have hopen : rwsOpen s = true := by
          rw [hty] at hkind
          simpa using hkind
        rw [if_pos hty, if_pos hopen, sirelAct_prepare hty]
      · have hfollows : (f.type = 0x12 && s.saf.sirel.commWait && f.src == s.saf.sirel.commPeer
            && f.seq == (s.saf.sirel.commSeq + 1) % 65536) = true := by
          rw [hty] at hkind ⊢
          simpa using hkind
        have hnot : ¬ f.type = 0x10 := by rw [hty]; decide
        rw [if_neg hnot, if_pos hfollows, sirelAct_confirm hty]
    rw [hscode, if_neg (by decide), if_pos hp, hact]
    exact ⟨_, rfl, hrest, by rw [hsaf], fun h => absurd hp h⟩
  · exact sirelFrame_peer hh hb hp ht n rb
end

theorem eq_of_unconnected {α : Type} {u s : State} (h : unconnected u = unconnected s) (f : State → α)
    (hf : ∀ x, f (unconnected x) = f x) : f u = f s := by
  rw [← hf u, h, hf]

/-! ### What a frame that is taken does -/

theorem startConnection_connection (s : State) : (startConnection s).saf.sirel.up = false ∧
    (startConnection s).saf.sirel.started = true ∧ (startConnection s).saf.sirel.lastSeq = none ∧
    (startConnection s).saf.sirel.txSeq = 0 := ⟨rfl, rfl, rfl, rfl⟩

/-- A failed connection latches its cause and starts anew. -/
theorem failConnection_left {c : Nat} (hc : c < 20) (s : State) :
    (failConnection c s).saf.causes.getLsbD c = true ∧ aside (failConnection c s) = aside s :=
  ⟨latchCause_causes hc s, latchCause_frame c s⟩

/-- The state of the connection after a COMMAND with RUN and RESET as given. -/
def commanded (run reset : Bool) (s : State) : State :=
  { s with saf := { s.saf with
    resetReq := s.saf.resetReq || (reset && !s.saf.sirel.reset)
    sirel := { s.saf.sirel with up := true, run := run, reset := reset } } }

theorem sirelAct_command {b : SafetyBlock} {f : SirelFrame} (h : f.type = 2) (rb : Bool) (s : State) :
    sirelAct b f rb s =
      (let v := commanded (byteAt f.payload 0 % 2 == 1) (byteAt f.payload 0 / 2 % 2 == 1) s
       if byteAt f.payload 0 % 2 == 1 then v else latchCause 0x0D v) := by
  simp only [sirelAct, h]
  rfl

theorem latchCause_connection (c : Nat) (s : State) : (latchCause c s).saf.sirel = s.saf.sirel := by
  unfold latchCause
  split <;> rfl

/-- A COMMAND brings the connection up; RUN 0 latches its cause, and a RESET that rises asks for a reset. -/
theorem sirelAct_command_left {b : SafetyBlock} {f : SirelFrame} (h : f.type = 2) (rb : Bool) (s : State) :
    (sirelAct b f rb s).saf.sirel =
      { s.saf.sirel with up := true, run := byteAt f.payload 0 % 2 == 1, reset := byteAt f.payload 0 / 2 % 2 == 1 } ∧
    (byteAt f.payload 0 % 2 = 0 → (sirelAct b f rb s).saf.causes.getLsbD 0x0D = true) ∧
    (byteAt f.payload 0 / 2 % 2 = 1 → s.saf.sirel.reset = false → (sirelAct b f rb s).saf.resetReq = true) := by
  rw [sirelAct_command h]
  dsimp only
  have hreset : ∀ run, byteAt f.payload 0 / 2 % 2 = 1 → s.saf.sirel.reset = false →
      (commanded run (byteAt f.payload 0 / 2 % 2 == 1) s).saf.resetReq = true := by
    intro run hr hs
    simp [commanded, hr, hs]
  split
  case isTrue hrun =>
    refine ⟨rfl, fun h0 => ?_, hreset _⟩
    rw [h0] at hrun
    cases hrun
  case isFalse hrun =>
    obtain ⟨-, hreq, -⟩ := latchCause_inputs 0x0D
      (commanded (byteAt f.payload 0 % 2 == 1) (byteAt f.payload 0 / 2 % 2 == 1) s)
    exact ⟨latchCause_connection _ _, fun _ => latchCause_causes (by decide) _, fun h1 h2 => hreq.trans (hreset _ h1 h2)⟩

theorem prepareCheck_taken {b : SafetyBlock} {f : SirelFrame} {s v : State} (hv : FrameTaken b f s v) (c n : Nat) :
    prepareCheck v b c n = prepareCheck s b c n :=
  eq_of_unconnected hv.rest (fun x => prepareCheck x b c n) fun _ => rfl

section
variable {b : SafetyBlock} {f : SirelFrame} {s v : State} (hv : FrameTaken b f s v)
include hv

theorem safetyBlock_taken (hb : safetyBlock s = some b) : safetyBlock v = some b :=
  (eq_of_unconnected hv.rest safetyBlock fun _ => rfl).trans hb

/-- A PREPARE that passes opens the exchange. -/
theorem prepare_opens (hc : prepareCheck s b (le f.payload 0 4) (le f.payload 4 4) = 0) :
    ((prepare b f v).saf.sirel.commWait = true ∧ (prepare b f v).saf.sirel.commCrc = le f.payload 0 4 ∧
      (prepare b f v).saf.sirel.commSer = le f.payload 4 4 ∧ some (prepare b f v).saf.sirel.commSlot = freeSlot s ∧
      (prepare b f v).saf.sirel.openedAt = s.now ∧ (prepare b f v).saf.sirel.released = false) ∧
    unconnected (prepare b f v) = unconnected s := by
  have hcheck := (prepareCheck_taken hv _ _).trans hc
  have hsent := prepare_passes hcheck
  have hsirel {α : Type} (g : Sirel → α) (hg : ∀ x : Sirel, g { x with sent := [], txSeq := 0 } = g x) :
      g (prepare b f v).saf.sirel = g (opened f v).saf.sirel := eq_of_unsent hsent (fun x => g x.saf.sirel) fun x => hg _
  have hslot : freeSlot v = freeSlot s := eq_of_unconnected hv.rest freeSlot fun _ => rfl
  have hnow : v.now = s.now := eq_of_unconnected hv.rest State.now fun _ => rfl
  refine ⟨⟨hsirel Sirel.commWait fun _ => rfl, hsirel Sirel.commCrc fun _ => rfl, hsirel Sirel.commSer fun _ => rfl, ?_,
    (hsirel Sirel.openedAt fun _ => rfl).trans hnow, hsirel Sirel.released fun _ => rfl⟩,
    (unconnected_of_unsent hsent).trans hv.rest⟩
  rw [hsirel Sirel.commSlot fun _ => rfl, ← hslot]
  exact freeSlot_of_passes hcheck

variable (hb : safetyBlock s = some b)
include hb

/-- A PREPARE that fails Table 9.12 ends the exchange. -/
theorem prepare_ends (hc : prepareCheck s b (le f.payload 0 4) (le f.payload 4 4) ≠ 0) :
    (prepare b f v).saf.sirel.commWait = false ∧ unconnected (prepare b f v) = unconnected s := by
  have hcheck := prepareCheck_taken hv (le f.payload 0 4) (le f.payload 4 4)
  rw [prepare_refused (by rw [hcheck]; exact hc)]
  have hblock : safetyBlock v = some b := safetyBlock_taken hv hb
  obtain ⟨hwait, hrest⟩ := sendResultNoSlot_left (s := asked f v) hblock
    (prepareCheck v b (le f.payload 0 4) (le f.payload 4 4))
  exact ⟨hwait, hrest.trans hv.rest⟩

section
variable (hw : s.saf.sirel.commWait = true)
include hw

/-- The CONFIRM that repeats what was proposed programs the slot. -/
theorem confirm_programs (rb : Bool) (hp : f.payload = proposal s.saf.sirel) (hr : s.saf.sirel.released = true)
    (ht : s.now ≤ s.saf.sirel.openedAt + 60 * secTicks) :
    (confirm f rb v).saf.sirel.commWait = false ∧ (confirm f rb v).otp.comm = s.otp.comm.set s.saf.sirel.commSlot
      { crc := s.saf.sirel.commCrc, serial := s.saf.sirel.commSer, confirmed := rb } ∧
    unconnected { confirm f rb v with otp := { (confirm f rb v).otp with comm := [] } } =
      unconnected { s with otp := { s.otp with comm := [] } } := by
  have hsirel {α : Type} (g : Sirel → α) (hg : ∀ x, g (connection x) = g x) : g v.saf.sirel = g s.saf.sirel := by
    rw [← hg, hv.connection, hg]
  have hnow : v.now = s.now := eq_of_unconnected hv.rest State.now fun _ => rfl
  have hotp : v.otp = s.otp := eq_of_unconnected hv.rest State.otp fun _ => rfl
  have hgood := confirm_good (s := v) (f := f) ((hsirel Sirel.commWait fun _ => rfl).trans hw) rb
    (hp.trans (hsirel proposal fun _ => rfl).symm) ((hsirel Sirel.released fun _ => rfl).trans hr)
    (by rw [hnow, hsirel Sirel.openedAt fun _ => rfl]; exact ht)
  have hblock : safetyBlock v = some b := safetyBlock_taken hv hb
  obtain ⟨hwait, hrest⟩ := sendResult_left (s := programmed rb v) hblock (if rb then 0 else 8)
    v.saf.sirel.commSlot
  rw [hgood]
  generalize sendResult (if rb then 0 else 8) v.saf.sirel.commSlot (programmed rb v) = u at *
  have hcomm : u.otp = (programmed rb v).otp := eq_of_unconnected hrest State.otp fun _ => rfl
  refine ⟨hwait, ?_, ?_⟩
  · rw [hcomm, programmed, hotp, hsirel Sirel.commSlot fun _ => rfl, hsirel Sirel.commCrc fun _ => rfl,
      hsirel Sirel.commSer fun _ => rfl]
  · have h1 := eq_of_unconnected hrest (fun x => unconnected { x with otp := { x.otp with comm := [] } }) fun _ => rfl
    have h2 := eq_of_unconnected hv.rest (fun x => unconnected { x with otp := { x.otp with comm := [] } }) fun _ => rfl
    exact h1.trans h2

theorem confirm_ends (rb : Bool) (h : ¬ f.payload = proposal s.saf.sirel ∨ s.saf.sirel.released = false ∨
    s.saf.sirel.openedAt + 60 * secTicks < s.now) :
    (confirm f rb v).saf.sirel.commWait = false ∧ unconnected (confirm f rb v) = unconnected s := by
  have hsirel {α : Type} (g : Sirel → α) (hg : ∀ x, g (connection x) = g x) : g v.saf.sirel = g s.saf.sirel := by
    rw [← hg, hv.connection, hg]
  have hnow : v.now = s.now := eq_of_unconnected hv.rest State.now fun _ => rfl
  obtain ⟨r, hbad⟩ := confirm_bad (s := v) (f := f) ((hsirel Sirel.commWait fun _ => rfl).trans hw) rb (by
    rw [hnow, hsirel Sirel.openedAt fun _ => rfl, hsirel Sirel.released fun _ => rfl, hsirel proposal fun _ => rfl]
    exact h)
  obtain ⟨hwait, hrest⟩ := sendResult_left (safetyBlock_taken hv hb) r v.saf.sirel.commSlot
  rw [hbad]
  exact ⟨hwait, hrest.trans hv.rest⟩
end
end

/-! ### The obligation -/

/-- A frame that is not the peer's ends the connection. -/
theorem sirelPeer_other {b : SafetyBlock} {f : SirelFrame} {s v : State} {rb : Bool} (hp : b.peerId ≠ 0)
    (hsc : f.scode = true) (hnew : s.saf.sirel.lastSeq ≠ some f.seq) (ht : sirelTaken s b f = false) (hsaf : v.saf = s.saf) :
    sirelPeer b f rb v = failConnection 0x0C v := by
  have hbad : (!f.sound || f.src != b.peerId || f.dst != b.devId
      || s.saf.sirel.lastSeq.any (fun n => (n + 1) % 65536 != f.seq)) = true := by
    by_contra hgood
    simp only [Bool.or_eq_true, not_or, Bool.not_eq_true, Bool.not_eq_false', bne_eq_false_iff_eq] at hgood
    obtain ⟨⟨⟨hsound, hsrc⟩, hdst⟩, hseq⟩ := hgood
    have htaken : sirelTaken s b f = true := by
      rw [sirelTaken, if_neg hp, hsc, hsound, hsrc, hdst]
      cases hlast : s.saf.sirel.lastSeq with
      | none => simp
      | some m =>
        rw [hlast] at hseq hnew
        have hm : m ≠ f.seq := fun h => hnew (congrArg some h)
        simp only [Option.any_some, bne_eq_false_iff_eq] at hseq
        simp [hseq, hm]
    rw [htaken] at ht
    cases ht
  rw [sirelPeer, hsaf, if_neg hnew, if_pos hbad]

/-- A frame with a wrong SCODE counts. -/
def miscoded (l n : Nat) (s : State) : State :=
  { heard l n s with saf := { (heard l n s).saf with cntCrc := inc32 (heard l n s).saf.cntCrc } }

theorem miscoded_left (t l n : Nat) (s u : State)
    (hu : lanesOnly { u with free := 0 } = lanesOnly { miscoded l n (begin t s) with free := 0 }) :
    (settle s u).saf.cntCrc = inc32 s.saf.cntCrc ∧ (settle s u).saf.sirel = s.saf.sirel ∧ (settle s u).otp = s.otp ∧
    Leaves t s (settle s u) (fun x => lanesOnly { x with free := 0, saf := { x.saf with cntCrc := 0 } }) := by
  have hlanes := lanesOnly_heard l n (begin t s)
  have hsaf : (heard l n (begin t s)).saf = s.saf := (lanesOnly_groups hlanes).2.2.2.2.2.1
  have husaf : u.saf = (miscoded l n (begin t s)).saf := eq_of_lanesOnly hu State.saf fun _ => rfl
  have huotp : u.otp = (miscoded l n (begin t s)).otp := eq_of_lanesOnly hu State.otp fun _ => rfl
  have hotp : (heard l n (begin t s)).otp = s.otp := eq_of_lanesOnly hlanes State.otp fun _ => rfl
  rw [settle_saf_cntCrc, settle_saf_sirel, settle_otp, husaf, huotp, miscoded, hsaf]
  refine ⟨rfl, rfl, hotp, u, rfl, ?_⟩
  have h1 := congrArg (fun x : State => { x with recent := {}, saf := { x.saf with cntCrc := 0 } }) hu
  have h2 := eq_of_lanesOnly hlanes
    (fun x => lanesOnly { x with free := 0, recent := {}, saf := { x.saf with cntCrc := 0 } }) fun _ => rfl
  exact h1.trans h2

/-- Settles O47: frames by their SCODE, SEQ and type, silence, and the commissioning exchange. -/
theorem sirelFrames : Obligations.SirelFrames := by
  intro t l bs rb b s hs hb f blank
  have hcmd : exec (.sirelCommand t l bs) s = act t s (fun u => sirelFrameFree l bs (sirelArrives l bs.length u)) := rfl
  have hprep : exec (.sirelPrepare t l bs) s = act t s (fun u => sirelFrameFree l bs (sirelArrives l bs.length u)) := rfl
  have hconf : exec (.sirelConfirm t l bs rb) s = act t s (fun u => sirelFrame l bs rb (sirelArrives l bs.length u)) := rfl
  have htime : exec (.sirelTimeout t) s = act t s (fun u => if sirelLapsed u then failConnection 0x0B u else u) := rfl
  have hwin : exec (.commissionWindowExpiry t) s =
    act t s (fun u => if windowLapsed u then sendResult 7 u.saf.sirel.commSlot u else u) := rfl
  have hdue := (awake_iff.mp hs).2
  have hotp {v : State} (h : unconnected v = unconnected (begin t s)) : (settle s v).otp = s.otp := by
    rw [settle_otp]
    exact eq_of_unconnected h State.otp fun _ => rfl
  rw [hcmd, hprep, htime, hwin]
  refine ⟨fun hh hsc c hc => ?_, fun hh hp ht hty => ?_, fun hh hp hsc hrep => ?_, fun hh hp hsc hnew ht => ?_,
    fun hh ht hty hok => ?_, fun hh ht hty hno => ?_, fun hh ht hty hw => ⟨fun hgood hrel htime => ?_, fun hbad => ?_⟩,
    fun hd => ?_, fun hd => ?_, fun hd => ?_, fun hd => ?_⟩
  · have hno : (!(sirelOfBytes bs).scode) = true := by rw [show (sirelOfBytes bs).scode = false from hsc]; rfl
    have hframe : ∀ rb, sirelFrame l bs rb (sirelArrives l bs.length (begin t s)) = miscoded l bs.length (begin t s) :=
      fun rb => by rw [sirelFrame_heard (s := begin t s) hh hb, if_pos hno]; rfl
    have hfree : lanesOnly { sirelFrameFree l bs (sirelArrives l bs.length (begin t s)) with free := 0 } =
        lanesOnly { miscoded l bs.length (begin t s) with free := 0 } := by
      rw [sirelFrameFree, hframe]
      rfl
    simp only [List.mem_cons, List.not_mem_nil, or_false] at hc
    rcases hc with rfl | rfl | rfl
    · exact hcmd ▸ yields_act hs (miscoded_left t l bs.length s _ hfree)
    · exact hprep ▸ yields_act hs (miscoded_left t l bs.length s _ hfree)
    · exact hconf ▸ yields_act hs (miscoded_left t l bs.length s _
        (congrArg (fun x : State => lanesOnly { x with free := 0 }) (hframe rb)))
  · refine yields_act hs ?_
    obtain ⟨v, he, hv⟩ := sirelFrame_peer (s := begin t s) hh hb hp ht bs.length
      (freeValue (sirelArrives l bs.length (begin t s)) % 2 == 1)
    obtain ⟨hsirel, hrun, hreset⟩ := sirelAct_command_left hty
      (b := b) (freeValue (sirelArrives l bs.length (begin t s)) % 2 == 1) v
    obtain ⟨hseq, hat⟩ := hv.marked hp
    have hold : (connection v.saf.sirel).reset = (connection s.saf.sirel).reset := congrArg Sirel.reset hv.connection
    rw [sirelFrameFree, he, settle_saf_sirel, settle_saf_causes, settle_saf_resetReq]
    simp only [tookFree]
    rw [hsirel]
    exact ⟨rfl, rfl, rfl, hseq, hat, hrun, fun h1 h2 => hreset h1 (hold.trans h2)⟩
  · refine yields_act hs ?_
    have hlanes := lanesOnly_heard l bs.length (begin t s)
    have hsaf : (heard l bs.length (begin t s)).saf = s.saf := (lanesOnly_groups hlanes).2.2.2.2.2.1
    have hyes : ¬ (!(sirelOfBytes bs).scode) = true := by rw [show (sirelOfBytes bs).scode = true from hsc]; decide
    have hsame : (heard l bs.length (begin t s)).saf.sirel.lastSeq = some (sirelOfBytes bs).seq := by rw [hsaf]; exact hrep
    have hframe : sirelFrameFree l bs (sirelArrives l bs.length (begin t s)) = tookFree (heard l bs.length (begin t s)) := by
      rw [sirelFrameFree, sirelFrame_heard (s := begin t s) hh hb, if_neg hyes, if_neg hp, sirelPeer, if_pos hsame]
    rw [hframe, settle_saf_sirel]
    exact ⟨congrArg Safety.sirel hsaf, _, rfl, eq_of_lanesOnly hlanes unconnected fun _ => rfl⟩
  · refine yields_act hs ?_
    have hlanes := lanesOnly_heard l bs.length (begin t s)
    have hsaf : (heard l bs.length (begin t s)).saf = s.saf := (lanesOnly_groups hlanes).2.2.2.2.2.1
    have hyes : ¬ (!(sirelOfBytes bs).scode) = true := by rw [show (sirelOfBytes bs).scode = true from hsc]; decide
    have hother := sirelPeer_other hp hsc hnew ht (rb := freeValue (sirelArrives l bs.length (begin t s)) % 2 == 1)
      (v := heard l bs.length (begin t s)) hsaf
    have hframe : sirelFrameFree l bs (sirelArrives l bs.length (begin t s)) =
        tookFree (failConnection 0x0C (heard l bs.length (begin t s))) := by
      rw [sirelFrameFree, sirelFrame_heard (s := begin t s) hh hb, if_neg hyes, if_neg hp, hother]
    rw [hframe, settle_saf_sirel, settle_saf_causes]
    exact ⟨(failConnection_left (by decide) _).1, rfl, rfl, rfl⟩
  · refine yields_act hs ?_
    obtain ⟨v, he, hv⟩ := sirelFrame_taken (s := begin t s) hh hb (.inl hty) ht bs.length
      (freeValue (sirelArrives l bs.length (begin t s)) % 2 == 1)
    obtain ⟨⟨hwait, hcrc, hser, hslot, hat, hrel⟩, hrest⟩ := prepare_opens hv hok
    rw [sirelFrameFree, he, sirelAct_prepare hty, settle_saf_sirel]
    exact ⟨hwait, hcrc, hser, hslot, hat, hrel, hotp hrest, _, rfl, hrest⟩
  · refine yields_act hs ?_
    obtain ⟨v, he, hv⟩ := sirelFrame_taken (s := begin t s) hh hb (.inl hty) ht bs.length
      (freeValue (sirelArrives l bs.length (begin t s)) % 2 == 1)
    obtain ⟨hwait, hrest⟩ := prepare_ends hv hb hno
    rw [sirelFrameFree, he, sirelAct_prepare hty, settle_saf_sirel]
    exact ⟨hwait, hotp hrest, _, rfl, hrest⟩
  · rw [hconf]
    refine yields_act hs ?_
    obtain ⟨v, he, hv⟩ := sirelFrame_taken (s := begin t s) hh hb (.inr hty) ht bs.length rb
    obtain ⟨hwait, hcomm, hrest⟩ := confirm_programs hv hb hw rb hgood hrel htime
    rw [he, sirelAct_confirm hty, settle_saf_sirel, settle_otp]
    exact ⟨hwait, hcomm, _, rfl, hrest⟩
  · rw [hconf]
    refine yields_act hs ?_
    obtain ⟨v, he, hv⟩ := sirelFrame_taken (s := begin t s) hh hb (.inr hty) ht bs.length rb
    obtain ⟨hwait, hrest⟩ := confirm_ends hv hb hw rb hbad
    rw [he, sirelAct_confirm hty, settle_saf_sirel]
    exact ⟨hwait, hotp hrest, _, rfl, hrest⟩
  · refine yields_act hs ?_
    rw [if_pos hd]
    obtain ⟨hcause, haside⟩ := failConnection_left (c := 0x0B) (by decide) (begin t s)
    rw [settle_saf_causes, settle_saf_sirel]
    exact ⟨hcause, rfl, rfl, rfl, _, rfl, haside⟩
  · exact yields_no_effect (if_neg (Bool.not_eq_true _ ▸ hd)) hdue
  · refine yields_act hs ?_
    rw [if_pos hd]
    obtain ⟨hwait, hrest⟩ := sendResult_left (s := begin t s) hb 7 (begin t s).saf.sirel.commSlot
    exact ⟨by rw [settle_saf_sirel]; exact hwait, hotp hrest, _, rfl, hrest⟩
  · exact yields_no_effect (if_neg (Bool.not_eq_true _ ▸ hd)) hdue

end Sys2Proof.Machine
end

section
/-! The die-to-die links (R15 to R19). -/

namespace Sys2Proof.Machine

/-! ### One link -/

@[simp] theorem getLink_setLink_same (l : Link) (v : D2dLink) (s : State) : getLink (setLink l v s) l = v := by
  cases l <;> rfl

theorem getLink_setLink_other {l m : Link} (h : m ≠ l) (v : D2dLink) (s : State) :
    getLink (setLink l v s) m = getLink s m := by
  cases l <;> cases m
  · exact absurd rfl h
  · rfl
  · rfl
  · exact absurd rfl h

theorem getLink_of_d2d {u s : State} (h : u.d2d = s.d2d) (l : Link) : getLink u l = getLink s l := by
  cases l
  · exact congrArg D2d.a h
  · exact congrArg D2d.b h

@[simp] theorem getLink_settle (b s : State) (l : Link) : getLink (settle b s) l = getLink s l :=
  getLink_of_d2d (settle_d2d b s) l

theorem setLink_d2d (l : Link) (v : D2dLink) (s : State) :
    (setLink l v s).d2d.accepted = s.d2d.accepted ∧ (setLink l v s).d2d.got = s.d2d.got := by
  cases l <;> exact ⟨rfl, rfl⟩

theorem setLink_rest (l : Link) (v : D2dLink) (s : State) : { setLink l v s with d2d := {} } = { s with d2d := {} } := by
  cases l <;> rfl

theorem leaves_setLink (t : Nat) (l : Link) (v : D2dLink) (s : State) :
    Leaves t s (settle s (setLink l v (begin t s))) (fun x => { x with d2d := {} }) :=
  ⟨_, rfl, congrArg (fun x : State => { x with recent := {} }) (setLink_rest l v (begin t s))⟩

/-- A link that goes down leaves the other's count. -/
theorem linkCount_down {l : Link} {v : D2dLink} {s : State} (hup : (getLink s l).up = true) (hv : v.up = false) :
    linkCount (setLink l v s) + 1 = linkCount s := by
  have h0 : bn false = 0 := rfl
  have h1 : bn true = 1 := rfl
  cases l
  · have hup : s.d2d.a.up = true := hup
    show bn v.up + bn s.d2d.b.up + 1 = bn s.d2d.a.up + bn s.d2d.b.up
    rw [hv, hup]
    omega
  · have hup : s.d2d.b.up = true := hup
    show bn s.d2d.a.up + bn v.up + 1 = bn s.d2d.a.up + bn s.d2d.b.up
    rw [hv, hup]
    omega

/-! ### Messages -/

/-- Of the two copies of a message the first is accepted, the second discarded. -/
theorem take_first {q : Nat} {d : D2d} (h : q ∉ d.got) :
    (d.take q).accepted = d.accepted + 1 ∧ q ∈ (d.take q).got := by
  rw [D2d.take, if_neg (by simpa using h)]
  exact ⟨rfl, List.mem_cons_self⟩

theorem take_second {q : Nat} {d : D2d} (h : q ∈ d.got) :
    (d.take q).accepted = d.accepted ∧ q ∉ (d.take q).got := by
  rw [D2d.take, if_pos (by simpa using h)]
  exact ⟨rfl, by simp⟩

theorem take_links (q : Nat) (d : D2d) : (d.take q).a = d.a ∧ (d.take q).b = d.b := by
  unfold D2d.take
  split <;> exact ⟨rfl, rfl⟩

/-- The link of a valid message. -/
def linkHeard (l : Link) (s : State) : State :=
  setLink l { getLink s l with crcRun := 0, idleRun := 0, lastValid := s.now } s

theorem getLink_linkMessage (l : Link) (q : Nat) (s : State) : getLink (linkMessage l q s) l = getLink (linkHeard l s) l := by
  obtain ⟨ha, hb⟩ := take_links q (linkHeard l s).d2d
  cases l
  · exact ha
  · exact hb

theorem linkMessage_rest (l : Link) (q : Nat) (s : State) : { linkMessage l q s with d2d := {} } = { s with d2d := {} } :=
  (setLink_rest l { getLink s l with crcRun := 0, idleRun := 0, lastValid := s.now } s).symm ▸ rfl

/-! ### The loss of a link -/

/-- The link has gone down. -/
def linkDown (l : Link) (s : State) : State := setLink l { getLink s l with up := false, crcRun := 0, idleRun := 0 } s

theorem linkDown_rest (l : Link) (s : State) : { linkDown l s with d2d := {} } = { s with d2d := {} } :=
  setLink_rest _ _ _

/-- The other link carries on. -/
theorem loseLink_degraded {l : Link} {s : State} (hup : (getLink s l).up = true) (h : linkCount s = 2) :
    loseLink l s = noteWorst (setEvent evLinkDegraded (linkDown l s)) := by
  have hcount : linkCount (linkDown l s) + 1 = linkCount s := linkCount_down hup rfl
  show noteWorst (if linkCount (linkDown l s) = 0 then _ else _) = _
  rw [if_neg (by omega)]
  rfl

theorem loseLink_both {l : Link} {s : State} (hup : (getLink s l).up = true) (h : linkCount s = 1) :
    loseLink l s = noteWorst (bothLost (linkDown l s)) := by
  have hcount : linkCount (linkDown l s) + 1 = linkCount s := linkCount_down hup rfl
  show noteWorst (if linkCount (linkDown l s) = 0 then _ else _) = _
  rw [if_pos (by omega)]
  rfl

/-- The switches are commanded open and the guard start-up test starts anew. -/
def bothLostOpened (s : State) : State :=
  openSwitches (restartGuard { s with d2d := { s.d2d with bothLost := true }, recent := { s.recent with bothLost := true } })

theorem bothLost_calm (s : State) : calm (bothLost s) = calm (latchCause 0x10 (bothLostOpened s)) := by
  have hdrop := dropDeciding_calm (lostReason (latchCause 0x10 (bothLostOpened s))) (tookFree (latchCause 0x10 (bothLostOpened s)))
  exact (endAllCues_calm 2 0x12 0 _).trans hdrop

/-- The loss of both latches its cause, opens the emitter switches and restarts the guard test. -/
theorem bothLost_left (s : State) : (bothLost s).d2d = { s.d2d with bothLost := true } ∧
    (bothLost s).saf.causes.getLsbD 0x10 = true ∧ (bothLost s).saf.guardDone = false ∧
    (bothLost s).bat.lsCmd = false ∧ (bothLost s).bat.hsCmd = false ∧ (bothLost s).bat.emCmd = false := by
  have hcalm := bothLost_calm s
  have hbat := calm_bat hcalm
  have hopen : (latchCause 0x10 (bothLostOpened s)).bat = (bothLostOpened s).bat :=
    latchCause_keeps 0x10 _ State.bat fun _ => rfl
  rw [hopen] at hbat
  have hswitch {α : Type} (f : Bat → α) := congrArg f hbat
  have hguard : (latchCause 0x10 (bothLostOpened s)).saf.guardDone = false :=
    congrArg Safety.guardDone (latchCause_latched 0x10 (bothLostOpened s)).saf
  refine ⟨?_, ?_, ?_, hswitch Bat.lsCmd, hswitch Bat.hsCmd, hswitch Bat.emCmd⟩
  · rw [calm_d2d hcalm]
    exact latchCause_keeps 0x10 _ State.d2d fun _ => rfl
  · rw [calm_saf hcalm]
    exact latchCause_causes (by decide) _
  · rw [calm_saf hcalm]
    exact hguard

section
variable {t : Nat} {l : Link} {s : State} (hs : awake t s = true) (hup : (getLink s l).up = true)
include hs hup

theorem yields_degraded {f : State → State} (hf : f (begin t s) = loseLink l (begin t s)) (h : linkCount s = 2) :
    Yields (act t s f) (fun u => (getLink u l).up = false ∧ linkCount u = 1 ∧
      u.cb.event.getLsbD evLinkDegraded = true ∧ u.bat = s.bat ∧ Leaves t s u (fun x => calm { x with d2d := {} })) := by
  refine yields_act hs ?_
  have hdown : linkCount (linkDown l (begin t s)) + 1 = linkCount (begin t s) := linkCount_down hup rfl
  have hcount : linkCount (begin t s) = 2 := h
  have hrest := linkDown_rest l (begin t s)
  have hbat := congrArg State.bat hrest
  have hcalm := congrArg calm hrest
  rw [hf, loseLink_degraded (s := begin t s) hup h, getLink_settle, settle_bat]
  refine ⟨?_, ?_, settle_keeps_event (setEvent_event evLinkDegraded (by decide) (linkDown l (begin t s))), ?_, _, rfl, ?_⟩
  · have hlink : (getLink (linkDown l (begin t s)) l).up = false := by rw [linkDown, getLink_setLink_same]
    cases l <;> exact hlink
  · have hd2d : (settle s (noteWorst (setEvent evLinkDegraded (linkDown l (begin t s))))).d2d = (linkDown l (begin t s)).d2d :=
      settle_d2d _ _
    rw [linkCount, hd2d]
    have : linkCount (linkDown l (begin t s)) = 1 := by omega
    exact this
  · exact hbat
  · exact hcalm

theorem yields_both {f : State → State} (hf : f (begin t s) = loseLink l (begin t s)) (h : linkCount s = 1) :
    Yields (act t s f) (fun u => (getLink u l).up = false ∧ linkCount u = 0 ∧
      u.d2d.bothLost = true ∧ u.saf.causes.getLsbD 0x10 = true ∧ u.saf.guardDone = false ∧ u.bat.lsCmd = false ∧
      u.bat.hsCmd = false ∧ u.bat.emCmd = false) := by
  refine yields_act hs ?_
  have hdown : linkCount (linkDown l (begin t s)) + 1 = linkCount (begin t s) := linkCount_down hup rfl
  have hcount : linkCount (begin t s) = 1 := h
  obtain ⟨hd2d, hcause, hguard, hls, hhs, hem⟩ := bothLost_left (linkDown l (begin t s))
  rw [hf, loseLink_both (s := begin t s) hup h, getLink_settle, settle_bat, settle_saf_causes, settle_saf_guardDone]
  refine ⟨?_, ?_, ?_, hcause, hguard, hls, hhs, hem⟩
  · have hlink : (getLink (linkDown l (begin t s)) l).up = false := by rw [linkDown, getLink_setLink_same]
    have hkept : getLink (bothLost (linkDown l (begin t s))) l = getLink (linkDown l (begin t s)) l := by
      have ha := congrArg D2d.a hd2d
      have hb := congrArg D2d.b hd2d
      cases l
      · exact ha
      · exact hb
    exact (congrArg D2dLink.up hkept).trans hlink
  · have hkept : (settle s (noteWorst (bothLost (linkDown l (begin t s))))).d2d =
        { (linkDown l (begin t s)).d2d with bothLost := true } := (settle_d2d _ _).trans hd2d
    rw [linkCount, hkept]
    have : linkCount (linkDown l (begin t s)) = 0 := by omega
    exact this
  · rw [settle_d2d]
    exact congrArg D2d.bothLost hd2d
end

/-- Settles O48: words and messages on a link, its loss and its return. -/
theorem dieLinks : Obligations.DieLinks := by
  intro t l m s hs
  have hword : ∀ i v q, exec (.d2dMessage t l i v q) s = act t s (d2dWord l i v q) := fun _ _ _ => rfl
  have hlost : exec (.d2dLinkLost t l) s =
    act t s (fun u => if (getLink u l).up && decide (8 ≤ (getLink u l).crcRun) then loseLink l u else u) := rfl
  have htime : exec (.d2dLinkTimeout t l) s = act t s (fun u =>
    if (getLink u l).up && decide ((getLink u l).lastValid + 4 * usTicks ≤ u.now) then loseLink l u else u) := rfl
  have hgain : exec (.d2dLinkUp t l) s =
    act t s (fun u => if !(getLink u l).up && decide (64 ≤ (getLink u l).idleRun) then gainLink l u else u) := rfl
  have hbegin : getLink (begin t s) l = getLink s l := by cases l <;> rfl
  have hdue := (awake_iff.mp hs).2
  refine ⟨fun i q => ?_, fun q => ?_, fun q => ?_, fun c hc hup => ?_, fun c hc => ?_, fun hdown hidle => ?_, fun h => ?_⟩
  · rw [hword]
    refine yields_act hs ?_
    have hbad : d2dWord l i false q (begin t s) = setLink l { getLink s l with
        crcRun := (getLink s l).crcRun + 1, idleRun := 0, crcErr := satAdd 8 (getLink s l).crcErr 1 } (begin t s) := by
      rw [← hbegin]
      rfl
    rw [hbad, getLink_settle, getLink_setLink_same, settle_d2d]
    exact ⟨rfl, rfl, fun hm => (getLink_settle _ _ _).trans ((getLink_setLink_other hm _ _).trans (by cases m <;> rfl)),
      (setLink_d2d _ _ _).1, leaves_setLink _ _ _ _⟩
  · rw [hword]
    refine yields_act hs ?_
    have hidle : d2dWord l true true q (begin t s) = setLink l { getLink s l with
        crcRun := 0, idleRun := if (getLink s l).up then 0 else (getLink s l).idleRun + 1
        lastValid := max s.now t } (begin t s) := by
      rw [← hbegin]
      rfl
    rw [hidle, getLink_settle, getLink_setLink_same, settle_d2d]
    exact ⟨rfl, rfl, rfl, (setLink_d2d _ _ _).1, leaves_setLink _ _ _ _⟩
  · rw [hword]
    refine yields_act hs ?_
    have hmsg : d2dWord l false true q (begin t s) = linkMessage l (q % 65536) (begin t s) := rfl
    obtain ⟨hacc, hgot⟩ := setLink_d2d l { getLink (begin t s) l with crcRun := 0, idleRun := 0, lastValid := max s.now t } (begin t s)
    rw [hmsg, getLink_settle, getLink_linkMessage, linkHeard, getLink_setLink_same, hbegin, settle_d2d]
    refine ⟨rfl, rfl, fun hnew => ?_, fun hold => ?_, _, rfl,
      congrArg (fun x : State => { x with recent := {} }) (linkMessage_rest l (q % 65536) (begin t s))⟩
    · obtain ⟨hcount, hin⟩ := take_first (d := (linkHeard l (begin t s)).d2d) (q := q % 65536) (hgot.symm ▸ hnew)
      exact ⟨hcount.trans (congrArg (· + 1) hacc), hin⟩
    · obtain ⟨hcount, hout⟩ := take_second (d := (linkHeard l (begin t s)).d2d) (q := q % 65536) (hgot.symm ▸ hold)
      exact ⟨hcount.trans hacc, hout⟩
  · have hgo : ∃ f, exec c s = act t s f ∧ f (begin t s) = loseLink l (begin t s) := by
      rcases hc with ⟨rfl, hrun⟩ | ⟨rfl, hlate⟩
      · refine ⟨_, hlost, if_pos ?_⟩
        rw [hbegin, hup, decide_eq_true hrun]
        rfl
      · have hlate' : decide ((getLink s l).lastValid + 4 * usTicks ≤ (begin t s).now) = true := decide_eq_true hlate
        refine ⟨_, htime, if_pos ?_⟩
        rw [hbegin, hup, hlate']
        rfl
    obtain ⟨f, he, hf⟩ := hgo
    rw [he]
    exact ⟨yields_degraded hs hup hf, yields_both hs hup hf⟩
  · rcases hc with ⟨rfl, hrun⟩ | ⟨rfl, hearly⟩
    · rw [hlost]
      refine yields_no_effect (if_neg ?_) hdue
      rw [hbegin, decide_eq_false (Nat.not_le.mpr hrun), Bool.and_false]
      exact Bool.false_ne_true
    · rw [htime]
      have hearly' : decide ((getLink s l).lastValid + 4 * usTicks ≤ (begin t s).now) = false :=
        decide_eq_false (Nat.not_le.mpr hearly)
      refine yields_no_effect (if_neg ?_) hdue
      rw [hbegin, hearly', Bool.and_false]
      exact Bool.false_ne_true
  · rw [hgain]
    refine yields_act hs ?_
    have hgo : (!(getLink (begin t s) l).up && decide (64 ≤ (getLink (begin t s) l).idleRun)) = true := by
      rw [hbegin, hdown, decide_eq_true hidle]
      rfl
    rw [if_pos hgo, gainLink, getLink_settle, getLink_setLink_same]
    exact ⟨rfl, fun hm => (getLink_settle _ _ _).trans ((getLink_setLink_other hm _ _).trans (by cases m <;> rfl)),
      leaves_setLink _ _ _ _⟩
  · rw [hgain]
    refine yields_no_effect (if_neg ?_) hdue
    rw [hbegin]
    rcases h with h | h
    · simp [h]
    · simp [Nat.not_le.mpr h]

end Sys2Proof.Machine
end

section
/-! The wings: queues, cells and the bytes of items (R342 to R355). -/

namespace Sys2Proof.Machine

/-! ### Queues -/

@[simp] theorem getQueue_setQueue_same (q : Nat) (v : Queue) (s : State) : getQueue (setQueue q v s) q = v :=
  Tab.get_set_same _ _ _ _

theorem getQueue_setQueue_other {q k : Nat} (h : k ≠ q) (v : Queue) (s : State) :
    getQueue (setQueue q v s) k = getQueue s k := Tab.get_set_other _ _ _ h

theorem getQueue_of_wq {u s : State} (h : u.wq.queues = s.wq.queues) (q : Nat) : getQueue u q = getQueue s q := by
  rw [getQueue, getQueue, h]

@[simp] theorem getQueue_freeCells (cs : List Nat) (s : State) (q : Nat) : getQueue (freeCells cs s) q = getQueue s q := rfl

@[simp] theorem getQueue_settle (b s : State) (q : Nat) : getQueue (settle b s) q = getQueue s q :=
  getQueue_of_wq (by rw [settle_wq]) q

theorem getQueue_countLost_same (q : Nat) (s : State) :
    getQueue (countLost q s) q = { getQueue s q with lost := inc32 (getQueue s q).lost } :=
  Tab.get_upd_same s.wq.queues {} q (fun v => { v with lost := inc32 v.lost })

theorem getQueue_countLost_other {q k : Nat} (h : k ≠ q) (s : State) : getQueue (countLost q s) k = getQueue s k :=
  Tab.get_upd_other s.wq.queues {} (fun v => { v with lost := inc32 v.lost }) h

theorem mem_freeCells (cs : List Nat) (s : State) (c : Nat) : c ∈ (freeCells cs s).wq.used ↔ c ∈ s.wq.used ∧ c ∉ cs := by
  simp [freeCells]

theorem freeCells_nil (s : State) : freeCells [] s = s := by
  have h : s.wq.used.filter (fun c => !([] : List Nat).contains c) = s.wq.used := by simp
  rw [freeCells, h]

/-! ### Free cells -/

theorem le_nthFree (used : List Nat) (n : Nat) : n ≤ nthFree used n := by
  induction used generalizing n with
  | nil => exact Nat.le_refl n
  | cons a r ih =>
    have hstep := ih (if a ≤ n then n + 1 else n)
    rw [show nthFree (a :: r) n = nthFree r (if a ≤ n then n + 1 else n) from rfl]
    by_cases ha : a ≤ n
    · rw [if_pos ha] at hstep ⊢
      omega
    · rw [if_neg ha] at hstep ⊢
      exact hstep

theorem nthFree_of_lt {used : List Nat} {n : Nat} (h : ∀ a ∈ used, n < a) : nthFree used n = n := by
  induction used with
  | nil => rfl
  | cons a r ih =>
    have ha : ¬ a ≤ n := Nat.not_le.mpr (h a List.mem_cons_self)
    rw [show nthFree (a :: r) n = nthFree r (if a ≤ n then n + 1 else n) from rfl, if_neg ha]
    exact ih fun b hb => h b (List.mem_cons_of_mem a hb)

/-- The cell that `nthFree` names is free. -/
theorem nthFree_notMem {used : List Nat} (h : used.Pairwise (· < ·)) (n : Nat) : nthFree used n ∉ used := by
  induction used generalizing n with
  | nil => exact List.not_mem_nil
  | cons a r ih =>
    obtain ⟨ha, hr⟩ := List.pairwise_cons.mp h
    rw [show nthFree (a :: r) n = nthFree r (if a ≤ n then n + 1 else n) from rfl, List.mem_cons, not_or]
    by_cases hn : a ≤ n
    · rw [if_pos hn]
      have hge := le_nthFree r (n + 1)
      exact ⟨by omega, ih hr (n + 1)⟩
    · rw [if_neg hn, nthFree_of_lt fun b hb => Nat.lt_trans (Nat.not_le.mp hn) (ha b hb)]
      exact ⟨by omega, fun hmem => by have := ha n hmem; omega⟩

theorem mem_insertBy {α : Type} (le : α → α → Bool) (x y : α) (l : List α) : y ∈ insertBy le x l ↔ y = x ∨ y ∈ l := by
  induction l with
  | nil => simp [insertBy]
  | cons z r ih =>
    rw [insertBy]
    split
    · simp
    · simp only [List.mem_cons, ih]
      tauto

/-- A cell that enters the sorted list of the cells in use. -/
theorem pairwise_insertBy {c : Nat} {l : List Nat} (h : l.Pairwise (· < ·)) (hc : c ∉ l) :
    (insertBy (fun a b => decide (a ≤ b)) c l).Pairwise (· < ·) := by
  induction l with
  | nil => exact List.pairwise_singleton _ _
  | cons a r ih =>
    obtain ⟨ha, hr⟩ := List.pairwise_cons.mp h
    rw [List.mem_cons, not_or] at hc
    rw [insertBy]
    split
    case isTrue hle =>
      have hle : c ≤ a := of_decide_eq_true hle
      refine List.pairwise_cons.mpr ⟨fun b hb => ?_, h⟩
      rcases List.mem_cons.mp hb with rfl | hb
      · omega
      · have := ha b hb
        omega
    case isFalse hle =>
      have hle : ¬ c ≤ a := fun h => hle (decide_eq_true h)
      refine List.pairwise_cons.mpr ⟨fun b hb => ?_, ih hr hc.2⟩
      rcases (mem_insertBy _ _ _ _).mp hb with rfl | hb
      · omega
      · exact ha b hb

/-! ### Bytes in cells -/

theorem Memory.readList_congr {m m' : Memory} {a n : Nat} (h : ∀ i < n, m.read (a + i) = m'.read (a + i)) :
    m.readList a n = m'.readList a n := by
  induction n generalizing a with
  | zero => rfl
  | succ n ih =>
    rw [Memory.readList, Memory.readList, show m.read a = m'.read a from h 0 (by omega),
      ih fun i hi => by have := h (i + 1) (by omega); rwa [Nat.add_right_comm, Nat.add_assoc]]

theorem Memory.readList_length (m : Memory) (a n : Nat) : (m.readList a n).length = n := by
  induction n generalizing a with
  | zero => rfl
  | succ n ih => rw [Memory.readList, List.length_cons, ih]

theorem Memory.readList_getElem (m : Memory) (a n i : Nat) (h : i < (m.readList a n).length) :
    (m.readList a n)[i] = m.read (a + i) := by
  induction n generalizing a i with
  | zero => exact absurd h (by rw [Memory.readList_length]; omega)
  | succ n ih =>
    cases i with
    | zero => rfl
    | succ i =>
      have := ih (a + 1) i (by rw [Memory.readList_length] at h ⊢; omega)
      simp only [Memory.readList, List.getElem_cons_succ]
      rw [this]
      congr 1
      omega

/-- What was written reads back. -/
theorem Memory.readList_writeList (m : Memory) (a : Nat) (bs : List Byte) (h : m.wf = true) :
    (m.writeList a bs).readList a bs.length = bs := by
  refine List.ext_getElem (Memory.readList_length _ _ _) fun i h1 h2 => ?_
  rw [Memory.readList_getElem, Memory.read_writeList_inside bs m a i h h2]

theorem padTo_length {bs : List Byte} (h0 : bs ≠ []) (h : bs.length ≤ 64) : (padTo bs 64).length = 64 := by
  have hpos : 0 < bs.length := List.length_pos_of_ne_nil h0
  rw [padTo, List.length_append, List.length_replicate]
  omega

theorem padTo_length_le {bs : List Byte} (h : bs.length ≤ 64) : (padTo bs 64).length ≤ 64 := by
  rw [padTo, List.length_append, List.length_replicate]
  omega

theorem writeCells_wf (cells : List Nat) (m : Memory) (bs : List Byte) (h : m.wf = true) : (writeCells m cells bs).wf = true := by
  induction cells generalizing m bs with
  | nil => exact h
  | cons c r ih => exact ih _ _ (Memory.writeList_wf _ _ _ h)

/-- Addresses outside the cells keep their bytes. -/
theorem read_writeCells_other (cells : List Nat) (m : Memory) (bs : List Byte) (h : m.wf = true) {n : Nat}
    (hn : n / 64 ∉ cells) : (writeCells m cells bs).read n = m.read n := by
  induction cells generalizing m bs with
  | nil => rfl
  | cons c r ih =>
    rw [List.mem_cons, not_or] at hn
    have hlen : (padTo (bs.take 64) 64).length ≤ 64 := padTo_length_le (List.length_take_le 64 bs)
    rw [writeCells, ih _ _ (Memory.writeList_wf _ _ _ h) hn.2, Memory.read_writeList_other _ _ _ _ h (by omega)]

/-- A cell that is not written keeps its bytes. -/
theorem sweep_writeCells_other {cells : List Nat} {m : Memory} (bs : List Byte) (h : m.wf = true) {c : Nat} (hc : c ∉ cells) :
    (writeCells m cells bs).sweep (64 * c) 64 = m.sweep (64 * c) 64 := by
  rw [Memory.sweep_eq _ _ _ (writeCells_wf _ _ _ h), Memory.sweep_eq _ _ _ h]
  refine Memory.readList_congr fun i hi => read_writeCells_other cells m bs h ?_
  rwa [show (64 * c + i) / 64 = c by omega]

/-- The bytes of an item read back from its cells. -/
theorem cellBytes_writeCells {cells : List Nat} (hn : cells.Nodup) {m : Memory} (h : m.wf = true) {bs : List Byte}
    (hlen : bs.length ≤ 64 * cells.length) :
    (cells.flatMap (fun c => (writeCells m cells bs).sweep (64 * c) 64)).take bs.length = bs := by
  induction cells generalizing m bs with
  | nil =>
    have hnil : bs = [] := List.length_eq_zero_iff.mp (Nat.le_zero.mp hlen)
    rw [hnil]
    rfl
  | cons c r ih =>
    obtain ⟨hc, hr⟩ := List.nodup_cons.mp hn
    by_cases h0 : bs = []
    · rw [h0]
      rfl
    · have hwf := Memory.writeList_wf (padTo (bs.take 64) 64) m (64 * c) h
      have htake : bs.take 64 ≠ [] := by
        intro ht
        rcases List.take_eq_nil_iff.mp ht with h | h
        · cases h
        · exact h0 h
      have hfirst : (writeCells m (c :: r) bs).sweep (64 * c) 64 = padTo (bs.take 64) 64 := by
        rw [writeCells, sweep_writeCells_other _ hwf hc, Memory.sweep_eq _ _ _ hwf]
        have := Memory.readList_writeList m (64 * c) (padTo (bs.take 64) 64) h
        rwa [padTo_length htake (List.length_take_le 64 bs)] at this
      have hrest := ih hr hwf (bs := bs.drop 64) (by rw [List.length_drop]; rw [List.length_cons] at hlen; omega)
      rw [List.flatMap_cons, hfirst, List.take_append, padTo_length htake (List.length_take_le 64 bs)]
      rw [List.length_drop] at hrest
      by_cases hshort : bs.length ≤ 64
      · rw [Nat.sub_eq_zero_of_le hshort, List.take_zero, List.append_nil, padTo, List.take_of_length_le hshort,
          List.take_left]
      · have hfull : padTo (bs.take 64) 64 = bs.take 64 := by
          rw [padTo, List.length_take, Nat.min_eq_left (by omega)]
          exact List.append_nil _
        rw [hfull, List.take_of_length_le (by rw [List.length_take]; omega)]
        exact (congrArg (bs.take 64 ++ ·) hrest).trans (List.take_append_drop 64 bs)

end Sys2Proof.Machine
end

section
/-! The commit of an item as one step (R343 to R355). -/

namespace Sys2Proof.Machine

/-! ### What the wings leave alone -/

/-- Everything but the wings, the call board and the free values. -/
def unwinged (s : State) : State := { s with wq := {}, cb := {}, free := 0, recent := {} }

/-- A step of queue `q`: the other queues stay, and so do its open items and everything outside the wings. -/
structure Beside (q : Nat) (s u : State) : Prop where
  rest : unwinged u = unwinged s
  other : ∀ k, k ≠ q → getQueue u k = getQueue s k
  opens : (getQueue u q).opens = (getQueue s q).opens

theorem Beside.refl (q : Nat) (s : State) : Beside q s s := ⟨rfl, fun _ _ => rfl, rfl⟩

theorem Beside.trans {q : Nat} {s u v : State} (h : Beside q s u) (h' : Beside q u v) : Beside q s v :=
  ⟨h'.rest.trans h.rest, fun k hk => (h'.other k hk).trans (h.other k hk), h'.opens.trans h.opens⟩

theorem beside_freeCells (q : Nat) (cs : List Nat) (s : State) : Beside q s (freeCells cs s) := ⟨rfl, fun _ _ => rfl, rfl⟩

theorem beside_setQueue {q : Nat} {v : Queue} {s : State} (h : v.opens = (getQueue s q).opens) : Beside q s (setQueue q v s) :=
  ⟨rfl, fun _ hk => getQueue_setQueue_other hk v s, by rw [getQueue_setQueue_same, h]⟩

theorem beside_countLost (q : Nat) (s : State) : Beside q s (countLost q s) :=
  ⟨rfl, fun _ hk => getQueue_countLost_other hk s, by rw [getQueue_countLost_same]⟩

theorem beside_setEvent (q i : Nat) (s : State) : Beside q s (setEvent i s) := ⟨rfl, fun _ _ => rfl, rfl⟩

/-! ### One cell -/

/-- Cell `c` leaves the free pool. -/
def takeOne (c : Nat) (s : State) : State := { s with wq := { s.wq with used := takeCells s.wq.used [c] } }

/-- The free cell that a free value picks. -/
def pickCell (s : State) : Nat := nthFree s.wq.used (freeValue s % max 1 (poolFree s))

/-- The oldest item that is not pinned gives way, and counts as lost. -/
def overwritten (q : Nat) (old : Item) (s : State) : State :=
  countLost q (freeCells old.cells (setQueue q ((getQueue s q).overwrite old) s))

/-- The queue stands below its quota with `own` cells of the item to come. -/
def Room (q quota own : Nat) (s : State) : Prop := (getQueue s q).occupancy + own < quota

theorem takeCell_free {q quota own : Nat} {s : State} (h : Room q quota own s) :
    takeCell q quota own [] s = (some (pickCell s, []), tookFree (takeOne (pickCell s) s)) := by
  have hroom : decide ((getQueue s q).occupancy + own < quota) = true := decide_eq_true h
  simp only [takeCell, hroom, if_true]
  rfl

theorem takeCell_ready {q quota own : Nat} {s : State} (h : Room q quota own s) (c : Nat) (r : List Nat) :
    takeCell q quota own (c :: r) s = (some (c, r), takeOne c s) := by
  have hroom : decide ((getQueue s q).occupancy + own < quota) = true := decide_eq_true h
  simp only [takeCell, hroom, if_true, Option.map_none, Option.getD_none, List.append_nil]
  rfl

theorem takeCell_over {q quota own c : Nat} {r : List Nat} {old : Item} {s : State} (h : ¬ Room q quota own s)
    (ho : (getQueue s q).oldestFree = some old) (hroom : Room q quota own (overwritten q old s)) (hc : old.cells = c :: r) :
    takeCell q quota own [] s = (some (c, r), takeOne c (overwritten q old s)) := by
  have hno : decide ((getQueue s q).occupancy + own < quota) = false := decide_eq_false h
  have hyes : decide ((getQueue (overwritten q old s) q).occupancy + own < quota) = true := decide_eq_true hroom
  rw [takeCell]
  simp only [hno, ho, Bool.false_eq_true, if_false]
  rw [show countLost q (freeCells old.cells (setQueue q ((getQueue s q).overwrite old) s)) = overwritten q old s from rfl]
  simp only [hyes, if_true, Option.map_some, Option.getD_some, hc, List.nil_append]
  rfl

theorem takeCell_full {q quota own : Nat} {s : State} (h : ¬ Room q quota own s) (ho : (getQueue s q).oldestFree = none) :
    takeCell q quota own [] s = (none, s) := by
  have hno : decide ((getQueue s q).occupancy + own < quota) = false := decide_eq_false h
  simp only [takeCell, hno, ho, Bool.false_eq_true, if_false]

theorem beside_overwritten (q : Nat) (old : Item) (s : State) : Beside q s (overwritten q old s) :=
  (beside_setQueue (v := (getQueue s q).overwrite old) rfl).trans ((beside_freeCells q _ _).trans (beside_countLost q _))

/-- Whatever a cell costs, it is a step of its queue. -/
theorem beside_takeCell (q quota own : Nat) (ready : List Nat) (s : State) : Beside q s (takeCell q quota own ready s).2 := by
  have htake : ∀ (c : Nat) (u : State), Beside q u (takeOne c u) := fun _ _ => ⟨rfl, fun _ _ => rfl, rfl⟩
  have hrest : ∀ (gone : Option Item) (u : State), Beside q s u → Beside q s
      (if decide ((getQueue u q).occupancy + own < quota) then
        match ready ++ (gone.map Item.cells).getD [] with
        | c :: r => (some (c, r), takeOne c u)
        | [] => (some (pickCell u, []), tookFree (takeOne (pickCell u) u))
      else (none, u)).2 := by
    intro gone u hu
    split
    · split
      · exact hu.trans (htake _ _)
      · exact (hu.trans (htake _ _)).trans ⟨rfl, fun _ _ => rfl, rfl⟩
    · exact hu
  have hgone : ∀ gone : Option Item, Beside q s (match gone with
      | none => s
      | some it => countLost q (freeCells it.cells (setQueue q ((getQueue s q).overwrite it) s))) := by
    intro gone
    cases gone with
    | none => exact .refl q s
    | some it => exact beside_overwritten q it s
  exact hrest _ _ (hgone _)

theorem beside_takeItemCells (q quota n : Nat) (ready got : List Nat) (s : State) :
    Beside q s (takeItemCells q quota n ready got s).2 := by
  induction n generalizing ready got s with
  | zero => exact .refl q s
  | succ n ih =>
    have hone := beside_takeCell q quota got.length ready s
    rw [takeItemCells]
    generalize takeCell q quota got.length ready s = x at hone
    obtain ⟨_ | c, u⟩ := x
    · exact hone.trans (beside_freeCells q got u)
    · exact hone.trans (ih _ _ _)

/-! ### Cells that leave the pool -/

/-- The cells `cs` have left the free pool, and nothing else has changed but the counter of free values. -/
structure CellsTaken (cs : List Nat) (s u : State) : Prop where
  eq : ∃ used free, u = { s with wq := { s.wq with used := used }, free := free }
  sorted : s.wq.used.Pairwise (· < ·) → u.wq.used.Pairwise (· < ·)
  mem : ∀ c, c ∈ u.wq.used ↔ c ∈ s.wq.used ∨ c ∈ cs
  nodup : cs.Nodup
  fresh : ∀ c ∈ cs, c ∉ s.wq.used

theorem CellsTaken.none (s : State) : CellsTaken [] s s :=
  ⟨⟨_, _, rfl⟩, id, fun _ => by simp, List.nodup_nil, fun _ h => absurd h List.not_mem_nil⟩

theorem CellsTaken.cons {c : Nat} {cs : List Nat} {s u v : State} (h : CellsTaken [c] s u) (h' : CellsTaken cs u v) :
    CellsTaken (c :: cs) s v := by
  obtain ⟨used, free, rfl⟩ := h.eq
  obtain ⟨used', free', rfl⟩ := h'.eq
  refine ⟨⟨used', free', rfl⟩, fun hs => h'.sorted (h.sorted hs), fun x => ?_, List.nodup_cons.mpr ⟨fun hc => ?_, h'.nodup⟩,
    fun x hx => ?_⟩
  · rw [h'.mem, h.mem, List.mem_singleton, List.mem_cons, or_assoc]
  · exact h'.fresh c hc ((h.mem c).mpr (.inr List.mem_cons_self))
  · rcases List.mem_cons.mp hx with rfl | hx
    · exact h.fresh _ List.mem_cons_self
    · exact fun hs => h'.fresh x hx ((h.mem x).mpr (.inl hs))

theorem CellsTaken.getQueue {cs : List Nat} {s u : State} (h : CellsTaken cs s u) (k : Nat) : getQueue u k = getQueue s k := by
  obtain ⟨used, free, rfl⟩ := h.eq
  rfl

theorem cellsTaken_one {c : Nat} {s : State} (hc : c ∉ s.wq.used) (n : Nat) :
    CellsTaken [c] s { takeOne c s with free := n } := by
  refine ⟨⟨_, _, rfl⟩, fun hs => ?_, fun x => ?_, List.nodup_singleton c, fun x hx => ?_⟩
  · exact pairwise_insertBy hs hc
  · rw [List.mem_singleton, or_comm]
    exact mem_insertBy _ _ _ _
  · rwa [List.mem_singleton.mp hx]

section
variable {q quota : Nat}

/-- Below the quota every cell is a free one. -/
theorem takeItemCells_free (n : Nat) (got : List Nat) {s : State} (hs : s.wq.used.Pairwise (· < ·))
    (h : (getQueue s q).occupancy + got.length + n ≤ quota) :
    ∃ cs u, takeItemCells q quota n [] got s = (some (got ++ cs), u) ∧ cs.length = n ∧ CellsTaken cs s u := by
  induction n generalizing got s with
  | zero => exact ⟨[], s, by rw [takeItemCells, List.append_nil], rfl, .none s⟩
  | succ n ih =>
    have hroom : Room q quota got.length s := by unfold Room; omega
    have hone := cellsTaken_one (s := s) (nthFree_notMem hs (freeValue s % max 1 (poolFree s))) (s.free + 1)
    obtain ⟨cs, u, he, hlen, htaken⟩ := ih (got ++ [pickCell s]) (hone.sorted hs) (by
      rw [hone.getQueue, List.length_append, List.length_singleton]
      omega)
    refine ⟨pickCell s :: cs, u, ?_, by rw [List.length_cons, hlen], hone.cons htaken⟩
    rw [takeItemCells, takeCell_free hroom]
    dsimp only
    rw [List.append_assoc] at he
    exact he

/-- Cells that an overwrite has freed are taken in their order. -/
theorem takeItemCells_ready (n : Nat) (ready got : List Nat) {s : State} (hlen : n ≤ ready.length)
    (h : (getQueue s q).occupancy + got.length + n ≤ quota) (hnodup : ready.Nodup) (hfree : ∀ c ∈ ready, c ∉ s.wq.used) :
    ∃ u, takeItemCells q quota n ready got s = (some (got ++ ready.take n), u) ∧ CellsTaken (ready.take n) s u := by
  induction n generalizing ready got s with
  | zero => exact ⟨s, by rw [takeItemCells, List.take_zero, List.append_nil], .none s⟩
  | succ n ih =>
    cases ready with
    | nil => exact absurd hlen (Nat.not_succ_le_zero n)
    | cons c r =>
      have hroom : Room q quota got.length s := by unfold Room; omega
      have hone := cellsTaken_one (hfree c List.mem_cons_self) s.free
      obtain ⟨hc, hr⟩ := List.nodup_cons.mp hnodup
      obtain ⟨u, he, htaken⟩ := ih r (got ++ [c]) (s := takeOne c s) (Nat.le_of_succ_le_succ hlen) (by
          rw [List.length_append, List.length_singleton]
          have : getQueue (takeOne c s) q = getQueue s q := rfl
          rw [this]
          omega) hr (fun x hx hu => by
        rcases (hone.mem x).mp hu with hu | hu
        · exact hfree x (List.mem_cons_of_mem c hx) hu
        · exact hc (List.mem_singleton.mp hu ▸ hx))
      refine ⟨u, ?_, hone.cons htaken⟩
      rw [takeItemCells, takeCell_ready hroom]
      dsimp only
      rw [List.append_assoc] at he
      exact he

/-- Where nothing can be overwritten the cells taken so far return. -/
theorem takeItemCells_full (n : Nat) (got : List Nat) {s : State} (hs : s.wq.used.Pairwise (· < ·))
    (ho : (getQueue s q).oldestFree = none) (h : quota < (getQueue s q).occupancy + got.length + n) :
    (∃ cs u, takeItemCells q quota n [] got s = (none, freeCells (got ++ cs) u) ∧ CellsTaken cs s u) ∨
      n = 0 := by
  induction n generalizing got s with
  | zero => exact .inr rfl
  | succ n ih =>
    refine .inl ?_
    by_cases hroom : Room q quota got.length s
    · have hone := cellsTaken_one (s := s) (nthFree_notMem hs (freeValue s % max 1 (poolFree s))) (s.free + 1)
      have hstep := ih (got ++ [pickCell s]) (hone.sorted hs) (by rw [hone.getQueue]; exact ho) (by
        rw [hone.getQueue, List.length_append, List.length_singleton]
        omega)
      rcases hstep with ⟨cs, u, he, htaken⟩ | hzero
      · refine ⟨pickCell s :: cs, u, ?_, hone.cons htaken⟩
        rw [takeItemCells, takeCell_free hroom]
        dsimp only
        rw [List.append_assoc] at he
        exact he
      · subst hzero
        unfold Room at hroom
        omega
    · refine ⟨[], s, ?_, .none s⟩
      rw [takeItemCells, takeCell_full hroom ho, List.append_nil]
end

/-! ### An overwrite -/

theorem oldestFree_mem {v : Queue} {old : Item} (h : v.oldestFree = some old) : old ∈ v.items := List.mem_of_find?_eq_some h

/-- The item with a number that no other has, and the rest. -/
theorem sum_filter_seq {l : List Item} {x : Item} (hx : x ∈ l) (hn : (l.map Item.seq).Nodup) (f : Item → Nat) :
    (l.map f).sum = f x + ((l.filter (fun i => i.seq != x.seq)).map f).sum := by
  induction l with
  | nil => cases hx
  | cons y l ih =>
    rw [List.map_cons, List.nodup_cons] at hn
    obtain ⟨hy, hn⟩ := hn
    rcases List.mem_cons.mp hx with rfl | hx
    · have hkeep : l.filter (fun i => i.seq != x.seq) = l := by
        refine List.filter_eq_self.mpr fun i hi => ?_
        have hne : i.seq ≠ x.seq := fun h => hy (h ▸ List.mem_map_of_mem hi)
        simpa using hne
      rw [List.filter_cons, if_neg (by simp), hkeep, List.map_cons, List.sum_cons]
    · have hne : y.seq ≠ x.seq := fun h => hy (h ▸ List.mem_map_of_mem hx)
      rw [List.filter_cons, if_pos (by simpa using hne), List.map_cons, List.map_cons, List.sum_cons, List.sum_cons, ih hx hn]
      omega

/-- An overwrite gives the queue the cells of the item. -/
theorem occupancy_overwritten {q : Nat} {old : Item} {s : State} (ho : (getQueue s q).oldestFree = some old)
    (hn : ((getQueue s q).items.map Item.seq).Nodup) :
    (getQueue s q).occupancy = old.cells.length + (getQueue (overwritten q old s) q).occupancy := by
  have hsum := sum_filter_seq (oldestFree_mem ho) hn (fun i => i.cells.length)
  have hq : getQueue (overwritten q old s) q =
      { (getQueue s q).overwrite old with lost := inc32 (getQueue s q).lost } := by
    rw [overwritten, getQueue_countLost_same, getQueue_freeCells, getQueue_setQueue_same]
    rfl
  rw [hq]
  simp only [Queue.occupancy, Queue.heldCells, Queue.openCells, Queue.overwrite]
  omega

theorem getQueue_overwritten (q : Nat) (old : Item) (s : State) : getQueue (overwritten q old s) q =
    { (getQueue s q).overwrite old with lost := inc32 (getQueue s q).lost } := by
  rw [overwritten, getQueue_countLost_same, getQueue_freeCells, getQueue_setQueue_same]
  rfl

/-- An item whose cells take the queue past its quota by no more than the oldest item holds: free cells up to the quota,
then the oldest item's. -/
theorem takeItemCells_over {q quota : Nat} {old : Item} (n : Nat) (got : List Nat) {s : State}
    (hs : s.wq.used.Pairwise (· < ·)) (ho : (getQueue s q).oldestFree = some old)
    (hn : ((getQueue s q).items.map Item.seq).Nodup) (hcells : old.cells.Nodup) (hused : ∀ c ∈ old.cells, c ∈ s.wq.used)
    (hover : quota < (getQueue s q).occupancy + got.length + n)
    (hfits : (getQueue s q).occupancy + got.length + n ≤ quota + old.cells.length) :
    (∃ cs ds mid u, takeItemCells q quota n [] got s = (some (got ++ (cs ++ ds)), u) ∧ (cs ++ ds).length = n ∧
      CellsTaken cs s mid ∧ (∀ c ∈ ds, c ∈ old.cells) ∧ CellsTaken ds (overwritten q old mid) u) ∨ n = 0 := by
  induction n generalizing got s with
  | zero => exact .inr rfl
  | succ n ih =>
    refine .inl ?_
    by_cases hroom : Room q quota got.length s
    · have hone := cellsTaken_one (s := s) (nthFree_notMem hs (freeValue s % max 1 (poolFree s))) (s.free + 1)
      have hq := hone.getQueue q
      have hstep := ih (got ++ [pickCell s]) (hone.sorted hs) (by rw [hq]; exact ho) (by rw [hq]; exact hn)
        (fun c hc => (hone.mem c).mpr (.inl (hused c hc)))
        (by rw [hq, List.length_append, List.length_singleton]; omega)
        (by rw [hq, List.length_append, List.length_singleton]; omega)
      rcases hstep with ⟨cs, ds, mid, u, he, hlen, hcs, hold, hds⟩ | hzero
      · refine ⟨pickCell s :: cs, ds, mid, u, ?_, by rw [List.cons_append, List.length_cons, hlen], hone.cons hcs, hold, hds⟩
        rw [takeItemCells, takeCell_free hroom]
        dsimp only
        rw [List.append_assoc] at he
        exact he
      · subst hzero
        unfold Room at hroom
        omega
    · have hocc := occupancy_overwritten ho hn
      have hroom' : Room q quota got.length (overwritten q old s) := by
        unfold Room at hroom ⊢
        omega
      cases hold : old.cells with
      | nil =>
        rw [hold, List.length_nil] at hocc
        unfold Room at hroom hroom'
        omega
      | cons c r =>
        have hlenr : old.cells.length = r.length + 1 := by rw [hold, List.length_cons]
        have hfree : ∀ x ∈ old.cells, x ∉ (overwritten q old s).wq.used := fun x hx hu =>
          ((mem_freeCells old.cells (setQueue q ((getQueue s q).overwrite old) s) x).mp hu).2 hx
        obtain ⟨u, he, htaken⟩ := takeItemCells_ready (q := q) (quota := quota) (n + 1) (c :: r) got
          (s := overwritten q old s) (by unfold Room at hroom; rw [List.length_cons]; omega)
          (by unfold Room at hroom; omega) (hold ▸ hcells) (fun x hx => hfree x (hold ▸ hx))
        refine ⟨[], (c :: r).take (n + 1), s, u, ?_, ?_, .none s, fun _ hx => List.mem_of_mem_take hx, htaken⟩
        · rw [takeItemCells, takeCell_over hroom ho hroom' hold]
          rw [takeItemCells, takeCell_ready hroom'] at he
          exact he
        · rw [List.nil_append, List.length_take, List.length_cons]
          unfold Room at hroom
          omega

/-! ### The commit -/

/-- The item that takes the next number of the queue. -/
def newItem (q kind : Nat) (bs : List Byte) (cells : List Nat) (s : State) : Item :=
  { seq := (getQueue s q).tail, kind := kind, bytes := bs.length, time := tbUs s % 2 ^ 32, cells := cells }

/-- The item joins its queue, and its bytes go into its cells. -/
def putItem (q kind : Nat) (bs : List Byte) (cells : List Nat) (s : State) : State :=
  let w := setQueue q { getQueue s q with
    items := (getQueue s q).items ++ [newItem q kind bs cells s], tail := ((getQueue s q).tail + 1) % seqMod } s
  { w with wq := { w.wq with pool := writeCells w.wq.pool cells bs } }

/-- The consumer hears of the item: a house-port queue by its event, an evaluator takes it at once. -/
def handOver (q consumer : Nat) (s : State) : State :=
  if consumer = 2 then setEvent evHpQueue s
  else if consumer = 4 then autoRelease q (setQueue q { getQueue s q with rd := (getQueue s q).tail } s)
  else s

/-- Cells that an item of `n` bytes takes. -/
def cellCount (n : Nat) : Nat := max 1 (ceilDiv n 64)

section
variable {q kind : Nat} {bs : List Byte} {got : List Nat} {s u : State} {r : QueueRec} (hr : queueRec s q = some r)
include hr

theorem commitFrom_takes {cells : List Nat}
    (ht : takeItemCells q r.quota (min (cellCount bs.length) r.maxItem - got.length) [] (got.take (cellCount bs.length))
      (freeCells (got.drop (cellCount bs.length)) s) = (some cells, u)) (hn : cellCount bs.length ≤ r.maxItem) :
    commitFrom q kind bs got s = (true, handOver q r.consumer (putItem q kind bs cells u)) := by
  have hn' : ¬ max 1 (ceilDiv bs.length 64) > r.maxItem := Nat.not_lt.mpr hn
  rw [cellCount] at ht
  rw [commitFrom, hr]
  dsimp only
  rw [ht]
  dsimp only
  rw [if_neg hn', handOver]
  split
  · rfl
  · split <;> rfl

theorem commitFrom_large {cells : List Nat}
    (ht : takeItemCells q r.quota (min (cellCount bs.length) r.maxItem - got.length) [] (got.take (cellCount bs.length))
      (freeCells (got.drop (cellCount bs.length)) s) = (some cells, u)) (hn : r.maxItem < cellCount bs.length) :
    commitFrom q kind bs got s = (false, countLost q (freeCells cells u)) := by
  have hn' : max 1 (ceilDiv bs.length 64) > r.maxItem := hn
  rw [cellCount] at ht
  rw [commitFrom, hr]
  dsimp only
  rw [ht]
  dsimp only
  rw [if_pos hn']

theorem commitFrom_fails
    (ht : takeItemCells q r.quota (min (cellCount bs.length) r.maxItem - got.length) [] (got.take (cellCount bs.length))
      (freeCells (got.drop (cellCount bs.length)) s) = (none, u)) :
    commitFrom q kind bs got s = (false, countLost q u) := by
  rw [cellCount] at ht
  rw [commitFrom, hr]
  dsimp only
  rw [ht]
end

theorem beside_putItem (q kind : Nat) (bs : List Byte) (cells : List Nat) (s : State) :
    Beside q s (putItem q kind bs cells s) :=
  (beside_setQueue (s := s) (v := { getQueue s q with
    items := (getQueue s q).items ++ [newItem q kind bs cells s], tail := ((getQueue s q).tail + 1) % seqMod }) rfl).trans
    ⟨rfl, fun _ _ => rfl, rfl⟩

theorem beside_releaseItems (q : Nat) (gone : List Item) (s : State) : Beside q s (releaseItems q gone s) :=
  Beside.trans (beside_setQueue (by rfl)) (beside_freeCells q _ _)

theorem beside_handOver (q consumer : Nat) (s : State) : Beside q s (handOver q consumer s) := by
  unfold handOver
  split
  · exact beside_setEvent q evHpQueue s
  · split
    · exact Beside.trans (beside_setQueue (by rfl)) (beside_releaseItems q _ _)
    · exact .refl q s

/-- A commit changes its queue, the cells and the call board. -/
theorem beside_commitFrom (q kind : Nat) (bs : List Byte) (got : List Nat) (s : State) :
    Beside q s (commitFrom q kind bs got s).2 := by
  cases hr : queueRec s q with
  | none =>
    rw [commitFrom, hr]
    exact beside_freeCells q got s
  | some r =>
    have htake := (beside_freeCells q (got.drop (cellCount bs.length)) s).trans
      (beside_takeItemCells q r.quota (min (cellCount bs.length) r.maxItem - got.length) [] (got.take (cellCount bs.length)) _)
    cases ht : takeItemCells q r.quota (min (cellCount bs.length) r.maxItem - got.length) [] (got.take (cellCount bs.length))
      (freeCells (got.drop (cellCount bs.length)) s) with
    | mk cells u =>
      rw [ht] at htake
      cases cells with
      | none =>
        rw [commitFrom_fails hr ht]
        exact htake.trans (beside_countLost q u)
      | some cells =>
        by_cases hn : cellCount bs.length ≤ r.maxItem
        · rw [commitFrom_takes hr ht hn]
          exact htake.trans ((beside_putItem q kind bs cells u).trans (beside_handOver q r.consumer _))
        · rw [commitFrom_large hr ht (Nat.not_le.mp hn)]
          exact htake.trans ((beside_freeCells q cells u).trans (beside_countLost q _))

/-! ### What a commit gives -/

theorem getQueue_putItem (q kind : Nat) (bs : List Byte) (cells : List Nat) (s : State) :
    getQueue (putItem q kind bs cells s) q = { getQueue s q with
      items := (getQueue s q).items ++ [newItem q kind bs cells s], tail := ((getQueue s q).tail + 1) % 2 ^ 32 } :=
  Tab.get_set_same _ _ _ _

/-- For any consumer but an evaluator the item stays in the queue. -/
theorem handOver_wq {consumer : Nat} (h : consumer ≠ 4) (q : Nat) (s : State) : (handOver q consumer s).wq = s.wq := by
  simp only [handOver, if_neg h]
  split <;> rfl

theorem handOver_event {consumer : Nat} (h : consumer ≠ 4) (q : Nat) (s : State) :
    (handOver q consumer s).cb.event = s.cb.event ||| (if consumer = 2 then bit32 evHpQueue else 0) := by
  simp only [handOver, if_neg h]
  split
  · rfl
  · exact BitVec.or_zero.symm

theorem itemBytes_of_wq {u s : State} (h : u.wq = s.wq) (it : Item) : itemBytes u it = itemBytes s it := by
  rw [itemBytes, itemBytes, h]

/-- The bytes of the new item read back. -/
theorem itemBytes_putItem {q kind : Nat} {bs : List Byte} {cells : List Nat} {s : State} (hwf : s.wq.pool.wf = true)
    (hn : cells.Nodup) (hlen : cellCount bs.length = cells.length) (it : Item) (hc : it.cells = cells)
    (hb : it.bytes = bs.length) : itemBytes (putItem q kind bs cells s) it = bs := by
  rw [itemBytes, hc, hb]
  refine cellBytes_writeCells hn hwf ?_
  rw [← hlen, cellCount, ceilDiv]
  omega

/-- Items in other cells keep their bytes. -/
theorem itemBytes_putItem_other {q kind : Nat} {bs : List Byte} {cells : List Nat} {s : State} (hwf : s.wq.pool.wf = true)
    (o : Item) (h : ∀ c ∈ o.cells, c ∉ cells) : itemBytes (putItem q kind bs cells s) o = itemBytes s o := by
  rw [itemBytes, itemBytes]
  have hsweep : ∀ c ∈ o.cells, (putItem q kind bs cells s).wq.pool.sweep (64 * c) 64 = s.wq.pool.sweep (64 * c) 64 :=
    fun c hc => sweep_writeCells_other bs hwf (h c hc)
  rw [List.flatMap_congr hsweep]

/-- A number lies before the one that follows it. -/
theorem seqGe_succ {a : Nat} (h : a < 2 ^ 32) : seqGe a ((a + 1) % 2 ^ 32) = false := by
  have hlt : ¬ (a + 4294967296 - (a + 1) % 4294967296 % 4294967296) % 4294967296 < 2147483648 := by
    simp only [Nat.reducePow] at h
    omega
  exact decide_eq_false hlt

/-- A queue with one item releases it. -/
theorem releaseItems_one {q : Nat} {it : Item} {s : State} (h : (getQueue s q).items = [it]) :
    releaseItems q [it] s =
      freeCells it.cells (setQueue q { getQueue s q with items := [], rel := (getQueue s q).tail } s) := by
  have hcells : [it].flatMap Item.cells = it.cells := by simp
  simp only [releaseItems, h, hcells, List.getLast?_singleton, List.length_singleton, List.drop_succ_cons, List.drop_zero,
    Queue.oldestFrom, List.find?_nil, Option.map_none, Option.getD_none]

/-- An evaluator that holds nothing takes its item, and the cells return. -/
theorem handOver_evaluator {q : Nat} {s : State} {it : Item} (hr : (queueRec s q).any (fun r => r.consumer == 4) = true)
    (hitems : (getQueue s q).items = [it]) (hpin : (getQueue s q).pinned = none) (hmark : (getQueue s q).markValid = false)
    (hlt : it.seq < 2 ^ 32) (htail : (getQueue s q).tail = (it.seq + 1) % 2 ^ 32) :
    (getQueue (handOver q 4 s) q).items = [] ∧ (getQueue (handOver q 4 s) q).tail = (getQueue s q).tail ∧
    (getQueue (handOver q 4 s) q).rd = (getQueue s q).tail ∧ (getQueue (handOver q 4 s) q).rel = (getQueue s q).tail ∧
    ∀ c, c ∈ (handOver q 4 s).wq.used ↔ c ∈ s.wq.used ∧ c ∉ it.cells := by
  have hseq : seqGe it.seq (getQueue s q).tail = false := by rw [htail, seqGe_succ hlt]
  have hfree : ∀ v : Queue, v.pinned = none → v.markValid = false → v.rd = (getQueue s q).tail → v.releasable it = true := by
    intro v hp hm hrd
    simp [Queue.releasable, hp, hm, hrd, hseq]
  have hpart : ∀ v : Queue, v.autoRel = true → v.items = [it] → v.releasable it = true → v.autoPart = [it] := by
    intro v ha hi hf
    rw [Queue.autoPart, if_pos ha, hi, List.takeWhile_cons_of_pos hf, List.takeWhile_nil]
  have hhand : handOver q 4 s = releaseItems q [it] (setQueue q { getQueue s q with rd := (getQueue s q).tail } s) := by
    have hr' : (queueRec (setQueue q { getQueue s q with rd := (getQueue s q).tail } s) q).any (fun r => r.consumer == 4) = true := hr
    rw [handOver, if_neg (by decide), if_pos rfl, autoRelease]
    dsimp only
    rw [hr', getQueue_setQueue_same]
    exact congrArg (fun l => releaseItems q l _) (hpart _ (Bool.or_true _) hitems (hfree _ hpin hmark rfl))
  have hgone : ∀ (v : Queue) (u : State), getQueue u q = v → v.items = [it] → v.rd = v.tail →
      (getQueue (releaseItems q [it] u) q).items = [] ∧ (getQueue (releaseItems q [it] u) q).tail = v.tail ∧
      (getQueue (releaseItems q [it] u) q).rd = v.tail ∧ (getQueue (releaseItems q [it] u) q).rel = v.tail ∧
      ∀ c, c ∈ (releaseItems q [it] u).wq.used ↔ c ∈ u.wq.used ∧ c ∉ it.cells := by
    rintro v u rfl hi hrd
    rw [releaseItems_one hi, getQueue_freeCells, getQueue_setQueue_same]
    exact ⟨rfl, rfl, hrd, rfl, mem_freeCells _ _⟩
  rw [hhand]
  have hset := getQueue_setQueue_same q { getQueue s q with rd := (getQueue s q).tail } s
  exact hgone { getQueue s q with rd := (getQueue s q).tail } _ hset hitems rfl

/-! ### Commits by what the queue has room for -/

section
variable {q kind : Nat} {bs : List Byte} {s u : State} {r : QueueRec} {cells : List Nat} (hr : queueRec s q = some r)
include hr

theorem commitItem_takes (ht : takeItemCells q r.quota (min (cellCount bs.length) r.maxItem) [] [] s = (some cells, u))
    (hn : cellCount bs.length ≤ r.maxItem) :
    commitItem q kind bs s = (true, handOver q r.consumer (putItem q kind bs cells u)) :=
  commitFrom_takes hr (by rw [List.take_nil, List.drop_nil, freeCells_nil, List.length_nil, Nat.sub_zero]; exact ht) hn

theorem commitItem_large (ht : takeItemCells q r.quota (min (cellCount bs.length) r.maxItem) [] [] s = (some cells, u))
    (hn : r.maxItem < cellCount bs.length) : commitItem q kind bs s = (false, countLost q (freeCells cells u)) :=
  commitFrom_large hr (by rw [List.take_nil, List.drop_nil, freeCells_nil, List.length_nil, Nat.sub_zero]; exact ht) hn

theorem commitItem_fails (ht : takeItemCells q r.quota (min (cellCount bs.length) r.maxItem) [] [] s = (none, u)) :
    commitItem q kind bs s = (false, countLost q u) :=
  commitFrom_fails hr (by rw [List.take_nil, List.drop_nil, freeCells_nil, List.length_nil, Nat.sub_zero]; exact ht)
end

theorem newItem_taken {q kind : Nat} {bs : List Byte} {cs cells : List Nat} {s u : State} (h : CellsTaken cs s u) :
    newItem q kind bs cells u = newItem q kind bs cells s := by
  obtain ⟨used, free, rfl⟩ := h.eq
  rfl

/-- An item joins the queue: what its queue, its cells and the call board are then, whatever the queue was before. -/
structure Committed (q kind : Nat) (bs : List Byte) (cells : List Nat) (v : Queue) (consumer : Nat) (s u x : State) : Prop where
  queue : getQueue x q = { v with items := v.items ++ [newItem q kind bs cells s], tail := (v.tail + 1) % 2 ^ 32 }
  used : x.wq.used = u.wq.used
  cntLost : x.wq.cntLost = u.wq.cntLost
  event : x.cb.event = u.cb.event ||| (if consumer = 2 then bit32 evHpQueue else 0)
  bytes : itemBytes x (newItem q kind bs cells s) = bs
  others : ∀ o : Item, (∀ c ∈ o.cells, c ∉ cells) → itemBytes x o = itemBytes u o

theorem committed_putItem {q kind consumer : Nat} {bs : List Byte} {cells : List Nat} {s u : State} (hc : consumer ≠ 4)
    (hwf : u.wq.pool.wf = true) (hn : cells.Nodup) (hlen : cellCount bs.length = cells.length)
    (hitem : newItem q kind bs cells u = newItem q kind bs cells s) :
    Committed q kind bs cells (getQueue u q) consumer s u (handOver q consumer (putItem q kind bs cells u)) := by
  have hwq := handOver_wq hc q (putItem q kind bs cells u)
  refine ⟨?_, by rw [hwq]; rfl, by rw [hwq]; rfl, handOver_event hc q _, ?_, fun o ho => ?_⟩
  · rw [getQueue_of_wq (congrArg Wings.queues hwq), getQueue_putItem, hitem]
  · rw [itemBytes_of_wq hwq]
    exact itemBytes_putItem hwf hn hlen _ rfl rfl
  · rw [itemBytes_of_wq hwq]
    exact itemBytes_putItem_other hwf o ho

section
variable {q kind : Nat} {bs : List Byte} {s : State} {r : QueueRec} (hr : queueRec s q = some r)
  (hs : s.wq.used.Pairwise (· < ·))
include hr hs

/-- With room in the quota an item takes free cells. -/
theorem commit_room (hwf : s.wq.pool.wf = true) (hq : (getQueue s q).occupancy + cellCount bs.length ≤ r.quota)
    (hm : cellCount bs.length ≤ r.maxItem) (hc : r.consumer ≠ 4) :
    (commitItem q kind bs s).1 = true ∧ ∃ cells u, cells.length = cellCount bs.length ∧ CellsTaken cells s u ∧
      u.wq.cntLost = s.wq.cntLost ∧ u.cb = s.cb ∧ u.wq.pool = s.wq.pool ∧
      Committed q kind bs cells (getQueue s q) r.consumer s u (commitItem q kind bs s).2 := by
  obtain ⟨cells, u, he, hlen, htaken⟩ := takeItemCells_free (q := q) (quota := r.quota) (cellCount bs.length) [] hs
    (by rw [List.length_nil]; exact hq)
  rw [List.nil_append] at he
  rw [commitItem_takes hr (by rw [Nat.min_eq_left hm]; exact he) hm]
  obtain ⟨used, free, hu⟩ := htaken.eq
  have hpool : u.wq.pool = s.wq.pool := by rw [hu]
  refine ⟨rfl, cells, u, hlen, htaken, by rw [hu], by rw [hu], hpool, ?_⟩
  have := committed_putItem (q := q) (kind := kind) hc (by rw [hpool]; exact hwf) htaken.nodup hlen.symm
    (newItem_taken (q := q) (kind := kind) (bs := bs) (cells := cells) htaken)
  rwa [htaken.getQueue] at this

/-- A safety evaluator takes its item at once. -/
theorem commit_evaluator (hq : (getQueue s q).occupancy + cellCount bs.length ≤ r.quota)
    (hm : cellCount bs.length ≤ r.maxItem) (hc : r.consumer = 4) (hi : (getQueue s q).items = [])
    (hp : (getQueue s q).pinned = none) (hk : (getQueue s q).markValid = false) (ht : (getQueue s q).tail < 2 ^ 32) :
    (commitItem q kind bs s).1 = true ∧ (getQueue (commitItem q kind bs s).2 q).items = [] ∧
      (getQueue (commitItem q kind bs s).2 q).tail = ((getQueue s q).tail + 1) % 2 ^ 32 ∧
      (getQueue (commitItem q kind bs s).2 q).rd = ((getQueue s q).tail + 1) % 2 ^ 32 ∧
      (getQueue (commitItem q kind bs s).2 q).rel = ((getQueue s q).tail + 1) % 2 ^ 32 ∧
      ∀ c, c ∈ (commitItem q kind bs s).2.wq.used ↔ c ∈ s.wq.used := by
  obtain ⟨cells, u, he, -, htaken⟩ := takeItemCells_free (q := q) (quota := r.quota) (cellCount bs.length) [] hs
    (by rw [List.length_nil]; exact hq)
  rw [List.nil_append] at he
  have hqueue := getQueue_putItem q kind bs cells u
  rw [htaken.getQueue, hi, List.nil_append] at hqueue
  obtain ⟨used, free, hu⟩ := htaken.eq
  have hrec : queueRec (putItem q kind bs cells u) q = some r := by rw [hu]; exact hr
  have hsafe : (queueRec (putItem q kind bs cells u) q).any (fun r => r.consumer == 4) = true := by
    rw [hrec, Option.any_some, hc]
    rfl
  have hseq : (newItem q kind bs cells u).seq = (getQueue s q).tail := by rw [newItem, htaken.getQueue]
  obtain ⟨hitems, htail, hrd, hrel, hused⟩ := handOver_evaluator (it := newItem q kind bs cells u) hsafe
    (by rw [hqueue]) (by rw [hqueue]; exact hp) (by rw [hqueue]; exact hk) (by rw [hseq]; exact ht) (by rw [hqueue, hseq])
  have htail' : (getQueue (putItem q kind bs cells u) q).tail = ((getQueue s q).tail + 1) % 2 ^ 32 := by rw [hqueue]
  rw [htail'] at htail hrd hrel
  rw [commitItem_takes hr (by rw [Nat.min_eq_left hm]; exact he) hm, hc]
  refine ⟨rfl, hitems, htail, hrd, hrel, fun c => (hused c).trans ?_⟩
  have hmem : c ∈ (putItem q kind bs cells u).wq.used ↔ c ∈ s.wq.used ∨ c ∈ cells := htaken.mem c
  have hcells : (newItem q kind bs cells u).cells = cells := rfl
  rw [hmem, hcells]
  exact ⟨fun h => h.1.resolve_right h.2, fun h => ⟨.inl h, fun hx => htaken.fresh c hx h⟩⟩

/-- At its quota the queue gives up its oldest item. -/
theorem commit_over {old : Item} (hwf : s.wq.pool.wf = true) (ho : (getQueue s q).oldestFree = some old)
    (hn : ((getQueue s q).items.map Item.seq).Nodup) (hcells : old.cells.Nodup) (hused : ∀ c ∈ old.cells, c ∈ s.wq.used)
    (hover : r.quota < (getQueue s q).occupancy + cellCount bs.length)
    (hfits : (getQueue s q).occupancy + cellCount bs.length ≤ r.quota + old.cells.length)
    (hm : cellCount bs.length ≤ r.maxItem) (hc : r.consumer ≠ 4) :
    (commitItem q kind bs s).1 = true ∧ ∃ cells u, cells.length = cellCount bs.length ∧ cells.Nodup ∧
      (∀ c, c ∈ u.wq.used ↔ (c ∈ s.wq.used ∧ c ∉ old.cells) ∨ c ∈ cells) ∧ u.wq.cntLost = inc32 s.wq.cntLost ∧
      u.cb.event.getLsbD evWingsLoss = true ∧
      Committed q kind bs cells { (getQueue s q).overwrite old with lost := inc32 (getQueue s q).lost } r.consumer s u
        (commitItem q kind bs s).2 := by
  rcases takeItemCells_over (q := q) (quota := r.quota) (cellCount bs.length) [] hs ho hn hcells hused
    (by rw [List.length_nil]; exact hover) (by rw [List.length_nil]; exact hfits) with
    ⟨cs, ds, mid, u, he, hlen, hcs, hold, hds⟩ | hzero
  · rw [List.nil_append] at he
    rw [commitItem_takes hr (by rw [Nat.min_eq_left hm]; exact he) hm]
    have hqueue : getQueue u q = { (getQueue s q).overwrite old with lost := inc32 (getQueue s q).lost } := by
      rw [hds.getQueue, getQueue_overwritten, hcs.getQueue]
    obtain ⟨used, free, hmid⟩ := hcs.eq
    obtain ⟨used', free', hu⟩ := hds.eq
    have hpool : u.wq.pool = s.wq.pool := by rw [hu, hmid]; rfl
    have hnodup : (cs ++ ds).Nodup := List.nodup_append.mpr ⟨hcs.nodup, hds.nodup, fun a ha b hb hab =>
      hcs.fresh a ha (hused a (hold a (hab ▸ hb)))⟩
    have hitem : newItem q kind bs (cs ++ ds) u = newItem q kind bs (cs ++ ds) s := by
      have htail : (getQueue u q).tail = (getQueue s q).tail := by rw [hqueue]; rfl
      have htime : tbUs u = tbUs s := by rw [hu, hmid]; rfl
      rw [newItem, newItem, htail, htime]
    have hover : (overwritten q old mid).wq.used = (freeCells old.cells mid).wq.used := rfl
    refine ⟨rfl, cs ++ ds, u, hlen, hnodup, fun c => ?_, by rw [hu, hmid]; rfl, ?_, ?_⟩
    · rw [hds.mem, hover, mem_freeCells, hcs.mem, List.mem_append]
      have hfresh : c ∈ cs → c ∉ old.cells := fun hx hy => hcs.fresh c hx (hused c hy)
      tauto
    · rw [hu]
      exact setEvent_event evWingsLoss (by decide) _
    · have := committed_putItem (q := q) (kind := kind) hc (by rw [hpool]; exact hwf) hnodup hlen.symm hitem
      rwa [hqueue] at this
  · rw [cellCount] at hzero
    omega

/-- Where nothing can be overwritten, or the item is too large, it is lost. -/
theorem commit_lost (h : ((getQueue s q).oldestFree = none ∧ r.quota < (getQueue s q).occupancy + cellCount bs.length) ∨
      (r.maxItem < cellCount bs.length ∧ (getQueue s q).occupancy + r.maxItem ≤ r.quota)) :
    (commitItem q kind bs s).1 = false ∧
      getQueue (commitItem q kind bs s).2 q = { getQueue s q with lost := inc32 (getQueue s q).lost } ∧
      (commitItem q kind bs s).2.wq.cntLost = inc32 s.wq.cntLost ∧
      (commitItem q kind bs s).2.cb.event.getLsbD evWingsLoss = true ∧
      ∀ c, c ∈ (commitItem q kind bs s).2.wq.used ↔ c ∈ s.wq.used := by
  have hlost : ∀ (cells : List Nat) (u : State), CellsTaken cells s u →
      getQueue (countLost q (freeCells cells u)) q = { getQueue s q with lost := inc32 (getQueue s q).lost } ∧
      (countLost q (freeCells cells u)).wq.cntLost = inc32 s.wq.cntLost ∧
      (countLost q (freeCells cells u)).cb.event.getLsbD evWingsLoss = true ∧
      ∀ c, c ∈ (countLost q (freeCells cells u)).wq.used ↔ c ∈ s.wq.used := by
    intro cells u htaken
    obtain ⟨used, free, hu⟩ := htaken.eq
    refine ⟨?_, by rw [hu]; rfl, setEvent_event evWingsLoss (by decide) _, fun c => (mem_freeCells cells u c).trans ?_⟩
    · rw [getQueue_countLost_same, getQueue_freeCells, htaken.getQueue]
    · rw [htaken.mem]
      exact ⟨fun h => h.1.resolve_right h.2, fun h => ⟨.inl h, fun hx => htaken.fresh c hx h⟩⟩
  by_cases hroom : (getQueue s q).occupancy + min (cellCount bs.length) r.maxItem ≤ r.quota
  · obtain ⟨cells, u, he, -, htaken⟩ := takeItemCells_free (q := q) (quota := r.quota)
      (min (cellCount bs.length) r.maxItem) [] hs (by rw [List.length_nil]; exact hroom)
    rw [List.nil_append] at he
    rw [commitItem_large hr he (by omega)]
    exact ⟨rfl, hlost cells u htaken⟩
  · have hnone : (getQueue s q).oldestFree = none := by
      rcases h with h | h
      · exact h.1
      · exact absurd hroom (by omega)
    rcases takeItemCells_full (q := q) (quota := r.quota) (min (cellCount bs.length) r.maxItem) [] hs hnone
      (by rw [List.length_nil]; omega) with ⟨cells, u, he, htaken⟩ | hzero
    · rw [List.nil_append] at he
      rw [commitItem_fails hr he]
      exact ⟨rfl, hlost cells u htaken⟩
    · have htake : takeItemCells q r.quota (min (cellCount bs.length) r.maxItem) [] [] s = (some [], s) := by
        rw [hzero]
        rfl
      rw [commitItem_large hr htake (by rw [cellCount] at hzero ⊢; omega)]
      exact ⟨rfl, hlost [] s (.none s)⟩
end

/-! ### Open items -/

theorem sum_filter_owner (l : List OpenItem) (owner : Nat) (f : OpenItem → Nat) :
    (l.map f).sum = ((l.filter (fun y => y.owner == owner)).map f).sum + ((l.filter (fun y => y.owner != owner)).map f).sum := by
  induction l with
  | nil => rfl
  | cons y l ih =>
    by_cases hy : y.owner = owner
    · simp [hy, ih]
      omega
    · simp [hy, ih]
      omega

theorem getQueue_forgetOpen (q owner : Nat) (s : State) : getQueue (forgetOpen q owner s) q =
    { getQueue s q with opens := (getQueue s q).opens.filter (fun o => o.owner != owner) } :=
  getQueue_setQueue_same _ _ _

section
variable {q owner kind : Nat} {bs : List Byte} {s : State} {o : OpenItem}
  (ho : (getQueue s q).opens.filter (fun y => y.owner == owner) = [o])
include ho

theorem find_open : (getQueue s q).opens.find? (fun y => y.owner == owner) = some o := by
  rw [← List.head?_filter, ho]
  rfl

/-- A commit of an item that its producer has open closes it. -/
theorem commitOpen_opens :
    (getQueue (commitOpen q owner kind bs s).2 q).opens = (getQueue s q).opens.filter (fun y => y.owner != owner) := by
  rw [commitOpen, find_open ho]
  dsimp only
  split
  · rw [getQueue_forgetOpen]
  · rw [(beside_commitFrom q kind bs o.cells (forgetOpen q owner s)).opens, getQueue_forgetOpen]

theorem commitOpen_dead (hd : o.dead = true) : commitOpen q owner kind bs s = (false, forgetOpen q owner s) := by
  rw [commitOpen, find_open ho]
  exact if_pos hd

/-- The cells that the producer has taken count toward the item. -/
theorem commitOpen_live {r : QueueRec} (hr : queueRec s q = some r) (hs : s.wq.used.Pairwise (· < ·)) (hd : o.dead = false)
    (hlen : o.cells.length ≤ cellCount bs.length)
    (hq : (getQueue s q).occupancy + (cellCount bs.length - o.cells.length) ≤ r.quota)
    (hm : cellCount bs.length ≤ r.maxItem) (hc : r.consumer ≠ 4) :
    (commitOpen q owner kind bs s).1 = true ∧ ∃ cells : List Nat, cells.length + o.cells.length = cellCount bs.length ∧
      (getQueue (commitOpen q owner kind bs s).2 q).items = (getQueue s q).items ++ [newItem q kind bs (o.cells ++ cells) s] ∧
      (getQueue (commitOpen q owner kind bs s).2 q).tail = ((getQueue s q).tail + 1) % 2 ^ 32 := by
  have hfrom : commitOpen q owner kind bs s = commitFrom q kind bs o.cells (forgetOpen q owner s) := by
    rw [commitOpen, find_open ho]
    exact if_neg (Bool.not_eq_true _ ▸ hd)
  have hocc : (getQueue (forgetOpen q owner s) q).occupancy + o.cells.length = (getQueue s q).occupancy := by
    have hsum := sum_filter_owner (getQueue s q).opens owner (fun y => y.cells.length)
    rw [ho] at hsum
    rw [getQueue_forgetOpen]
    simp only [Queue.occupancy, Queue.heldCells, Queue.openCells]
    simp only [List.map_cons, List.map_nil, List.sum_cons, List.sum_nil] at hsum
    omega
  have hs' : (forgetOpen q owner s).wq.used.Pairwise (· < ·) := hs
  have hr' : queueRec (forgetOpen q owner s) q = some r := hr
  obtain ⟨cells, u, he, hcells, htaken⟩ := takeItemCells_free (q := q) (quota := r.quota)
    (cellCount bs.length - o.cells.length) o.cells hs' (by omega)
  have htake : takeItemCells q r.quota (min (cellCount bs.length) r.maxItem - o.cells.length) []
      (o.cells.take (cellCount bs.length)) (freeCells (o.cells.drop (cellCount bs.length)) (forgetOpen q owner s)) =
      (some (o.cells ++ cells), u) := by
    rw [Nat.min_eq_left hm, List.take_of_length_le hlen, List.drop_of_length_le hlen, freeCells_nil]
    exact he
  rw [hfrom, commitFrom_takes hr' htake hm]
  have hqueue := getQueue_putItem q kind bs (o.cells ++ cells) u
  have hitem : newItem q kind bs (o.cells ++ cells) u = newItem q kind bs (o.cells ++ cells) s := by
    rw [newItem_taken htaken, newItem, newItem, getQueue_forgetOpen]
    rfl
  rw [htaken.getQueue, getQueue_forgetOpen, hitem] at hqueue
  have hwq := handOver_wq hc q (putItem q kind bs (o.cells ++ cells) u)
  refine ⟨rfl, cells, by omega, ?_, ?_⟩
  · rw [getQueue_of_wq (congrArg Wings.queues hwq), hqueue]
  · rw [getQueue_of_wq (congrArg Wings.queues hwq), hqueue]
end

end Sys2Proof.Machine
end

section
/-! The commands of WQ_CMD (R351, R352, R355 to R360, R365, R375). -/

namespace Sys2Proof.Machine

/-! ### The command word -/

theorem wqWord_fields {op q : Nat} (hop : op < 16) (hq : q < 4096) :
    fld (wqWord op q) 31 28 = op ∧ fld (wqWord op q) 11 0 = q := by
  have hw : (wqWord op q).toNat = op * 2 ^ 28 + q := by
    simp only [wqWord, word, List.foldl_cons, List.foldl_nil, BitVec.toNat_ofNat, Nat.reducePow]
    omega
  rw [fld_eq, fld_eq, hw]
  simp only [Nat.reducePow, Nat.reduceSub, Nat.reduceAdd]
  omega

/-- WQ_CMD_ARG takes a value, where the command writes one. -/
def withArg : Option W32 → State → State
  | none, s => s
  | some a, s => { s with wq := { s.wq with cmdArg := a } }

theorem withArg_cases (arg : Option W32) (s : State) : ∃ a, withArg arg s = { s with wq := { s.wq with cmdArg := a } } := by
  cases arg with
  | none => exact ⟨s.wq.cmdArg, rfl⟩
  | some a => exact ⟨a, rfl⟩

theorem wqCommand_busy {p : Path} {op q : Nat} (hlo : 1 ≤ op) (hhi : op ≤ 7) (hq : q < 4096) {s : State}
    (hb : s.wq.resBusy = true) : wqCommand p (wqWord op q) s = (false, violation p wqCmdAddr kindBusy s) := by
  obtain ⟨hop, -⟩ := wqWord_fields (show op < 16 by omega) hq
  simp only [wqCommand, hop]
  rw [if_neg (by omega), if_pos hb]

theorem wqCommand_runs {p : Path} {op q : Nat} (hlo : 1 ≤ op) (hhi : op ≤ 7) (hq : q < 4096) {s : State}
    (hb : s.wq.resBusy = false) : wqCommand p (wqWord op q) s = (true, wqRun op q s.wq.cmdArg.toNat s) := by
  obtain ⟨hop, hqueue⟩ := wqWord_fields (show op < 16 by omega) hq
  simp only [wqCommand, hop, hqueue]
  rw [if_neg (by omega), if_neg (Bool.not_eq_true _ ▸ hb)]

/-- Instruction `c` writes WQ_CMD with `op` on queue `q`. -/
def WritesCmd (t : Nat) (p : Path) (op q : Nat) (arg : Option W32) (s : State) (c : Instr) : Prop :=
  exec c s = act t s (onPath p (fun u => (wqCommand p (wqWord op q) (withArg arg u)).2))

/-- The commands of Table 10.6. -/
theorem writesCmd_of_mem {t q n : Nat} {p : Path} {s : State} : ∀ c ∈ [Instr.wqFlush t p q, .wqMark t p q, .wqClearMark t p q,
    .wqRewind t p q, .wqRelease t p q n, .wqRead t p q, .wqDone t p q],
    ∃ op arg, 1 ≤ op ∧ op ≤ 7 ∧ WritesCmd t p op q arg s c := by
  intro c hc
  simp only [List.mem_cons, List.not_mem_nil, or_false] at hc
  rcases hc with rfl | rfl | rfl | rfl | rfl | rfl | rfl
  · exact ⟨1, none, by omega, by omega, rfl⟩
  · exact ⟨2, none, by omega, by omega, rfl⟩
  · exact ⟨3, none, by omega, by omega, rfl⟩
  · exact ⟨4, none, by omega, by omega, rfl⟩
  · exact ⟨5, some (BitVec.ofNat 32 n), by omega, by omega, rfl⟩
  · exact ⟨6, none, by omega, by omega, rfl⟩
  · exact ⟨7, none, by omega, by omega, rfl⟩

/-- MARK, REWIND and RELEASE are not for a safety-evaluator queue. -/
theorem writesCmd_positions {t q n : Nat} {p : Path} {s : State} : ∀ c ∈ [Instr.wqMark t p q, .wqRewind t p q,
    .wqRelease t p q n], ∃ op arg, 1 ≤ op ∧ op ≤ 7 ∧ op ∈ [opMark, opRewind, opRelease] ∧ WritesCmd t p op q arg s c := by
  intro c hc
  simp only [List.mem_cons, List.not_mem_nil, or_false] at hc
  rcases hc with rfl | rfl | rfl
  · exact ⟨2, none, by omega, by omega, by decide, rfl⟩
  · exact ⟨4, none, by omega, by omega, by decide, rfl⟩
  · exact ⟨5, some (BitVec.ofNat 32 n), by omega, by omega, by decide, rfl⟩

section
variable {t op q : Nat} {p : Path} {arg : Option W32} {s : State} {c : Instr} (hs : awake t s = true) (hp : p ≠ .tap)
  (hq : q < 4096) (hc : WritesCmd t p op q arg s c) (hlo : 1 ≤ op) (hhi : op ≤ 7)
include hs hp hq hc hlo hhi

/-- A command while BUSY is discarded. -/
theorem yields_wqBusy (hb : s.wq.resBusy = true) : Yields (exec c s) (fun u => u.cb.violKind = kindBusy ∧
    u.cb.violAddr = 0x00080040#32 ∧ u.cb.event.getLsbD evAccess = true ∧ u.wq.resBusy = true ∧
    u.wq.queues = s.wq.queues ∧ Leaves t s u (fun x => boardOnly { x with wq := { x.wq with cmdArg := 0 } })) := by
  rw [hc]
  refine yields_act hs ?_
  obtain ⟨a, ha⟩ := withArg_cases arg (begin t s)
  have hb' : (withArg arg (begin t s)).wq.resBusy = true := by rw [ha]; exact hb
  rw [onPath_of_ne hp, wqCommand_busy hlo hhi hq hb', ha]
  refine ⟨settle_cb_violKind _ _, settle_violation_addr _ _ _ _ _, settle_violation_event _ _ _ _ _, ?_, ?_, _, rfl, rfl⟩
  · rw [settle_wq]
    exact hb
  · rw [settle_wq]
    rfl

/-- While BUSY reads 0 the command runs. -/
theorem yields_wqRun {P : State → Prop} (hb : s.wq.resBusy = false)
    (h : P (settle s (wqRun op q (withArg arg (begin t s)).wq.cmdArg.toNat (withArg arg (begin t s))))) :
    Yields (exec c s) P := by
  rw [hc]
  refine yields_act hs ?_
  obtain ⟨a, ha⟩ := withArg_cases arg (begin t s)
  have hb' : (withArg arg (begin t s)).wq.resBusy = false := by rw [ha]; exact hb
  rw [onPath_of_ne hp, wqCommand_runs hlo hhi hq hb']
  exact h

/-- On a queue that does not exist. -/
theorem yields_wqMissing (hb : s.wq.resBusy = false) (hr : consumerOf s q = none) : Yields (exec c s) (fun u =>
    u.wq.result = 1 ∧ Leaves t s u (fun x => { x with wq := { x.wq with result := 0, cmdArg := 0 } })) := by
  refine yields_wqRun hs hp hq hc hlo hhi hb ?_
  obtain ⟨a, ha⟩ := withArg_cases arg (begin t s)
  have hr' : (consumerOf (withArg arg (begin t s)) q).isNone = true := by
    rw [ha]
    exact Option.isNone_iff_eq_none.mpr hr
  rw [wqRun, if_pos hr', ha]
  exact ⟨by rw [settle_wq]; rfl, _, rfl, rfl⟩

/-- On a queue that exists. -/
theorem yields_wqOp {P : State → Prop} (hb : s.wq.resBusy = false) (hr : consumerOf s q ≠ none)
    (h : P (settle s (wqOp op q (withArg arg (begin t s)).wq.cmdArg.toNat (withArg arg (begin t s))))) :
    Yields (exec c s) P := by
  refine yields_wqRun hs hp hq hc hlo hhi hb ?_
  obtain ⟨a, ha⟩ := withArg_cases arg (begin t s)
  have hr' : ¬ (consumerOf (withArg arg (begin t s)) q).isNone = true := by
    rw [ha]
    exact fun h => hr (Option.isNone_iff_eq_none.mp h)
  rwa [wqRun, if_neg hr']

/-- Positions of a safety-evaluator queue. -/
theorem yields_wqEvaluator (hb : s.wq.resBusy = false) (hr : consumerOf s q = some 4)
    (hop : op ∈ [opMark, opRewind, opRelease]) : Yields (exec c s) (fun u =>
    u.wq.result = 4 ∧ Leaves t s u (fun x => { x with wq := { x.wq with result := 0, cmdArg := 0 } })) := by
  refine yields_wqOp hs hp hq hc hlo hhi hb (by rw [hr]; exact Option.some_ne_none 4) ?_
  obtain ⟨a, ha⟩ := withArg_cases arg (begin t s)
  have hr' : consumerOf (withArg arg (begin t s)) q = some 4 := by
    rw [ha]
    exact hr
  rw [wqOp, if_pos ⟨hr', hop⟩, ha]
  exact ⟨by rw [settle_wq]; rfl, _, rfl, rfl⟩
end

/-! ### FLUSH -/

/-- Everything but the wings. -/
def offWings (s : State) : State := { s with wq := {} }

theorem leaves_offWings {t : Nat} {s u : State} (h : offWings u = offWings (begin t s)) :
    Leaves t s (settle s u) (fun x => { x with wq := {} }) :=
  ⟨u, rfl, congrArg (fun x : State => { x with recent := {} }) h⟩

/-- What a flush leaves of a queue. -/
def stays (q : Nat) (s : State) : List Item :=
  (getQueue s q).items.filter (fun i => (getQueue s q).pinned == some i.seq && laneQueue s q)

/-- The queue after a flush. -/
def flushed (q : Nat) (s : State) : Queue :=
  { getQueue s q with
    items := stays q s, opens := (getQueue s q).opens.map (fun o => { o with cells := [], dead := true }),
    rel := (getQueue s q).tail, rd := (getQueue s q).tail, markValid := false, markLost := false,
    pinned := if stays q s = [] then none else (getQueue s q).pinned,
    flushed := satAdd 32 (getQueue s q).flushed (getQueue s q).items.length,
    drop := satAdd 32 (getQueue s q).drop ((getQueue s q).opens.filter (fun o => !o.dead)).length,
    reset := true }

/-- The view of an item of queue `q` closes. -/
def closeView (q : Nat) (s : State) : State :=
  if s.wq.view.any (fun p => p.1 == q) then { s with wq := { s.wq with view := none, viewBytes := [] } } else s

theorem closeView_keeps (q : Nat) (s : State) :
    offWings (closeView q s) = offWings s ∧ ∀ k, getQueue (closeView q s) k = getQueue s k := by
  rw [closeView]
  split
  · exact ⟨rfl, fun _ => rfl⟩
  · exact ⟨rfl, fun _ => rfl⟩

/-- The cells that a flush frees. -/
def flushCells (q : Nat) (s : State) : List Nat :=
  ((getQueue s q).items.filter (fun i => !(stays q s).any (fun j => j.seq == i.seq))).flatMap Item.cells ++
    (getQueue s q).opens.flatMap OpenItem.cells

theorem flushQueue_eq (q : Nat) (s : State) :
    flushQueue q s = closeView q (freeCells (flushCells q s) (setQueue q (flushed q s) s)) := by
  have hstays : (getQueue s q).items.filter (fun i => (getQueue s q).pinned == some i.seq &&
      (queueRec s q).any (fun r => r.consumer ∈ [0, 1, 3])) = stays q s := by
    rw [stays, laneQueue, consumerOf, Option.any_map]
  rw [flushCells, flushed, ← hstays] <;> rfl

theorem flushQueue_offWings (q : Nat) (s : State) : offWings (flushQueue q s) = offWings s := by
  rw [flushQueue_eq, (closeView_keeps q _).1]
  rfl

theorem getQueue_flushQueue_other {q k : Nat} (h : k ≠ q) (s : State) : getQueue (flushQueue q s) k = getQueue s k := by
  rw [flushQueue_eq, (closeView_keeps q _).2, getQueue_freeCells, getQueue_setQueue_other h]

theorem getQueue_flushQueue_same (q : Nat) (s : State) : getQueue (flushQueue q s) q = flushed q s := by
  rw [flushQueue_eq, (closeView_keeps q _).2, getQueue_freeCells, getQueue_setQueue_same]

/-- FLUSH has freed what it can; whether it then waits is looked at next. -/
def flushDone (q : Nat) (s : State) : State :=
  wqResult 0 (setQueue q { getQueue (flushQueue q s) q with waitCmd := none } (flushQueue q s))

theorem wqResult_setQueue_offWings (r q : Nat) (v : Queue) (s : State) :
    offWings (wqResult r (setQueue q v s)) = offWings s := rfl

theorem waitPinned_offWings (op q : Nat) (s : State) : offWings (waitPinned op q s) = offWings s := rfl

theorem flushDone_offWings (q : Nat) (s : State) : offWings (flushDone q s) = offWings s := by
  rw [flushDone, wqResult_setQueue_offWings, flushQueue_offWings]

theorem getQueue_flushDone_same (q : Nat) (s : State) :
    getQueue (flushDone q s) q = { flushed q s with waitCmd := none } := by
  have h : getQueue (flushDone q s) q = { getQueue (flushQueue q s) q with waitCmd := none } :=
    getQueue_setQueue_same q _ (flushQueue q s)
  rw [h, getQueue_flushQueue_same]

theorem getQueue_flushDone_other {q k : Nat} (h : k ≠ q) (s : State) : getQueue (flushDone q s) k = getQueue s k := by
  have h' : getQueue (flushDone q s) k = getQueue (flushQueue q s) k :=
    getQueue_setQueue_other h _ (flushQueue q s)
  rw [h', getQueue_flushQueue_other h]

theorem wqFlushOp_eq (q : Nat) (s : State) : wqFlushOp q s =
    if lanePinned (flushDone q s) q then waitPinned opFlush q (flushDone q s) else flushDone q s := rfl

theorem laneQueue_flushDone (q : Nat) (s : State) : laneQueue (flushDone q s) q = laneQueue s q := by
  have himg := congrArg State.img (flushDone_offWings q s)
  change (flushDone q s).img = s.img at himg
  rw [laneQueue, laneQueue, consumerOf, consumerOf, queueRec, queueRec, himg]

theorem stays_nil {q : Nat} {s : State} (h : laneQueue s q = false ∨ (getQueue s q).pinned = none) : stays q s = [] := by
  refine List.filter_eq_nil_iff.mpr fun i _ => ?_
  rcases h with h | h
  · simp [h]
  · simp [h]

theorem wqFlushOp_empties {q : Nat} {s : State} (h : laneQueue s q = false ∨ (getQueue s q).pinned = none) :
    wqFlushOp q s = flushDone q s := by
  have hpin : lanePinned (flushDone q s) q = false := by
    rw [lanePinned, getQueue_flushDone_same]
    simp [flushed, stays_nil h]
  rw [wqFlushOp_eq, if_neg (Bool.not_eq_true _ ▸ hpin)]

theorem wqFlushOp_waits {q : Nat} {s : State} {it : Item} (hl : laneQueue s q = true)
    (hp : (getQueue s q).pinned = some it.seq) (hi : it ∈ (getQueue s q).items) :
    wqFlushOp q s = waitPinned opFlush q (flushDone q s) ∧ it ∈ stays q s ∧ ∀ i ∈ stays q s, i.seq = it.seq := by
  have hmem : it ∈ stays q s := List.mem_filter.mpr ⟨hi, by simp [hp, hl]⟩
  have hpin : lanePinned (flushDone q s) q = true := by
    rw [lanePinned, laneQueue_flushDone, hl, getQueue_flushDone_same]
    simp [flushed, List.ne_nil_of_mem hmem, hp]
  refine ⟨by rw [wqFlushOp_eq, if_pos hpin], hmem, fun i hi => ?_⟩
  obtain ⟨-, hseq⟩ := List.mem_filter.mp hi
  rw [hp, hl, Bool.and_true] at hseq
  exact (Option.some.inj (beq_iff_eq.mp hseq)).symm

section
variable {t q : Nat} {p : Path} {s : State} (hs : awake t s = true) (hp : p ≠ .tap) (hq : q < 4096)
  (hb : s.wq.resBusy = false)
include hs hp hq hb

/-- FLUSH empties the queue. -/
theorem yields_flush (hr : consumerOf s q ≠ none) (h : laneQueue s q = false ∨ (getQueue s q).pinned = none) :
    Yields (exec (.wqFlush t p q) s) (fun u => u.wq.result = 0 ∧ (getQueue u q).items = [] ∧
      (getQueue u q).tail = (getQueue s q).tail ∧ (getQueue u q).rd = (getQueue s q).tail ∧
      (getQueue u q).rel = (getQueue s q).tail ∧ (getQueue u q).markValid = false ∧
      (getQueue u q).flushed = satAdd 32 (getQueue s q).flushed (getQueue s q).items.length ∧
      (getQueue u q).reset = true ∧ (∀ k, k ≠ q → getQueue u k = getQueue s k) ∧
      Leaves t s u (fun x => { x with wq := {} })) := by
  refine yields_wqOp (op := opFlush) (arg := none) (c := .wqFlush t p q) hs hp hq rfl (by decide) (by decide) hb hr ?_
  have hop : ∀ (n : Nat) (x : State), wqOp opFlush q n x = wqFlushOp q x := by
    intro n x
    rw [wqOp, if_neg fun h => absurd h.2 (by decide), if_pos rfl]
  rw [hop, withArg, wqFlushOp_empties (s := begin t s) h, getQueue_settle, getQueue_flushDone_same, settle_wq]
  exact ⟨rfl, stays_nil (s := begin t s) h, rfl, rfl, rfl, rfl, rfl, rfl,
    fun k hk => (getQueue_settle s _ k).trans (getQueue_flushDone_other hk (begin t s)), leaves_offWings (flushDone_offWings q _)⟩

/-- FLUSH waits for the item that is pinned on a lane. -/
theorem yields_flushWaits {it : Item} (hl : laneQueue s q = true) (hpin : (getQueue s q).pinned = some it.seq)
    (hi : it ∈ (getQueue s q).items) :
    Yields (exec (.wqFlush t p q) s) (fun u => u.wq.resBusy = true ∧ (getQueue u q).waitCmd = some 1 ∧
      it ∈ (getQueue u q).items ∧ (∀ i ∈ (getQueue u q).items, i.seq = it.seq) ∧
      (∀ k, k ≠ q → getQueue u k = getQueue s k) ∧ Leaves t s u (fun x => { x with wq := {} })) := by
  have hr : consumerOf s q ≠ none := fun h => by
    rw [laneQueue, h] at hl
    cases hl
  refine yields_wqOp (op := opFlush) (arg := none) (c := .wqFlush t p q) hs hp hq rfl (by decide) (by decide) hb hr ?_
  have hop : ∀ (n : Nat) (x : State), wqOp opFlush q n x = wqFlushOp q x := by
    intro n x
    rw [wqOp, if_neg fun h => absurd h.2 (by decide), if_pos rfl]
  obtain ⟨heq, hmem, hall⟩ := wqFlushOp_waits (s := begin t s) hl hpin hi
  have hsame : getQueue (waitPinned opFlush q (flushDone q (begin t s))) q =
      { getQueue (flushDone q (begin t s)) q with waitCmd := some opFlush } := getQueue_setQueue_same q _ _
  have hother : ∀ k, k ≠ q → getQueue (waitPinned opFlush q (flushDone q (begin t s))) k = getQueue s k := fun k hk =>
    (getQueue_setQueue_other hk _ (flushDone q (begin t s))).trans (getQueue_flushDone_other hk (begin t s))
  have hbusy : (waitPinned opFlush q (flushDone q (begin t s))).wq.resBusy = true := (laneQueue_flushDone q (begin t s)).trans hl
  have hoff : offWings (waitPinned opFlush q (flushDone q (begin t s))) = offWings (begin t s) :=
    (waitPinned_offWings opFlush q _).trans (flushDone_offWings q (begin t s))
  rw [hop, withArg, heq, getQueue_settle, hsame, getQueue_flushDone_same, settle_wq]
  exact ⟨hbusy, rfl, hmem, hall, fun k hk => (getQueue_settle s _ k).trans (hother k hk), leaves_offWings hoff⟩
end

/-! ### MARK, CLEARMARK, REWIND -/

theorem Queue.rewind_marked {v : Queue} (h : v.markValid = true) : v.rewind = ({ v with rd := v.mark, reset := true }, 0, 0) :=
  if_pos h

theorem Queue.rewind_lost {v : Queue} (h : v.markValid = false) (h' : v.markLost = true) :
    v.rewind = ({ v with rd := v.rel, markLost := false, reset := true }, 2,
      min 0xFFFFF ((v.rel + 2 ^ 32 - v.mark % 2 ^ 32) % 2 ^ 32)) := by
  rw [Queue.rewind, if_neg (Bool.not_eq_true _ ▸ h), if_pos h', seqMod]

theorem Queue.rewind_none {v : Queue} (h : v.markValid = false) (h' : v.markLost = false) : v.rewind = (v, 3, 0) := by
  rw [Queue.rewind, if_neg (Bool.not_eq_true _ ▸ h), if_neg (Bool.not_eq_true _ ▸ h')]

theorem Queue.rewind_items (v : Queue) : v.rewind.1.items = v.items := by
  rw [Queue.rewind]
  split
  · rfl
  · split <;> rfl

section
variable {t q : Nat} {p : Path} {s : State} (hs : awake t s = true) (hp : p ≠ .tap) (hq : q < 4096)
  (hb : s.wq.resBusy = false) (hr : consumerOf s q ≠ none)
include hs hp hq hb hr

theorem yields_mark (h4 : consumerOf s q ≠ some 4) : Yields (exec (.wqMark t p q) s) (fun u => u.wq.result = 0 ∧
    getQueue u q = { getQueue s q with mark := (getQueue s q).rd, markValid := true, markLost := false } ∧
    Leaves t s u (fun x => { x with wq := { x.wq with result := 0, queues := [] } })) := by
  refine yields_wqOp (op := opMark) (arg := none) (c := .wqMark t p q) hs hp hq rfl (by decide) (by decide) hb hr ?_
  rw [wqOp, if_neg fun h => h4 h.1, if_neg (by decide), if_pos rfl, getQueue_settle, settle_wq]
  exact ⟨rfl, getQueue_setQueue_same q _ (begin t s), _, rfl, rfl⟩

theorem yields_clearMark : Yields (exec (.wqClearMark t p q) s) (fun u => u.wq.result = 0 ∧
    getQueue u q = { getQueue s q with markValid := false, markLost := false } ∧
    Leaves t s u (fun x => { x with wq := { x.wq with result := 0, queues := [] } })) := by
  refine yields_wqOp (op := opClearMark) (arg := none) (c := .wqClearMark t p q) hs hp hq rfl (by decide) (by decide) hb hr ?_
  rw [wqOp, if_neg fun h => absurd h.2 (by decide), if_neg (by decide), if_neg (by decide), if_pos rfl, getQueue_settle,
    settle_wq]
  exact ⟨rfl, getQueue_setQueue_same q _ (begin t s), _, rfl, rfl⟩

theorem yields_rewind (h4 : consumerOf s q ≠ some 4) (hpin : (getQueue s q).pinned = none) :
    Yields (exec (.wqRewind t p q) s) (fun u =>
      ((getQueue s q).markValid = true → u.wq.result = 0 ∧ (getQueue u q).rd = (getQueue s q).mark ∧
        (getQueue u q).reset = true) ∧
      ((getQueue s q).markValid = false → (getQueue s q).markLost = true → u.wq.result = 2 ∧
        (getQueue u q).rd = (getQueue s q).rel ∧ (getQueue u q).markLost = false ∧
        u.wq.resLost = min 0xFFFFF (((getQueue s q).rel + 2 ^ 32 - (getQueue s q).mark % 2 ^ 32) % 2 ^ 32)) ∧
      ((getQueue s q).markValid = false → (getQueue s q).markLost = false → u.wq.result = 3 ∧
        (getQueue u q).rd = (getQueue s q).rd) ∧
      (getQueue u q).items = (getQueue s q).items ∧ (∀ k, k ≠ q → getQueue u k = getQueue s k) ∧
      Leaves t s u (fun x => { x with wq := {} })) := by
  refine yields_wqOp (op := opRewind) (arg := none) (c := .wqRewind t p q) hs hp hq rfl (by decide) (by decide) hb hr ?_
  have hpin' : ¬ (getQueue (withArg none (begin t s)) q).pinned.isSome = true := by
    rw [show (getQueue (withArg none (begin t s)) q).pinned = none from hpin]
    exact Bool.false_ne_true
  rw [wqOp, if_neg fun h => h4 h.1, if_neg (by decide), if_neg (by decide), if_neg (by decide), if_pos rfl, wqRewindOp,
    if_neg hpin', withArg, getQueue_settle, settle_wq]
  have hv : getQueue (begin t s) q = getQueue s q := rfl
  have hsame : getQueue (rewindNow q (begin t s)) q = { (getQueue s q).rewind.1 with waitCmd := none } :=
    getQueue_setQueue_same q _ (begin t s)
  have hother : ∀ k, k ≠ q → getQueue (rewindNow q (begin t s)) k = getQueue s k := fun k hk =>
    getQueue_setQueue_other hk _ (begin t s)
  have hresult : (rewindNow q (begin t s)).wq.result = (getQueue s q).rewind.2.1 := rfl
  have hlost : (rewindNow q (begin t s)).wq.resLost =
      if (getQueue s q).rewind.2.1 = 2 then (getQueue s q).rewind.2.2 else s.wq.resLost := rfl
  rw [hsame, hresult, hlost]
  refine ⟨fun h => ?_, fun h h' => ?_, fun h h' => ?_, ?_,
    fun k hk => (getQueue_settle s _ k).trans (hother k hk), leaves_offWings rfl⟩
  · rw [Queue.rewind_marked h]
    exact ⟨rfl, rfl, rfl⟩
  · rw [Queue.rewind_lost h h']
    exact ⟨rfl, rfl, rfl, if_pos rfl⟩
  · rw [Queue.rewind_none h h']
    exact ⟨rfl, rfl⟩
  · exact Queue.rewind_items _

theorem yields_rewindWaits (h4 : consumerOf s q ≠ some 4) (hpin : (getQueue s q).pinned ≠ none) :
    Yields (exec (.wqRewind t p q) s) (fun u => (getQueue u q).waitCmd = some 4 ∧ u.wq.resBusy = laneQueue s q ∧
      (getQueue u q).rd = (getQueue s q).rd ∧ Leaves t s u (fun x => { x with wq := {} })) := by
  refine yields_wqOp (op := opRewind) (arg := none) (c := .wqRewind t p q) hs hp hq rfl (by decide) (by decide) hb hr ?_
  have hpin' : (getQueue (withArg none (begin t s)) q).pinned.isSome = true := Option.isSome_iff_ne_none.mpr hpin
  rw [wqOp, if_neg fun h => h4 h.1, if_neg (by decide), if_neg (by decide), if_neg (by decide), if_pos rfl, wqRewindOp,
    if_pos hpin', withArg, getQueue_settle, settle_wq]
  have hsame : getQueue (waitPinned opRewind q (begin t s)) q = { getQueue s q with waitCmd := some 4 } :=
    getQueue_setQueue_same q _ (begin t s)
  rw [hsame]
  exact ⟨rfl, rfl, rfl, leaves_offWings rfl⟩

end

/-! ### RELEASE -/

theorem Queue.above_mod (v : Queue) (n : Nat) : v.above (n % 2 ^ 32) = v.above n := by
  rw [Queue.above, Queue.above, seqMod, Nat.mod_mod]

theorem Queue.releaseLimit_mod (v : Queue) (n : Nat) : v.releaseLimit (n % 2 ^ 32) = v.releaseLimit n := by
  rw [Queue.releaseLimit, Queue.releaseLimit, Queue.above_mod]

/-- The queue with the items below `lim`, counted from REL, released. -/
def Queue.releaseUpTo (v : Queue) (lim : Nat) : Queue :=
  { v with items := v.items.filter (fun i => !decide (v.above i.seq < lim)), rel := (v.rel + lim) % seqMod }

theorem Queue.releaseUpTo_rel (v : Queue) (lim : Nat) : (v.releaseUpTo lim).rel = (v.rel + lim) % 2 ^ 32 := by
  rw [Queue.releaseUpTo, seqMod]

theorem Queue.mem_releaseUpTo (v : Queue) (lim : Nat) (i : Item) :
    i ∈ (v.releaseUpTo lim).items ↔ i ∈ v.items ∧ lim ≤ v.above i.seq := by
  rw [Queue.releaseUpTo, List.mem_filter, Bool.not_eq_true', decide_eq_false_iff_not, Nat.not_lt]

/-- Queue `q` stands as `v`, the cells `cs` are free, and the command has RESULT 0. -/
def freed (q : Nat) (v : Queue) (cs : List Nat) (s : State) : State := wqResult 0 (freeCells cs (setQueue q v s))

theorem getQueue_freed_same (q : Nat) (v : Queue) (cs : List Nat) (s : State) : getQueue (freed q v cs s) q = v :=
  getQueue_setQueue_same q v s

theorem getQueue_freed_other {q k : Nat} (h : k ≠ q) (v : Queue) (cs : List Nat) (s : State) :
    getQueue (freed q v cs s) k = getQueue s k := getQueue_setQueue_other h v s

theorem freed_offWings (q : Nat) (v : Queue) (cs : List Nat) (s : State) : offWings (freed q v cs s) = offWings s := rfl

theorem freed_result (q : Nat) (v : Queue) (cs : List Nat) (s : State) : (freed q v cs s).wq.result = 0 := rfl

theorem wqReleaseOp_within {q n : Nat} {s : State} (h : (getQueue s q).above n ≤ (getQueue s q).above (getQueue s q).tail) :
    ∃ cs, wqReleaseOp q n s = freed q ((getQueue s q).releaseUpTo ((getQueue s q).releaseLimit n)) cs s :=
  ⟨_, if_neg (Nat.not_lt.mpr h)⟩

section
variable {t q n : Nat} {p : Path} {s : State} (hs : awake t s = true) (hp : p ≠ .tap) (hq : q < 4096)
  (hb : s.wq.resBusy = false) (hr : consumerOf s q ≠ none) (h4 : consumerOf s q ≠ some 4)
include hs hp hq hb hr h4

theorem yields_releaseOp {P : State → Prop}
    (h : P (settle s (wqReleaseOp q (n % 2 ^ 32) (withArg (some (BitVec.ofNat 32 n)) (begin t s))))) :
    Yields (exec (.wqRelease t p q n) s) P := by
  refine yields_wqOp (op := opRelease) (arg := some (BitVec.ofNat 32 n)) (c := .wqRelease t p q n) hs hp hq rfl (by decide) (by decide) hb hr ?_
  have harg : (withArg (some (BitVec.ofNat 32 n)) (begin t s)).wq.cmdArg.toNat = n % 2 ^ 32 := BitVec.toNat_ofNat n 32
  have h4' : consumerOf (withArg (some (BitVec.ofNat 32 n)) (begin t s)) q ≠ some 4 := h4
  rw [harg, wqOp, if_neg fun h => h4' h.1, if_neg (by decide), if_neg (by decide), if_neg (by decide), if_neg (by decide),
    if_pos rfl]
  exact h

theorem yields_releaseBeyond (h : (getQueue s q).above (getQueue s q).tail < (getQueue s q).above n) :
    Yields (exec (.wqRelease t p q n) s) (fun u => u.wq.result = 6 ∧ getQueue u q = getQueue s q ∧
      Leaves t s u (fun x => { x with wq := { x.wq with result := 0, cmdArg := 0 } })) := by
  refine yields_releaseOp hs hp hq hb hr h4 ?_
  have hv : getQueue (withArg (some (BitVec.ofNat 32 n)) (begin t s)) q = getQueue s q := rfl
  have hop : wqReleaseOp q (n % 2 ^ 32) (withArg (some (BitVec.ofNat 32 n)) (begin t s)) =
      wqResult 6 (withArg (some (BitVec.ofNat 32 n)) (begin t s)) :=
    if_pos (by rw [hv, Queue.above_mod]; exact h)
  rw [hop, getQueue_settle, settle_wq]
  exact ⟨rfl, hv, _, rfl, rfl⟩

theorem yields_release (h : (getQueue s q).above n ≤ (getQueue s q).above (getQueue s q).tail) :
    Yields (exec (.wqRelease t p q n) s) (fun u => u.wq.result = 0 ∧
      (getQueue u q).rel = ((getQueue s q).rel + (getQueue s q).releaseLimit n) % 2 ^ 32 ∧
      (getQueue u q).rd = (getQueue s q).rd ∧ (getQueue u q).tail = (getQueue s q).tail ∧
      (∀ i, i ∈ (getQueue u q).items ↔ i ∈ (getQueue s q).items ∧ (getQueue s q).releaseLimit n ≤ (getQueue s q).above i.seq) ∧
      (∀ k, k ≠ q → getQueue u k = getQueue s k) ∧ Leaves t s u (fun x => { x with wq := {} })) := by
  refine yields_releaseOp hs hp hq hb hr h4 ?_
  have hv : ∀ k, getQueue (withArg (some (BitVec.ofNat 32 n)) (begin t s)) k = getQueue s k := fun _ => rfl
  have hoff : offWings (withArg (some (BitVec.ofNat 32 n)) (begin t s)) = offWings (begin t s) := rfl
  generalize withArg (some (BitVec.ofNat 32 n)) (begin t s) = x at hv hoff ⊢
  obtain ⟨cs, hop⟩ := wqReleaseOp_within (q := q) (n := n % 2 ^ 32) (s := x) (by rw [hv, Queue.above_mod]; exact h)
  rw [hv, Queue.releaseLimit_mod] at hop
  rw [hop, getQueue_settle, settle_wq, getQueue_freed_same]
  refine ⟨freed_result q _ cs x, (getQueue s q).releaseUpTo_rel _, rfl, rfl, (getQueue s q).mem_releaseUpTo _,
    fun k hk => ?_, leaves_offWings ((freed_offWings q _ cs x).trans hoff)⟩
  rw [getQueue_settle, getQueue_freed_other hk, hv]
end

/-! ### RESYNC -/

section
variable {t : Nat} {p : Path} {s : State} (hs : awake t s = true) (hp : p ≠ .tap)
include hs hp

theorem yields_resync (h : consumerOf s (fld s.wq.qsel 11 0) ≠ none) : Yields (exec (.wqResync t p) s) (fun u =>
    getQueue u (fld s.wq.qsel 11 0) = { getQueue s (fld s.wq.qsel 11 0) with reset := true } ∧
    Leaves t s u (fun x => { x with wq := { x.wq with queues := [] } })) := by
  have hexec : exec (.wqResync t p) s = act t s (onPath p resync) := rfl
  rw [hexec]
  refine yields_act hs ?_
  have hr : (consumerOf (begin t s) (fld (begin t s).wq.qsel 11 0)).isSome = true := Option.isSome_iff_ne_none.mpr h
  rw [onPath_of_ne hp, resync, if_pos hr, getQueue_settle]
  exact ⟨getQueue_setQueue_same _ _ (begin t s), _, rfl, rfl⟩

theorem yields_resyncNone (h : consumerOf s (fld s.wq.qsel 11 0) = none) :
    Yields (exec (.wqResync t p) s) (fun u => Leaves t s u id) := by
  have hexec : exec (.wqResync t p) s = act t s (onPath p resync) := rfl
  rw [hexec]
  refine yields_no_effect ?_ (awake_iff.mp hs).2
  have hr : ¬ (consumerOf (begin t s) (fld (begin t s).wq.qsel 11 0)).isSome = true := by
    rw [show consumerOf (begin t s) (fld (begin t s).wq.qsel 11 0) = none from h]
    exact Bool.false_ne_true
  rw [onPath_of_ne hp, resync, if_neg hr]
end

end Sys2Proof.Machine
end

section
/-! O49: the commands of the wings and the commit of an item. -/

namespace Sys2Proof.Machine

theorem commitItem_missing {q kind : Nat} {bs : List Byte} {s : State} (h : queueRec s q = none) :
    commitItem q kind bs s = (false, s) := by
  rw [commitItem, commitFrom, h]
  exact congrArg (Prod.mk false) (freeCells_nil s)

/-- What overwriting an item does to the mark. -/
theorem Queue.overwrite_mark (v : Queue) (old : Item) :
    (v.markValid = true → v.mark = old.seq → (v.overwrite old).markValid = false ∧ (v.overwrite old).markLost = true) ∧
    (v.mark ≠ old.seq → (v.overwrite old).markValid = v.markValid ∧ (v.overwrite old).markLost = v.markLost) := by
  refine ⟨fun hv hm => ?_, fun hm => ?_⟩
  · simp [Queue.overwrite, hv, hm]
  · simp [Queue.overwrite, hm]

/-- Settles O49, by the commands of WQ_CMD and the commit of an item. -/
theorem wingQueues : Obligations.WingQueues := by
  unfold Obligations.WingQueues
  refine ⟨?_, ?_⟩
  · intro t q n p s hs hp hq
    refine ⟨fun hb c hc => ?_, fun hb hr c hc => ?_, fun hb hr c hc => ?_, fun hb hr h => yields_flush hs hp hq hb hr h,
      fun it hb hl hpin hi => yields_flushWaits hs hp hq hb hl hpin hi, fun hb hr h4 => yields_mark hs hp hq hb hr h4,
      fun hb hr => yields_clearMark hs hp hq hb hr, fun hb hr h4 h => yields_rewind hs hp hq hb hr h4 h,
      fun hb hr h4 h => yields_rewindWaits hs hp hq hb hr h4 h, fun hb hr h4 h => yields_releaseBeyond hs hp hq hb hr h4 h,
      fun hb hr h4 h => yields_release hs hp hq hb hr h4 h, fun h => yields_resync hs hp h, fun h => yields_resyncNone hs hp h⟩
    · obtain ⟨op, arg, hlo, hhi, hw⟩ := writesCmd_of_mem (s := s) c hc
      exact yields_wqBusy hs hp hq hw hlo hhi hb
    · obtain ⟨op, arg, hlo, hhi, hw⟩ := writesCmd_of_mem (s := s) c hc
      exact yields_wqMissing hs hp hq hw hlo hhi hb hr
    · obtain ⟨op, arg, hlo, hhi, hop, hw⟩ := writesCmd_positions (s := s) c hc
      exact yields_wqEvaluator hs hp hq hw hlo hhi hb hr hop
  · intro q kind bs s
    refine ⟨commitItem_missing, fun r hr hused _ hwf htail => ?_⟩
    have hbeside : Beside q s (commitItem q kind bs s).2 := beside_commitFrom q kind bs [] s
    refine ⟨hbeside.other, hbeside.rest, fun hquota hmax hc => ?_, fun hquota hmax hc hi hpin hmark => ?_,
      fun old ho hn hcells hown hover hfits hmax hc => ?_, fun h => commit_lost hr hused h, fun owner o ho => ?_⟩
    · obtain ⟨hdone, cells, u, hlen, htaken, hlost, hcb, hpool, hcom⟩ := commit_room (kind := kind) hr hused hwf hquota hmax hc
      refine ⟨hdone, cells, hlen, htaken.nodup, htaken.fresh, hcom.queue, fun c => ?_, hcom.bytes, fun it hit => ?_, ?_, ?_⟩
      · rw [hcom.used]
        exact htaken.mem c
      · refine (hcom.others it fun c hc hx => htaken.fresh c hx (hit c hc)).trans ?_
        rw [itemBytes, itemBytes, hpool]
      · rw [hcom.cntLost, hlost]
      · rw [hcom.event, hcb]
    · obtain ⟨hdone, hitems, ht, hrd, hrel, hmem⟩ :=
        commit_evaluator (kind := kind) hr hused hquota hmax hc hi hpin hmark htail
      exact ⟨hdone, hitems, ht, hrd.trans ht.symm, hrel.trans ht.symm, hmem⟩
    · obtain ⟨hdone, cells, u, hlen, hnodup, hmem, hlost, hevent, hcom⟩ :=
        commit_over (kind := kind) hr hused hwf ho hn hcells hown hover hfits hmax hc
      obtain ⟨hmarked, hother⟩ := Queue.overwrite_mark (getQueue s q) old
      refine ⟨hdone, cells, hlen, hnodup, ?_⟩
      dsimp only
      rw [hcom.queue, hcom.cntLost, hcom.event, hcom.used]
      refine ⟨rfl, rfl, rfl, hmarked, hother, rfl, hmem, hcom.bytes, rfl, hlost, ?_⟩
      rw [BitVec.getLsbD_or, hevent, Bool.true_or]
    · refine ⟨commitOpen_opens ho, fun hd => ?_, fun hd hlen hquota hmax hc => ?_⟩
      · rw [commitOpen_dead ho hd]
        dsimp only
        rw [getQueue_forgetOpen]
        exact ⟨rfl, rfl, rfl, rfl, rfl⟩
      · exact commitOpen_live ho hr hused hd hlen hquota hmax hc

end Sys2Proof.Machine
end

section
/-! O50: reads of the item view and of the packer (R349, R350, R357 to R362). -/

namespace Sys2Proof.Machine

/-! ### The read of a queue's item ends -/

/-- The read on queue `q` is over: nothing is pinned there, and the other queues and the view stay. -/
structure ReadDone (q : Nat) (s u : State) : Prop where
  rest : offWings u = offWings s
  unpinned : (getQueue u q).pinned = none
  other : ∀ k, k ≠ q → getQueue u k = getQueue s k
  view : u.wq.view = s.wq.view
  viewBytes : u.wq.viewBytes = s.wq.viewBytes

theorem readDone_setQueue {q : Nat} {v : Queue} (h : v.pinned = none) (cs : List Nat) (s : State) :
    ReadDone q s (freeCells cs (setQueue q v s)) :=
  ⟨rfl, by rw [getQueue_freeCells, getQueue_setQueue_same, h],
    fun k hk => by rw [getQueue_freeCells, getQueue_setQueue_other hk], rfl, rfl⟩

theorem ReadDone.release {q : Nat} {s u : State} (h : ReadDone q s u) (gone : List Item) : ReadDone q s (releaseItems q gone u) := by
  have hpast : ∀ (past : Nat) (rest : List Item),
      ReadDone q s (freeCells (gone.flatMap Item.cells) (setQueue q { getQueue u q with items := rest, rel := past } u)) :=
    fun past rest =>
      have hnow := readDone_setQueue (v := { getQueue u q with items := rest, rel := past }) h.unpinned
        (gone.flatMap Item.cells) u
      ⟨hnow.rest.trans h.rest, hnow.unpinned, fun k hk => (hnow.other k hk).trans (h.other k hk), hnow.view.trans h.view,
        hnow.viewBytes.trans h.viewBytes⟩
  exact hpast _ _

theorem readDone_autoRelease {q : Nat} {v : Queue} (h : v.pinned = none) (s : State) :
    ReadDone q s (autoRelease q (setQueue q v s)) := by
  have hset := readDone_setQueue (q := q) h [] s
  rw [freeCells_nil] at hset
  exact hset.release _

theorem readDone_completeRead (q : Nat) (s : State) : ReadDone q s (completeRead q s) := by
  rw [completeRead]
  dsimp only
  split
  case h_1 h => exact ⟨rfl, h, fun _ _ => rfl, rfl, rfl⟩
  case h_2 n h =>
    split
    · refine readDone_autoRelease ?_ s
      rfl
    · refine readDone_setQueue ?_ _ s
      rfl

/-! ### The item view -/

/-- The view closes. -/
def viewClosed (s : State) : State := { s with wq := { s.wq with view := none, viewBytes := [] } }

theorem endView_none {s : State} (h : s.wq.view = none) : endView s = s := by
  rw [endView, h]

theorem endView_some {q : Nat} {it : Item} {s : State} (h : s.wq.view = some (q, it)) :
    ReadDone q (viewClosed s) (endView s) := by
  have hdone := readDone_completeRead q (viewClosed s)
  rw [endView, h]
  dsimp only
  rw [show ({ s with wq := { s.wq with view := none, viewBytes := [] } } : State) = viewClosed s from rfl]
  generalize completeRead q (viewClosed s) = u at hdone
  split
  · have hsame : getQueue (rewindNow q u) q = { (getQueue u q).rewind.1 with waitCmd := none } := getQueue_setQueue_same q _ u
    have hpin : (getQueue u q).rewind.1.pinned = (getQueue u q).pinned := by
      rw [Queue.rewind]
      split
      · rfl
      · split <;> rfl
    exact ⟨hdone.rest, by rw [hsame, hpin, hdone.unpinned],
      fun k hk => (getQueue_setQueue_other hk _ u).trans (hdone.other k hk), hdone.view, hdone.viewBytes⟩
  · exact hdone

/-- Item `it` of queue `q` is in the view. -/
def viewed (q : Nat) (it : Item) (s : State) : State :=
  wqResult 0 { startRead q it s with
    wq := { (startRead q it s).wq with view := some (q, it), viewBytes := itemBytes s it } }

theorem getQueue_viewed_same (q : Nat) (it : Item) (s : State) :
    getQueue (viewed q it s) q = { getQueue s q with pinned := some it.seq, rd := (it.seq + 1) % 2 ^ 32 } :=
  getQueue_setQueue_same q _ s

theorem getQueue_viewed_other {q k : Nat} (h : k ≠ q) (it : Item) (s : State) :
    getQueue (viewed q it s) k = getQueue s k := getQueue_setQueue_other h _ s

section
variable {q : Nat} {s : State} (h2 : consumerOf s q = some 2) (hview : s.wq.view = none)
include h2 hview

theorem wqReadOp_item {it : Item} (hn : (getQueue s q).next = some it) : wqReadOp q s = viewed q it s := by
  have he : ¬ viewElsewhere s q = true := by
    rw [viewElsewhere, hview]
    exact Bool.false_ne_true
  rw [wqReadOp, if_neg (not_not_intro h2), if_neg he, endView_none hview]
  dsimp only
  rw [hn]
  rfl

theorem wqReadOp_empty (hn : (getQueue s q).next = none) : wqReadOp q s = wqResult 5 s := by
  have he : ¬ viewElsewhere s q = true := by
    rw [viewElsewhere, hview]
    exact Bool.false_ne_true
  rw [wqReadOp, if_neg (not_not_intro h2), if_neg he, endView_none hview]
  dsimp only
  rw [hn]
end

section
variable {t q n : Nat} {p : Path} {s : State} (hs : awake t s = true) (hp : p ≠ .tap) (hq : q < 4096)
  (hb : s.wq.resBusy = false)
include hs hp hq hb

/-- READ on a queue that exists. -/
theorem yields_readOp {P : State → Prop} (hr : consumerOf s q ≠ none) (h : P (settle s (wqReadOp q (begin t s)))) :
    Yields (exec (.wqRead t p q) s) P := by
  refine yields_wqOp (op := opRead) (arg := none) (c := .wqRead t p q) hs hp hq rfl (by decide) (by decide) hb hr ?_
  rw [wqOp, if_neg fun h => absurd h.2 (by decide), if_neg (by decide), if_neg (by decide), if_neg (by decide),
    if_neg (by decide), if_neg (by decide), if_pos rfl]
  exact h

/-- DONE on a queue that exists. -/
theorem yields_doneOp {P : State → Prop} (hr : consumerOf s q ≠ none) (h : P (settle s (wqDoneOp q (begin t s)))) :
    Yields (exec (.wqDone t p q) s) P := by
  refine yields_wqOp (op := opDone) (arg := none) (c := .wqDone t p q) hs hp hq rfl (by decide) (by decide) hb hr ?_
  rw [wqOp, if_neg fun h => absurd h.2 (by decide), if_neg (by decide), if_neg (by decide), if_neg (by decide),
    if_neg (by decide), if_neg (by decide), if_neg (by decide)]
  exact h

/-- Both are for house-port queues. -/
theorem yields_viewOther (hr : consumerOf s q ≠ none) (h2 : consumerOf s q ≠ some 2) :
    ∀ c ∈ [Instr.wqRead t p q, .wqDone t p q], Yields (exec c s) (fun u => u.wq.result = 4 ∧
      Leaves t s u (fun x => { x with wq := { x.wq with result := 0 } })) := by
  have h2' : consumerOf (begin t s) q ≠ some 2 := h2
  intro c hc
  simp only [List.mem_cons, List.not_mem_nil, or_false] at hc
  rcases hc with rfl | rfl
  · refine yields_readOp hs hp hq hb hr ?_
    rw [wqReadOp, if_pos h2', settle_wq]
    exact ⟨rfl, _, rfl, rfl⟩
  · refine yields_doneOp hs hp hq hb hr ?_
    rw [wqDoneOp, if_pos h2', settle_wq]
    exact ⟨rfl, _, rfl, rfl⟩

/-- The view holds an item of another queue. -/
theorem yields_viewElsewhere (h2 : consumerOf s q = some 2) (he : viewElsewhere s q = true) :
    ∀ c ∈ [Instr.wqRead t p q, .wqDone t p q], Yields (exec c s) (fun u => u.wq.result = 7 ∧
      Leaves t s u (fun x => { x with wq := { x.wq with result := 0 } })) := by
  have h2' : ¬ consumerOf (begin t s) q ≠ some 2 := not_not_intro h2
  have he' : viewElsewhere (begin t s) q = true := he
  have hr : consumerOf s q ≠ none := by rw [h2]; exact Option.some_ne_none 2
  intro c hc
  simp only [List.mem_cons, List.not_mem_nil, or_false] at hc
  rcases hc with rfl | rfl
  · refine yields_readOp hs hp hq hb hr ?_
    rw [wqReadOp, if_neg h2', if_pos he', settle_wq]
    exact ⟨rfl, _, rfl, rfl⟩
  · refine yields_doneOp hs hp hq hb hr ?_
    rw [wqDoneOp, if_neg h2', if_pos he', settle_wq]
    exact ⟨rfl, _, rfl, rfl⟩

/-- The item at RD is in the view. -/
theorem yields_read (h2 : consumerOf s q = some 2) (hview : s.wq.view = none) {it : Item}
    (hnext : (getQueue s q).next = some it) : Yields (exec (.wqRead t p q) s) (fun u =>
      u.wq.result = 0 ∧ u.wq.view = some (q, it) ∧ u.wq.viewBytes = itemBytes s it ∧
      (getQueue u q).pinned = some it.seq ∧ (getQueue u q).rd = (it.seq + 1) % 2 ^ 32 ∧
      (getQueue u q).items = (getQueue s q).items ∧ (∀ k, k ≠ q → getQueue u k = getQueue s k) ∧
      Leaves t s u (fun x => { x with wq := {} })) := by
  refine yields_readOp hs hp hq hb (by rw [h2]; exact Option.some_ne_none 2) ?_
  rw [wqReadOp_item (s := begin t s) h2 hview hnext, getQueue_settle, getQueue_viewed_same, settle_wq]
  exact ⟨rfl, rfl, rfl, rfl, rfl, rfl, fun k hk => (getQueue_settle s _ k).trans (getQueue_viewed_other hk it _),
    leaves_offWings rfl⟩

/-- There is no item to read. -/
theorem yields_readEmpty (h2 : consumerOf s q = some 2) (hview : s.wq.view = none) (hnext : (getQueue s q).next = none) :
    Yields (exec (.wqRead t p q) s) (fun u => u.wq.result = 5 ∧
      Leaves t s u (fun x => { x with wq := { x.wq with result := 0 } })) := by
  refine yields_readOp hs hp hq hb (by rw [h2]; exact Option.some_ne_none 2) ?_
  rw [wqReadOp_empty (s := begin t s) h2 hview hnext, settle_wq]
  exact ⟨rfl, _, rfl, rfl⟩

/-- DONE ends the read in the view. -/
theorem yields_done (h2 : consumerOf s q = some 2) (he : viewElsewhere s q = false) :
    Yields (exec (.wqDone t p q) s) (fun u => u.wq.result = 0 ∧ u.wq.view = none ∧
      (s.wq.view ≠ none → (getQueue u q).pinned = none ∧ u.wq.viewBytes = []) ∧
      (∀ k, k ≠ q → getQueue u k = getQueue s k) ∧ Leaves t s u (fun x => { x with wq := {} })) := by
  refine yields_doneOp hs hp hq hb (by rw [h2]; exact Option.some_ne_none 2) ?_
  have h2' : ¬ consumerOf (begin t s) q ≠ some 2 := not_not_intro h2
  have he' : ¬ viewElsewhere (begin t s) q = true := Bool.not_eq_true _ ▸ he
  rw [wqDoneOp, if_neg h2', if_neg he']
  have hleft : ∀ u : State, offWings u = offWings (begin t s) → Leaves t s (settle s (wqResult 0 u)) (fun x => { x with wq := {} }) :=
    fun u hu => leaves_offWings (u := wqResult 0 u) hu
  have hqueue : ∀ (u : State) (k : Nat), getQueue (settle s (wqResult 0 u)) k = getQueue u k := fun u k =>
    getQueue_settle s (wqResult 0 u) k
  have hwq : ∀ u : State, (settle s (wqResult 0 u)).wq = { u.wq with result := 0 } := fun u => settle_wq s (wqResult 0 u)
  rcases hview : s.wq.view with _ | ⟨k, it⟩
  · rw [endView_none (s := begin t s) hview, hwq]
    exact ⟨rfl, hview, fun h => absurd rfl h, fun k _ => hqueue _ k, hleft _ rfl⟩
  · have hk : k = q := by
      rw [viewElsewhere, hview] at he
      simpa using he
    obtain ⟨hrest, hpin, hother, hv, hbytes⟩ := endView_some (s := begin t s) (hk ▸ hview)
    rw [hqueue, hwq]
    exact ⟨rfl, hv, fun _ => ⟨hpin, hbytes⟩, fun k hk => (hqueue _ k).trans (hother k hk), hleft _ hrest⟩
end

/-! ### A command that waited -/

/-- A command waited, and nothing is pinned any longer. -/
theorem resumeCommand_proceeds {s : State} {q op : Nat} (hp : (getQueue s q).pinned = none)
    (hw : (getQueue s q).waitCmd = some op) : resumeCommand q s =
      if op = opRewind then rewindNow q { s with wq := { s.wq with resBusy := false } }
      else wqResult 0 (setQueue q { getQueue s q with waitCmd := none } { s with wq := { s.wq with resBusy := false } }) := by
  have hp' : ¬ (getQueue s q).pinned.isSome = true := by
    rw [hp]
    exact Bool.false_ne_true
  rw [resumeCommand, if_neg hp', hw]

section
variable {t q : Nat} {s : State} (hs : awake t s = true)
include hs

theorem yields_resumeNone (h : (getQueue s q).pinned ≠ none ∨ (getQueue s q).waitCmd = none) :
    Yields (exec (.pinnedCommandResume t q) s) (fun u => Leaves t s u id) := by
  have hexec : exec (.pinnedCommandResume t q) s = act t s (resumeCommand q) := rfl
  rw [hexec]
  refine yields_no_effect ?_ (awake_iff.mp hs).2
  by_cases hp : (getQueue (begin t s) q).pinned.isSome = true
  · exact if_pos hp
  · have hnone : (getQueue (begin t s) q).waitCmd = none :=
      h.resolve_left fun hx => hp (Option.isSome_iff_ne_none.mpr hx)
    rw [resumeCommand, if_neg hp, hnone]

theorem yields_resumeRewind (hp : (getQueue s q).pinned = none) (hw : (getQueue s q).waitCmd = some 4)
    (hm : (getQueue s q).markValid = true) : Yields (exec (.pinnedCommandResume t q) s) (fun u =>
      u.wq.resBusy = false ∧ u.wq.result = 0 ∧ (getQueue u q).waitCmd = none ∧ (getQueue u q).rd = (getQueue s q).mark ∧
      Leaves t s u (fun x => { x with wq := {} })) := by
  have hexec : exec (.pinnedCommandResume t q) s = act t s (resumeCommand q) := rfl
  rw [hexec]
  refine yields_act hs ?_
  rw [resumeCommand_proceeds (s := begin t s) hp hw, if_pos (show 4 = opRewind from rfl)]
  generalize hx : ({ begin t s with wq := { (begin t s).wq with resBusy := false } } : State) = x
  have hoff : offWings x = offWings (begin t s) := by rw [← hx]; rfl
  have hbusy : x.wq.resBusy = false := by rw [← hx]
  have hv : getQueue x q = getQueue s q := getQueue_of_wq (by rw [← hx]; rfl) q
  have hsame : getQueue (rewindNow q x) q = { (getQueue x q).rewind.1 with waitCmd := none } := getQueue_setQueue_same q _ x
  have hresult : (rewindNow q x).wq.result = (getQueue x q).rewind.2.1 := rfl
  rw [getQueue_settle, hsame, settle_wq, hresult, hv, Queue.rewind_marked hm]
  exact ⟨hbusy, rfl, rfl, rfl, leaves_offWings hoff⟩

theorem yields_resumeFlush (hp : (getQueue s q).pinned = none) (hw : (getQueue s q).waitCmd = some 1) :
    Yields (exec (.pinnedCommandResume t q) s) (fun u =>
      u.wq.resBusy = false ∧ u.wq.result = 0 ∧ getQueue u q = { getQueue s q with waitCmd := none } ∧
      Leaves t s u (fun x => { x with wq := {} })) := by
  have hexec : exec (.pinnedCommandResume t q) s = act t s (resumeCommand q) := rfl
  rw [hexec]
  refine yields_act hs ?_
  rw [resumeCommand_proceeds (s := begin t s) hp hw, if_neg (by decide), getQueue_settle, settle_wq]
  exact ⟨rfl, rfl, getQueue_setQueue_same q _ _, leaves_offWings rfl⟩
end

/-! ### The packer -/

/-- Everything but the queues, the packers, the lanes, the call board and the free values. -/
def offPacker (s : State) : State :=
  { lanesOnly { s with free := 0, cb := {}, pk := {}, wq := { s.wq with queues := [] } } with recent := {} }

/-- The item is the packer's: its read has started, and the group is the queue's next. -/
def groupTaken (l q : Nat) (it : Item) (s : State) : State :=
  setQueue q { getQueue (startRead q it s) q with reset := false, lastLane := some l } (startRead q it s)

theorem getQueue_groupTaken_same (l q : Nat) (it : Item) (s : State) : getQueue (groupTaken l q it s) q =
    { getQueue s q with pinned := some it.seq, rd := (it.seq + 1) % 2 ^ 32, reset := false, lastLane := some l } := by
  have hread : getQueue (startRead q it s) q = { getQueue s q with pinned := some it.seq, rd := (it.seq + 1) % 2 ^ 32 } :=
    getQueue_setQueue_same q _ s
  rw [groupTaken, getQueue_setQueue_same, hread]

theorem getQueue_groupTaken_other {q k : Nat} (h : k ≠ q) (l : Nat) (it : Item) (s : State) :
    getQueue (groupTaken l q it s) k = getQueue s k :=
  (getQueue_setQueue_other h _ (startRead q it s)).trans (getQueue_setQueue_other h _ s)

/-- Packer `l` stands as `z`. -/
def setPacker (l : Nat) (z : Packer) (s : State) : State := { s with pk := { s.pk with lanes := s.pk.lanes.set l z } }

theorem getPacker_setPacker (l : Nat) (z : Packer) (s : State) : (setPacker l z s).pk.lanes.get {} l = z :=
  Tab.get_set_same _ _ _ _

/-- What beginning a group comes to. -/
theorem beginGroup_eq (l : Nat) (a b : Bool) (r : QueueRec) (it : Item) (s : State) : ∃ carries fallback out z,
    z.group = some (r.queue, it.seq, List.length out) ∧
    beginGroup l a b r it s = eventIf fallback evPacker (setPacker l z (sendGroup r l out
      (if packMode r.pack (packVersion s l) = carries then
        turnContext l r.context (groupTaken l r.queue it { s with free := s.free + 2 })
      else groupTaken l r.queue it { s with free := s.free + 2 }))) := by
  refine ⟨1, _, _, _, ?_, rfl⟩
  rfl

/-- The group begins: the item is pinned, and nothing but the queue, the packer and the lane takes part. -/
theorem beginGroup_left (l : Nat) (a b : Bool) (r : QueueRec) (it : Item) (s : State) :
    (∃ k, ((beginGroup l a b r it s).pk.lanes.get {} l).group = some (r.queue, it.seq, k)) ∧
    (beginGroup l a b r it s).wq = (groupTaken l r.queue it s).wq ∧ offPacker (beginGroup l a b r it s) = offPacker s := by
  obtain ⟨carries, fallback, out, z, hz, heq⟩ := beginGroup_eq l a b r it s
  have hctx : ∀ x, (turnContext l r.context x).wq = x.wq ∧ offPacker (turnContext l r.context x) = offPacker x :=
    fun x => ⟨rfl, rfl⟩
  have htaken : (groupTaken l r.queue it { s with free := s.free + 2 }).wq = (groupTaken l r.queue it s).wq ∧
      offPacker (groupTaken l r.queue it { s with free := s.free + 2 }) = offPacker s := ⟨rfl, rfl⟩
  have hsend : ∀ x, (sendGroup r l out x).wq = x.wq ∧ offPacker (sendGroup r l out x) = offPacker x := fun x =>
    have h := lanesOnly_sendMsg l (groupVc r) 1 out x
    ⟨eq_of_lanesOnly h State.wq fun _ => rfl, eq_of_lanesOnly h offPacker fun _ => rfl⟩
  have hevent : ∀ x, (eventIf fallback evPacker x).wq = x.wq ∧ (eventIf fallback evPacker x).pk = x.pk ∧
      offPacker (eventIf fallback evPacker x) = offPacker x := by
    intro x
    cases fallback
    · exact ⟨rfl, rfl, rfl⟩
    · exact ⟨rfl, rfl, rfl⟩
  have hset : ∀ x, (setPacker l z x).wq = x.wq ∧ offPacker (setPacker l z x) = offPacker x := fun x => ⟨rfl, rfl⟩
  rw [heq]
  refine ⟨⟨out.length, ?_⟩, ?_, ?_⟩
  · rw [(hevent _).2.1, getPacker_setPacker, hz]
  · rw [(hevent _).1, (hset _).1, (hsend _).1]
    split
    · exact (hctx _).1.trans htaken.1
    · exact htaken.1
  · rw [(hevent _).2.2, (hset _).2, (hsend _).2]
    split
    · exact (hctx _).2.trans htaken.2
    · exact htaken.2

section
variable {t l : Nat} {a b : Bool} {s : State} (hs : awake t s = true)
include hs

theorem yields_groupStart {r : QueueRec} {it : Item} (hl : laneTrained s l = true)
    (hg : (s.pk.lanes.get {} l).group = none) (hh : (laneHeads s l).foldl oldestHead none = some (r, it)) :
    Yields (exec (.packerGroupStart t l a b) s) (fun u =>
      (∃ k, (u.pk.lanes.get {} l).group = some (r.queue, it.seq, k)) ∧
      (getQueue u r.queue).pinned = some it.seq ∧ (getQueue u r.queue).rd = (it.seq + 1) % 2 ^ 32 ∧
      (getQueue u r.queue).reset = false ∧ (getQueue u r.queue).lastLane = some l ∧
      (∀ k, k ≠ r.queue → getQueue u k = getQueue s k) ∧
      Leaves t s u (fun x => lanesOnly { x with free := 0, cb := {}, pk := {}, wq := { x.wq with queues := [] } })) := by
  have hexec : exec (.packerGroupStart t l a b) s = act t s (groupStart l a b) := rfl
  have hidle : ¬ (!laneTrained (begin t s) l || ((begin t s).pk.lanes.get {} l).group.isSome) = true := by
    rw [show laneTrained (begin t s) l = true from hl, show ((begin t s).pk.lanes.get {} l).group = none from hg]
    exact Bool.false_ne_true
  have hstart : groupStart l a b (begin t s) = beginGroup l a b r it (begin t s) := by
    rw [groupStart, if_neg hidle, show (laneHeads (begin t s) l).foldl oldestHead none = some (r, it) from hh]
  obtain ⟨hgroup, hwq, hoff⟩ := beginGroup_left l a b r it (begin t s)
  have hqueue : ∀ k, getQueue (settle s (beginGroup l a b r it (begin t s))) k =
      getQueue (groupTaken l r.queue it (begin t s)) k := fun k =>
    (getQueue_settle s _ k).trans (getQueue_of_wq (congrArg Wings.queues hwq) k)
  rw [hexec]
  refine yields_act hs ?_
  rw [hstart, settle_pk, hqueue, getQueue_groupTaken_same]
  exact ⟨hgroup, rfl, rfl, rfl, rfl, fun k hk => (hqueue k).trans (getQueue_groupTaken_other hk l it _), _, rfl, hoff⟩

theorem yields_groupNone (h : laneTrained s l = false ∨ (s.pk.lanes.get {} l).group ≠ none ∨
    (laneHeads s l).foldl oldestHead none = none) :
    Yields (exec (.packerGroupStart t l a b) s) (fun u => Leaves t s u id) := by
  have hexec : exec (.packerGroupStart t l a b) s = act t s (groupStart l a b) := rfl
  rw [hexec]
  refine yields_no_effect ?_ (awake_iff.mp hs).2
  by_cases hc : (!laneTrained (begin t s) l || ((begin t s).pk.lanes.get {} l).group.isSome) = true
  · rw [groupStart, if_pos hc]
  · have hnone : (laneHeads (begin t s) l).foldl oldestHead none = none := by
      rcases h with h | h | h
      · refine absurd ?_ hc
        rw [show laneTrained (begin t s) l = false from h]
        rfl
      · refine absurd ?_ hc
        rw [show ((begin t s).pk.lanes.get {} l).group.isSome = true from Option.isSome_iff_ne_none.mpr h, Bool.or_true]
      · exact h
    rw [groupStart, if_neg hc, hnone]

theorem yields_readComplete {k m n : Nat} (hg : (s.pk.lanes.get {} l).group = some (k, m, n))
    (hw : groupWaits s l = false) : Yields (exec (.readComplete t l) s) (fun u =>
      (u.pk.lanes.get {} l).group = none ∧
      (u.pk.lanes.get {} l).cntGroups = inc32 (s.pk.lanes.get {} l).cntGroups ∧
      (getQueue u k).pinned = none ∧ (getQueue u k).lastSeq = some m ∧
      (∀ j, j ≠ k → getQueue u j = getQueue s j) ∧ Leaves t s u (fun x => { x with pk := {}, wq := {} })) := by
  have hexec : exec (.readComplete t l) s = act t s (groupDone l) := rfl
  have hread := readDone_completeRead k (begin t s)
  have hgo : ∃ z : Packer, z.group = none ∧ z.cntGroups = inc32 (s.pk.lanes.get {} l).cntGroups ∧
      groupDone l (begin t s) = setPacker l z (setQueue k { getQueue (completeRead k (begin t s)) k with lastSeq := some m }
        (completeRead k (begin t s))) := by
    rw [groupDone]
    dsimp only
    rw [show ((begin t s).pk.lanes.get {} l).group = some (k, m, n) from hg]
    dsimp only
    rw [if_neg (Bool.not_eq_true _ ▸ (show groupWaits (begin t s) l = false from hw))]
    exact ⟨_, rfl, rfl, rfl⟩
  obtain ⟨z, hgroup, hcount, hdone⟩ := hgo
  rw [hexec]
  refine yields_act hs ?_
  generalize completeRead k (begin t s) = u at hread hdone
  have hqueue : ∀ j, getQueue (setPacker l z (setQueue k { getQueue u k with lastSeq := some m } u)) j =
      getQueue (setQueue k { getQueue u k with lastSeq := some m } u) j := fun _ => rfl
  have hsame := getQueue_setQueue_same k { getQueue u k with lastSeq := some m } u
  rw [hdone, settle_pk, getPacker_setPacker, getQueue_settle, hqueue, hsame]
  refine ⟨hgroup, hcount, hread.unpinned, rfl, fun j hj => ?_, _, rfl, ?_⟩
  · rw [getQueue_settle, hqueue, getQueue_setQueue_other hj]
    exact hread.other j hj
  · exact congrArg (fun x : State => { x with pk := {}, recent := {} }) hread.rest

theorem yields_readIncomplete (h : (s.pk.lanes.get {} l).group = none ∨ groupWaits s l = true) :
    Yields (exec (.readComplete t l) s) (fun u => Leaves t s u id) := by
  have hexec : exec (.readComplete t l) s = act t s (groupDone l) := rfl
  rw [hexec]
  refine yields_no_effect ?_ (awake_iff.mp hs).2
  rw [groupDone]
  dsimp only
  rcases hg : ((begin t s).pk.lanes.get {} l).group with _ | ⟨k, m, n⟩
  · rfl
  · have hw : groupWaits (begin t s) l = true := h.resolve_left fun hx => by
      rw [show ((begin t s).pk.lanes.get {} l).group = none from hx] at hg
      cases hg
    exact if_pos hw
end

/-- Settles O50, by the reads of the view and of the packer. -/
theorem wingReads : Obligations.WingReads := by
  unfold Obligations.WingReads
  intro t q l a b p s hs hp hq
  exact ⟨fun hb hr h2 => yields_viewOther hs hp hq hb hr h2, fun hb h2 he => yields_viewElsewhere hs hp hq hb h2 he,
    fun it hb h2 hv hn => yields_read hs hp hq hb h2 hv hn, fun hb h2 hv hn => yields_readEmpty hs hp hq hb h2 hv hn,
    fun hb h2 he => yields_done hs hp hq hb h2 he, fun h => yields_resumeNone hs h,
    fun h hw hm => yields_resumeRewind hs h hw hm, fun h hw => yields_resumeFlush hs h hw,
    fun r it hl hg hh => yields_groupStart hs hl hg hh, fun h => yields_groupNone hs h,
    fun k m n hg hw => yields_readComplete hs hg hw, fun h => yields_readIncomplete hs h⟩

end Sys2Proof.Machine
end

section
/-! What sending does to a lane, and what follows a change of a lane's state (R377 to R403, R415). -/

namespace Sys2Proof.Machine

/-! ### Sending -/

/-- A lane but for what it has still to send, what is on its way, and what its guest owes. -/
def linkPart (v : Lane) : Lane :=
  { v with waiting := [], credits := [], replay := [], unpaid := [], fseq := 0, owed := 0, lateDec := 0, deadEnds := [] }

/-- What a lane keeps while it sends. -/
theorem eq_of_linkPart {α : Type} {v w : Lane} (h : linkPart v = linkPart w) (f : Lane → α) (hf : ∀ x, f (linkPart x) = f x) :
    f v = f w := by
  rw [← hf, h, hf]

/-- Only messages went out: every lane keeps its link, and an untrained lane sends nothing. -/
structure Sent (s u : State) : Prop where
  link : ∀ l, linkPart (getLane u l) = linkPart (getLane s l)
  idle : ∀ l, laneTrained s l = false → getLane u l = getLane s l

namespace Sent

theorem of_ln {s u : State} (h : u.ln.lanes = s.ln.lanes) : Sent s u := by
  have hl : ∀ l, getLane u l = getLane s l := fun l => by rw [getLane, getLane, h]
  exact ⟨fun l => by rw [hl], fun l _ => hl l⟩

theorem refl (s : State) : Sent s s := of_ln rfl

theorem trained {s u : State} (h : Sent s u) (l : Nat) : laneTrained u l = laneTrained s l := by
  have hstate : (getLane u l).state = (getLane s l).state := eq_of_linkPart (h.link l) Lane.state fun _ => rfl
  rw [laneTrained, laneTrained, hstate]

theorem trans {s u v : State} (h : Sent s u) (h' : Sent u v) : Sent s v :=
  ⟨fun l => (h'.link l).trans (h.link l), fun l hl => (h'.idle l (by rw [h.trained l, hl])).trans (h.idle l hl)⟩

theorem foldl {α : Type} (g : State → α → State) (h : ∀ u a, Sent u (g u a)) (l : List α) (s : State) :
    Sent s (l.foldl g s) := by
  induction l generalizing s with
  | nil => exact refl s
  | cons a r ih => exact (h s a).trans (ih (g s a))

theorem updLane {l : Nat} {f : Lane → Lane} {s : State} (hf : linkPart (f (getLane s l)) = linkPart (getLane s l))
    (hi : laneTrained s l = false → f (getLane s l) = getLane s l) : Sent s (updLane l f s) := by
  refine ⟨fun m => ?_, fun m hm => ?_⟩
  · by_cases h : m = l
    · subst h
      rw [getLane_updLane_same, hf]
    · rw [getLane_updLane_other h]
  · by_cases h : m = l
    · subst h
      rw [getLane_updLane_same, hi hm]
    · rw [getLane_updLane_other h]

theorem updLane_trained {l : Nat} {f : Lane → Lane} {s : State} (ht : laneTrained s l = true)
    (hf : linkPart (f (getLane s l)) = linkPart (getLane s l)) : Sent s (Machine.updLane l f s) :=
  Sent.updLane hf fun h => absurd (ht.symm.trans h) (by decide)

end Sent

theorem pump_idle {v : Lane} (h : v.state ≠ .active) (n now : Nat) : v.pump n now = v := by
  cases n with
  | zero => rfl
  | succ n => rw [Lane.pump, if_neg h]

theorem linkPart_pump (n now : Nat) (v : Lane) : linkPart (v.pump n now) = linkPart v := by
  induction n generalizing v with
  | zero => rfl
  | succ n ih =>
    rw [Lane.pump]
    split
    · split
      · rw [ih]
        rfl
      · rfl
    · rfl

theorem trained_of_active {v : Lane} (h : v.state = .active) : v.state.trained = true := by rw [h]; rfl

theorem sent_pumpLane (l : Nat) (s : State) : Sent s (pumpLane l s) := by
  refine Sent.updLane (linkPart_pump _ _ _) fun h => pump_idle (fun ha => ?_) _ _
  rw [laneTrained, trained_of_active ha] at h
  cases h

theorem sent_sendMsg (l vc ty : Nat) (bs : List Byte) (s : State) : Sent s (sendMsg l vc ty bs s) := by
  unfold sendMsg
  split
  case isTrue h =>
    refine Sent.trans (Sent.updLane_trained h ?_) (sent_pumpLane l _)
    rfl
  case isFalse => exact .refl s

theorem sent_sendHouse (vc ty : Nat) (bs : List Byte) (s : State) : Sent s (sendHouse vc ty bs s) := by
  unfold sendHouse
  split
  · exact sent_sendMsg _ _ _ _ s
  · exact .refl s

/-! ### The end of cues -/

theorem sent_of_beside {q : Nat} {s u : State} (h : Beside q s u) : Sent s u := by
  have hrest := congrArg (fun x : State => x.ln.lanes) h.rest
  exact .of_ln hrest

theorem sent_commitDevice (q : Option Nat) (k : Nat) (bs : List Byte) (s : State) : Sent s (commitDevice q k bs s) := by
  unfold commitDevice
  split
  · exact sent_of_beside (beside_commitFrom _ k bs [] s)
  · exact .of_ln rfl

theorem sent_updCue (h : Nat) (f : CueEntry → CueEntry) (s : State) : Sent s (updCue h f s) :=
  .of_ln (congrArg Zitlane.lanes (updCue_ln h f s))

theorem sent_abortGuest (l k : Nat) (s : State) : Sent s (abortGuest l k s) := by
  unfold abortGuest
  split
  case isTrue h =>
    have hsend := sent_sendMsg l 1 0x04 (leBytes 2 k ++ leBytes 2 0) s
    refine hsend.trans (Sent.updLane_trained ((hsend.trained l).trans h) ?_)
    rfl
  case isFalse => exact .refl s

theorem sent_abortGuests (gs : List GuestPart) (s : State) : Sent s (abortGuests gs s) := by
  refine Sent.foldl _ (fun u g => ?_) gs s
  split
  · exact sent_abortGuest _ _ u
  · exact .refl u

theorem sent_disownGuests (gs : List GuestPart) (s : State) : Sent s (disownGuests gs s) := by
  refine Sent.foldl _ (fun u g => ?_) gs s
  split
  case isTrue => exact .refl u
  case isFalse h =>
    have ht : laneTrained u g.lane = true := by simpa using h
    split
    · have habort := sent_abortGuest g.lane g.handle u
      refine habort.trans (Sent.updLane_trained ((habort.trained _).trans ht) ?_)
      rfl
    · split
      · refine Sent.updLane_trained ht ?_
        rfl
      · exact .refl u

theorem sent_releaseCue (h : Nat) (s : State) : Sent s (releaseCue h s) := .of_ln rfl

theorem sent_completeCue (h : Nat) (s : State) : Sent s (completeCue h s) := by
  unfold completeCue
  split
  · exact .refl s
  · split
    · exact .refl s
    · extract_lets e bytes u v
      have hu : Sent s u := sent_commitDevice _ _ _ s
      have hv : Sent s v := by
        simp only [v]
        split
        · exact hu.trans (sent_sendHouse _ _ _ _)
        · exact hu.trans (sent_sendHouse _ _ _ _)
        · exact hu
      exact (hv.trans (sent_updCue _ _ _)).trans (sent_releaseCue _ _)

theorem sent_endCue (h a b c : Nat) (s : State) : Sent s (endCue h a b c s) := by
  unfold endCue
  split
  · exact .refl s
  · split
    · split
      · exact .refl s
      · exact (sent_updCue _ _ s).trans (sent_abortGuests _ _)
    · extract_lets u v
      have hu : Sent s u := (sent_abortGuests _ s).trans (.of_ln rfl)
      have hv : Sent s v := hu.trans (sent_updCue _ _ _)
      split
      · exact hv
      · exact hv.trans (sent_completeCue _ _)

theorem sent_cueProgress (h : Nat) (s : State) : Sent s (cueProgress h s) := by
  unfold cueProgress
  split
  · exact .refl s
  · split
    · split
      · exact .refl s
      · exact sent_completeCue _ s
    · split
      · exact sent_completeCue _ s
      · exact .refl s

theorem sent_answer (src : Source) (a : Bool) (r x h st : Nat) (s : State) : Sent s (answer src a r x h st s) := by
  have hcount : ∀ (n m : Nat), Sent s { s with sm := { s.sm with cntAccept := n, cntReject := m } } := fun _ _ => .of_ln rfl
  unfold answer
  split
  · exact (hcount _ _).trans (sent_sendHouse _ _ _ _)
  · exact (hcount _ _).trans (sent_sendHouse _ _ _ _)
  · exact hcount _ _
  · exact .of_ln rfl

theorem sent_refuse (src : Source) (x : Nat × Nat) (s : State) : Sent s (refuse src x s) := by
  unfold refuse
  refine Sent.trans ?_ (sent_answer _ _ _ _ _ _ _)
  split
  · exact sent_endCue _ _ _ _ s
  · exact .refl s

theorem sent_undoSplit (h : Nat) (e : CueEntry) (src : Source) (x : Nat × Nat) (s : State) :
    Sent s (undoSplit h e src x s) := by
  unfold undoSplit
  split
  · have hu := (sent_disownGuests (e.guests.filter (fun g => g.accepted.isNone)) s).trans
      (sent_updCue h (fun c => { c with guests := c.guests.filter (fun g => g.accepted.isSome) }) _)
    dsimp only
    split
    · exact hu.trans (sent_endCue _ _ _ _ _)
    · exact hu.trans (sent_refuse _ _ _)
  · exact (((sent_disownGuests _ s).trans (sent_releaseCue _ _)).trans (sent_updCue _ _ _)).trans (sent_answer _ _ _ _ _ _ _)

theorem sent_dropDeciding (r : Nat) (s : State) : Sent s (dropDeciding r s) := by
  unfold dropDeciding
  split
  · exact .refl s
  · rename_i h src _
    have hu : Sent s { s with sm := { s.sm with deciding := none } } := .of_ln rfl
    dsimp only
    split
    · exact hu
    · exact hu.trans (sent_undoSplit _ _ _ _ _)

theorem sent_loseGuests (l : Nat) (s : State) : Sent s (loseGuests l s) := by
  unfold loseGuests
  extract_lets behind parents waits mark src u v
  have hu : Sent s u := .of_ln rfl
  have hv : Sent s v := by
    simp only [v]
    split
    · have hfree : Sent u (tookFree u) := .of_ln rfl
      exact (hu.trans hfree).trans (sent_dropDeciding _ _)
    · exact hu
  exact hv.trans (Sent.foldl _ (fun x h => (sent_endCue _ _ _ _ x).trans (sent_cueProgress _ _)) _ _)

theorem sent_guestsGone (b s : State) : Sent s (guestsGone b s) := by
  refine Sent.foldl _ (fun u l => ?_) [2, 3] s
  split
  · exact sent_loseGuests l u
  · exact .refl u

theorem sent_addressesMoved (b s : State) : Sent s (addressesMoved b s) := by
  refine (sent_guestsGone b s).trans (.of_ln ?_)
  rw [addressesMoved, refreshConds_ln]
  rfl

/-! ### Calm -/

@[simp] theorem loseGuests_calm (l : Nat) (s : State) : calm (loseGuests l s) = calm s := by
  unfold loseGuests
  extract_lets behind parents waits mark src u v
  have hu : calm u = calm s := rfl
  have hv : calm v = calm s := by
    simp only [v]
    split
    · rw [dropDeciding_calm]
      exact hu
    · exact hu
  exact (foldl_calm _ (fun x h => by rw [cueProgress_calm, endCue_calm]) _ _).trans hv

@[simp] theorem guestsGone_calm (b s : State) : calm (guestsGone b s) = calm s := by
  refine foldl_calm _ (fun u l => ?_) [2, 3] s
  split
  · exact loseGuests_calm l u
  · rfl

@[simp] theorem addressesMoved_calm (b s : State) : calm (addressesMoved b s) = calm s := by
  rw [addressesMoved, refreshConds_calm, noteWorst_calm, guestsGone_calm]

@[simp] theorem lanesMoved_calm (b s : State) : calm (lanesMoved b s) = calm s := by
  rw [lanesMoved, addressesMoved_calm, linkMoved_calm, guestsGone_calm]

/-! ### Addresses -/

/-- Lane `l` stays as it is where it is untrained, and keeps its link where no child behind it may be addressed. -/
structure Stays (l : Nat) (s u : State) : Prop where
  link : laneTrained s l = false ∨ l < 2 ∨ (getLane s l).childSize = 0 → linkPart (getLane u l) = linkPart (getLane s l)
  idle : laneTrained s l = false → getLane u l = getLane s l

theorem Sent.stays {s u : State} (h : Sent s u) (l : Nat) : Stays l s u := ⟨fun _ => h.link l, h.idle l⟩

theorem Stays.refl (l : Nat) (s : State) : Stays l s s := (Sent.refl s).stays l

theorem Stays.trans {l : Nat} {s u v : State} (h : Stays l s u) (h' : Stays l u v) : Stays l s v := by
  refine ⟨fun hl => ?_, fun hl => ?_⟩
  · have hlink := h.link hl
    have hstate : (getLane u l).state = (getLane s l).state := eq_of_linkPart hlink Lane.state fun _ => rfl
    have hsize : (getLane u l).childSize = (getLane s l).childSize := eq_of_linkPart hlink Lane.childSize fun _ => rfl
    refine (h'.link ?_).trans hlink
    rwa [laneTrained, hstate, hsize]
  · have hsame := h.idle hl
    refine (h'.idle ?_).trans hsame
    rwa [laneTrained, hsame]

theorem stays_addressChild (k l : Nat) (s : State) : Stays l s (addressChild k s) := by
  unfold addressChild
  dsimp only
  split
  case isFalse => exact .refl l s
  case isTrue h =>
    simp only [Bool.and_eq_true, decide_eq_true_eq] at h
    obtain ⟨⟨-, ht⟩, hsize⟩ := h
    by_cases hl : l = 2 + k
    · subst hl
      refine ⟨fun hx => ?_, fun hx => absurd (ht.symm.trans hx) (by decide)⟩
      rcases hx with hx | hx | hx
      · exact absurd (ht.symm.trans hx) (by decide)
      · omega
      · omega
    · have hhalt : ∀ r, Stays l s (haltLane (2 + k) r s) := by
        intro r
        have hsame : getLane (haltLane (2 + k) r s) l = getLane s l := by
          rw [haltLane, getLane_updLane_other hl, getLane_enterLane_other hl]
        exact ⟨fun _ => by rw [hsame], fun _ => hsame⟩
      have hupd : ∀ f, Stays l s (updLane (2 + k) f s) := by
        intro f
        have hsame : getLane (updLane (2 + k) f s) l = getLane s l := getLane_updLane_other hl f s
        exact ⟨fun _ => by rw [hsame], fun _ => hsame⟩
      split
      · exact hhalt 5
      · split
        · exact hhalt 6
        · exact (hupd _).trans ((sent_sendMsg _ _ _ _ _).stays l)

theorem sent_rootTopology (s : State) : Sent s (rootTopology s) := by
  unfold rootTopology
  extract_lets src u v
  have hu : Sent s u := .of_ln rfl
  have hv : Sent s v := by
    simp only [v]
    split
    · exact hu.trans (sent_sendMsg _ _ _ _ _)
    · exact hu
  exact hv.trans (.of_ln rfl)

theorem sent_reportTree (s : State) : Sent s (reportTree s) := by
  unfold reportTree
  split
  · exact sent_rootTopology s
  · split
    · exact sent_sendMsg _ _ _ _ s
    · exact .refl s

theorem stays_addressTree (n l : Nat) (s : State) : Stays l s (addressTree n s) := by
  induction n generalizing s with
  | zero => exact (stays_addressChild 0 l s).trans (stays_addressChild 1 l _)
  | succ n ih =>
    have hu := (stays_addressChild 0 l s).trans (stays_addressChild 1 l _)
    rw [addressTree]
    split
    · exact hu
    · exact (hu.trans ((sent_reportTree _).stays l)).trans (ih _)

theorem stays_topologyChanged (l : Nat) (s : State) : Stays l s (topologyChanged s) := by
  unfold topologyChanged
  extract_lets root ver src u
  have hu : Sent s u := .of_ln rfl
  exact ((hu.trans (sent_reportTree u)).stays l).trans (stays_addressTree 2 l _)

theorem stays_houseChanged (l : Nat) (s : State) : Stays l s (houseChanged s) := by
  unfold houseChanged
  extract_lets root ver src u v
  have hu : Sent s u := .of_ln rfl
  have hv : Sent s v := by
    simp only [v]
    split
    · split
      · exact hu
      · exact hu.trans (sent_rootTopology u)
    · split
      · exact hu.trans (sent_sendMsg _ _ _ _ _)
      · exact hu
  split
  · exact hv.stays l
  · exact (hv.stays l).trans (stays_addressTree 2 l v)

theorem stays_linkMoved (l : Nat) (b s : State) : Stays l s (linkMoved b s) := by
  unfold linkMoved
  dsimp only
  split
  · exact stays_topologyChanged l s
  · split
    · exact .refl l s
    · exact stays_houseChanged l s

theorem stays_lanesMoved (l : Nat) (b s : State) : Stays l s (lanesMoved b s) :=
  (((sent_guestsGone b s).stays l).trans (stays_linkMoved l b _)).trans ((sent_addressesMoved _ _).stays l)

/-! ### A change of one lane that leaves what is trained -/

theorem houseLane_congr {b w : State} (ht : ∀ m, laneTrained w m = laneTrained b m)
    (hl : ∀ m, laneTrained b m = true → (getLane w m).logical = (getLane b m).logical) : houseLane w = houseLane b := by
  have hpick : ∀ m, (laneTrained w m && (getLane w m).logical == 0) = (laneTrained b m && (getLane b m).logical == 0) := by
    intro m
    rw [ht]
    cases h : laneTrained b m
    · rfl
    · rw [hl m h]
  have htrained : laneTrained w = laneTrained b := funext ht
  have hfirst : (fun m => laneTrained w m && (getLane w m).logical == 0) =
      (fun m => laneTrained b m && (getLane b m).logical == 0) := funext hpick
  rw [houseLane, houseLane, hfirst, htrained]

theorem guestsGone_same {b w : State} (ht : ∀ m, laneTrained w m = laneTrained b m) : guestsGone b w = w := by
  refine foldl_fixed fun l _ => ?_
  rw [ht, Bool.and_not_self]
  rfl

/-- Where the same lanes are trained as before, nothing follows for the lanes. -/
theorem lanesMoved_ln {b w : State} (ht : ∀ m, laneTrained w m = laneTrained b m)
    (hl : ∀ m, laneTrained b m = true → (getLane w m).logical = (getLane b m).logical) : (lanesMoved b w).ln = w.ln := by
  have hmoved : linkMoved b w = w := by
    have hnone : ¬ ((laneTrained b 2 != laneTrained w 2) || (laneTrained b 3 != laneTrained w 3)) = true := by
      rw [ht, ht, bne_self_eq_false, bne_self_eq_false]
      exact Bool.false_ne_true
    exact (if_neg hnone).trans (if_pos (houseLane_congr ht hl).symm)
  have hall : lanesMoved b w = refreshConds (noteWorst w) := by
    rw [lanesMoved, guestsGone_same ht, hmoved, addressesMoved, guestsGone_same fun _ => rfl]
  rw [hall, refreshConds_ln]
  rfl

/-- Of the lanes only `l` differs, and it is `v`; beside the lanes only the cue bookkeeping. -/
structure OneLane (l : Nat) (v : Lane) (s u : State) : Prop where
  lane : getLane u l = v
  other : ∀ m, m ≠ l → getLane u m = getLane s m
  calm : calm u = calm s

theorem OneLane.refl (l : Nat) (s : State) : OneLane l (getLane s l) s s := ⟨rfl, fun _ _ => rfl, rfl⟩

theorem OneLane.trans {l : Nat} {v w : Lane} {s u x : State} (h : OneLane l v s u) (h' : OneLane l w u x) : OneLane l w s x :=
  ⟨h'.lane, fun m hm => (h'.other m hm).trans (h.other m hm), h'.calm.trans h.calm⟩

theorem oneLane_updLane (l : Nat) (f : Lane → Lane) (s : State) : OneLane l (f (getLane s l)) s (updLane l f s) :=
  ⟨getLane_updLane_same l f s, fun _ hm => getLane_updLane_other hm f s, rfl⟩

theorem oneLane_enterLane (l : Nat) (x : LaneState) (s : State) : OneLane l (laneEntered x s (getLane s l)) s (enterLane l x s) :=
  ⟨getLane_enterLane_same l x s, fun _ hm => getLane_enterLane_other hm x s, enterLane_calm l x s⟩

theorem oneLane_pumpLane (l : Nat) (s : State) :
    OneLane l ((getLane s l).pump (getLane s l).waiting.length s.now) s (pumpLane l s) := oneLane_updLane l _ s

theorem OneLane.moved {l : Nat} {v : Lane} {b w : State} (h : OneLane l v b w) (ht : v.state.trained = (getLane b l).state.trained)
    (hl : v.state.trained = true → v.logical = (getLane b l).logical) : OneLane l v b (lanesMoved b w) := by
  have htrained : ∀ m, laneTrained w m = laneTrained b m := by
    intro m
    by_cases hm : m = l
    · rw [hm, laneTrained, laneTrained, h.lane, ht]
    · rw [laneTrained, laneTrained, h.other m hm]
  have hlogical : ∀ m, laneTrained b m = true → (getLane w m).logical = (getLane b m).logical := by
    intro m hb
    by_cases hm : m = l
    · rw [hm, h.lane, hl]
      rw [ht, ← hm]
      exact hb
    · rw [h.other m hm]
  have hln := lanesMoved_ln htrained hlogical
  have hlane : ∀ m, getLane (lanesMoved b w) m = getLane w m := fun m => by rw [getLane, getLane, hln]
  exact ⟨(hlane l).trans h.lane, fun m hm => (hlane m).trans (h.other m hm), (lanesMoved_calm b w).trans h.calm⟩

theorem oneLane_goLane {l : Nat} {x : LaneState} {s : State} (h : x.trained = (getLane s l).state.trained) :
    OneLane l (laneEntered x s (getLane s l)) s (goLane l x s) := (oneLane_enterLane l x s).moved h fun _ => rfl

theorem oneLane_goDetect {l : Nat} {s : State} (h : (getLane s l).state.trained = false) :
    OneLane l (laneEntered .detect s (getLane s l)).forget s (goDetect l s) := by
  have hgo := (oneLane_enterLane l .detect s).trans (oneLane_updLane l Lane.forget (enterLane l .detect s))
  rw [(oneLane_enterLane l .detect s).lane] at hgo
  exact hgo.moved h.symm fun _ => rfl

theorem oneLane_goHalt {l r : Nat} {s : State} (h : (getLane s l).state.trained = false) :
    OneLane l { laneEntered .halt s (getLane s l) with haltCode := r } s (goHalt l r s) := by
  have hgo := (oneLane_enterLane l .halt s).trans (oneLane_updLane l (fun v => { v with haltCode := r }) (enterLane l .halt s))
  rw [(oneLane_enterLane l .halt s).lane] at hgo
  exact hgo.moved h.symm fun _ => rfl

/-- The lane of an active link takes the partner's credits. -/
def activated (s : State) (v : Lane) : Lane :=
  { laneEntered .active s v with credits := (v.caps.map Caps.credits).getD [], lastAck := s.now }

theorem enterLane_now (l : Nat) (x : LaneState) (s : State) : (enterLane l x s).now = s.now := by
  have := congrArg State.now (enterLane_calm l x s)
  exact this

/-- What an entry to ACTIVE does to the lane itself. -/
theorem oneLane_activate (l : Nat) (s : State) : ∃ v, linkPart v = linkPart (activated s (getLane s l)) ∧
    OneLane l v s (pumpLane l (updLane l (fun v => { v with credits := (v.caps.map Caps.credits).getD [], lastAck := s.now })
      (enterLane l .active s))) := by
  have hset := (oneLane_enterLane l .active s).trans (oneLane_updLane l
    (fun v => { v with credits := (v.caps.map Caps.credits).getD [], lastAck := s.now }) (enterLane l .active s))
  rw [(oneLane_enterLane l .active s).lane] at hset
  generalize updLane l _ (enterLane l .active s) = u at hset ⊢
  refine ⟨_, ?_, hset.trans (oneLane_pumpLane l u)⟩
  rw [linkPart_pump, hset.lane]
  rfl

theorem oneLane_goActive {l : Nat} {s : State} (h : (getLane s l).state.trained = true) :
    ∃ v, linkPart v = linkPart (activated s (getLane s l)) ∧ OneLane l v s (goActive l s) := by
  obtain ⟨v, hv, hone⟩ := oneLane_activate l s
  have hstate : v.state = .active := eq_of_linkPart hv Lane.state fun _ => rfl
  have hlogical : v.logical = (getLane s l).logical := eq_of_linkPart hv Lane.logical fun _ => rfl
  refine ⟨v, hv, hone.moved ?_ fun _ => hlogical⟩
  rw [hstate, h]
  rfl

theorem oneLane_goRetrain {l : Nat} {s : State} (h : (getLane s l).state.trained = true) :
    OneLane l (laneEntered .retrain s { getLane s l with cntRetrain := inc32 (getLane s l).cntRetrain }) s (goRetrain l s) := by
  have hupd := oneLane_updLane l (fun v => { v with cntRetrain := inc32 v.cntRetrain }) s
  have hgo := oneLane_goLane (l := l) (x := .retrain) (s := updLane l (fun v => { v with cntRetrain := inc32 v.cntRetrain }) s)
    (by rw [hupd.lane]; exact h.symm)
  rw [hupd.lane] at hgo
  exact hupd.trans hgo

end Sys2Proof.Machine
end

section
/-! The training of a lane, OFF to RATE (Table 11.2, R380 to R390). -/

namespace Sys2Proof.Machine

/-! ### One lane has gone on -/

theorem leaves_of_calm {t : Nat} {s u : State} (h : calm u = calm (begin t s)) : Leaves t s (settle s u) calm :=
  ⟨u, rfl, congrArg (fun x : State => { x with recent := {} }) h⟩

theorem OneLane.went {t l : Nat} {x : LaneState} {v : Lane} {s u : State} (h : OneLane l v (begin t s) u)
    (hx : v.state = x) (ht : v.since = (begin t s).now) : LaneWent t l x s (settle s u) := by
  refine ⟨?_, ?_, fun m hm => ?_, leaves_of_calm h.calm⟩
  · rw [getLane_settle, h.lane, hx]
  · rw [getLane_settle, h.lane, ht]
    rfl
  · rw [getLane_settle, h.other m hm]
    rfl

theorem laneIn_of {l : Nat} {x : LaneState} {s : State} (hl : l < 4) (h : (getLane s l).state = x) : laneIn s l x = true := by
  rw [laneIn, isLane, decide_eq_true hl, decide_eq_true h]
  rfl

theorem laneIn_not {l : Nat} {x : LaneState} {s : State} (h : (getLane s l).state ≠ x) : laneIn s l x = false := by
  rw [laneIn, decide_eq_false h, Bool.and_false]

theorem now_of_calm {u s : State} (h : calm u = calm s) : u.now = s.now := by
  have hnow := congrArg State.now h
  exact hnow

theorem laneAged_of {l k : Nat} {s : State} (h : (getLane s l).since + k ≤ s.now) : laneAged s l k = true := decide_eq_true h

theorem laneAged_not {l k : Nat} {s : State} (h : s.now < (getLane s l).since + k) : laneAged s l k = false :=
  decide_eq_false (Nat.not_le.mpr h)

theorem untrained_of {l : Nat} {x : LaneState} {s : State} (h : (getLane s l).state = x) (hx : x.trained = false) :
    (getLane s l).state.trained = false := by rw [h, hx]

section
variable {t l : Nat} {x : LaneState} {s : State} {i : Instr} {f : State → State} (hs : awake t s = true)
  (hexec : exec i s = act t s f)
include hs hexec

/-- A command that takes lane `l` to state `x`. -/
theorem yields_went {v : Lane} {P : State → Prop} (h : OneLane l v (begin t s) (f (begin t s))) (hx : v.state = x)
    (ht : v.since = (begin t s).now) (hP : ∀ u, getLane u l = v → LaneWent t l x s u → P u) : Yields (exec i s) P := by
  rw [hexec]
  exact yields_act hs (hP _ ((getLane_settle _ _ _).trans h.lane) (h.went hx ht))

/-- A command that sends an untrained lane back to DETECT. -/
theorem yields_toDetect (h : (getLane s l).state.trained = false) (hf : f (begin t s) = goDetect l (begin t s)) :
    Yields (exec i s) (LaneWent t l .detect s) := by
  refine yields_went hs hexec (l := l) (v := (laneEntered .detect (begin t s) (getLane s l)).forget) ?_ rfl rfl fun u _ hu => hu
  rw [hf]
  exact oneLane_goDetect (s := begin t s) h

/-- A command that changes lane `l` and nothing else. -/
theorem yields_updLane {g : Lane → Lane} {P : State → Prop} (hf : f (begin t s) = updLane l g (begin t s))
    (hP : ∀ u, getLane u l = g (getLane s l) → (∀ m, m ≠ l → getLane u m = getLane s m) → Leaves t s u lanesOnly → P u) :
    Yields (exec i s) P := by
  have hone := oneLane_updLane l g (begin t s)
  rw [hexec]
  refine yields_act hs ?_
  rw [hf]
  exact hP _ ((getLane_settle _ _ _).trans hone.lane) (fun m hm => (getLane_settle _ _ _).trans (hone.other m hm))
    (leaves_of_lanesOnly (lanesOnly_updLane l g (begin t s)))

/-- A command that does nothing. -/
theorem yields_same (hf : f (begin t s) = begin t s) : Yields (exec i s) (fun u => Leaves t s u id) := by
  rw [hexec]
  exact yields_no_effect hf (awake_iff.mp hs).2
end

section
variable {t l : Nat} {s : State} (hs : awake t s = true) (hl : l < 4)
include hs hl

/-! ### OFF and DETECT -/

theorem yields_leaveOff (h : (getLane s l).state = .off) (hm : laneMayTrain (getLane s l) = true) :
    Yields (exec (.laneLeaveOff t l) s) (LaneWent t l .detect s) := by
  refine yields_toDetect hs (i := .laneLeaveOff t l) (f := leaveOff l) rfl (untrained_of h rfl) ?_
  rw [leaveOff, laneIn_of (s := begin t s) hl h, getLane_begin, hm]
  rfl

omit hl in
theorem yields_stayOff (h : (getLane s l).state ≠ .off ∨ laneMayTrain (getLane s l) = false) :
    Yields (exec (.laneLeaveOff t l) s) (fun u => Leaves t s u id) := by
  refine yields_same hs (i := .laneLeaveOff t l) (f := leaveOff l) rfl (if_neg ?_)
  rw [getLane_begin]
  rcases h with h | h
  · rw [laneIn_not (s := begin t s) h]
    exact Bool.false_ne_true
  · rw [h, Bool.and_false]
    exact Bool.false_ne_true
end

theorem rh_of_calm {u s : State} (h : calm u = calm s) : u.rh = s.rh := by
  have hrh := congrArg State.rh h
  exact hrh

theorem calm_offRehearsal {u s : State} (h : calm u = calm s) : calm { u with rh := {} } = calm { s with rh := {} } := by
  have hoff := congrArg (fun x : State => { x with rh := {} }) h
  exact hoff

/-- What a lane's service request does to its rehearsal slice. -/
theorem serve_slice (l : Nat) (s : State) : (serve 3 l s).ln = s.ln ∧ (serve 3 l s).now = s.now ∧
    (getKind (serve 3 l s) 3).running ≠ some l ∧ ((getKind s 3).running ≠ some l → serve 3 l s = s) ∧
    ((getKind s 3).running = some l → (serve 3 l s).rh.cntPre = inc32 s.rh.cntPre ∧
      calm { serve 3 l s with rh := {} } = calm { s with rh := {} }) := by
  refine ⟨serve_keeps State.ln (fun _ => rfl) 3 l s, serve_keeps State.now (fun _ => rfl) 3 l s, ?_, fun h => if_neg h, fun h => ?_⟩
  · by_cases h : (getKind s 3).running = some l
    · rw [serve, if_pos h, preemptSlice, h]
      dsimp only
      rw [if_neg (by decide)]
      have hkind : ∀ (u : State), (getKind (updKind 3 (fun x => { x with last := 3, next := l }) (leaveSlice 3 u)) 3).running = none := by
        intro u
        rw [getKind, updKind]
        dsimp only
        rw [Tab.get_upd_same, leaveSlice, updKind]
        dsimp only
        rw [Tab.get_upd_same]
      exact fun hx => absurd ((hkind s).symm.trans hx) (by simp)
    · rw [serve, if_neg h]
      exact h
  · rw [serve, if_pos h, preemptSlice, h]
    dsimp only
    rw [if_neg (by decide)]
    exact ⟨rfl, rfl⟩

section
variable {t l : Nat} {s : State} (hs : awake t s = true) (hl : l < 4)
include hs hl

theorem yields_probe (h : (getLane s l).state = .detect) (hm : laneMayTrain (getLane s l) = true) :
    Yields (exec (.laneDetectProbe t l true) s) (fun u =>
      (getLane u l).state = .base ∧ (getLane u l).since = max s.now t ∧ (getLane u l).rate = 3 ∧ (getLane u l).lock = false ∧
      (∀ m, m ≠ l → getLane u m = getLane s m) ∧ (getKind u 3).running ≠ some l ∧
      ((getKind s 3).running ≠ some l → Leaves t s u calm) ∧
      ((getKind s 3).running = some l → u.rh.cntPre = inc32 s.rh.cntPre ∧ Leaves t s u (fun x => calm { x with rh := {} }))) := by
  have hexec : exec (.laneDetectProbe t l true) s = act t s (detectProbe l true) := rfl
  have hgo : detectProbe l true (begin t s) = goLane l .base (serve 3 l (begin t s)) := by
    rw [detectProbe, laneIn_of (s := begin t s) hl h, getLane_begin, hm]
    rfl
  obtain ⟨hln, hnow, hrun, hsame, hserved⟩ := serve_slice l (begin t s)
  generalize serve 3 l (begin t s) = w at *
  have hlane : ∀ m, getLane w m = getLane s m := fun m => by rw [getLane, hln]; rfl
  have hone := oneLane_goLane (l := l) (x := .base) (s := w) (by rw [hlane, h]; rfl)
  have hrh : (goLane l .base w).rh = w.rh := rh_of_calm hone.calm
  rw [hexec]
  refine yields_act hs ?_
  rw [hgo]
  refine ⟨?_, ?_, ?_, ?_, fun m hm => ?_, ?_, fun hk => ?_, fun hk => ?_⟩
  · rw [getLane_settle, hone.lane]
    rfl
  · rw [getLane_settle, hone.lane]
    exact hnow
  · rw [getLane_settle, hone.lane]
    rfl
  · rw [getLane_settle, hone.lane]
    exact Bool.and_false _
  · rw [getLane_settle, hone.other m hm, hlane]
  · rw [getKind, settle_rh, hrh]
    exact hrun
  · refine leaves_of_calm (hone.calm.trans ?_)
    rw [hsame hk]
  · obtain ⟨hcount, hcalm⟩ := hserved hk
    refine ⟨by rw [settle_rh, hrh]; exact hcount, _, rfl, ?_⟩
    exact congrArg (fun x : State => { x with recent := {} }) ((calm_offRehearsal hone.calm).trans hcalm)

omit hl in
theorem yields_probeNone {found : Bool} (h : (getLane s l).state ≠ .detect ∨ laneMayTrain (getLane s l) = false ∨ found = false) :
    Yields (exec (.laneDetectProbe t l found) s) (fun u => Leaves t s u id) := by
  refine yields_same hs (i := .laneDetectProbe t l found) (f := detectProbe l found) rfl (if_neg ?_)
  rw [getLane_begin]
  rcases h with h | h | h
  · rw [laneIn_not (s := begin t s) h]
    exact Bool.false_ne_true
  · rw [h, Bool.and_false]
    exact Bool.false_ne_true
  · rw [h, Bool.and_false]
    exact Bool.false_ne_true

/-! ### BASE -/

/-- The block lock and the inversion that a receiver in BASE has seen. -/
def baseSeen (x : TrainSeen) (r : Bool) (v : Lane) : Lane :=
  { v with lock := v.lock || decide (64 ≤ x.headers), rxInv := v.rxInv || (r && decide (16 ≤ x.trains)) }

/-- The partner's index of the lane. -/
def baseIndex (l k : Nat) (v : Lane) : Lane :=
  { v with logical := if l < 2 then k % 2 else 0, reversed := decide (l < 2) && decide (k % 2 ≠ l) }

omit hs in
theorem baseLock_base (x : TrainSeen) (r : Bool) (k : Nat) (h : (getLane s l).state = .base) : baseLock l x r k s =
    if laneMayTrain (getLane s l) = true ∧ (((getLane s l).lock || decide (64 ≤ x.headers)) && x.ready && decide (16 ≤ x.trains)) = true
    then goLane l .exchange (updLane l (baseIndex l k) (updLane l (baseSeen x r) s))
    else updLane l (baseSeen x r) s := by
  have hno : ¬ (isLane l && (getLane s l).state.signalled && decide ((getLane s l).state ≠ .base)) = true := by
    rw [h]
    simp
  have hupd : updLane l (fun v =>
      { v with lock := v.lock || decide (64 ≤ x.headers), rxInv := v.rxInv || (r && decide (16 ≤ x.trains)) }) s =
      updLane l (baseSeen x r) s := rfl
  rw [baseLock, if_neg hno, if_pos (laneIn_of hl h), hupd]
  dsimp only
  have hlane : getLane (updLane l (baseSeen x r) s) l = baseSeen x r (getLane s l) := getLane_updLane_same _ _ _
  have hmay : laneMayTrain (baseSeen x r (getLane s l)) = laneMayTrain (getLane s l) := rfl
  have hlock : (baseSeen x r (getLane s l)).lock = ((getLane s l).lock || decide (64 ≤ x.headers)) := rfl
  rw [hlane, hmay, hlock]
  cases hm : laneMayTrain (getLane s l)
  · rw [if_pos (by rfl), if_neg fun h => Bool.false_ne_true h.1]
  · rw [if_neg (by decide)]
    by_cases hc : (((getLane s l).lock || decide (64 ≤ x.headers)) && x.ready && decide (16 ≤ x.trains)) = true
    · exact (if_pos hc).trans (if_pos ⟨rfl, hc⟩).symm
    · rw [if_neg hc, if_neg fun h => hc h.2]

theorem yields_baseEnds {x : TrainSeen} {r : Bool} {k : Nat} (h : (getLane s l).state = .base)
    (hok : (laneMayTrain (getLane s l) && ((getLane s l).lock || decide (64 ≤ x.headers)) && x.ready && decide (16 ≤ x.trains)) = true) :
    Yields (exec (.laneBaseLock t l x r k) s) (fun u => LaneWent t l .exchange s u ∧ (getLane u l).lock = true ∧
      (getLane u l).rxInv = ((getLane s l).rxInv || (r && decide (16 ≤ x.trains))) ∧
      (l < 2 → (getLane u l).logical = k % 2 ∧ (getLane u l).reversed = decide (k % 2 ≠ l)) ∧
      (2 ≤ l → (getLane u l).logical = 0)) := by
  simp only [Bool.and_eq_true] at hok
  obtain ⟨⟨⟨hmay, hlock⟩, hready⟩, htrains⟩ := hok
  have hbase := baseLock_base (s := begin t s) hl x r k h
  rw [if_pos ⟨hmay, by rw [getLane_begin, hlock, hready, htrains]; rfl⟩] at hbase
  have hone := (oneLane_updLane l (baseSeen x r) (begin t s)).trans (oneLane_updLane l (baseIndex l k) _)
  rw [(oneLane_updLane l (baseSeen x r) (begin t s)).lane] at hone
  generalize updLane l (baseIndex l k) _ = w at hone hbase
  have hgo := oneLane_goLane (l := l) (x := .exchange) (s := w) (by
    rw [hone.lane]
    exact (untrained_of h rfl).symm)
  rw [hone.lane] at hgo
  have hnow : w.now = (begin t s).now := now_of_calm hone.calm
  refine yields_went hs (i := .laneBaseLock t l x r k) (f := baseLock l x r k) (x := .exchange) rfl
    (hbase ▸ hone.trans hgo) rfl hnow fun u hu hw => ⟨hw, ?_, ?_, fun hl2 => ?_, fun hl2 => ?_⟩
  · rw [hu]
    exact (Bool.and_true _).trans hlock
  · rw [hu]
    rfl
  · rw [hu]
    refine ⟨if_pos hl2, ?_⟩
    have hrev : (laneEntered .exchange w (baseIndex l k (baseSeen x r (getLane s l)))).reversed =
      (decide (l < 2) && decide (k % 2 ≠ l)) := rfl
    rw [getLane_begin, hrev, decide_eq_true hl2, Bool.true_and]
  · rw [hu]
    exact if_neg (Nat.not_lt.mpr hl2)

theorem yields_baseWaits {x : TrainSeen} {r : Bool} {k : Nat} (h : (getLane s l).state = .base)
    (hok : (laneMayTrain (getLane s l) && ((getLane s l).lock || decide (64 ≤ x.headers)) && x.ready && decide (16 ≤ x.trains)) = false) :
    Yields (exec (.laneBaseLock t l x r k) s) (fun u =>
      getLane u l = { getLane s l with
        lock := (getLane s l).lock || decide (64 ≤ x.headers)
        rxInv := (getLane s l).rxInv || (r && decide (16 ≤ x.trains)) } ∧
      (∀ m, m ≠ l → getLane u m = getLane s m) ∧ Leaves t s u lanesOnly) := by
  refine yields_updLane hs (i := .laneBaseLock t l x r k) (f := baseLock l x r k) (g := baseSeen x r) rfl ?_
    fun u hu ho hleft => ⟨hu, ho, hleft⟩
  rw [baseLock_base (s := begin t s) hl x r k h, if_neg]
  rintro ⟨hmay, hlock⟩
  rw [getLane_begin] at hmay hlock
  rw [hmay, Bool.true_and, hlock] at hok
  cases hok

theorem yields_lockBack {x : TrainSeen} {r : Bool} {k : Nat} (h : (getLane s l).state ≠ .base)
    (hsig : (getLane s l).state.signalled = true) : Yields (exec (.laneBaseLock t l x r k) s) (fun u =>
      getLane u l = { getLane s l with lock := (getLane s l).lock || decide (64 ≤ x.headers) } ∧
      (∀ m, m ≠ l → getLane u m = getLane s m) ∧ Leaves t s u lanesOnly) := by
  refine yields_updLane hs (i := .laneBaseLock t l x r k) (f := baseLock l x r k)
    (g := fun v => { v with lock := v.lock || decide (64 ≤ x.headers) }) rfl (if_pos ?_) fun u hu ho hleft => ⟨hu, ho, hleft⟩
  rw [getLane_begin, hsig, isLane, decide_eq_true hl, decide_eq_true h]
  rfl

omit hl in
theorem yields_lockNone {x : TrainSeen} {r : Bool} {k : Nat} (hsig : (getLane s l).state.signalled = false) :
    Yields (exec (.laneBaseLock t l x r k) s) (fun u => Leaves t s u id) := by
  refine yields_same hs (i := .laneBaseLock t l x r k) (f := baseLock l x r k) rfl ?_
  have hbase : (getLane s l).state ≠ .base := fun h => by
    rw [h] at hsig
    cases hsig
  rw [baseLock, getLane_begin, hsig, laneIn_not (s := begin t s) hbase, Bool.and_false, Bool.false_and]
  rfl

theorem yields_baseTimeout (h : (getLane s l).state = .base) (ha : (getLane s l).since + 20 * msTicks ≤ max s.now t) :
    Yields (exec (.laneBaseTimeout t l) s) (LaneWent t l .detect s) := by
  refine yields_toDetect hs (i := .laneBaseTimeout t l) (f := baseTimeout l) rfl (untrained_of h rfl) ?_
  rw [baseTimeout, laneIn_of (s := begin t s) hl h, laneAged_of (s := begin t s) ha]
  rfl

omit hl in
theorem yields_baseTimeout_early (ha : max s.now t < (getLane s l).since + 20 * msTicks) :
    Yields (exec (.laneBaseTimeout t l) s) (fun u => Leaves t s u id) := by
  refine yields_same hs (i := .laneBaseTimeout t l) (f := baseTimeout l) rfl ?_
  rw [baseTimeout, laneAged_not (s := begin t s) ha, Bool.and_false]
  rfl

/-! ### EXCHANGE -/

/-- The partner's record and identity. -/
def capsSeen (c : Caps) (v : Lane) : Lane := { v with caps := some c, partner := c.linkId }

/-- What both ends agree on. -/
def agreed (c : Caps) (rs : List Nat) (v : Lane) : Lane := { v with ver := agreedVersion c, rates := rs }

theorem yields_capsFail {c : Caps} {k : Bool} (h : (getLane s l).state = .exchange) (hf : capsFail s l c ≠ 0) :
    Yields (exec (.laneCaps t l c k) s) (fun u => LaneWent t l .halt s u ∧ (getLane u l).haltCode = capsFail s l c ∧
      (getLane u l).partner = c.linkId) := by
  have hf' : capsFail (begin t s) l c ≠ 0 := hf
  have hgo : takeCaps l c k (begin t s) = goHalt l (capsFail s l c) (updLane l (capsSeen c) (begin t s)) := by
    rw [takeCaps, if_pos (laneIn_of (s := begin t s) hl h)]
    exact if_pos hf'
  have hone := oneLane_updLane l (capsSeen c) (begin t s)
  generalize updLane l (capsSeen c) (begin t s) = w at hone hgo
  have hhalt := oneLane_goHalt (l := l) (r := capsFail s l c) (s := w) (by
    rw [hone.lane]
    exact untrained_of h rfl)
  rw [hone.lane] at hhalt
  refine yields_went hs (i := .laneCaps t l c k) (f := takeCaps l c k) (x := .halt) rfl (hgo ▸ hone.trans hhalt) rfl
    (now_of_calm hone.calm) fun u hu hw => ⟨hw, by rw [hu], by rw [hu]; rfl⟩

omit hs in
theorem takeCaps_agrees {c : Caps} {k : Bool} (h : (getLane s l).state = .exchange) (hf : capsFail s l c = 0) :
    takeCaps l c k s = (if k then goLane l .rate (updLane l (fun v => { v with rate := (commonRates (getLane s l).plan c).headD 0 })
      (updLane l (agreed c (commonRates (getLane s l).plan c)) (updLane l (capsSeen c) s)))
      else updLane l (agreed c (commonRates (getLane s l).plan c)) (updLane l (capsSeen c) s)) := by
  rw [takeCaps, if_pos (laneIn_of hl h)]
  dsimp only
  rw [if_neg (not_not_intro hf)]
  rfl

omit hs hl in
/-- The lane after the agreement. -/
theorem oneLane_agreed (c : Caps) (l : Nat) (s : State) :
    OneLane l (agreed c (commonRates (getLane s l).plan c) (capsSeen c (getLane s l))) s
      (updLane l (agreed c (commonRates (getLane s l).plan c)) (updLane l (capsSeen c) s)) := by
  have hone := (oneLane_updLane l (capsSeen c) s).trans (oneLane_updLane l (agreed c (commonRates (getLane s l).plan c)) _)
  rwa [(oneLane_updLane l (capsSeen c) s).lane] at hone

theorem yields_capsAcked {c : Caps} (h : (getLane s l).state = .exchange) (hf : capsFail s l c = 0) :
    Yields (exec (.laneCaps t l c true) s) (fun u => LaneWent t l .rate s u ∧ (getLane u l).ver = min 0x12 c.verHi ∧
      (getLane u l).rate = (commonRates (getLane s l).plan c).headD 0 ∧ (getLane u l).caps = some c) := by
  have hgo := takeCaps_agrees (s := begin t s) (k := true) hl h hf
  rw [if_pos rfl] at hgo
  have hone := oneLane_agreed c l (begin t s)
  generalize updLane l (agreed c (commonRates (getLane (begin t s) l).plan c)) (updLane l (capsSeen c) (begin t s)) = w at hone hgo
  have hrate := hone.trans (oneLane_updLane l (fun v => { v with rate := (commonRates (getLane (begin t s) l).plan c).headD 0 }) w)
  rw [hone.lane] at hrate
  generalize updLane l _ w = x at hrate hgo
  have hlane := oneLane_goLane (l := l) (x := .rate) (s := x) (by
    rw [hrate.lane]
    exact (untrained_of h rfl).symm)
  rw [hrate.lane] at hlane
  exact yields_went hs (i := .laneCaps t l c true) (f := takeCaps l c true) (x := .rate) rfl (hgo ▸ hrate.trans hlane) rfl
    (now_of_calm hrate.calm) fun u hu hw => ⟨hw, by rw [hu]; rfl, by rw [hu]; rfl, by rw [hu]; rfl⟩

theorem yields_capsUnacked {c : Caps} (h : (getLane s l).state = .exchange) (hf : capsFail s l c = 0) :
    Yields (exec (.laneCaps t l c false) s) (fun u => (getLane u l).state = .exchange ∧ (getLane u l).caps = some c ∧
      Leaves t s u lanesOnly) := by
  have hexec : exec (.laneCaps t l c false) s = act t s (takeCaps l c false) := rfl
  have hgo := takeCaps_agrees (s := begin t s) (k := false) hl h hf
  rw [if_neg (by decide)] at hgo
  have hone := oneLane_agreed c l (begin t s)
  rw [hexec]
  refine yields_act hs ?_
  rw [hgo, getLane_settle, hone.lane]
  exact ⟨h, rfl, leaves_of_lanesOnly rfl⟩

theorem yields_exchangeTimeout (h : (getLane s l).state = .exchange)
    (ha : (getLane s l).since + 10 * msTicks ≤ max s.now t) :
    Yields (exec (.laneExchangeTimeout t l) s) (LaneWent t l .detect s) := by
  refine yields_toDetect hs (i := .laneExchangeTimeout t l) (f := exchangeTimeout l) rfl (untrained_of h rfl) ?_
  rw [exchangeTimeout, laneIn_of (s := begin t s) hl h, laneAged_of (s := begin t s) ha]
  rfl
end

end Sys2Proof.Machine
end

section
/-! The training of a lane, RATE to RETRAIN, and O51 (Table 11.2, R385 to R387). -/

namespace Sys2Proof.Machine

/-- The lane has block lock. -/
def lockedOn (v : Lane) : Lane := { v with lock := true }

/-- The lane runs at trial rate `r`, with `rs` left to try. -/
def atRate (r : Nat) (rs : List Nat) (v : Lane) : Lane := { v with rate := r, rates := rs }

/-- Frame numbers start at 0. -/
def numbered (v : Lane) : Lane := { v with fseq := 0, rxSeq := 0 }

/-- The lane has no link version and no trial rates. -/
def unagreed (v : Lane) : Lane := { v with ver := 0, caps := none, rates := [] }

section
variable {t l : Nat} {s : State} (hs : awake t s = true) (hl : l < 4)
include hs hl

/-! ### RATE -/

theorem yields_rateAccept {o : LockObs} (h : (getLane s l).state = .rate) (ha : (getLane s l).since + 10 * msTicks ≤ max s.now t)
    (hb : max s.now t ≤ (getLane s l).since + 50 * msTicks) (hg : lockGood o (getLane s l).rate = true)
    (hc : cleanSince (getLane s l) (max s.now t - 10 * msTicks) = true) :
    Yields (exec (.laneRateAccept t ⟨l, o⟩) s) (fun u => LaneWent t l .delay s u ∧ (getLane u l).lock = true) := by
  have hgo : rateAccept l o (begin t s) = goLane l .delay (updLane l lockedOn (begin t s)) := by
    have hclean : cleanSince (getLane (begin t s) l) ((begin t s).now - 10 * msTicks) = true := hc
    have hbefore : decide ((begin t s).now ≤ (getLane (begin t s) l).since + 50 * msTicks) = true := decide_eq_true hb
    rw [rateAccept, laneIn_of (s := begin t s) hl h, laneAged_of (s := begin t s) ha, hclean, hbefore, getLane_begin, hg]
    rfl
  have hone := oneLane_updLane l lockedOn (begin t s)
  generalize updLane l lockedOn (begin t s) = w at hone hgo
  have hlane := oneLane_goLane (l := l) (x := .delay) (s := w) (by
    rw [hone.lane]
    exact (untrained_of h rfl).symm)
  rw [hone.lane] at hlane
  exact yields_went hs (i := .laneRateAccept t ⟨l, o⟩) (f := rateAccept l o) (x := .delay) rfl (hgo ▸ hone.trans hlane) rfl
    (now_of_calm hone.calm) fun u hu hw => ⟨hw, by rw [hu]; rfl⟩

omit hl in
theorem yields_rateNot {o : LockObs} (h : (getLane s l).state ≠ .rate ∨ max s.now t < (getLane s l).since + 10 * msTicks ∨
    (getLane s l).since + 50 * msTicks < max s.now t ∨ lockGood o (getLane s l).rate = false ∨
    cleanSince (getLane s l) (max s.now t - 10 * msTicks) = false) :
    Yields (exec (.laneRateAccept t ⟨l, o⟩) s) (fun u => Leaves t s u id) := by
  refine yields_same hs (i := .laneRateAccept t ⟨l, o⟩) (f := rateAccept l o) rfl (if_neg fun hyes => ?_)
  simp only [Bool.and_eq_true, decide_eq_true_eq] at hyes
  obtain ⟨⟨⟨⟨hin, haged⟩, hbefore⟩, hgood⟩, hclean⟩ := hyes
  rcases h with h | h | h | h | h
  · rw [laneIn_not (s := begin t s) h] at hin
    cases hin
  · rw [laneAged_not (s := begin t s) h] at haged
    cases haged
  · exact absurd hbefore (Nat.not_le.mpr h)
  · exact Bool.false_ne_true (h.symm.trans hgood)
  · exact Bool.false_ne_true (h.symm.trans hclean)

theorem yields_rateLower {r : Nat} {rest : List Nat} (h : (getLane s l).state = .rate)
    (ha : (getLane s l).since + 50 * msTicks ≤ max s.now t) (hr : (getLane s l).rates.tail = r :: rest) :
    Yields (exec (.laneRateTimeout t l) s) (fun u => LaneWent t l .rate s u ∧ (getLane u l).rate = r ∧
      (getLane u l).rates = r :: rest) := by
  have hgo : rateTimeout l (begin t s) = goLane l .rate (updLane l (atRate r (r :: rest)) (begin t s)) := by
    rw [rateTimeout, laneIn_of (s := begin t s) hl h, laneAged_of (s := begin t s) ha, getLane_begin, hr]
    rfl
  have hone := oneLane_updLane l (atRate r (r :: rest)) (begin t s)
  generalize updLane l (atRate r (r :: rest)) (begin t s) = w at hone hgo
  have hlane := oneLane_goLane (l := l) (x := .rate) (s := w) (by
    rw [hone.lane]
    exact (untrained_of h rfl).symm)
  rw [hone.lane] at hlane
  exact yields_went hs (i := .laneRateTimeout t l) (f := rateTimeout l) (x := .rate) rfl (hgo ▸ hone.trans hlane) rfl
    (now_of_calm hone.calm) fun u hu hw => ⟨hw, by rw [hu]; rfl, by rw [hu]; rfl⟩

theorem yields_rateHalt (h : (getLane s l).state = .rate) (ha : (getLane s l).since + 50 * msTicks ≤ max s.now t)
    (hr : (getLane s l).rates.tail = []) :
    Yields (exec (.laneRateTimeout t l) s) (fun u => LaneWent t l .halt s u ∧ (getLane u l).haltCode = 2) := by
  have hgo : rateTimeout l (begin t s) = goHalt l 2 (begin t s) := by
    rw [rateTimeout, laneIn_of (s := begin t s) hl h, laneAged_of (s := begin t s) ha, getLane_begin, hr]
    rfl
  exact yields_went hs (i := .laneRateTimeout t l) (f := rateTimeout l) (x := .halt) rfl
    (hgo ▸ oneLane_goHalt (s := begin t s) (untrained_of h rfl)) rfl rfl fun u hu hw => ⟨hw, by rw [hu]⟩

/-! ### DELAY -/

theorem yields_delayHalt (h : (getLane s l).state = .delay) (ht : 16 ≤ (getLane s l).trips)
    (ho : otherPartner s l (getLane s l).partner = true) :
    Yields (exec (.laneDelayDone t l) s) (fun u => LaneWent t l .halt s u ∧ (getLane u l).haltCode = 4) := by
  have hgo : delayDone l (begin t s) = goHalt l 4 (begin t s) := by
    rw [delayDone, laneIn_of (s := begin t s) hl h, getLane_begin, decide_eq_true ht,
      show otherPartner (begin t s) l (getLane s l).partner = true from ho]
    rfl
  exact yields_went hs (i := .laneDelayDone t l) (f := delayDone l) (x := .halt) rfl
    (hgo ▸ oneLane_goHalt (s := begin t s) (untrained_of h rfl)) rfl rfl fun u hu hw => ⟨hw, by rw [hu]⟩

theorem yields_delayActive (h : (getLane s l).state = .delay) (ht : 16 ≤ (getLane s l).trips)
    (ho : otherPartner s l (getLane s l).partner = false) (hc : l < 2 ∨ (getLane s l).childSize = 0) :
    Yields (exec (.laneDelayDone t l) s) (fun u => (getLane u l).state = .active ∧ (getLane u l).since = max s.now t ∧
      (getLane u l).rxSeq = 0 ∧ Leaves t s u calm) := by
  have hexec : exec (.laneDelayDone t l) s = act t s (delayDone l) := rfl
  have hgo : delayDone l (begin t s) = goActive l (updLane l numbered (begin t s)) := by
    rw [delayDone, laneIn_of (s := begin t s) hl h, getLane_begin, decide_eq_true ht,
      show otherPartner (begin t s) l (getLane s l).partner = false from ho]
    rfl
  have hone := oneLane_updLane l numbered (begin t s)
  generalize updLane l numbered (begin t s) = w at hone hgo
  obtain ⟨v, hv, hact⟩ := oneLane_activate l w
  rw [goActive] at hgo
  generalize pumpLane l _ = x at hact hgo
  rw [hone.lane] at hv
  have hsize : v.childSize = (getLane s l).childSize := by
    have hsize := eq_of_linkPart hv Lane.childSize fun _ => rfl
    rw [hsize, activated, laneEntered]
    have hidle : (numbered (getLane (begin t s) l)).state.trained = false := untrained_of h rfl
    dsimp only
    rw [hidle]
    rfl
  have hlink := (stays_lanesMoved l w x).link (.inr (hc.imp_right fun hz => by rw [hact.lane, hsize, hz]))
  rw [hact.lane, hv] at hlink
  have hnow : w.now = (begin t s).now := now_of_calm hone.calm
  rw [hexec]
  refine yields_act hs ?_
  rw [hgo, getLane_settle]
  refine ⟨eq_of_linkPart hlink Lane.state fun _ => rfl, (eq_of_linkPart hlink Lane.since fun _ => rfl).trans hnow,
    eq_of_linkPart hlink Lane.rxSeq fun _ => rfl, leaves_of_calm ?_⟩
  rw [lanesMoved_calm, hact.calm, hone.calm]

omit hl in
theorem yields_delayWaits (ht : (getLane s l).trips < 16) :
    Yields (exec (.laneDelayDone t l) s) (fun u => Leaves t s u id) := by
  refine yields_same hs (i := .laneDelayDone t l) (f := delayDone l) rfl (if_neg ?_)
  rw [getLane_begin, decide_eq_false (Nat.not_le.mpr ht), Bool.and_false]
  exact Bool.false_ne_true

/-! ### RETRAIN -/

theorem yields_retrainLock {o : LockObs} (h : (getLane s l).state = .retrain)
    (hb : max s.now t ≤ (getLane s l).since + 2 * msTicks) (hg : lockGood o (getLane s l).rate = true) :
    Yields (exec (.retrainLock t ⟨l, o⟩) s) (fun u => LaneWent t l .active s u ∧ (getLane u l).lock = true) := by
  have hgo : retrainLock l o (begin t s) = goActive l (updLane l lockedOn (begin t s)) := by
    have hbefore : decide ((begin t s).now ≤ (getLane (begin t s) l).since + 2 * msTicks) = true := decide_eq_true hb
    rw [retrainLock, laneIn_of (s := begin t s) hl h, hbefore, getLane_begin, hg]
    rfl
  have hone := oneLane_updLane l lockedOn (begin t s)
  generalize updLane l lockedOn (begin t s) = w at hone hgo
  obtain ⟨v, hv, hact⟩ := oneLane_goActive (l := l) (s := w) (by
    rw [hone.lane]
    exact congrArg LaneState.trained h)
  rw [hone.lane] at hv
  exact yields_went hs (i := .retrainLock t ⟨l, o⟩) (f := retrainLock l o) (x := .active) rfl (hgo ▸ hone.trans hact)
    (eq_of_linkPart hv Lane.state fun _ => rfl) ((eq_of_linkPart hv Lane.since fun _ => rfl).trans (now_of_calm hone.calm))
    fun u hu hw => ⟨hw, by rw [hu]; exact eq_of_linkPart hv Lane.lock fun _ => rfl⟩

omit hl in
theorem yields_retrainNot {o : LockObs} (h : (getLane s l).state ≠ .retrain ∨ (getLane s l).since + 2 * msTicks < max s.now t ∨
    lockGood o (getLane s l).rate = false) : Yields (exec (.retrainLock t ⟨l, o⟩) s) (fun u => Leaves t s u id) := by
  refine yields_same hs (i := .retrainLock t ⟨l, o⟩) (f := retrainLock l o) rfl (if_neg fun hyes => ?_)
  simp only [Bool.and_eq_true, decide_eq_true_eq] at hyes
  obtain ⟨⟨hin, hbefore⟩, hgood⟩ := hyes
  rcases h with h | h | h
  · rw [laneIn_not (s := begin t s) h] at hin
    cases hin
  · exact absurd hbefore (Nat.not_le.mpr h)
  · exact Bool.false_ne_true (h.symm.trans hgood)

omit hl in
/-- A lane that leaves the trained states stays as it has become, whatever follows for the others. -/
theorem yields_left {i : Instr} {f : State → State} {v : Lane} {b w : State} {P : State → Prop} (hexec : exec i s = act t s f)
    (hf : f (begin t s) = lanesMoved b w) (hone : OneLane l v (begin t s) w) (hv : v.state.trained = false)
    (hP : ∀ u, getLane u l = v → Leaves t s u calm → P u) : Yields (exec i s) P := by
  rw [hexec]
  refine yields_act hs ?_
  have hidle : laneTrained w l = false := by rw [laneTrained, hone.lane, hv]
  rw [hf]
  refine hP _ ?_ (leaves_of_calm ?_)
  · rw [getLane_settle, (stays_lanesMoved l b w).idle hidle, hone.lane]
  · rw [lanesMoved_calm, hone.calm]

theorem yields_retrainTimeout (h : (getLane s l).state = .retrain) (ha : (getLane s l).since + 2 * msTicks ≤ max s.now t) :
    Yields (exec (.retrainTimeout t l) s) (fun u => (getLane u l).state = .base ∧ (getLane u l).since = max s.now t ∧
      (getLane u l).replay = [] ∧ (getLane u l).rate = 3 ∧ (getLane u l).ver = 0 ∧ (getLane u l).caps = none ∧
      Leaves t s u calm) := by
  have hgo : retrainTimeout l (begin t s) = lanesMoved (updLane l unagreed (begin t s))
      (enterLane l .base (updLane l unagreed (begin t s))) := by
    rw [retrainTimeout, laneIn_of (s := begin t s) hl h, laneAged_of (s := begin t s) ha]
    rfl
  have hone := oneLane_updLane l unagreed (begin t s)
  generalize updLane l unagreed (begin t s) = w at hone hgo
  have hbase := oneLane_enterLane l .base w
  rw [hone.lane] at hbase
  refine yields_left hs (i := .retrainTimeout t l) (f := retrainTimeout l) rfl hgo (hone.trans hbase) rfl
    fun u hu hleft => ?_
  have htrained : (unagreed (getLane (begin t s) l)).state.trained = true := congrArg LaneState.trained h
  have hreplay : (laneEntered .base w (unagreed (getLane (begin t s) l))).replay = [] := by
    rw [laneEntered, htrained]
    rfl
  rw [hu, hreplay]
  exact ⟨rfl, now_of_calm hone.calm, rfl, rfl, rfl, rfl, hleft⟩
end

/-- Settles O51, by the states of Table 11.2 in turn. -/
theorem laneTraining : Obligations.LaneTraining := by
  unfold Obligations.LaneTraining
  intro t l s hs hl
  exact ⟨fun h hm => yields_leaveOff hs hl h hm, fun h => yields_stayOff hs h, fun h hm => yields_probe hs hl h hm,
    fun h => yields_probeNone hs (h.imp_right .inl), yields_probeNone hs (.inr (.inr rfl)),
    fun x r k h => ⟨fun hok => yields_baseEnds hs hl h hok, fun hok => yields_baseWaits hs hl h hok⟩,
    fun x r k h hsig => yields_lockBack hs hl h hsig, fun x r k hsig => yields_lockNone hs hsig,
    fun h ha => yields_baseTimeout hs hl h ha, fun ha => yields_baseTimeout_early hs ha,
    fun c k h hf => yields_capsFail hs hl h hf, fun c h hf => yields_capsAcked hs hl h hf,
    fun c h hf => yields_capsUnacked hs hl h hf, fun h ha => yields_exchangeTimeout hs hl h ha,
    fun o h ha hb hg hc => yields_rateAccept hs hl h ha hb hg hc, fun o h => yields_rateNot hs h,
    fun r rest h ha hr => yields_rateLower hs hl h ha hr, fun h ha hr => yields_rateHalt hs hl h ha hr,
    fun h ht ho => yields_delayHalt hs hl h ht ho, fun h ht ho hc => yields_delayActive hs hl h ht ho hc,
    fun ht => yields_delayWaits hs ht, fun o h hb hg => yields_retrainLock hs hl h hb hg,
    fun o h => yields_retrainNot hs h, fun h ha => yields_retrainTimeout hs hl h ha⟩

end Sys2Proof.Machine
end

section
/-! O52: what takes a lane out of service (R381, R384, R385, R387, R415, R417). -/

namespace Sys2Proof.Machine

/-! ### LN_CTRL -/

theorem laneCtrlWord_clear {l : Nat} {s : State} (h : (getLane s l).disable = false) : laneCtrlWord s l = 0#32 := by
  rw [laneCtrlWord, h]
  rfl

theorem oneLane_setDisable_clear {l : Nat} {s : State} (h : (getLane s l).disable = false) :
    OneLane l (getLane s l) s (setDisable l false s) := by
  have hone := oneLane_updLane l (fun v => { v with disable := false }) s
  have hsame : ({ getLane s l with disable := false } : Lane) = getLane s l := by
    rw [← h]
  rw [hsame] at hone
  exact hone

/-- RETRAIN := 1. -/
theorem laneCtrl_retrain {l : Nat} {s : State} (h : (getLane s l).disable = false) :
    laneCtrl l (laneCtrlWord s l ||| 2#32) s = commandRetrain l (setDisable l false s) := by
  rw [laneCtrlWord_clear h]
  rfl

/-- RETRY := 1. -/
theorem laneCtrl_retry {l : Nat} {s : State} (h : (getLane s l).disable = false) :
    laneCtrl l (laneCtrlWord s l ||| 4#32) s = commandRetry l (setDisable l false s) := by
  rw [laneCtrlWord_clear h]
  rfl

theorem laneCtrl_disable (l : Nat) (s : State) : laneCtrl l 1#32 s = setDisable l true s := rfl

theorem disable_of_mayTrain {v : Lane} (h : laneMayTrain v = true) : v.disable = false := by
  simp only [laneMayTrain, Bool.and_eq_true, Bool.not_eq_true'] at h
  exact h.1.2

section
variable {t l : Nat} {p : Path} {s : State} (hs : awake t s = true) (hp : p ≠ .tap) (hl : l < 4)
include hs hp hl

theorem yields_commandRetrain (h : (getLane s l).state = .active) (hd : (getLane s l).disable = false) :
    Yields (exec (.laneRetrain t p l) s) (fun u => LaneWent t l .retrain s u ∧
      (getLane u l).cntRetrain = inc32 (getLane s l).cntRetrain ∧ (getLane u l).replay = (getLane s l).replay) := by
  have hone := oneLane_setDisable_clear (s := begin t s) hd
  have hgo : (onPath p fun u => if isLane l then laneCtrl l (laneCtrlWord u l ||| 2#32) u else u) (begin t s) =
      goRetrain l (setDisable l false (begin t s)) := by
    rw [onPath_of_ne hp, isLane, if_pos (decide_eq_true hl), laneCtrl_retrain (s := begin t s) hd, commandRetrain,
      if_pos (laneIn_of hl (by rw [hone.lane]; exact h))]
  generalize setDisable l false (begin t s) = w at hone hgo
  have hlane := oneLane_goRetrain (l := l) (s := w) (by
    rw [hone.lane]
    exact congrArg LaneState.trained h)
  rw [hone.lane] at hlane
  refine yields_went hs (i := .laneRetrain t p l) (x := .retrain) rfl (hgo ▸ hone.trans hlane) rfl (now_of_calm hone.calm)
    fun u hu hw => ⟨hw, by rw [hu]; rfl, ?_⟩
  rw [hu, laneEntered]
  exact if_neg (by rw [getLane_begin, h]; decide)

theorem yields_retry (h : (getLane s l).state = .halt) (hm : laneMayTrain (getLane s l) = true) :
    Yields (exec (.laneRetry t p l) s) (fun u => LaneWent t l .detect s u ∧ (getLane u l).haltCode = 0 ∧
      (getLane u l).caps = none ∧ (getLane u l).reversed = false) := by
  have hd := disable_of_mayTrain hm
  have hone := oneLane_setDisable_clear (s := begin t s) hd
  have hgo : (onPath p fun u => if isLane l then laneCtrl l (laneCtrlWord u l ||| 4#32) u else u) (begin t s) =
      goDetect l (setDisable l false (begin t s)) := by
    rw [onPath_of_ne hp, isLane, if_pos (decide_eq_true hl), laneCtrl_retry (s := begin t s) hd, commandRetry, hone.lane,
      laneIn_of hl (by rw [hone.lane]; exact h), getLane_begin, hm]
    rfl
  generalize setDisable l false (begin t s) = w at hone hgo
  have hlane := oneLane_goDetect (l := l) (s := w) (by
    rw [hone.lane]
    exact untrained_of h rfl)
  rw [hone.lane] at hlane
  exact yields_went hs (i := .laneRetry t p l) (x := .detect) rfl (hgo ▸ hone.trans hlane) rfl (now_of_calm hone.calm)
    fun u hu hw => ⟨hw, by rw [hu]; rfl, by rw [hu]; rfl, by rw [hu]; rfl⟩

theorem yields_retryNone (h : (getLane s l).state ≠ .halt ∨ laneMayTrain (getLane s l) = false)
    (hd : (getLane s l).disable = false) : Yields (exec (.laneRetry t p l) s) (fun u =>
      getLane u l = getLane s l ∧ Leaves t s u lanesOnly) := by
  have hexec : exec (.laneRetry t p l) s =
    act t s (onPath p fun u => if isLane l then laneCtrl l (laneCtrlWord u l ||| 4#32) u else u) := rfl
  have hone := oneLane_setDisable_clear (s := begin t s) hd
  have hleft : lanesOnly (setDisable l false (begin t s)) = lanesOnly (begin t s) := rfl
  have hno : ¬ (laneIn (setDisable l false (begin t s)) l .halt && laneMayTrain (getLane (setDisable l false (begin t s)) l)) =
      true := by
    rw [hone.lane, getLane_begin]
    rcases h with h | h
    · rw [laneIn_not (by rw [hone.lane]; exact h)]
      exact Bool.false_ne_true
    · rw [h, Bool.and_false]
      exact Bool.false_ne_true
  rw [hexec]
  refine yields_act hs ?_
  rw [onPath_of_ne hp, isLane, if_pos (decide_eq_true hl), laneCtrl_retry (s := begin t s) hd, commandRetry, if_neg hno,
    getLane_settle]
  exact ⟨hone.lane, leaves_of_lanesOnly hleft⟩

/-- DISABLE is set. -/
def disabled (v : Lane) : Lane := { v with disable := true }

theorem yields_disable : Yields (exec (.laneDisable t p l) s) (fun u => (getLane u l).state = .off ∧
    (getLane u l).disable = true ∧ Leaves t s u calm) := by
  have hexec : exec (.laneDisable t p l) s = act t s (onPath p fun u => if isLane l then laneCtrl l 1#32 u else u) := rfl
  have hctrl : (onPath p fun u => if isLane l then laneCtrl l 1#32 u else u) (begin t s) =
      if !laneIn (updLane l disabled (begin t s)) l .off then goOff l (updLane l disabled (begin t s))
      else updLane l disabled (begin t s) := by
    rw [onPath_of_ne hp, isLane, if_pos (decide_eq_true hl), laneCtrl_disable]
    rfl
  have hone := oneLane_updLane l disabled (begin t s)
  generalize updLane l disabled (begin t s) = w at hone hctrl
  by_cases h : (getLane s l).state = .off
  · have hin : laneIn w l .off = true := laneIn_of hl (by rw [hone.lane]; exact h)
    rw [hin] at hctrl
    rw [hexec]
    refine yields_act hs ?_
    rw [hctrl, if_neg (by decide), getLane_settle, hone.lane]
    exact ⟨h, rfl, leaves_of_calm hone.calm⟩
  · have hin : laneIn w l .off = false := laneIn_not (by rw [hone.lane]; exact h)
    rw [hin, if_pos (by rfl), goOff, laneOff] at hctrl
    have hoff := (hone.trans (oneLane_enterLane l .off w)).trans (oneLane_updLane l Lane.forget _)
    rw [(oneLane_enterLane l .off w).lane, hone.lane] at hoff
    exact yields_left hs hexec hctrl hoff rfl fun u hu hleft => by
      rw [hu]
      exact ⟨rfl, rfl, hleft⟩
end

/-! ### Signal, lock and FEC -/

section
variable {t l n : Nat} {s : State} (hs : awake t s = true) (hl : l < 4)
include hs hl

theorem yields_signalLoss (h : (getLane s l).state.signalled = true) (hn : 10 * usTicks ≤ n) :
    Yields (exec (.laneSignalLoss t l n) s) (fun u =>
      (getLane u l).state = .detect ∧ (getLane u l).since = max s.now t ∧ (getLane u l).caps = none ∧
      ((getLane s l).state.trained = true → (getLane u l).replay = [] ∧
        (getLane u l).cntDiscard = satAdd 32 (getLane s l).cntDiscard (getLane s l).replay.length) ∧ Leaves t s u calm) := by
  have hgo : signalLoss l n (begin t s) = goDetect l (begin t s) := by
    rw [signalLoss, getLane_begin, h, isLane, decide_eq_true hl, decide_eq_true hn]
    rfl
  have hone := (oneLane_enterLane l .detect (begin t s)).trans (oneLane_updLane l Lane.forget _)
  rw [(oneLane_enterLane l .detect (begin t s)).lane] at hone
  refine yields_left hs (i := .laneSignalLoss t l n) (f := signalLoss l n) rfl hgo hone rfl fun u hu hleft => ?_
  rw [hu]
  refine ⟨rfl, rfl, rfl, fun ht => ?_, hleft⟩
  rw [Lane.forget, laneEntered, getLane_begin, ht]
  exact ⟨rfl, rfl⟩

omit hl in
theorem yields_signalHolds (h : (getLane s l).state.signalled = false ∨ n < 10 * usTicks) :
    Yields (exec (.laneSignalLoss t l n) s) (fun u => Leaves t s u id) := by
  refine yields_same hs (i := .laneSignalLoss t l n) (f := signalLoss l n) rfl (if_neg ?_)
  rw [getLane_begin]
  rcases h with h | h
  · rw [h, Bool.and_false, Bool.false_and]
    exact Bool.false_ne_true
  · rw [decide_eq_false (Nat.not_le.mpr h), Bool.and_false]
    exact Bool.false_ne_true

theorem yields_termination (h : (getLane s l).state = .halt) :
    Yields (exec (.laneTerminationChange t l) s) (LaneWent t l .detect s) := by
  refine yields_toDetect hs (i := .laneTerminationChange t l) (f := terminationChange l) rfl (untrained_of h rfl) ?_
  rw [terminationChange, if_pos (laneIn_of (s := begin t s) hl h)]

omit hl in
theorem yields_terminationNone (h : (getLane s l).state ≠ .halt) :
    Yields (exec (.laneTerminationChange t l) s) (fun u => Leaves t s u id) := by
  refine yields_same hs (i := .laneTerminationChange t l) (f := terminationChange l) rfl (if_neg ?_)
  rw [laneIn_not (s := begin t s) h]
  exact Bool.false_ne_true

/-- Block lock is lost. -/
def unlocked (v : Lane) : Lane := { v with lock := false }

omit hs in
theorem blockLockLoss_runs (h : (getLane s l).lock = true) (hn : 16 ≤ n) : blockLockLoss l n s =
    if laneIn (updLane l unlocked s) l .active then goRetrain l (updLane l unlocked s) else updLane l unlocked s := by
  rw [blockLockLoss, h, isLane, decide_eq_true hl, decide_eq_true hn]
  rfl

theorem yields_lockLoss_active (h : (getLane s l).lock = true) (hn : 16 ≤ n) (ha : (getLane s l).state = .active) :
    Yields (exec (.blockLockLoss t l n) s) (fun u => LaneWent t l .retrain s u ∧ (getLane u l).lock = false) := by
  have hone := oneLane_updLane l unlocked (begin t s)
  have hgo := blockLockLoss_runs (s := begin t s) hl h hn
  rw [if_pos (laneIn_of hl (by rw [hone.lane]; exact ha))] at hgo
  generalize updLane l unlocked (begin t s) = w at hone hgo
  have hlane := oneLane_goRetrain (l := l) (s := w) (by
    rw [hone.lane]
    exact congrArg LaneState.trained ha)
  rw [hone.lane] at hlane
  exact yields_went hs (i := .blockLockLoss t l n) (f := blockLockLoss l n) (x := .retrain) rfl (hgo ▸ hone.trans hlane) rfl
    (now_of_calm hone.calm) fun u hu hw => ⟨hw, by rw [hu]; rfl⟩

theorem yields_blockLockLoss (h : (getLane s l).lock = true) (hn : 16 ≤ n) (ha : (getLane s l).state ≠ .active) :
    Yields (exec (.blockLockLoss t l n) s) (fun u =>
      getLane u l = { getLane s l with lock := false } ∧ Leaves t s u lanesOnly) := by
  refine yields_updLane hs (i := .blockLockLoss t l n) (f := blockLockLoss l n) (g := unlocked) rfl ?_
    fun u hu _ hleft => ⟨hu, hleft⟩
  have hone := oneLane_updLane l unlocked (begin t s)
  rw [blockLockLoss_runs (s := begin t s) hl h hn, laneIn_not (by rw [hone.lane]; exact ha)]
  rfl

omit hl in
theorem yields_blockLockHolds (h : (getLane s l).lock = false ∨ n < 16) :
    Yields (exec (.blockLockLoss t l n) s) (fun u => Leaves t s u id) := by
  refine yields_same hs (i := .blockLockLoss t l n) (f := blockLockLoss l n) rfl (if_neg ?_)
  rw [getLane_begin]
  rcases h with h | h
  · rw [h, Bool.and_false, Bool.false_and]
    exact Bool.false_ne_true
  · rw [decide_eq_false (Nat.not_le.mpr h), Bool.and_false]
    exact Bool.false_ne_true

/-- What the decoder reports. -/
def fecCounted (n k now : Nat) (v : Lane) : Lane :=
  { v with
    cntFecUnc := satAdd 32 v.cntFecUnc n, cntFecCorr := satAdd 32 v.cntFecCorr k
    uncAt := if n = 0 then v.uncAt else some now }

omit hs in
theorem fecUnc_runs (k : Nat) (h : fecRuns (getLane s l) = true) : fecUnc l n k s =
    if laneIn (updLane l (fecCounted n k s.now) s) l .active && decide (8 ≤ n) then
      goRetrain l (updLane l (fecCounted n k s.now) s)
    else updLane l (fecCounted n k s.now) s := by
  rw [fecUnc, h, isLane, decide_eq_true hl]
  rfl

theorem yields_fecCounts {k : Nat} (h : fecRuns (getLane s l) = true) (hn : n < 8 ∨ (getLane s l).state ≠ .active) :
    Yields (exec (.fecUncLimit t l ⟨n, k⟩) s) (fun u =>
      (getLane u l).cntFecUnc = satAdd 32 (getLane s l).cntFecUnc n ∧
      (getLane u l).cntFecCorr = satAdd 32 (getLane s l).cntFecCorr k ∧
      (getLane u l).state = (getLane s l).state ∧ Leaves t s u lanesOnly) := by
  have hone := oneLane_updLane l (fecCounted n k (begin t s).now) (begin t s)
  refine yields_updLane hs (i := .fecUncLimit t l ⟨n, k⟩) (f := fecUnc l n k) (g := fecCounted n k (begin t s).now) rfl ?_
    fun u hu _ hleft => by rw [hu]; exact ⟨rfl, rfl, rfl, hleft⟩
  have hno : ¬ (laneIn (updLane l (fecCounted n k (begin t s).now) (begin t s)) l .active && decide (8 ≤ n)) = true := by
    rcases hn with hn | hn
    · rw [decide_eq_false (Nat.not_le.mpr hn), Bool.and_false]
      exact Bool.false_ne_true
    · rw [laneIn_not (by rw [hone.lane]; exact hn)]
      exact Bool.false_ne_true
  rw [fecUnc_runs (s := begin t s) hl k h, if_neg hno]

theorem yields_fecRetrain {k : Nat} (h : fecRuns (getLane s l) = true) (ha : (getLane s l).state = .active) (hn : 8 ≤ n) :
    Yields (exec (.fecUncLimit t l ⟨n, k⟩) s) (fun u =>
      (getLane u l).cntFecUnc = satAdd 32 (getLane s l).cntFecUnc n ∧ LaneWent t l .retrain s u) := by
  have hone := oneLane_updLane l (fecCounted n k (begin t s).now) (begin t s)
  have hgo := fecUnc_runs (s := begin t s) (n := n) hl k h
  rw [laneIn_of hl (by rw [hone.lane]; exact ha), decide_eq_true hn, Bool.and_true, if_pos rfl] at hgo
  generalize updLane l (fecCounted n k (begin t s).now) (begin t s) = w at hone hgo
  have hlane := oneLane_goRetrain (l := l) (s := w) (by
    rw [hone.lane]
    exact congrArg LaneState.trained ha)
  rw [hone.lane] at hlane
  exact yields_went hs (i := .fecUncLimit t l ⟨n, k⟩) (f := fecUnc l n k) (x := .retrain) rfl (hgo ▸ hone.trans hlane) rfl
    (now_of_calm hone.calm) fun u hu hw => ⟨by rw [hu]; rfl, hw⟩

omit hl in
theorem yields_fecNone {k : Nat} (h : fecRuns (getLane s l) = false) :
    Yields (exec (.fecUncLimit t l ⟨n, k⟩) s) (fun u => Leaves t s u id) := by
  refine yields_same hs (i := .fecUncLimit t l ⟨n, k⟩) (f := fecUnc l n k) rfl (if_neg ?_)
  rw [getLane_begin, h, Bool.and_false]
  exact Bool.false_ne_true
end

/-- Settles O52, by each command and failure in turn. -/
theorem laneFailures : Obligations.LaneFailures := by
  unfold Obligations.LaneFailures
  intro t l n p s hs hp hl
  exact ⟨fun h hd => yields_commandRetrain hs hp hl h hd, fun h hm => yields_retry hs hp hl h hm,
    fun h hd => yields_retryNone hs hp hl h hd, yields_disable hs hp hl, fun h hn => yields_signalLoss hs hl h hn,
    fun h => yields_signalHolds hs h, fun h => yields_termination hs hl h, fun h => yields_terminationNone hs h,
    fun h hn ha => yields_lockLoss_active hs hl h hn ha, fun h hn ha => yields_blockLockLoss hs hl h hn ha,
    fun h => yields_blockLockHolds hs h, fun k h hn => yields_fecCounts hs hl h hn,
    fun k h ha hn => yields_fecRetrain hs hl h ha hn, fun k h => yields_fecNone hs h⟩

end Sys2Proof.Machine
end

section
/-! O53: bad frames, credits, acknowledgements and replays (R392 to R394, R397 to R401). -/

namespace Sys2Proof.Machine

/-! ### What the receiver discards -/

/-- One more discarded block, frame or message. -/
def errored (v : Lane) : Lane := { v with cntFrameErr := inc32 v.cntFrameErr }

/-- The lane answers with NAK and the last good FSEQ. -/
def refused (v : Lane) : Lane := { v with block := some (blockCredit, creditBits 0 0 ((v.rxSeq + 255) % 256) false true) }

/-- The open messages after a segment. -/
def segmentOpens (x : Segment) (opens : List Nat) : List Nat :=
  if x.seg = 1 then opens.filter (fun k => k != messageKey x.vc x.src x.inner) ++ [messageKey x.vc x.src x.inner]
  else if x.seg = 3 then opens.filter (fun k => k != messageKey x.vc x.src x.inner) else opens

/-- The lane that has taken a segment. -/
def segmentTaken (x : Segment) (v : Lane) : Lane :=
  { v.tookFrames x.vc 1 (ceilDiv x.len 128) with opens := segmentOpens x v.opens }

theorem segmentOpens_spec (x : Segment) (opens : List Nat) :
    (x.seg = 1 → messageKey x.vc x.src x.inner ∈ segmentOpens x opens) ∧
    (x.seg = 3 → messageKey x.vc x.src x.inner ∉ segmentOpens x opens) ∧
    (x.seg ≠ 1 → x.seg ≠ 3 → segmentOpens x opens = opens) := by
  refine ⟨fun h => ?_, fun h => ?_, fun h1 h3 => ?_⟩
  · rw [segmentOpens, if_pos h]
    exact List.mem_append_right _ (List.mem_singleton.mpr rfl)
  · rw [segmentOpens, if_neg (by omega), if_pos h]
    simp
  · rw [segmentOpens, if_neg h1, if_neg h3]

theorem oneLane_takeSegment (l : Nat) (x : Segment) (s : State) : OneLane l
    (if (getLane s l).opens.contains (messageKey x.vc x.src x.inner) = (x.seg == 1) then errored (segmentTaken x (getLane s l))
      else segmentTaken x (getLane s l)) s (takeSegment l x s) := by
  have hset := oneLane_updLane l (segmentTaken x) s
  have htake : takeSegment l x s = if (getLane s l).opens.contains (messageKey x.vc x.src x.inner) = (x.seg == 1) then
      frameError l (updLane l (segmentTaken x) s) else updLane l (segmentTaken x) s := rfl
  rw [htake]
  split
  · have herr := oneLane_updLane l errored (updLane l (segmentTaken x) s)
    rw [hset.lane] at herr
    exact hset.trans herr
  · exact hset

theorem lanesOnly_takeSegment (l : Nat) (x : Segment) (s : State) : lanesOnly (takeSegment l x s) = lanesOnly s := by
  rw [takeSegment]
  dsimp only
  split <;> rfl

section
variable {t l : Nat} {s : State} (hs : awake t s = true) (hl : l < 4)
include hs hl

theorem yields_badBlock (h : (getLane s l).state.signalled = true) :
    Yields (exec (.laneBadFrame t l .block) s) (fun u =>
      getLane u l = { getLane s l with cntFrameErr := inc32 (getLane s l).cntFrameErr } ∧
      (∀ m, m ≠ l → getLane u m = getLane s m) ∧ Leaves t s u lanesOnly) := by
  refine yields_updLane hs (i := .laneBadFrame t l .block) (f := badIn l .block) (g := errored) rfl ?_
    fun u hu ho hleft => ⟨hu, ho, hleft⟩
  rw [badIn, getLane_begin, h, isLane, decide_eq_true hl]
  rfl

theorem yields_badFrame (h : (getLane s l).state.signalled = true) :
    Yields (exec (.laneBadFrame t l .frame) s) (fun u => (getLane u l).cntFrameErr = inc32 (getLane s l).cntFrameErr ∧
      (getLane u l).block =
        some (blockCredit, ((creditBits 0 0 (((getLane s l).rxSeq + 255) % 256) false true : Nat) : Int)) ∧
      (∀ m, m ≠ l → getLane u m = getLane s m) ∧ Leaves t s u lanesOnly) := by
  have hexec : exec (.laneBadFrame t l .frame) s = act t s (badIn l .frame) := rfl
  have hgo : badIn l .frame (begin t s) = updLane l refused (updLane l errored (begin t s)) := by
    rw [badIn, getLane_begin, h, isLane, decide_eq_true hl]
    rfl
  have hone := (oneLane_updLane l errored (begin t s)).trans (oneLane_updLane l refused _)
  rw [(oneLane_updLane l errored (begin t s)).lane] at hone
  rw [hexec]
  refine yields_act hs ?_
  rw [hgo, getLane_settle, hone.lane]
  exact ⟨rfl, rfl, fun m hm => (getLane_settle _ _ _).trans (hone.other m hm), leaves_of_lanesOnly rfl⟩

theorem yields_segment {x : Segment} (h : (getLane s l).state.signalled = true) (hseq : (getLane s l).rxSeq < 256) :
    Yields (exec (.laneBadFrame t l (.segment x)) s) (fun u =>
      (getLane u l).rxSeq = ((getLane s l).rxSeq + 1) % 256 ∧
      (getLane u l).block =
        some (blockCredit, ((creditBits x.vc (ceilDiv x.len 128) (getLane s l).rxSeq true false : Nat) : Int)) ∧
      (getLane u l).cntFrameErr =
        (if (getLane s l).opens.contains (messageKey x.vc x.src x.inner) = (x.seg == 1) then inc32 (getLane s l).cntFrameErr
          else (getLane s l).cntFrameErr) ∧
      (x.seg = 1 → messageKey x.vc x.src x.inner ∈ (getLane u l).opens) ∧
      (x.seg = 3 → messageKey x.vc x.src x.inner ∉ (getLane u l).opens) ∧
      (x.seg ≠ 1 → x.seg ≠ 3 → (getLane u l).opens = (getLane s l).opens) ∧
      (∀ m, m ≠ l → getLane u m = getLane s m) ∧ Leaves t s u lanesOnly) := by
  have hexec : exec (.laneBadFrame t l (.segment x)) s = act t s (badIn l (.segment x)) := rfl
  have hgo : badIn l (.segment x) (begin t s) = takeSegment l x (begin t s) := by
    rw [badIn, getLane_begin, h, isLane, decide_eq_true hl]
    rfl
  have hone := oneLane_takeSegment l x (begin t s)
  have hback : (((getLane s l).rxSeq + 1) % 256 + 255) % 256 = (getLane s l).rxSeq := by omega
  have hblock : (segmentTaken x (getLane s l)).block =
      some (blockCredit, ((creditBits x.vc (ceilDiv x.len 128) (getLane s l).rxSeq true false : Nat) : Int)) := by
    rw [segmentTaken, Lane.tookFrames]
    dsimp only
    rw [hback]
  obtain ⟨hfirst, hlast, hmid⟩ := segmentOpens_spec x (getLane s l).opens
  rw [hexec]
  refine yields_act hs ?_
  rw [hgo, getLane_settle, hone.lane, getLane_begin]
  have hother : ∀ m, m ≠ l → getLane (settle s (takeSegment l x (begin t s))) m = getLane s m := fun m hm =>
    (getLane_settle _ _ _).trans (hone.other m hm)
  have hleft : Leaves t s (settle s (takeSegment l x (begin t s))) lanesOnly := leaves_of_lanesOnly (lanesOnly_takeSegment l x _)
  split
  · exact ⟨rfl, hblock, rfl, hfirst, hlast, hmid, hother, hleft⟩
  · exact ⟨rfl, hblock, rfl, hfirst, hlast, hmid, hother, hleft⟩

omit hl in
theorem yields_badNone {x : BadIn} (h : (getLane s l).state.signalled = false) :
    Yields (exec (.laneBadFrame t l x) s) (fun u => Leaves t s u id) := by
  refine yields_same hs (i := .laneBadFrame t l x) (f := badIn l x) rfl (if_neg ?_)
  rw [getLane_begin, h, Bool.and_false]
  exact Bool.false_ne_true
end

/-! ### Credits and acknowledgements -/

/-- Credits have come back on VC `vc`. -/
structure Credited (l vc n : Nat) (s u : State) : Prop where
  credits : (getLane u l).credits = (getLane s l).credits.set vc
    (min (((getLane s l).caps.map (fun c => c.credits.getD vc 0)).getD 0) ((getLane s l).credits.getD vc 0 + n))
  replay : (getLane u l).replay = (getLane s l).replay
  waiting : (getLane u l).waiting = (getLane s l).waiting
  other : ∀ m, m ≠ l → getLane u m = getLane s m
  calm : calm u = calm s

theorem Credited.of_ln {l vc n : Nat} {s u v : State} (h : Credited l vc n s u) (hln : v.ln = u.ln)
    (hc : Machine.calm v = Machine.calm u) : Credited l vc n s v := by
  have hlane : ∀ m, getLane v m = getLane u m := fun m => by rw [getLane, getLane, hln]
  exact ⟨by rw [hlane, h.credits], by rw [hlane, h.replay], by rw [hlane, h.waiting],
    fun m hm => (hlane m).trans (h.other m hm), hc.trans h.calm⟩

/-- A credit latency of lane `l` is measured. -/
def noteLatency (l : Nat) (s : State) (a : Nat) : State := noteValue (0xA0030 + 64 * l) (min a (2 ^ 32 - 1) : Nat) s

theorem credited_returnCredits (l vc n : Nat) (s : State) : Credited l vc n s (returnCredits l vc n s) := by
  unfold returnCredits
  extract_lets v offer have' r lats late u w
  have hset : Credited l vc n s (setLane l { v with
      credits := v.credits.set vc (min offer have'), unpaid := r.2, worst := min (2 ^ 32 - 1) (lats.foldl max v.worst) } s) :=
    ⟨by rw [getLane_setLane_same], by rw [getLane_setLane_same], by rw [getLane_setLane_same],
      fun m hm => getLane_setLane_other hm _ s, rfl⟩
  have hu : Credited l vc n s u := by
    refine hset.of_ln ?_ ?_
    · exact foldl_keeps State.ln (noteLatency l) (fun _ _ => rfl) lats _
    · exact foldl_calm (noteLatency l) (fun _ _ => rfl) lats _
  have hw : Credited l vc n s w := by
    simp only [w]
    split
    · have herr := oneLane_updLane l errored u
      exact ⟨by rw [frameError, getLane_updLane_same]; exact hu.credits, by rw [frameError, getLane_updLane_same]; exact hu.replay,
        by rw [frameError, getLane_updLane_same]; exact hu.waiting, fun m hm => (herr.other m hm).trans (hu.other m hm),
        herr.calm.trans hu.calm⟩
    · exact hu
  split
  · exact hw
  · exact hw.of_ln (setCond_ln _ _ _ w) (setCond_calm _ _ _ w)

/-- Where no frame waits, pumping the lane sends nothing. -/
theorem pumpLane_empty {l : Nat} {s : State} (h : (getLane s l).waiting = []) : OneLane l (getLane s l) s (pumpLane l s) := by
  have hone := oneLane_pumpLane l s
  rwa [h] at hone

/-- Every frame up to AFSEQ has left the replay buffer. -/
def acknowledged (a now : Nat) (v : Lane) : Lane :=
  { v with replay := v.replay.filter (fun f => !ackedBy a f.fseq), lastAck := now }

section
variable {t l vc n a : Nat} {s : State} (hs : awake t s = true) (hl : l < 4)
include hs hl

theorem yields_creditBad {x y : Bool} (ht : laneTrained s l = true) (hvc : 6 ≤ vc) :
    Yields (exec (.laneCredit t l vc n a x y) s) (fun u =>
      (getLane u l).cntFrameErr = inc32 (getLane s l).cntFrameErr ∧ Leaves t s u lanesOnly) := by
  refine yields_updLane hs (i := .laneCredit t l vc n a x y) (f := creditBlock l vc (n % 256) a x y) (g := errored) rfl ?_
    fun u hu _ hleft => ⟨by rw [hu]; rfl, hleft⟩
  rw [creditBlock, isLane, decide_eq_true hl, show laneTrained (begin t s) l = true from ht]
  exact if_pos hvc

omit hl in
theorem yields_creditNone {x y : Bool} (ht : laneTrained s l = false) :
    Yields (exec (.laneCredit t l vc n a x y) s) (fun u => Leaves t s u id) := by
  refine yields_same hs (i := .laneCredit t l vc n a x y) (f := creditBlock l vc (n % 256) a x y) rfl (if_neg ?_)
  rw [show laneTrained (begin t s) l = false from ht, Bool.and_false]
  exact Bool.false_ne_true

omit hs in
theorem creditBlock_runs {k nak : Bool} (ht : laneTrained s l = true) (hvc : vc < 6) : creditBlock l vc n a k nak s =
    pumpLane l (if nak then replayFrames l (fun f => !ackedBy a f.fseq)
        (if k then ackFrames l a (if 0 < n then returnCredits l vc n s else s) else if 0 < n then returnCredits l vc n s else s)
      else if k then ackFrames l a (if 0 < n then returnCredits l vc n s else s)
        else if 0 < n then returnCredits l vc n s else s) := by
  rw [creditBlock, isLane, decide_eq_true hl, ht, Bool.and_true, if_pos rfl, if_neg (Nat.not_le.mpr hvc)]

theorem yields_credit {k : Bool} (ht : laneTrained s l = true) (hw : (getLane s l).waiting = []) (hvc : vc < 6) (hn : 0 < n)
    (hn' : n < 256) (hlen : (getLane s l).credits.length = 6) :
    Yields (exec (.laneCredit t l vc n a k false) s) (fun u =>
      (getLane u l).credits.getD vc 0 =
        min (((getLane s l).caps.map (fun c => c.credits.getD vc 0)).getD 0) ((getLane s l).credits.getD vc 0 + n) ∧
      (∀ w, w ≠ vc → (getLane u l).credits.getD w 0 = (getLane s l).credits.getD w 0) ∧
      (getLane u l).replay =
        (if k then (getLane s l).replay.filter (fun f => !ackedBy a f.fseq) else (getLane s l).replay) ∧
      (∀ m, m ≠ l → getLane u m = getLane s m) ∧ Leaves t s u calm) := by
  have hexec : exec (.laneCredit t l vc n a k false) s = act t s (creditBlock l vc (n % 256) a k false) := rfl
  have hgo := creditBlock_runs (s := begin t s) (n := n) (vc := vc) (a := a) (k := k) (nak := false) hl ht hvc
  obtain ⟨hcredits, hreplay, hwaiting, hother, hcalm⟩ := credited_returnCredits l vc n (begin t s)
  rw [if_pos hn, if_neg (by decide)] at hgo
  generalize returnCredits l vc n (begin t s) = u at *
  have hend : ∃ v : Lane, v.credits = (getLane u l).credits ∧ v.waiting = (getLane u l).waiting ∧
      v.replay = (if k then (getLane u l).replay.filter (fun f => !ackedBy a f.fseq) else (getLane u l).replay) ∧
      OneLane l v u (if k = true then ackFrames l a u else u) := by
    cases k
    · exact ⟨_, rfl, rfl, rfl, .refl l u⟩
    · exact ⟨acknowledged a u.now (getLane u l), rfl, rfl, rfl, oneLane_updLane l (acknowledged a u.now) u⟩
  obtain ⟨v, hvcredits, hvwaiting, hvreplay, hone⟩ := hend
  generalize (if k = true then ackFrames l a u else u) = w at hone hgo
  have hpump := pumpLane_empty (l := l) (s := w) (by rw [hone.lane, hvwaiting, hwaiting]; exact hw)
  rw [hone.lane] at hpump
  rw [hexec, Nat.mod_eq_of_lt hn']
  refine yields_act hs ?_
  rw [hgo, getLane_settle, hpump.lane, hvcredits, hvreplay, hcredits, hreplay]
  refine ⟨?_, fun w hw => ?_, rfl, fun m hm => ?_, leaves_of_calm ?_⟩
  · rw [List.getD_eq_getElem?_getD, List.getElem?_set_self (by rw [getLane_begin, hlen]; exact hvc)]
    rfl
  · rw [List.getD_eq_getElem?_getD, List.getElem?_set_ne hw.symm, ← List.getD_eq_getElem?_getD]
    rfl
  · rw [getLane_settle, hpump.other m hm, hone.other m hm]
    exact hother m hm
  · rw [hpump.calm, hone.calm, hcalm]

/-! ### Replays -/

/-- The frames that `p` picks have been replayed. -/
def replayed (p : SentFrame → Bool) (now : Nat) (v : Lane) : Lane :=
  { v with
    replay := v.replay.map (fun f => if p f then { f with replays := f.replays + 1 } else f)
    cntReplay := satAdd 32 v.cntReplay (v.replay.filter p).length
    lastAck := now }

omit hs hl in
theorem replayFrames_eq (p : SentFrame → Bool) : replayFrames l p s =
    if laneIn (updLane l (replayed p s.now) s) l .active &&
      (replayed p s.now (getLane s l)).replay.any (fun f => decide (4 ≤ f.replays)) then
      goRetrain l (updLane l (replayed p s.now) s)
    else updLane l (replayed p s.now) s := rfl

omit hs hl in
/-- A frame that was replayed less than three times is not the fourth. -/
theorem replayed_few {p : SentFrame → Bool} {now : Nat} {v : Lane} (h : ∀ f ∈ v.replay, f.replays < 3) :
    (replayed p now v).replay.any (fun f => decide (4 ≤ f.replays)) = false := by
  refine List.any_eq_false.mpr fun g hg => ?_
  obtain ⟨f, hf, rfl⟩ := List.mem_map.mp hg
  have hlt := h f hf
  rw [decide_eq_true_eq]
  split
  · dsimp only
    omega
  · omega

omit hs hl in
theorem replayed_fourth {now : Nat} {v : Lane} (h : ∃ f ∈ v.replay, 3 ≤ f.replays) :
    (replayed (fun _ => true) now v).replay.any (fun f => decide (4 ≤ f.replays)) = true := by
  obtain ⟨f, hf, h3⟩ := h
  refine List.any_eq_true.mpr ⟨{ f with replays := f.replays + 1 }, List.mem_map.mpr ⟨f, hf, rfl⟩, ?_⟩
  exact decide_eq_true (Nat.succ_le_succ h3)

theorem yields_nak (ht : laneTrained s l = true) (hw : (getLane s l).waiting = []) (hvc : vc < 6)
    (hf : ∀ f ∈ (getLane s l).replay, f.replays < 3) :
    Yields (exec (.laneCredit t l vc 0 a false true) s) (fun u =>
      (getLane u l).cntReplay =
        satAdd 32 (getLane s l).cntReplay ((getLane s l).replay.filter (fun f => !ackedBy a f.fseq)).length ∧
      (getLane u l).replay =
        (getLane s l).replay.map (fun f => if ackedBy a f.fseq then f else { f with replays := f.replays + 1 }) ∧
      (getLane u l).state = (getLane s l).state ∧ Leaves t s u lanesOnly) := by
  have hexec : exec (.laneCredit t l vc 0 a false true) s = act t s (creditBlock l vc (0 % 256) a false true) := rfl
  have hgo := creditBlock_runs (s := begin t s) (n := 0 % 256) (vc := vc) (a := a) (k := false) (nak := true) hl ht hvc
  rw [if_pos rfl, if_neg (by decide), if_neg (by decide), replayFrames_eq, getLane_begin, replayed_few hf, Bool.and_false,
    if_neg (by decide)] at hgo
  have hone := oneLane_updLane l (replayed (fun f => !ackedBy a f.fseq) (begin t s).now) (begin t s)
  have hpump := pumpLane_empty (l := l) (s := updLane l (replayed (fun f => !ackedBy a f.fseq) (begin t s).now) (begin t s))
    (by rw [hone.lane]; exact hw)
  have hmap : (replayed (fun f => !ackedBy a f.fseq) (begin t s).now (getLane s l)).replay =
      (getLane s l).replay.map (fun f => if ackedBy a f.fseq then f else { f with replays := f.replays + 1 }) := by
    have hflip : ∀ (b : Bool) (x y : SentFrame), (if (!b) = true then x else y) = if b = true then y else x := by
      intro b x y
      cases b <;> rfl
    exact List.map_congr_left fun f _ => hflip (ackedBy a f.fseq) { f with replays := f.replays + 1 } f
  rw [hexec]
  refine yields_act hs ?_
  rw [hgo, getLane_settle, hpump.lane, hone.lane, getLane_begin, hmap]
  refine ⟨rfl, rfl, rfl, leaves_of_lanesOnly ?_⟩
  rw [lanesOnly_pumpLane, lanesOnly_updLane]

theorem yields_replayTimeout (h : (getLane s l).state = .active) (hlapsed : ackLapsed (begin t s) l = true) :
    Yields (exec (.replayTimeout t l) s) (fun u =>
      (getLane u l).cntReplay = satAdd 32 (getLane s l).cntReplay (getLane s l).replay.length ∧
      (getLane u l).replay.length = (getLane s l).replay.length ∧
      ((∃ f ∈ (getLane s l).replay, 3 ≤ f.replays) → (getLane u l).state = .retrain) ∧
      ((∀ f ∈ (getLane s l).replay, f.replays < 3) → (getLane u l).state = .active) ∧ Leaves t s u calm) := by
  have hexec : exec (.replayTimeout t l) s = act t s (replayTimeout l) := rfl
  have hone := oneLane_updLane l (replayed (fun _ => true) (begin t s).now) (begin t s)
  have hin : laneIn (updLane l (replayed (fun _ => true) (begin t s).now) (begin t s)) l .active = true :=
    laneIn_of hl (by rw [hone.lane]; exact h)
  have hgo : replayTimeout l (begin t s) = replayFrames l (fun _ => true) (begin t s) := by
    rw [replayTimeout, laneIn_of (s := begin t s) hl h, hlapsed]
    rfl
  rw [replayFrames_eq, hin, Bool.true_and, getLane_begin] at hgo
  have hcount : (replayed (fun _ => true) (begin t s).now (getLane s l)).cntReplay =
      satAdd 32 (getLane s l).cntReplay (getLane s l).replay.length := by
    rw [replayed, List.filter_true]
  have hlen : (replayed (fun _ => true) (begin t s).now (getLane s l)).replay.length = (getLane s l).replay.length :=
    List.length_map ..
  generalize updLane l (replayed (fun _ => true) (begin t s).now) (begin t s) = w at hone hgo
  rw [hexec]
  refine yields_act hs ?_
  by_cases hf : ∀ f ∈ (getLane s l).replay, f.replays < 3
  · rw [replayed_few hf, if_neg (by decide)] at hgo
    rw [hgo, getLane_settle, hone.lane]
    refine ⟨hcount, hlen, fun ⟨f, hmem, h3⟩ => absurd (hf f hmem) (Nat.not_lt.mpr h3), fun _ => h, leaves_of_calm hone.calm⟩
  · have hmany : ∃ f ∈ (getLane s l).replay, 3 ≤ f.replays := by
      simpa using hf
    rw [replayed_fourth hmany, if_pos rfl] at hgo
    have hlane := oneLane_goRetrain (l := l) (s := w) (by
      rw [hone.lane]
      exact congrArg LaneState.trained h)
    rw [hone.lane] at hlane
    have htrained : (replayed (fun _ => true) (begin t s).now (getLane (begin t s) l)).state.trained = true :=
      congrArg LaneState.trained h
    have hkept : (laneEntered .retrain w { replayed (fun _ => true) (begin t s).now (getLane (begin t s) l) with
        cntRetrain := inc32 (replayed (fun _ => true) (begin t s).now (getLane (begin t s) l)).cntRetrain }).replay =
        (replayed (fun _ => true) (begin t s).now (getLane s l)).replay := by
      rw [laneEntered, htrained]
      rfl
    rw [hgo, getLane_settle, hlane.lane, hkept]
    exact ⟨hcount, hlen, fun _ => rfl, fun hx => absurd hx hf, leaves_of_calm (hlane.calm.trans hone.calm)⟩

omit hl in
theorem yields_replayNone (h : (getLane s l).state ≠ .active ∨ ackLapsed (begin t s) l = false) :
    Yields (exec (.replayTimeout t l) s) (fun u => Leaves t s u id) := by
  refine yields_same hs (i := .replayTimeout t l) (f := replayTimeout l) rfl (if_neg ?_)
  rcases h with h | h
  · rw [laneIn_not (s := begin t s) h]
    exact Bool.false_ne_true
  · rw [h, Bool.and_false]
    exact Bool.false_ne_true
end

/-- Settles O53, by what the receiver discards, what credits bring, and the replays. -/
theorem laneCredits : Obligations.LaneCredits := by
  unfold Obligations.LaneCredits
  intro t l vc n a s hs hl
  exact ⟨fun h => ⟨yields_badBlock hs hl h, yields_badFrame hs hl h, fun x hseq => yields_segment hs hl h hseq⟩,
    fun x h => yields_badNone hs h, fun x y ht hvc => yields_creditBad hs hl ht hvc,
    fun k ht hw hvc hn hn' hlen => yields_credit hs hl ht hw hvc hn hn' hlen,
    fun ht hw hvc hf => yields_nak hs hl ht hw hvc hf, fun ht x y => yields_creditNone hs ht,
    fun h hlapsed => yields_replayTimeout hs hl h hlapsed, fun h => yields_replayNone hs h⟩

end Sys2Proof.Machine
end

section
/-! O54: a WRITE of CB_MASK in a command that also drops the curtain. -/

namespace Sys2Proof.Machine

/-- While an event is pending and CB_FIRST is valid, CB_FIRST stays. -/
theorem follow_first {before : W32} (hb : before ≠ 0) {c : CallBoard} (hv : c.firstValid = true) :
    (c.follow before).first = c.first := by
  have hno : ¬ (before = 0 ∨ (!c.firstValid) = true) := by
    rintro (h | h)
    · exact hb h
    · rw [hv] at h
      cases h
  by_cases h0 : c.pendingWord = 0
  · rw [CallBoard.follow, if_pos h0]
  · rw [CallBoard.follow, if_neg h0, if_neg hno]

theorem settle_first {b s : State} (hb : b.cb.pendingWord ≠ 0) (hv : s.cb.firstValid = true) :
    (settle b s).cb.first = s.cb.first := by
  rcases settle_cases b s with ⟨-, h⟩ | ⟨-, h⟩
  · rw [h]
    exact follow_first hb hv
  · have hdrop : (dropCurtain s).cb.firstValid = s.cb.firstValid ∧ (dropCurtain s).cb.first = s.cb.first := by
      rw [dropCurtain]
      split <;> exact ⟨rfl, rfl⟩
    rw [h]
    exact (follow_first hb (hdrop.1.trans hv)).trans hdrop.2

/-- A command that leaves everything but CB_MASK and the lanes leaves CB_FIRST. -/
theorem first_of_leaves_mask {t : Nat} {s u : State} (h : Leaves t s u (fun x => lanesOnly (regMask.put 0 x)))
    (hb : s.cb.pendingWord ≠ 0) (hv : s.cb.firstValid = true) : u.cb.first = s.cb.first := by
  obtain ⟨v, rfl, hblank⟩ := h
  have hvalid : v.cb.firstValid = s.cb.firstValid := by
    have := congrArg (fun x : State => x.cb.firstValid) hblank
    exact this
  have hfirst : v.cb.first = s.cb.first := by
    have := congrArg (fun x : State => x.cb.first) hblank
    exact this
  rw [settle_first hb (hvalid.trans hv), hfirst]

/-- House lane 0 is trained, the curtain is up where no condition of Table 9.1 holds, and an event is pending. -/
def lateMask : State :=
  { pwr := { mode := .standby }
    ln := { lanes := [(0, { state := .active })] }
    saf := { curtain := true }
    cb := { event := 1#32, mask := 1#32, firstValid := true, first := 0 } }

/-- The write leaves nothing pending; then the curtain drops, and its event is the first. -/
theorem lateMask_written :
    (settle lateMask (laneWrite 0 0x00001004 [0x80#32] (begin 0 lateMask))).cb.first = 7 := by
  decide +kernel

/-- Refutes O54: the write of one word follows CB_PENDING itself, so that with the mask the pending event is gone when
the same command drops the curtain: CB_FIRST takes the curtain event, and not only CB_MASK has changed. -/
theorem not_laneMessages : ¬ Obligations.LaneMessages := by
  intro h
  have hs : awake 0 lateMask = true := by decide +kernel
  have hexec : exec (.laneWrite 0 0 0x00001004 [0x80#32]) lateMask =
      .next (settle lateMask (laneWrite 0 0x00001004 [0x80#32] (begin 0 lateMask))) := by
    have hact : exec (.laneWrite 0 0 0x00001004 [0x80#32]) lateMask = act 0 lateMask (laneWrite 0 0x00001004 [0x80#32]) := rfl
    rw [hact, act_live (awake_iff.mp hs).1 (awake_iff.mp hs).2]
  obtain ⟨-, -, hwrite, -⟩ := h 0 0 lateMask hs
  have hbad := hwrite (0x00001004, regMask) List.mem_cons_self 0x80#32 (by decide +kernel) rfl
  rw [hexec, yields_next_iff] at hbad
  have hfirst := first_of_leaves_mask hbad.2 (by decide) rfl
  rw [lateMask_written] at hfirst
  exact absurd hfirst (by decide)

end Sys2Proof.Machine
end

section
/-! O55: an ADDR whose depth halts a child's lane on a link to a host. -/

namespace Sys2Proof.Machine

/-- The capability record of a host. -/
def hostCaps : Caps :=
  { verHi := 0x12, verLo := 0x10, rates := 7, role := 0, lane := 0, fwd := false, timeSrc := false, retLim := 20
    credits := [], linkId := 0 }

/-- The house link is trained to a partner of ROLE 0, the device has not yet taken itself for the root, and a child has
reported itself on stage lane 0. -/
def lateRoot : State :=
  { pwr := { mode := .standby }
    ln := { root := false, lanes := [(0, { state := .active, caps := some hostCaps }), (2, { state := .active, childSize := 1 })] } }

/-- The child's lane halts at depth 31, which is reported as the root's new epoch. -/
theorem lateRoot_addressed : (settle lateRoot (takeAddr 0 1 5 0x12 31 (begin 0 lateRoot))).ln.epoch = 6 := by
  decide +kernel

/-- Refutes O55: the child that halts for the depth that ADDR gives changes the subtree, and a device whose partner is a
host reports that with an epoch of its own, which is not the epoch that ADDR gave. -/
theorem not_addressing : ¬ Obligations.Addressing := by
  intro h
  have hs : awake 0 lateRoot = true := by decide +kernel
  have hexec : exec (.laneAddr 0 0 1 5 0x12 31) lateRoot =
      .next (settle lateRoot (takeAddr 0 1 5 0x12 31 (begin 0 lateRoot))) := by
    have hact : exec (.laneAddr 0 0 1 5 0x12 31) lateRoot = act 0 lateRoot (takeAddr 0 1 5 0x12 31) := rfl
    rw [hact, act_live (awake_iff.mp hs).1 (awake_iff.mp hs).2]
  obtain ⟨-, -, -, haddr, -⟩ := h 0 0 0 lateRoot hs
  have hbad := haddr 1 5 0x12 31 (by decide +kernel) rfl
  rw [hexec, yields_next_iff] at hbad
  obtain ⟨-, hepoch, -⟩ := hbad
  rw [lateRoot_addressed] at hepoch
  exact absurd hepoch (by decide)

end Sys2Proof.Machine
end

section
/-! O56: decisions and completion records of guests (R404 to R407). -/

namespace Sys2Proof.Machine

/-! ### What sending leaves of a lane -/

/-- What a frame that leaves does not touch. -/
structure SendKeeps {α : Type} (f : Lane → α) : Prop where
  kept : ∀ (v : Lane) (w : List LaneMsg) (c : List Nat) (r : List SentFrame) (u : List (Nat × Nat × Nat)) (n : Nat),
    f { v with waiting := w, credits := c, replay := r, unpaid := u, fseq := n } = f v

theorem SendKeeps.pump {α : Type} {f : Lane → α} (hf : SendKeeps f) (n now : Nat) (v : Lane) : f (v.pump n now) = f v := by
  induction n generalizing v with
  | zero => rfl
  | succ n ih =>
    rw [Lane.pump]
    split
    · split
      · rw [ih]
        exact hf.kept v _ _ _ _ _
      · rfl
    · rfl

theorem SendKeeps.sendMsg {α : Type} {f : Lane → α} (hf : SendKeeps f) (l vc ty : Nat) (bs : List Byte) (s : State) (m : Nat) :
    f (getLane (sendMsg l vc ty bs s) m) = f (getLane s m) := by
  have hupd : ∀ (g : Lane → Lane) (u : State), (∀ v, f (g v) = f v) → f (getLane (updLane l g u) m) = f (getLane u m) := by
    intro g u hg
    by_cases hm : m = l
    · rw [hm, getLane_updLane_same, hg]
    · rw [getLane_updLane_other hm]
  unfold Machine.sendMsg
  split
  · rw [pumpLane, hupd _ _ (fun v => hf.pump _ _ v), hupd _ _ fun v => hf.kept v _ v.credits v.replay v.unpaid v.fseq]
  · rfl

@[simp] theorem lanesOnly_disownGuests (gs : List GuestPart) (s : State) : lanesOnly (disownGuests gs s) = lanesOnly s := by
  refine foldl_keeps lanesOnly _ (fun u g => ?_) gs s
  split
  · rfl
  · split
    · rw [lanesOnly_updLane, lanesOnly_abortGuest]
    · split
      · rfl
      · rfl

/-- The lane after a whole message of `n` bytes on VC `vc`. -/
def messageTaken (vc n : Nat) (v : Lane) : Lane :=
  { v.tookFrames vc (framesOf v vc n) (lastCost v vc n) with
    opens := v.opens.filter (fun k => k != vc)
    cntFrameErr := satAdd 32 v.cntFrameErr (bn (v.opens.contains vc)) }

theorem oneLane_takeMessage (l vc n : Nat) (s : State) :
    OneLane l (messageTaken vc n (getLane s l)) s (takeMessage l vc n s) := oneLane_updLane l (messageTaken vc n) s

/-! ### Late decisions -/

theorem lanesOnly_lateDecision (l : Nat) (w : W32) (s : State) : lanesOnly (lateDecision l w s) = lanesOnly s := by
  rw [lateDecision]
  split
  · rw [lanesOnly_updLane, lanesOnly_abortGuest, lanesOnly_updLane]
  · rfl

/-- A decision less is owed. -/
def decidedLate (v : Lane) : Lane := { v with lateDec := v.lateDec - 1 }

theorem lateDecision_accepted {l : Nat} {w : W32} {s : State} (ht : laneTrained s l = true) (hw : flag w 30 = true) :
    (getLane (lateDecision l w s) l).lateDec = (getLane s l).lateDec - 1 ∧
    (getLane (lateDecision l w s) l).deadEnds = (getLane s l).deadEnds ++ [fld w 15 0] ∧
    (getLane (lateDecision l w s) l).owed = (getLane s l).owed + 1 := by
  have hone := oneLane_updLane l decidedLate s
  have heq : lateDecision l w s = updLane l (fun v => { v with deadEnds := v.deadEnds ++ [fld w 15 0] })
      (abortGuest l (fld w 15 0) (updLane l decidedLate s)) := if_pos hw
  generalize updLane l decidedLate s = u at hone heq
  have htu : laneTrained u l = true := by rw [laneTrained, hone.lane]; exact ht
  have hlate : SendKeeps Lane.lateDec := ⟨fun _ _ _ _ _ _ => rfl⟩
  have hdead : SendKeeps Lane.deadEnds := ⟨fun _ _ _ _ _ _ => rfl⟩
  have howed : SendKeeps Lane.owed := ⟨fun _ _ _ _ _ _ => rfl⟩
  rw [heq, getLane_updLane_same, abortGuest, if_pos htu, getLane_updLane_same]
  dsimp only
  rw [hlate.sendMsg, hdead.sendMsg, howed.sendMsg, hone.lane]
  exact ⟨rfl, rfl, rfl⟩

theorem lateDecision_refused {l : Nat} {w : W32} {s : State} (hw : flag w 30 = false) :
    lateDecision l w s = updLane l decidedLate s := if_neg (Bool.not_eq_true _ ▸ hw)

/-! ### The decision that ends the wait -/

/-- The guest's part after its decision. -/
def decided (l : Nat) (w : W32) (peak : Nat) (g : GuestPart) : GuestPart :=
  if g.lane = l && g.accepted.isNone then
    { g with handle := fld w 15 0, accepted := some (flag w 30), reason := fld w 29 24, peak := peak % 65536 }
  else g

/-- The cue with the decisions of lane `l`. -/
def withDecision (l : Nat) (w : W32) (peak : Nat) (e : CueEntry) : CueEntry :=
  { e with guests := e.guests.map (decided l w peak) }

theorem guestDecision_joins {l k : Nat} {w : W32} {s : State} {h : Nat} {src : Source} (hl2 : 2 ≤ l) (hl : l < 4)
    (ht : laneTrained s l = true) (hlate : (getLane s l).lateDec = 0) (hd : s.sm.deciding = some (h, src)) :
    guestDecision l w k s = finishSplit (updCue h (withDecision l w k) (takeMessage l 1 16 s)) := by
  have hd' : (takeMessage l 1 16 s).sm.deciding = some (h, src) := hd
  have hlate' : (getLane (takeMessage l 1 16 s) l).lateDec = 0 := by
    rw [takeMessage, takeKeyed, getLane_updLane_same]
    exact hlate
  rw [guestDecision, isLane, decide_eq_true hl2, decide_eq_true hl, ht]
  dsimp only
  rw [Bool.and_true, Bool.and_true, if_pos rfl, hlate', if_neg (Nat.lt_irrefl 0), hd']
  rfl

/-- The submission has its answer, and no split cue waits. -/
def Answered (s : State) : Prop := s.sm.deciding = none ∧ s.sm.resBusy = false

theorem Answered.of_desk {s u : State} (h : Answered s) (hd : desk u = desk s) : Answered u := by
  have hdeciding := congrArg Stage.deciding hd
  have hbusy := congrArg Stage.resBusy hd
  exact ⟨hdeciding.trans h.1, hbusy.trans h.2⟩

theorem answered_port (p : Path) (a : Bool) (r x h st : Nat) {s : State} (hd : s.sm.deciding = none) :
    Answered (answer (.port p) a r x h st s) := ⟨hd, rfl⟩

/-- The parts of a cue that is not admitted are undone. -/
def partsUndone (h : Nat) (e : CueEntry) (s : State) : State :=
  updCue h (fun c => { c with state := 0 }) (releaseCue h (disownGuests e.guests s))

theorem undoSplit_port (h : Nat) (e : CueEntry) (p : Path) (x : Nat × Nat) (s : State) :
    undoSplit h e (.port p) x s = answer (.port p) false x.1 x.2 0 0 (partsUndone h e s) := rfl

theorem partsUndone_sm (h : Nat) (e : CueEntry) (s : State) : (partsUndone h e s).sm.deciding = s.sm.deciding ∧
    (partsUndone h e s).sm.cntReject = s.sm.cntReject ∧ findCue (partsUndone h e s) h = none := by
  have hsm := (lanesOnly_groups (lanesOnly_disownGuests e.guests s)).2.2.2.1
  have hdesk : desk (partsUndone h e s) = desk (disownGuests e.guests s) :=
    (updCue_desk _ _ _).trans (releaseCue_tidy _ _).desk
  have hdeciding : (partsUndone h e s).sm.deciding = (disownGuests e.guests s).sm.deciding := by
    have hpart := congrArg Stage.deciding hdesk
    exact hpart
  have hreject : (partsUndone h e s).sm.cntReject = (disownGuests e.guests s).sm.cntReject := by
    have hpart := congrArg Stage.cntReject hdesk
    exact hpart
  rw [hdeciding, hreject, hsm]
  exact ⟨rfl, rfl, findCue_updCue_free fun _ => rfl⟩

theorem afterFirst_desk (h t : Nat) (s : State) : desk (afterFirst h t s) = desk s := by
  rw [afterFirst, (refreshConds_tidy _).desk, admitLater_desk, updCue_desk]

theorem joinSplit_port (h : Nat) (e : CueEntry) (p : Path) {s : State} (hd : s.sm.deciding = none) :
    Answered (joinSplit h e (.port p) s) := by
  have hstart : (if e.status.isSome then s else afterFirst h e.start s).sm.deciding = none := by
    split
    · exact hd
    · have hdesk := congrArg Stage.deciding (afterFirst_desk h e.start s)
      exact hdesk.trans hd
  have hanswer := answered_port p true 0 0 h e.start hstart
  rw [joinSplit]
  split
  · exact hanswer.of_desk (endCue_tidy _ _ _ _ _).desk
  · exact hanswer

/-- No submission waits for its decision. -/
def undecided (s : State) : State := { s with sm := { s.sm with deciding := none } }

theorem undoSplit_answered (h : Nat) (e : CueEntry) (p : Path) (x : Nat × Nat) {s : State} (hd : s.sm.deciding = none) :
    Answered (undoSplit h e (.port p) x s) := by
  rw [undoSplit_port]
  exact answered_port p _ _ _ _ _ ((partsUndone_sm h e s).1.trans hd)

/-- With every guest's decision in, the sender gets its answer. -/
theorem finishSplit_port {h : Nat} {p : Path} {e : CueEntry} {s : State} (hd : s.sm.deciding = some (h, .port p))
    (he : findCue s h = some e) (hall : e.guests.any (fun g => g.accepted.isNone) = false) : Answered (finishSplit s) := by
  have hnone : (undecided s).sm.deciding = none := rfl
  rw [finishSplit, hd]
  dsimp only
  rw [he]
  dsimp only
  rw [hall, if_neg (by decide)]
  split
  · exact undoSplit_answered h e p _ hnone
  · split
    · exact undoSplit_answered h e p _ hnone
    · split
      · exact undoSplit_answered h e p _ hnone
      · have hbook : OkKeeps desk (undecided s) (if e.status.isSome then .ok (undecided s) else
            bookGuests h e e.start ((knownScenes (undecided s)).find? (fun f => decide (5 * f.start = e.start))) (undecided s)) id := by
          split
          · exact okKeeps_ok rfl
          · exact bookGuests_desk _ _ _ _ _
        split
        · exact undoSplit_answered h e p _ hnone
        · rename_i v hv
          have hdesk := congrArg Stage.deciding (hbook v hv)
          exact joinSplit_port h e p (hdesk.trans hnone)

/-- A guest that refuses refuses the cue. -/
theorem finishSplit_refused {h : Nat} {p : Path} {e : CueEntry} {g : GuestPart} {s : State}
    (hd : s.sm.deciding = some (h, .port p)) (he : findCue s h = some e)
    (hall : e.guests.any (fun g => g.accepted.isNone) = false)
    (hg : e.guests.find? (fun g => g.accepted == some false) = some g) :
    finishSplit s = answer (.port p) false g.reason 0xFF 0 0 (partsUndone h e (undecided s)) := by
  rw [finishSplit, hd]
  dsimp only
  rw [he]
  dsimp only
  rw [hall, if_neg (by decide), hg]
  exact undoSplit_port _ _ _ _ _

/-- A split cue that waits for another guest waits on. -/
theorem finishSplit_waits {h : Nat} {src : Source} {e : CueEntry} {s : State} (hd : s.sm.deciding = some (h, src))
    (he : findCue s h = some e) (hsome : e.guests.any (fun g => g.accepted.isNone) = true) : finishSplit s = s := by
  rw [finishSplit, hd]
  dsimp only
  rw [he]
  dsimp only
  rw [hsome, if_pos rfl]

/-- Once the lane's decisions are in, no guest is undecided but those of another lane. -/
theorem withDecision_decided {l k : Nat} {w : W32} {e : CueEntry} (h : ∀ g ∈ e.guests, g.accepted = none → g.lane = l) :
    (withDecision l w k e).guests.any (fun g => g.accepted.isNone) = false := by
  refine List.any_eq_false.mpr fun g hg => ?_
  obtain ⟨x, hx, rfl⟩ := List.mem_map.mp hg
  rw [decided]
  split
  · simp
  case isFalse hno =>
    intro hnone
    have hn : x.accepted = none := Option.isNone_iff_eq_none.mp hnone
    exact hno (by rw [hnone, h x hx hn]; simp)

theorem withDecision_waits {l k : Nat} {w : W32} {e : CueEntry} {g : GuestPart} (hg : g ∈ e.guests) (hn : g.accepted = none)
    (hl : g.lane ≠ l) : (withDecision l w k e).guests.any (fun g => g.accepted.isNone) = true := by
  have hsame : decided l w k g = g := if_neg (by simp [hl])
  refine List.any_eq_true.mpr ⟨g, ?_, by rw [hn]; rfl⟩
  exact List.mem_map.mpr ⟨g, hg, hsame⟩

/-- The first guest that refuses is one that has just decided. -/
theorem withDecision_refuses {l k : Nat} {w : W32} {e : CueEntry} (hsome : ∃ g ∈ e.guests, g.accepted = none)
    (h : ∀ g ∈ e.guests, g.accepted = none → g.lane = l) (hno : ∀ g ∈ e.guests, g.accepted ≠ some false)
    (hw : flag w 30 = false) :
    ∃ g, (withDecision l w k e).guests.find? (fun g => g.accepted == some false) = some g ∧ g.reason = fld w 29 24 := by
  obtain ⟨g, hg, hn⟩ := hsome
  have hdec : ∀ x ∈ e.guests, x.accepted = none → (decided l w k x).accepted = some false ∧ (decided l w k x).reason = fld w 29 24 := by
    intro x hx hxn
    have hyes : decided l w k x = { x with
        handle := fld w 15 0, accepted := some (flag w 30), reason := fld w 29 24, peak := k % 65536 } :=
      if_pos (by rw [h x hx hxn, hxn]; simp)
    rw [hyes, hw]
    exact ⟨rfl, rfl⟩
  have hfound : ((withDecision l w k e).guests.find? (fun g => g.accepted == some false)).isSome = true :=
    List.find?_isSome.mpr ⟨decided l w k g, List.mem_map.mpr ⟨g, hg, rfl⟩, by rw [(hdec g hg hn).1]; rfl⟩
  obtain ⟨y, hy⟩ := Option.isSome_iff_exists.mp hfound
  refine ⟨y, hy, ?_⟩
  obtain ⟨x, hx, rfl⟩ := List.mem_map.mp (List.mem_of_find?_eq_some hy)
  have htrue := List.find?_some hy
  have hacc : (decided l w k x).accepted = some false := beq_iff_eq.mp htrue
  cases hxa : x.accepted with
  | none => exact (hdec x hx hxa).2
  | some b =>
    have hsame : decided l w k x = x := if_neg (by rw [hxa]; simp)
    rw [hsame] at hacc
    exact absurd hacc (hno x hx)

/-! ### The statement's clauses -/

section
variable {t l : Nat} {s : State} (hs : awake t s = true) (hl2 : 2 ≤ l) (hl : l < 4) (ht : laneTrained s l = true)
include hs hl2 hl ht

theorem yields_decisionNone {w : W32} {a k : Nat} (hlate : (getLane s l).lateDec = 0) (hd : s.sm.deciding = none) :
    Yields (exec (.laneDecision t l w a k) s) (fun u =>
      (getLane u l).rxSeq = ((getLane s l).rxSeq + framesOf (getLane s l) 1 16) % 256 ∧ Leaves t s u lanesOnly) := by
  have hexec : exec (.laneDecision t l w a k) s = act t s (guestDecision l w k) := rfl
  have hd' : (takeMessage l 1 16 (begin t s)).sm.deciding = none := hd
  have hlate' : (getLane (takeMessage l 1 16 (begin t s)) l).lateDec = 0 := by
    rw [takeMessage, takeKeyed, getLane_updLane_same]
    exact hlate
  have hgo : guestDecision l w k (begin t s) = takeMessage l 1 16 (begin t s) := by
    rw [guestDecision, isLane, decide_eq_true hl2, decide_eq_true hl, show laneTrained (begin t s) l = true from ht]
    dsimp only
    rw [Bool.and_true, Bool.and_true, if_pos rfl, hlate', if_neg (Nat.lt_irrefl 0), hd']
  rw [hexec]
  refine yields_act hs ?_
  rw [hgo, getLane_settle, takeMessage, takeKeyed, getLane_updLane_same]
  exact ⟨rfl, leaves_of_lanesOnly rfl⟩

theorem yields_decisionLate {w : W32} {a k : Nat} (hlate : 0 < (getLane s l).lateDec) :
    Yields (exec (.laneDecision t l w a k) s) (fun u =>
      (getLane u l).lateDec = (getLane s l).lateDec - 1 ∧
      (flag w 30 = true → (getLane u l).deadEnds = (getLane s l).deadEnds ++ [fld w 15 0] ∧
        (getLane u l).owed = (getLane s l).owed + 1) ∧
      (flag w 30 = false → (getLane u l).deadEnds = (getLane s l).deadEnds ∧ (getLane u l).owed = (getLane s l).owed) ∧
      Leaves t s u lanesOnly) := by
  have hexec : exec (.laneDecision t l w a k) s = act t s (guestDecision l w k) := rfl
  have hone := oneLane_takeMessage l 1 16 (begin t s)
  have hleft : lanesOnly (takeMessage l 1 16 (begin t s)) = lanesOnly (begin t s) := rfl
  have hlate' : 0 < (getLane (takeMessage l 1 16 (begin t s)) l).lateDec := by rw [hone.lane]; exact hlate
  have hgo : guestDecision l w k (begin t s) = lateDecision l w (takeMessage l 1 16 (begin t s)) := by
    rw [guestDecision, isLane, decide_eq_true hl2, decide_eq_true hl, show laneTrained (begin t s) l = true from ht]
    exact if_pos hlate'
  have htrained : laneTrained (takeMessage l 1 16 (begin t s)) l = true := by
    rw [laneTrained, hone.lane]
    exact ht
  rw [hexec]
  refine yields_act hs ?_
  rw [hgo, getLane_settle]
  have hend : Leaves t s (settle s (lateDecision l w (takeMessage l 1 16 (begin t s)))) lanesOnly :=
    leaves_of_lanesOnly ((lanesOnly_lateDecision l w _).trans hleft)
  cases hw : flag w 30
  · rw [lateDecision_refused hw] at hend ⊢
    rw [getLane_updLane_same, hone.lane]
    exact ⟨rfl, fun h => absurd h (by decide), fun _ => ⟨rfl, rfl⟩, hend⟩
  · obtain ⟨hdec, hdead, howed⟩ := lateDecision_accepted htrained hw
    rw [hone.lane] at hdec hdead howed
    exact ⟨hdec, fun _ => ⟨hdead, howed⟩, fun h => absurd h (by decide), hend⟩

theorem yields_decisionEnds {w : W32} {a k h : Nat} {p : Path} {e : CueEntry} (hlate : (getLane s l).lateDec = 0)
    (hd : s.sm.deciding = some (h, .port p)) (he : findCue s h = some e)
    (hall : ∀ g ∈ e.guests, g.accepted = none → g.lane = l) :
    Yields (exec (.laneDecision t l w a k) s) (fun u => u.sm.deciding = none ∧ u.sm.resBusy = false ∧
      ((∃ g ∈ e.guests, g.accepted = none) → (∀ g ∈ e.guests, g.accepted ≠ some false) → flag w 30 = false →
        u.sm.resAccept = false ∧ u.sm.resReason = fld w 29 24 ∧ u.sm.resResource = 0xFF ∧
        u.sm.cntReject = satAdd 32 s.sm.cntReject 1 ∧ findCue u h = none)) := by
  have hexec : exec (.laneDecision t l w a k) s = act t s (guestDecision l w k) := rfl
  have hgo := guestDecision_joins (s := begin t s) (k := k) (w := w) hl2 hl ht hlate hd
  have hfound : findCue (updCue h (withDecision l w k) (takeMessage l 1 16 (begin t s))) h = some (withDecision l w k e) :=
    findCue_updCue_live (s := takeMessage l 1 16 (begin t s)) he rfl (findCue_gen he).2
  have hdeciding : (updCue h (withDecision l w k) (takeMessage l 1 16 (begin t s))).sm.deciding = some (h, .port p) :=
    (updCue_kept h _ _).2.2.trans hd
  have hreject : (updCue h (withDecision l w k) (takeMessage l 1 16 (begin t s))).sm.cntReject = s.sm.cntReject := by
    rw [updCue_of (s := takeMessage l 1 16 (begin t s)) he]
    rfl
  generalize updCue h (withDecision l w k) (takeMessage l 1 16 (begin t s)) = x at hgo hfound hdeciding hreject
  have hin := withDecision_decided (k := k) (w := w) hall
  obtain ⟨hnone, hbusy⟩ := finishSplit_port hdeciding hfound hin
  rw [hexec]
  refine yields_act hs ?_
  rw [hgo, settle_sm, findCue_settle]
  refine ⟨hnone, hbusy, fun hsome hno hw => ?_⟩
  obtain ⟨g, hg, hreason⟩ := withDecision_refuses (k := k) hsome hall hno hw
  rw [finishSplit_refused hdeciding hfound hin hg]
  obtain ⟨-, hcount, hgone⟩ := partsUndone_sm h (withDecision l w k e) (undecided x)
  generalize partsUndone h (withDecision l w k e) (undecided x) = y at hcount hgone ⊢
  have hanswer : (answer (.port p) false g.reason 0xFF 0 0 y).sm.cntReject = satAdd 32 y.sm.cntReject 1 := rfl
  exact ⟨rfl, hreason, rfl, by rw [hanswer, hcount, show (undecided x).sm.cntReject = s.sm.cntReject from hreject], hgone⟩

theorem yields_decisionWaits {w : W32} {a k h : Nat} {src : Source} {e : CueEntry} {g : GuestPart}
    (hlate : (getLane s l).lateDec = 0) (hd : s.sm.deciding = some (h, src)) (he : findCue s h = some e) (hg : g ∈ e.guests)
    (hn : g.accepted = none) (hgl : g.lane ≠ l) : Yields (exec (.laneDecision t l w a k) s) (fun u =>
      u.sm.deciding = s.sm.deciding ∧ Leaves t s u (fun x => lanesOnly { x with sm := { x.sm with cues := [] } })) := by
  have hexec : exec (.laneDecision t l w a k) s = act t s (guestDecision l w k) := rfl
  have hgo := guestDecision_joins (s := begin t s) (k := k) (w := w) hl2 hl ht hlate hd
  have hfound : findCue (updCue h (withDecision l w k) (takeMessage l 1 16 (begin t s))) h = some (withDecision l w k e) :=
    findCue_updCue_live (s := takeMessage l 1 16 (begin t s)) he rfl (findCue_gen he).2
  have hdeciding : (updCue h (withDecision l w k) (takeMessage l 1 16 (begin t s))).sm.deciding = some (h, src) :=
    (updCue_kept h _ _).2.2.trans hd
  have hupd := updCue_of (s := takeMessage l 1 16 (begin t s)) he (withDecision l w k)
  rw [hexec]
  refine yields_act hs ?_
  rw [hgo, finishSplit_waits hdeciding hfound (withDecision_waits hg hn hgl), settle_sm]
  refine ⟨hdeciding.trans hd.symm, _, rfl, ?_⟩
  rw [hupd]
  rfl
end

/-! ### Completion records of guests -/

theorem completeCue_completes {k : Nat} {e : CueEntry} {s : State} (he : findCue s k = some e)
    (hg : e.guests.any GuestPart.runs = false) : findCue (completeCue k s) k = none := by
  have hcues : ∀ x, findCue (releaseCue k x) k = findCue x k := fun _ => rfl
  rw [completeCue, he]
  dsimp only
  rw [hg, if_neg (by decide), hcues]
  exact findCue_updCue_free fun _ => rfl

/-- The message of `n` bytes on VC 1 is taken, and the rest of the state stays. -/
theorem guestEnd_parent {l h : Nat} {r : CueEnd} {s : State} (hl2 : 2 ≤ l) (hl : l < 4) (ht : laneTrained s l = true)
    (hdead : (getLane s l).deadEnds.contains r.handle = false)
    (hh : (handles s).find? (fun k => (findCue s k).any (fun x => x.guests.any (GuestPart.isRunning l r.handle))) = some h) :
    guestEnd l r s = cueProgress h (updCue h (CueEntry.addGuest l r) (takeMessage l 1 32 s)) := by
  have hdead' : (getLane (takeMessage l 1 32 s) l).deadEnds.contains r.handle = false := by
    rw [takeMessage, takeKeyed, getLane_updLane_same]
    exact hdead
  have hh' : (handles (takeMessage l 1 32 s)).find? (fun k => (findCue (takeMessage l 1 32 s) k).any
      (fun x => x.guests.any (GuestPart.isRunning l r.handle))) = some h := hh
  rw [guestEnd, isLane, decide_eq_true hl2, decide_eq_true hl, ht]
  dsimp only
  rw [Bool.and_true, Bool.and_true, if_pos rfl, hdead', if_neg (by decide), hh']

section
variable {t l : Nat} {r : CueEnd} {s : State} (hs : awake t s = true) (hl2 : 2 ≤ l) (hl : l < 4) (ht : laneTrained s l = true)
include hs hl2 hl ht

theorem yields_cueEndDead (hdead : (getLane s l).deadEnds.contains r.handle = true) :
    Yields (exec (.laneCueEnd t l r) s) (fun u =>
      (getLane u l).deadEnds = removeFirst r.handle (getLane s l).deadEnds ∧ Leaves t s u lanesOnly) := by
  have hexec : exec (.laneCueEnd t l r) s = act t s (guestEnd l r) := rfl
  have hone := oneLane_takeMessage l 1 32 (begin t s)
  have hleft : lanesOnly (takeMessage l 1 32 (begin t s)) = lanesOnly (begin t s) := rfl
  have hdead' : (getLane (takeMessage l 1 32 (begin t s)) l).deadEnds.contains r.handle = true := by
    rw [hone.lane]
    exact hdead
  have hgo : guestEnd l r (begin t s) = updLane l (fun v => { v with deadEnds := removeFirst r.handle v.deadEnds })
      (takeMessage l 1 32 (begin t s)) := by
    rw [guestEnd, isLane, decide_eq_true hl2, decide_eq_true hl, show laneTrained (begin t s) l = true from ht]
    exact if_pos hdead'
  rw [hexec]
  refine yields_act hs ?_
  rw [hgo, getLane_settle, getLane_updLane_same, hone.lane]
  exact ⟨rfl, leaves_of_lanesOnly ((lanesOnly_updLane _ _ _).trans hleft)⟩

theorem yields_cueEndNone (hdead : (getLane s l).deadEnds.contains r.handle = false)
    (hh : (handles s).find? (fun k => (findCue s k).any (fun x => x.guests.any (GuestPart.isRunning l r.handle))) = none) :
    Yields (exec (.laneCueEnd t l r) s) (fun u =>
      (getLane u l).rxSeq = ((getLane s l).rxSeq + framesOf (getLane s l) 1 32) % 256 ∧ Leaves t s u lanesOnly) := by
  have hexec : exec (.laneCueEnd t l r) s = act t s (guestEnd l r) := rfl
  have hdead' : (getLane (takeMessage l 1 32 (begin t s)) l).deadEnds.contains r.handle = false := by
    rw [takeMessage, takeKeyed, getLane_updLane_same]
    exact hdead
  have hh' : (handles (takeMessage l 1 32 (begin t s))).find? (fun k => (findCue (takeMessage l 1 32 (begin t s)) k).any
      (fun x => x.guests.any (GuestPart.isRunning l r.handle))) = none := hh
  have hgo : guestEnd l r (begin t s) = takeMessage l 1 32 (begin t s) := by
    rw [guestEnd, isLane, decide_eq_true hl2, decide_eq_true hl, show laneTrained (begin t s) l = true from ht]
    dsimp only
    rw [Bool.and_true, Bool.and_true, if_pos rfl, hdead', if_neg (by decide), hh']
  rw [hexec]
  refine yields_act hs ?_
  rw [hgo, getLane_settle, takeMessage, takeKeyed, getLane_updLane_same]
  exact ⟨rfl, leaves_of_lanesOnly rfl⟩

section
variable {h : Nat} {e : CueEntry} (hdead : (getLane s l).deadEnds.contains r.handle = false)
  (hh : (handles s).find? (fun k => (findCue s k).any (fun x => x.guests.any (GuestPart.isRunning l r.handle))) = some h)
  (he : findCue s h = some e)
include hdead hh he

theorem yields_cueEndJoins (h2 : e.state = 2) (hp : e.players ≠ []) : Yields (exec (.laneCueEnd t l r) s) (fun u =>
    findCue u h = some (e.addGuest l r) ∧
    Leaves t s u (fun x => lanesOnly { x with sm := { x.sm with cues := [] } })) := by
  have hexec : exec (.laneCueEnd t l r) s = act t s (guestEnd l r) := rfl
  have hgo := guestEnd_parent (s := begin t s) hl2 hl ht hdead hh
  have hfound : findCue (updCue h (CueEntry.addGuest l r) (takeMessage l 1 32 (begin t s))) h = some (e.addGuest l r) :=
    findCue_updCue_live (s := takeMessage l 1 32 (begin t s)) he rfl (findCue_gen he).2
  have hupd := updCue_of (s := takeMessage l 1 32 (begin t s)) he (CueEntry.addGuest l r)
  have hidle : cueProgress h (updCue h (CueEntry.addGuest l r) (takeMessage l 1 32 (begin t s))) =
      updCue h (CueEntry.addGuest l r) (takeMessage l 1 32 (begin t s)) := by
    have hstate : (e.addGuest l r).state = 2 := h2
    have hbegun : (e.addGuest l r).begun = false := by
      have hplayers : (e.addGuest l r).players.isEmpty = false := List.isEmpty_eq_false_iff.mpr hp
      rw [CueEntry.begun, hstate, hplayers]
      rfl
    rw [cueProgress, hfound]
    dsimp only
    rw [hstate, if_neg (by decide), hbegun]
    rfl
  rw [hexec]
  refine yields_act hs ?_
  rw [hgo, hidle, findCue_settle]
  refine ⟨hfound, _, rfl, ?_⟩
  rw [hupd]
  rfl

theorem yields_cueEndCompletes (hst : e.state ≠ 4) (hbegun : e.begun = true) (hocc : allOccurred e = true)
    (hleft : noneLeft e = true) (hlive : pointsLive s h = false)
    (hruns : (e.addGuest l r).guests.any GuestPart.runs = false) :
    Yields (exec (.laneCueEnd t l r) s) (fun u => findCue u h = none ∧ Leaves t s u calm) := by
  have hexec : exec (.laneCueEnd t l r) s = act t s (guestEnd l r) := rfl
  have hgo := guestEnd_parent (s := begin t s) hl2 hl ht hdead hh
  have hfound : findCue (updCue h (CueEntry.addGuest l r) (takeMessage l 1 32 (begin t s))) h = some (e.addGuest l r) :=
    findCue_updCue_live (s := takeMessage l 1 32 (begin t s)) he rfl (findCue_gen he).2
  have hcalm : calm (updCue h (CueEntry.addGuest l r) (takeMessage l 1 32 (begin t s))) = calm (begin t s) :=
    (updCue_tidy _ _ _).calm
  have hlive' : pointsLive (updCue h (CueEntry.addGuest l r) (takeMessage l 1 32 (begin t s))) h = false := by
    rw [updCue_of (s := takeMessage l 1 32 (begin t s)) he]
    exact hlive
  generalize updCue h (CueEntry.addGuest l r) (takeMessage l 1 32 (begin t s)) = x at hgo hfound hcalm hlive'
  have hends : cueProgress h x = completeCue h x := by
    have hstate : ¬ (e.addGuest l r).state = 4 := hst
    have hall : ((e.addGuest l r).begun && allOccurred (e.addGuest l r) && noneLeft (e.addGuest l r) && !pointsLive x h) = true := by
      rw [show (e.addGuest l r).begun = true from hbegun, show allOccurred (e.addGuest l r) = true from hocc,
        show noneLeft (e.addGuest l r) = true from hleft, hlive']
      rfl
    rw [cueProgress, hfound]
    dsimp only
    rw [if_neg hstate, if_pos hall]
  rw [hexec]
  refine yields_act hs ?_
  rw [hgo, findCue_settle]
  refine ⟨?_, leaves_of_calm ?_⟩
  · rw [hends]
    exact completeCue_completes hfound hruns
  · rw [cueProgress_calm, hcalm]
end
end

/-- Settles O56, by what a decision and a completion record find. -/
theorem guestAnswers : Obligations.GuestAnswers := by
  unfold Obligations.GuestAnswers
  intro t l s hs hl2 hl ht
  refine ⟨fun w a k hlate hd => yields_decisionNone hs hl2 hl ht hlate hd,
    fun w a k hlate => yields_decisionLate hs hl2 hl ht hlate,
    fun w a k h p e hlate hd he hall => yields_decisionEnds hs hl2 hl ht hlate hd he hall,
    fun w a k h src e g hlate hd he hg hn hgl => yields_decisionWaits hs hl2 hl ht hlate hd he hg hn hgl,
    fun r hdead => yields_cueEndDead hs hl2 hl ht hdead, fun r h e hdead hh he => ⟨fun h2 hp => ?_, fun h3 hocc hleft hlive hruns => ?_,
      fun h2 hp hocc hleft hlive hruns => ?_⟩, fun r hdead hh => yields_cueEndNone hs hl2 hl ht hdead hh⟩
  · exact yields_cueEndJoins hs hl2 hl ht hdead hh he h2 hp
  · have hbegun : e.begun = true := by rw [CueEntry.begun, h3]; rfl
    exact yields_cueEndCompletes hs hl2 hl ht hdead hh he (by rw [h3]; decide) hbegun hocc hleft hlive hruns
  · have hbegun : e.begun = true := by rw [CueEntry.begun, h2, hp]; rfl
    exact yields_cueEndCompletes hs hl2 hl ht hdead hh he (by rw [h2]; decide) hbegun hocc hleft hlive hruns

end Sys2Proof.Machine
end

section
/-! O57: the time blocks, the steering of the timebase, and the cue bus (R408 to R414). -/

namespace Sys2Proof.Machine

/-! ### Time blocks in states that carry none -/

theorem not_timed_of_upper {s : State} {l : Nat} (h : 2 ≤ l ∨ laneTimed s l = false) : (decide (l < 2) && laneTimed s l) = false := by
  obtain h | h := h
  · rw [decide_eq_false (Nat.not_lt.mpr h), Bool.false_and]
  · rw [h, Bool.and_false]

/-! ### The steering -/

theorem eventIf_stays {α : Type} (f : State → α) (hf : ∀ i s, f (setEvent i s) = f s) (b : Bool) (i : Nat) (s : State) :
    f (eventIf b i s) = f s := by
  cases b
  · rfl
  · exact hf i s

/-- What judging a mean does not touch. -/
theorem judgeMean_keeps {α : Type} (f : State → α) (hf : ∀ s c r n (g b : _) (th : Int),
    f { s with cb := c, recent := r, free := n, ln := { s.ln with goodRun := g, timeOk := b, theta := th } } = f s) (sum : Int) (s : State) :
    f (judgeMean sum s) = f s := by
  rw [judgeMean, eventIf]
  split
  · exact hf s _ _ _ _ _ _
  · exact hf s s.cb s.recent _ _ _ _

theorem judgeMean_timeOk {sum : Int} (h : meanAbove sum 16 = true) (s : State) : (judgeMean sum s).ln.timeOk = false := by
  rw [judgeMean, eventIf_stays (fun u => u.ln.timeOk) (fun _ _ => rfl)]
  exact if_pos h

theorem stepGates_stays {α : Type} (f : State → α) (hf : ∀ s r, f { s with rej := r } = f s) (x y : Nat) (s : State) :
    f (stepGates x y s) = f s := by
  rw [stepGates]
  split
  · rfl
  · exact hf s _

/-- The timebase steps by the mean, and the list of measurements begins anew. -/
def timeStepped (sum : Int) (s : State) : State :=
  tookFree { s with
    tbOffset := s.tbOffset - roundFree s ((sum : Rat) / 32), ln := { s.ln with thetas := [], steeredAt := s.now } }

theorem steer_steps {sum : Int} {s : State} (hst : inStandby s = true) (h : meanAbove sum 64 = true) :
    steer sum s = steppedTime (tbTick s) (timeStepped sum s) :=
  if_pos (show (inStandby s && meanAbove sum 64) = true by rw [hst, h]; rfl)

theorem steer_step_time {sum : Int} {s : State} (hst : inStandby s = true) (h : meanAbove sum 64 = true) :
    (steer sum s).ln.thetas = [] ∧ (steer sum s).ln.steeredAt = s.now ∧
    (steer sum s).fs.k = ceilDiv (tbTick (steer sum s)) 20000 := by
  rw [steer_steps hst h, steppedTime]
  rw [stepGates_stays (fun u => u.ln.thetas) fun _ _ => rfl, stepGates_stays (fun u => u.ln.steeredAt) fun _ _ => rfl,
    stepGates_stays (fun u => u.fs.k) fun _ _ => rfl, stepGates_stays tbTick fun _ _ => rfl]
  exact ⟨rfl, rfl, rfl⟩

/-- The timebase slews by `n` towards the mean. -/
def timeSlewed (sum : Int) (n : Nat) (s : State) : State :=
  tookFree { s with
    tbOffset := if 0 < sum then s.tbOffset - n else s.tbOffset + n
    ln := { s.ln with steeredAt := s.now } }

theorem steer_slews {sum : Int} {s : State} (h : inStandby s = false ∨ meanAbove sum 64 = false) :
    ∃ n, n ≤ slewLimit s ∧ steer sum s = timeSlewed sum n s := by
  refine ⟨freeValue s % (min (slewLimit s) (sum.natAbs / 32) + 1), ?_, if_neg (fun hno => ?_)⟩
  · have hlt := Nat.mod_lt (freeValue s) (Nat.succ_pos (min (slewLimit s) (sum.natAbs / 32)))
    exact (Nat.lt_succ_iff.mp hlt).trans (Nat.min_le_left _ _)
  · rw [Bool.and_eq_true] at hno
    obtain h | h := h
    · exact absurd (hno.1.symm.trans h) (by decide)
    · exact absurd (hno.2.symm.trans h) (by decide)

theorem slew_bounds {o sum : Int} {n m : Nat} (h : n * 5000 ≤ m) :
    ((if 0 < sum then o - n else o + n) - o).natAbs * 5000 ≤ m ∧
    (0 < sum → (if 0 < sum then o - n else o + n) ≤ o) ∧ (sum < 0 → o ≤ if 0 < sum then o - n else o + n) := by
  split
  · have hsize : (o - n - o).natAbs = n := by omega
    rw [hsize]
    exact ⟨h, by omega, by omega⟩
  · have hsize : (o + n - o).natAbs = n := by omega
    rw [hsize]
    exact ⟨h, by omega, by omega⟩

theorem timeSlewed_bounds {sum : Int} {n : Nat} {s : State} (hn : n ≤ slewLimit s) :
    ((timeSlewed sum n s).tbOffset - s.tbOffset).natAbs * 5000 ≤ 64 * (s.now - s.ln.steeredAt) ∧
    (0 < sum → (timeSlewed sum n s).tbOffset ≤ s.tbOffset) ∧ (sum < 0 → s.tbOffset ≤ (timeSlewed sum n s).tbOffset) := by
  have hlimit : n * 5000 ≤ 64 * (s.now - s.ln.steeredAt) := by
    rw [slewLimit, Nat.le_div_iff_mul_le (by decide)] at hn
    exact hn
  exact slew_bounds hlimit

/-- What steering leaves of the lanes and of the judgement of the mean. -/
theorem steer_stays {α : Type} (f : State → α) (hf : ∀ s n (o : Int) a b (x : Rej) (k : Nat),
    f { s with free := n, tbOffset := o, ln := { s.ln with thetas := a, steeredAt := b }, rej := x, fs := { s.fs with k := k } } = f s)
    (sum : Int) (s : State) : f (steer sum s) = f s := by
  by_cases h : (inStandby s && meanAbove sum 64) = true
  · rw [Bool.and_eq_true] at h
    rw [steer_steps h.1 h.2, steppedTime, stepGates]
    split
    · exact hf s _ _ _ _ s.rej _
    · exact hf s _ _ _ _ _ _
  · have hslew : inStandby s = false ∨ meanAbove sum 64 = false := by
      cases hst : inStandby s
      · exact .inl rfl
      · rw [hst, Bool.true_and] at h
        exact .inr (Bool.eq_false_iff.mpr h)
    obtain ⟨n, -, heq⟩ := steer_slews hslew
    rw [heq]
    exact hf s _ _ s.ln.thetas _ s.rej s.fs.k

/-! ### The measurement -/

/-- The lane whose round trip is complete. -/
def tripDone (a : Int) (v w : Lane) : Lane := { w with rtd := unsigned 32 (roundTrip v a), asked := false, trips := w.trips + 1 }

/-- The lane's round trip is complete. -/
def tripTaken (l : Nat) (a : Int) (s : State) : State := updLane l (tripDone a (getLane s l)) s

/-- A measurement joins the list. -/
def measured (l : Nat) (a : Int) (s : State) : State :=
  { tripTaken l a s with ln := { (tripTaken l a s).ln with thetas := (twiceTheta (getLane s l) a :: s.ln.thetas).take 16 } }

theorem takeDrsp_trip {l : Nat} {a : Int} {s : State} (hl : l < 2) (ht : laneTimed s l = true) (ha : (getLane s l).asked = true) :
    takeDrsp l a s = if followsLane s l then
      if ((twiceTheta (getLane s l) a :: s.ln.thetas).take 16).length < 16 then measured l a s
      else steer (sumInt ((twiceTheta (getLane s l) a :: s.ln.thetas).take 16))
        (judgeMean (sumInt ((twiceTheta (getLane s l) a :: s.ln.thetas).take 16)) (measured l a s))
    else tripTaken l a s :=
  if_pos (show (decide (l < 2) && laneTimed s l && (getLane s l).asked) = true by rw [decide_eq_true hl, ht, ha]; rfl)

theorem measurements_full {x : Int} {xs : List Int} : ((x :: xs).take 16).length < 16 ↔ xs.length < 15 := by
  rw [List.length_take, List.length_cons]
  omega

theorem getLane_tripTaken (l : Nat) (a : Int) (s : State) :
    getLane (tripTaken l a s) l = tripDone a (getLane s l) (getLane s l) := getLane_updLane_same _ _ _

/-- The lane's own round trip, whichever way the timebase goes. -/
theorem getLane_takeDrsp {l : Nat} {a : Int} {s : State} (hl : l < 2) (ht : laneTimed s l = true)
    (ha : (getLane s l).asked = true) : getLane (takeDrsp l a s) l = tripDone a (getLane s l) (getLane s l) := by
  rw [takeDrsp_trip hl ht ha, ← getLane_tripTaken]
  split
  · split
    · rfl
    · rw [steer_stays (getLane · l) fun _ _ _ _ _ _ _ => rfl, judgeMean_keeps (getLane · l) fun _ _ _ _ _ _ _ => rfl]
      rfl
  · rfl

section
variable {t l : Nat} {s : State} (hs : awake t s = true)
include hs

theorem yields_timeSync {a : Int} (hl : l < 2) (ht : laneTimed s l = true) :
    Yields (exec (.timeSync t l a) s) (fun u => (getLane u l).t1 = a ∧
      (getLane u l).t2 = tb64 (begin t s) ∧ (getLane u l).block = some (0x99, (getLane u l).t3) ∧ (getLane u l).asked = true ∧
      u.tbOffset = s.tbOffset ∧ Leaves t s u (fun x => lanesOnly { x with free := 0 })) := by
  have hexec : exec (.timeSync t l a) s = act t s (takeSync l a) := rfl
  have hgo : ∃ x, takeSync l a (begin t s) = tookFree (updLane l (fun v => { v with
      t1 := a, t2 := tb64 (begin t s), t3 := stampOf v x, asked := true, block := some (blockDreq, stampOf v x) }) (begin t s)) :=
    ⟨_, if_pos (show (decide (l < 2) && laneTimed (begin t s) l) = true by
      rw [decide_eq_true hl, show laneTimed (begin t s) l = true from ht]; rfl)⟩
  obtain ⟨x, hgo⟩ := hgo
  rw [hexec]
  refine yields_act hs ?_
  rw [hgo, getLane_settle, settle_tbOffset]
  have hlane : ∀ f, getLane (tookFree (updLane l f (begin t s))) l = f (getLane (begin t s) l) := fun f =>
    getLane_updLane_same _ _ _
  rw [hlane]
  exact ⟨rfl, rfl, rfl, rfl, rfl, _, rfl, rfl⟩

theorem yields_timeSyncNone {a : Int} (h : 2 ≤ l ∨ laneTimed s l = false) :
    Yields (exec (.timeSync t l a) s) (fun u => Leaves t s u id) := by
  refine yields_same hs (i := .timeSync t l a) (f := takeSync l a) rfl ?_
  exact if_neg (by rw [not_timed_of_upper (s := begin t s) h]; decide)

theorem yields_timeDrsp {a : Int} (hl : l < 2) (ht : laneTimed s l = true) (ha : (getLane s l).asked = true) :
    Yields (exec (.timeDrsp t l a) s) (fun u =>
      (getLane u l).rtd = unsigned 32 (roundTrip (getLane s l) a) ∧ (getLane u l).trips = (getLane s l).trips + 1 ∧
      (getLane u l).asked = false ∧
      (followsLane s l = false → Leaves t s u lanesOnly) ∧
      (followsLane s l = true → s.ln.thetas.length < 15 → u.ln.thetas = twiceTheta (getLane s l) a :: s.ln.thetas ∧
        u.tbOffset = s.tbOffset) ∧
      (followsLane s l = true → 15 ≤ s.ln.thetas.length →
        let sum := sumInt ((twiceTheta (getLane s l) a :: s.ln.thetas).take 16)
        (inStandby s = true → meanAbove sum 64 = true → u.ln.thetas = [] ∧ u.ln.steeredAt = max s.now t ∧
          u.fs.k = ceilDiv (tbTick u) 20000) ∧
        (inStandby s = false ∨ meanAbove sum 64 = false →
          (u.tbOffset - s.tbOffset).natAbs * 5000 ≤ 64 * (max s.now t - s.ln.steeredAt) ∧
          (0 < sum → u.tbOffset ≤ s.tbOffset) ∧ (sum < 0 → s.tbOffset ≤ u.tbOffset)) ∧
        (meanAbove sum 16 = true → u.ln.timeOk = false))) := by
  have hexec : exec (.timeDrsp t l a) s = act t s (takeDrsp l a) := rfl
  have hgo := takeDrsp_trip (s := begin t s) (a := a) hl ht ha
  have hlane := getLane_takeDrsp (s := begin t s) (a := a) hl ht ha
  rw [hexec]
  refine yields_act hs ?_
  rw [getLane_settle, hlane]
  rw [getLane_begin, begin_ln] at hgo
  refine ⟨rfl, rfl, rfl, fun hf => ?_, fun hf hshort => ?_, fun hf hlong => ?_⟩
  · rw [hgo, if_neg (by rw [show followsLane (begin t s) l = false from hf]; decide)]
    exact leaves_of_lanesOnly rfl
  · rw [hgo, if_pos (show followsLane (begin t s) l = true from hf), if_pos (measurements_full.mpr hshort), settle_ln,
      settle_tbOffset]
    refine ⟨?_, rfl⟩
    exact List.take_of_length_le (by rw [List.length_cons]; exact Nat.succ_le_succ (Nat.le_of_lt hshort))
  · rw [hgo, if_pos (show followsLane (begin t s) l = true from hf),
      if_neg (fun h => Nat.not_lt.mpr hlong (measurements_full.mp h))]
    intro sum
    have hsum : sumInt ((twiceTheta (getLane s l) a :: s.ln.thetas).take 16) = sum := rfl
    rw [hsum]
    have hstandby : inStandby (judgeMean sum (measured l a (begin t s))) = inStandby s :=
      judgeMean_keeps inStandby (fun _ _ _ _ _ _ _ => rfl) _ _
    have hnow : (judgeMean sum (measured l a (begin t s))).now = max s.now t :=
      judgeMean_keeps State.now (fun _ _ _ _ _ _ _ => rfl) _ _
    have hoffset : (judgeMean sum (measured l a (begin t s))).tbOffset = s.tbOffset :=
      judgeMean_keeps State.tbOffset (fun _ _ _ _ _ _ _ => rfl) _ _
    have hsteered : (judgeMean sum (measured l a (begin t s))).ln.steeredAt = s.ln.steeredAt :=
      judgeMean_keeps (fun u => u.ln.steeredAt) (fun _ _ _ _ _ _ _ => rfl) _ _
    have hok : meanAbove sum 16 = true → (judgeMean sum (measured l a (begin t s))).ln.timeOk = false :=
      fun h => judgeMean_timeOk h _
    generalize judgeMean sum (measured l a (begin t s)) = x at hstandby hnow hoffset hsteered hok
    rw [settle_ln, settle_fs, settle_tbOffset, show tbTick (settle s (steer sum x)) = tbTick (steer sum x) by simp [tbTick, tbOf],
      ← hstandby]
    refine ⟨fun hst hmean => ?_, fun hslew => ?_, fun hmean => ?_⟩
    · rw [← hnow]
      exact steer_step_time hst hmean
    · obtain ⟨n, hn, heq⟩ := steer_slews hslew
      rw [heq, ← hnow, ← hoffset, ← hsteered]
      exact timeSlewed_bounds hn
    · rw [steer_stays (fun u => u.ln.timeOk) fun _ _ _ _ _ _ _ => rfl]
      exact hok hmean

theorem yields_timeDrspNone {a : Int} (h : 2 ≤ l ∨ laneTimed s l = false ∨ (getLane s l).asked = false) :
    Yields (exec (.timeDrsp t l a) s) (fun u => Leaves t s u id) := by
  refine yields_same hs (i := .timeDrsp t l a) (f := takeDrsp l a) rfl ?_
  have hno : (decide (l < 2) && laneTimed s l && (getLane s l).asked) = false := by
    obtain h | h | h := h
    · rw [not_timed_of_upper (.inl h), Bool.false_and]
    · rw [not_timed_of_upper (.inr h), Bool.false_and]
    · rw [h, Bool.and_false]
  exact if_neg (by
    rw [show (decide (l < 2) && laneTimed (begin t s) l && (getLane (begin t s) l).asked) = false from hno]; decide)

theorem yields_timeDreq {a : Int} (hl2 : 2 ≤ l) (hl : l < 4) (ht : laneTimed s l = true) :
    Yields (exec (.timeDreq t l a) s) (fun u =>
      (getLane u l).block = some (0x9C, stampOf (getLane s l) (tb64 (begin t s))) ∧ (getLane u l).trips = (getLane s l).trips + 1 ∧
      (∀ m, m ≠ l → getLane u m = getLane s m) ∧ Leaves t s u lanesOnly) := by
  have hexec : exec (.timeDreq t l a) s = act t s (takeDreq l) := rfl
  have hgo : takeDreq l (begin t s) = updLane l (fun v => { v with
      block := some (blockDrsp, stampOf v (tb64 (begin t s))), trips := v.trips + 1 }) (begin t s) :=
    if_pos (show (decide (2 ≤ l) && isLane l && laneTimed (begin t s) l) = true by
      rw [decide_eq_true hl2, isLane, decide_eq_true hl, show laneTimed (begin t s) l = true from ht]; rfl)
  rw [hexec]
  refine yields_act hs ?_
  rw [hgo, getLane_settle, getLane_updLane_same]
  refine ⟨rfl, rfl, fun m hm => ?_, leaves_of_lanesOnly rfl⟩
  rw [getLane_settle, getLane_updLane_other hm, getLane_begin]

theorem yields_timeDreqNone {a : Int} (h : l < 2 ∨ laneTimed s l = false) :
    Yields (exec (.timeDreq t l a) s) (fun u => Leaves t s u id) := by
  refine yields_same hs (i := .timeDreq t l a) (f := takeDreq l) rfl ?_
  have hno : (decide (2 ≤ l) && isLane l && laneTimed (begin t s) l) = false := by
    obtain h | h := h
    · rw [decide_eq_false (Nat.not_le.mpr h), Bool.false_and, Bool.false_and]
    · rw [show laneTimed (begin t s) l = false from h, Bool.and_false]
  exact if_neg (by rw [hno]; decide)

end

/-! ### SYNC on the stage lanes -/

/-- SYNC on stage lane `l`. -/
def syncOn (u : State) (l : Nat) : State :=
  if laneTimed u l then updLane l (fun v => { v with block := some (blockSync, stampOf v (tb64 u)) }) u else u

theorem sendSync_eq (s : State) : sendSync s = syncOn (syncOn s 2) 3 := rfl

theorem lanesOnly_syncOn (l : Nat) (s : State) : lanesOnly (syncOn s l) = lanesOnly s := by
  rw [syncOn]
  split
  · exact lanesOnly_updLane _ _ _
  · rfl

theorem getLane_syncOn_other {l m : Nat} (h : m ≠ l) (s : State) : getLane (syncOn s l) m = getLane s m := by
  rw [syncOn]
  split
  · exact getLane_updLane_other h _ _
  · rfl

theorem getLane_syncOn_timed {l : Nat} {s : State} (h : laneTimed s l = true) :
    (getLane (syncOn s l) l).block = some (blockSync, stampOf (getLane s l) (tb64 s)) := by
  rw [syncOn, if_pos h, getLane_updLane_same]

theorem getLane_syncOn_untimed {l : Nat} {s : State} (h : laneTimed s l = false) : syncOn s l = s := by
  rw [syncOn, if_neg (by rw [h]; decide)]

theorem yields_syncSend {t : Nat} (l : Nat) {s : State} (hs : awake t s = true) :
    Yields (exec (.syncSend t) s) (fun u => Leaves t s u lanesOnly ∧
      (l = 2 ∨ l = 3 → laneTimed s l = true → (getLane u l).block = some (0x96, stampOf (getLane s l) (tb64 (begin t s)))) ∧
      (laneTimed s l = false ∨ l < 2 → getLane u l = getLane s l)) := by
  have hexec : exec (.syncSend t) s = act t s sendSync := rfl
  have htb : tb64 (syncOn (begin t s) 2) = tb64 (begin t s) := eq_of_lanesOnly (lanesOnly_syncOn 2 _) tb64 fun _ => rfl
  rw [hexec]
  refine yields_act hs ?_
  rw [sendSync_eq, getLane_settle]
  refine ⟨leaves_of_lanesOnly ((lanesOnly_syncOn 3 _).trans (lanesOnly_syncOn 2 _)), fun hl ht => ?_, fun h => ?_⟩
  · obtain rfl | rfl := hl
    · rw [getLane_syncOn_other (by decide), getLane_syncOn_timed (show laneTimed (begin t s) 2 = true from ht)]
      rfl
    · have ht3 : laneTimed (syncOn (begin t s) 2) 3 = true := by
        rw [laneTimed, getLane_syncOn_other (by decide)]
        exact ht
      rw [getLane_syncOn_timed ht3, htb, getLane_syncOn_other (by decide)]
      rfl
  · have hstep : ∀ m x, getLane x l = getLane s l → (m = 2 ∨ m = 3) → getLane (syncOn x m) l = getLane s l := by
      intro m x hx hm
      by_cases hlm : l = m
      · subst hlm
        have hun : laneTimed x l = false := by
          rw [laneTimed, hx]
          obtain h | h := h
          · exact h
          · omega
        rw [getLane_syncOn_untimed hun, hx]
      · rw [getLane_syncOn_other hlm, hx]
    exact hstep 3 _ (hstep 2 _ (getLane_begin _ _ _) (.inl rfl)) (.inr rfl)

/-! ### The cue bus -/

section
variable {t : Nat} {s : State} (hs : awake t s = true)
include hs

theorem yields_busWord {k c x : Nat} {b : Bool} (hon : busOn s = true) (hok : busWordOk k c b x = true) :
    Yields (exec (.cueBusWord t k c b x) s) (fun u => u.sm.busCodes = s.sm.busCodes ++ [c % 256] ∧
      Leaves t s u (fun y => { y with sm := { y.sm with busCodes := [] } })) := by
  have hexec : exec (.cueBusWord t k c b x) s = act t s (busWord k c b x) := rfl
  have hgo : busWord k c b x (begin t s) =
      { begin t s with sm := { s.sm with busCodes := s.sm.busCodes ++ [c % 256] } } := by
    rw [busWord, show busOn (begin t s) = true from hon, hok]
    rfl
  rw [hexec]
  refine yields_act hs ?_
  rw [hgo, settle_sm]
  exact ⟨rfl, _, rfl, rfl⟩

theorem yields_busWordBad {k c x : Nat} {b : Bool} (hon : busOn s = true) (hbad : busWordOk k c b x = false) :
    Yields (exec (.cueBusWord t k c b x) s) (fun u => u.ln.cntCbErr = inc32 s.ln.cntCbErr ∧
      Leaves t s u (fun y => { y with ln := { y.ln with cntCbErr := 0 } })) := by
  have hexec : exec (.cueBusWord t k c b x) s = act t s (busWord k c b x) := rfl
  have hgo : busWord k c b x (begin t s) = { begin t s with ln := { s.ln with cntCbErr := inc32 s.ln.cntCbErr } } := by
    rw [busWord, show busOn (begin t s) = true from hon, hbad]
    rfl
  rw [hexec]
  refine yields_act hs ?_
  rw [hgo, settle_ln]
  exact ⟨rfl, _, rfl, rfl⟩

theorem yields_busWordOff {k c x : Nat} {b : Bool} (hoff : busOn s = false) :
    Yields (exec (.cueBusWord t k c b x) s) (fun u => Leaves t s u id) := by
  refine yields_same hs (i := .cueBusWord t k c b x) (f := busWord k c b x) rfl ?_
  rw [busWord, show busOn (begin t s) = false from hoff]
  rfl
end

/-- Settles O57, block by block, with the step and the slew of the timebase apart. -/
theorem timeAndCueBus : Obligations.TimeAndCueBus := by
  unfold Obligations.TimeAndCueBus
  intro t l s hs
  exact ⟨fun a hl ht => yields_timeSync hs hl ht, fun a h => yields_timeSyncNone hs h,
    fun a hl ht ha => yields_timeDrsp hs hl ht ha, fun a h => yields_timeDrspNone hs h,
    fun a hl2 hl ht => yields_timeDreq hs hl2 hl ht, fun a h => yields_timeDreqNone hs h, yields_syncSend l hs,
    fun k c b x hon hok => yields_busWord hs hon hok, fun k c b x hon hbad => yields_busWordBad hs hon hbad,
    fun k c b x hoff => yields_busWordOff hs hoff⟩

end Sys2Proof.Machine
end

section
/-! O58: what a conversion serves, and urgent readings (R421 to R429, R471). -/

namespace Sys2Proof.Machine

/-! ### Accumulators -/

theorem accOf_setAcc_other {v w : Nat} (h : v = 0 ↔ w ≠ 0) (i : Nat) (a : Accum) (s : State) :
    accOf (setAcc v i a s) w i = accOf s w i := by
  rw [accOf, accOf, setAcc]
  by_cases hv : v = 0
  · rw [if_neg (h.mp hv), if_neg (h.mp hv), if_pos hv]
  · have hw : w = 0 := by_contra fun hw => hv (h.mpr hw)
    rw [if_pos hw, if_pos hw, if_neg hv]

/-- The state but for housekeeping and the call board. -/
def offHk (s : State) : State := { s with hk := {}, cb := {}, recent := {} }

/-- Housekeeping went on, and no over-range sample counted. -/
def Housekept (s u : State) : Prop := u.hk.cntOvr = s.hk.cntOvr ∧ offHk u = offHk s

theorem Housekept.refl (s : State) : Housekept s s := ⟨rfl, rfl⟩

theorem Housekept.trans {s u w : State} (h : Housekept s u) (h' : Housekept u w) : Housekept s w :=
  ⟨h'.1.trans h.1, h'.2.trans h.2⟩

theorem Housekept.failingConv {s u : State} (h : Housekept s u) (v : Nat) : failingConv u v = failingConv s v := by
  have hrh := congrArg State.rh h.2
  rw [Machine.failingConv, Machine.failingConv, show u.rh = s.rh from hrh]

theorem housekept_setAcc (v i : Nat) (a : Accum) (s : State) : Housekept s (setAcc v i a s) := by
  rw [setAcc]
  split
  · exact ⟨rfl, rfl⟩
  · exact ⟨rfl, rfl⟩

theorem housekept_disagrees (far : Bool) (s : State) :
    Housekept s (if far then setEvent evDisagree { s with hk := { s.hk with cntDis := inc32 s.hk.cntDis } } else s) := by
  cases far
  · exact ⟨rfl, rfl⟩
  · exact ⟨rfl, rfl⟩

theorem housekept_published (v i : Nat) (s : State) : Housekept s (published v i s) := by
  rw [published]
  split
  · refine Housekept.trans (u := { noteValue (trackerAt v i) (accOf s v i).res s with hk := { s.hk with cntDis := inc32 s.hk.cntDis } })
      ⟨rfl, rfl⟩ ((housekept_setAcc v i _ _).trans ⟨rfl, rfl⟩)
  · exact ⟨rfl, rfl⟩

theorem housekept_comparePair (i : Nat) (s : State) : Housekept s (comparePair i s) := by
  rw [comparePair]
  split
  · have hpair := (housekept_setAcc 0 i { accOf s 0 i with
        fresh := false, dis := decide (4 * (hkInput s i).disagree < max (accOf s 0 i).res (accOf s 1 i).res -
          min (accOf s 0 i).res (accOf s 1 i).res) || failingConv s 0 } s).trans (housekept_setAcc 1 i { accOf s 1 i with
        fresh := false, dis := decide (4 * (hkInput s i).disagree < max (accOf s 0 i).res (accOf s 1 i).res -
          min (accOf s 0 i).res (accOf s 1 i).res) || failingConv s 1 } _)
    exact hpair.trans (housekept_disagrees _ _)
  · exact Housekept.refl s

/-- Publishing and comparing change nothing of an accumulator but these two marks. -/
def Marked (s : State) (v : Nat) (a b : Accum) : Prop :=
  ∃ f d, b = { a with fresh := f, dis := d } ∧ (failingConv s v = true → d = true)

theorem published_marks {v : Nat} (i : Nat) (s : State) : Marked s v (accOf s v i) (accOf (published v i s) v i) := by
  rw [published]
  split
  · refine ⟨(accOf s v i).fresh, true, ?_, fun _ => rfl⟩
    exact accOf_setAcc_same v i _ _
  · rename_i hno
    exact ⟨(accOf s v i).fresh, (accOf s v i).dis, rfl, fun h => absurd h hno⟩

theorem comparePair_marks {v : Nat} (hv : v < 2) (i : Nat) {s : State} (hdis : failingConv s v = true → (accOf s v i).dis = true) :
    Marked s v (accOf s v i) (accOf (comparePair i s) v i) := by
  rw [comparePair]
  split
  · generalize decide (4 * (hkInput s i).disagree < max (accOf s 0 i).res (accOf s 1 i).res -
      min (accOf s 0 i).res (accOf s 1 i).res) = far
    have hpair : ∀ a b : Accum, accOf (setAcc 1 i b (setAcc 0 i a s)) v i = if v = 0 then a else b := by
      intro a b
      by_cases h0 : v = 0
      · rw [if_pos h0, h0, accOf_setAcc_other (by decide), accOf_setAcc_same]
      · have h1 : v = 1 := by omega
        rw [if_neg h0, h1, accOf_setAcc_same]
    have hnoted : ∀ u : State, accOf (if far then setEvent evDisagree { u with hk := { u.hk with cntDis := inc32 u.hk.cntDis } }
        else u) v i = accOf u v i := by
      intro u
      split
      · rfl
      · rfl
    refine ⟨false, far || failingConv s v, ?_, fun h => by rw [h, Bool.or_true]⟩
    refine (hnoted _).trans ((hpair _ _).trans ?_)
    by_cases h0 : v = 0
    · rw [if_pos h0, h0]
    · have h1 : v = 1 := by omega
      rw [if_neg h0, h1]
  · exact ⟨(accOf s v i).fresh, (accOf s v i).dis, rfl, hdis⟩

theorem Marked.trans {s : State} {v : Nat} {a b c : Accum} (h : Marked s v a b) (h' : Marked s v b c) : Marked s v a c := by
  obtain ⟨f, d, rfl, -⟩ := h
  obtain ⟨g, e, rfl, he⟩ := h'
  exact ⟨g, e, rfl, he⟩

theorem Marked.dis {s : State} {v : Nat} {a b : Accum} (h : Marked s v a b) (hf : failingConv s v = true) : b.dis = true := by
  obtain ⟨f, d, rfl, hd⟩ := h
  exact hd hf

/-! ### A plan sample -/

theorem Accum.add_short {shift c : Nat} {o : Bool} {a : Accum} (h : a.count + 1 < 2 ^ shift) :
    a.add shift c o = ({ a with sum := a.sum + c, count := a.count + 1, ovrIn := a.ovrIn || o }, false) := if_pos h

theorem Accum.add_full {shift c : Nat} {o : Bool} {a : Accum} (h : 2 ^ shift ≤ a.count + 1) :
    a.add shift c o = ({ a with
        sum := 0, count := 0, ovrIn := false, valid := true, ovr := a.ovrIn || o, dis := false, res := 4 * (a.sum + c) / 2 ^ shift
        min := Min.min a.min (4 * (a.sum + c) / 2 ^ shift), max := Max.max a.max (4 * (a.sum + c) / 2 ^ shift), fresh := true },
      true) := if_neg (Nat.not_lt.mpr h)

/-- The sample enters the accumulator, and the next one is due a period later. -/
def sampleTaken (v i code : Nat) (o : Bool) (s : State) : State :=
  setAcc v i { ((accOf s v i).add (hkInput s i).accShift (sampleCode s v code o) o).1 with
    due := nextDue (countOvr o s) ((accOf s v i).add (hkInput s i).accShift (sampleCode s v code o) o).1 (hkInput s i).period }
    (countOvr o s)

theorem planSample_short {v i code : Nat} {o : Bool} {s : State} (hr : s.hk.restart.contains i = false)
    (h : (accOf s v i).count + 1 < 2 ^ (hkInput s i).accShift) : planSample v i code o s = sampleTaken v i code o s := by
  have hadd : ((accOf s v i).add (hkInput s i).accShift (sampleCode s v code o) o).2 = false := by rw [Accum.add_short h]
  have hrestart : restartInput i s = s := if_neg (by rw [hr]; decide)
  rw [planSample, hrestart]
  have hsame : ∀ x y z : State, (if ((accOf s v i).add (hkInput s i).accShift (sampleCode s v code o) o).2 &&
      (hkInput s i).conv == 2 then x else
        if ((accOf s v i).add (hkInput s i).accShift (sampleCode s v code o) o).2 then y else z) = z := by
    intro x y z
    rw [hadd]
    rfl
  exact hsame _ _ _

theorem planSample_full {v i code : Nat} {o : Bool} {s : State} (hr : s.hk.restart.contains i = false)
    (h : 2 ^ (hkInput s i).accShift ≤ (accOf s v i).count + 1) : planSample v i code o s =
      if (hkInput s i).conv == 2 then comparePair i (published v i (sampleTaken v i code o s))
      else published v i (sampleTaken v i code o s) := by
  have hadd : ((accOf s v i).add (hkInput s i).accShift (sampleCode s v code o) o).2 = true := by rw [Accum.add_full h]
  have hrestart : restartInput i s = s := if_neg (by rw [hr]; decide)
  rw [planSample, hrestart]
  have hsame : ∀ (f : State → State) (y z : State),
      (if ((accOf s v i).add (hkInput s i).accShift (sampleCode s v code o) o).2 && (hkInput s i).conv == 2 then
        f (if ((accOf s v i).add (hkInput s i).accShift (sampleCode s v code o) o).2 then y else z) else
        if ((accOf s v i).add (hkInput s i).accShift (sampleCode s v code o) o).2 then y else z) =
      if (hkInput s i).conv == 2 then f y else y := by
    intro f y z
    rw [hadd]
    rfl
  exact hsame (comparePair i) _ _

theorem offHk_sampleTaken (v i code : Nat) (o : Bool) (s : State) :
    (sampleTaken v i code o s).hk.cntOvr = satAdd 32 s.hk.cntOvr (bn o) ∧ offHk (sampleTaken v i code o s) = offHk s := by
  obtain ⟨hcount, hoff⟩ := housekept_setAcc v i { ((accOf s v i).add (hkInput s i).accShift (sampleCode s v code o) o).1 with
    due := nextDue (countOvr o s) ((accOf s v i).add (hkInput s i).accShift (sampleCode s v code o) o).1 (hkInput s i).period }
    (countOvr o s)
  exact ⟨hcount, hoff⟩

theorem accOf_sampleTaken (v i code : Nat) (o : Bool) (s : State) : ∃ d, accOf (sampleTaken v i code o s) v i =
    { ((accOf s v i).add (hkInput s i).accShift (sampleCode s v code o) o).1 with due := d } :=
  ⟨_, accOf_setAcc_same _ _ _ _⟩

/-- What a plan sample leaves: its count of over-range samples, and the rest of the state. -/
theorem planSample_rest {v i code : Nat} {o : Bool} {s : State} (hr : s.hk.restart.contains i = false) :
    (planSample v i code o s).hk.cntOvr = satAdd 32 s.hk.cntOvr (bn o) ∧ offHk (planSample v i code o s) = offHk s := by
  obtain ⟨hcount, hoff⟩ := offHk_sampleTaken v i code o s
  have hend : Housekept (sampleTaken v i code o s) (planSample v i code o s) := by
    by_cases h : (accOf s v i).count + 1 < 2 ^ (hkInput s i).accShift
    · rw [planSample_short hr h]
      exact Housekept.refl _
    · rw [planSample_full hr (Nat.not_lt.mp h)]
      split
      · exact (housekept_published v i _).trans (housekept_comparePair i _)
      · exact housekept_published v i _
  exact ⟨hend.1.trans hcount, hend.2.trans hoff⟩

theorem planSample_marks {v i code : Nat} {o : Bool} {s : State} (hv : v < 2) (hr : s.hk.restart.contains i = false)
    (h : 2 ^ (hkInput s i).accShift ≤ (accOf s v i).count + 1) :
    Marked s v (accOf (sampleTaken v i code o s) v i) (accOf (planSample v i code o s) v i) := by
  have hfail : ∀ u, Housekept (sampleTaken v i code o s) u → failingConv u v = failingConv s v := by
    intro u hu
    have htaken : failingConv (sampleTaken v i code o s) v = failingConv s v := by
      have hrh := congrArg State.rh (offHk_sampleTaken v i code o s).2
      rw [failingConv, failingConv, show (sampleTaken v i code o s).rh = s.rh from hrh]
    rw [hu.failingConv, htaken]
  have hmoved : ∀ {u : State} {a b : Accum}, Housekept (sampleTaken v i code o s) u → Marked u v a b → Marked s v a b := by
    intro u a b hu hm
    obtain ⟨f, d, hb, hd⟩ := hm
    exact ⟨f, d, hb, fun hf => hd ((hfail u hu).trans hf)⟩
  have hpub := published_marks (v := v) i (sampleTaken v i code o s)
  have hkept := housekept_published v i (sampleTaken v i code o s)
  have hfirst := hmoved (Housekept.refl _) hpub
  rw [planSample_full hr h]
  split
  · refine hfirst.trans (hmoved hkept (comparePair_marks hv i fun hf => ?_))
    exact hpub.dis ((hkept.failingConv v).symm.trans hf)
  · exact hfirst

/-! ### What a conversion serves -/

/-- The lead powers down, or has another conversion in the next slot. -/
def leadAfter (v : Nat) (more : Bool) (u : State) : State := if v = 0 then { u with hk := { u.hk with leadBusy := more } } else u

theorem conversion_due {v i code : Nat} {o m : Bool} {s : State} (h : mayConvert s v i = true) :
    conversion v i code o m s = leadAfter v m (serveConversion v i code o s) := if_pos h

theorem accOf_leadAfter (v w i : Nat) (m : Bool) (u : State) : accOf (leadAfter v m u) w i = accOf u w i := by
  rw [leadAfter]
  split
  · rfl
  · rfl

theorem leadAfter_rest (v : Nat) (m : Bool) (u : State) : Housekept u (leadAfter v m u) := by
  rw [leadAfter]
  split
  · exact ⟨rfl, rfl⟩
  · exact ⟨rfl, rfl⟩

/-- The lead's samples of the device's own, before the readback bits. -/
def ownSampled (i code : Nat) (o : Bool) (s : State) : State :=
  { s with hk := { s.hk with
      own := s.hk.own.set i code
      ownOvr := if o then firsts [] (s.hk.ownOvr ++ [i]) else s.hk.ownOvr.filter (fun x => x != i)
      therm := s.hk.therm.set i (tbUs s + ownPeriod s i) } }

theorem readbackOne_bat (i code : Nat) (s : State) :
    (i = 30 → (readbackOne i code s).bat.hsRb = above75 code) ∧ (i = 31 → (readbackOne i code s).bat.lsRb = below25 code) ∧
    (i ≠ 30 → (readbackOne i code s).bat.hsRb = s.bat.hsRb) ∧ (i ≠ 31 → (readbackOne i code s).bat.lsRb = s.bat.lsRb) ∧
    (readbackOne i code s).hk = s.hk ∧
    { readbackOne i code s with bat := { (readbackOne i code s).bat with hsRb := false, lsRb := false } } =
      { s with bat := { s.bat with hsRb := false, lsRb := false } } := by
  rw [readbackOne]
  split
  case isTrue h =>
    subst h
    exact ⟨fun _ => rfl, fun h => absurd h (by decide), fun h => absurd rfl h, fun _ => rfl, rfl, rfl⟩
  case isFalse h =>
    split
    case isTrue h' =>
      subst h'
      exact ⟨fun h => absurd h (by decide), fun _ => rfl, fun _ => rfl, fun h => absurd rfl h, rfl, rfl⟩
    case isFalse h' => exact ⟨fun hi => absurd hi h, fun hi => absurd hi h', fun _ => rfl, fun _ => rfl, rfl, rfl⟩

theorem mem_ownOvr (i code : Nat) (o : Bool) (s : State) : o = true ↔ i ∈ (ownSampled i code o s).hk.ownOvr := by
  cases o
  · have hout : (ownSampled i code false s).hk.ownOvr = s.hk.ownOvr.filter (fun x => x != i) := rfl
    rw [hout, List.mem_filter]
    simp
  · have hin : (ownSampled i code true s).hk.ownOvr = firsts [] (s.hk.ownOvr ++ [i]) := rfl
    rw [hin]
    exact ⟨fun _ => mem_firsts_nil (List.mem_append_right _ List.mem_cons_self), fun _ => rfl⟩

/-! ### The statement's clauses -/

theorem urgent_fields : ∀ i < 32, fld (word [(31, 1, 1), (0, 5, i)]) 4 0 = i ∧ flag (word [(31, 1, 1), (0, 5, i)]) 31 = true := by
  decide

theorem yields_conversionNone {t i : Nat} {s : State} (hs : awake t s = true) {v code : Nat} {o m : Bool} (h : 2 ≤ v ∨ mayConvert (begin t s) v i = false) :
    Yields (exec (.hkConversion t v i code o m) s) (fun u => Leaves t s u id) := by
  refine yields_same hs (i := .hkConversion t v i code o m)
    (f := fun u => if v < 2 && decide (i < 32) then conversion v i (code % 16384) o m u else u) rfl ?_
  obtain h | h := h
  · rw [decide_eq_false (Nat.not_lt.mpr h)]
    rfl
  · split
    · exact if_neg (by rw [h]; decide)
    · rfl

section
variable {t i : Nat} {s : State} (hs : awake t s = true) (hi : i < 32)
include hs hi

theorem yields_conversion {v code : Nat} {o m : Bool} {P : State → Prop} (hv : v < 2) (h : mayConvert (begin t s) v i = true)
    (hP : P (settle s (leadAfter v m (serveConversion v i (code % 16384) o (begin t s))))) :
    Yields (exec (.hkConversion t v i code o m) s) P := by
  have hexec : exec (.hkConversion t v i code o m) s = act t s (fun u =>
      if v < 2 && decide (i < 32) then conversion v i (code % 16384) o m u else u) := rfl
  rw [hexec]
  refine yields_act hs ?_
  rw [decide_eq_true hv, decide_eq_true hi, conversion_due h]
  exact hP

theorem yields_ownSample {code : Nat} {o m : Bool} (hd : ownDue (begin t s) i = true) (h : mayConvert (begin t s) 0 i = true) :
    Yields (exec (.hkConversion t 0 i code o m) s) (fun u =>
      u.hk.own.get 0 i = code % 16384 ∧ u.hk.leadBusy = m ∧ u.hk.therm.get 0 i = tbUs (begin t s) + ownPeriod s i ∧
      (i = 30 → u.bat.hsRb = above75 (code % 16384)) ∧ (i = 31 → u.bat.lsRb = below25 (code % 16384)) ∧
      (i ≠ 30 → u.bat.hsRb = s.bat.hsRb) ∧ (i ≠ 31 → u.bat.lsRb = s.bat.lsRb) ∧
      (o = true ↔ i ∈ u.hk.ownOvr) ∧ u.hk.lead = s.hk.lead ∧
      Leaves t s u (fun x => { x with hk := {}, bat := { x.bat with hsRb := false, lsRb := false } })) := by
  refine yields_conversion hs hi (by decide) h ?_
  have hserve : serveConversion 0 i (code % 16384) o (begin t s) =
      readbackOne i (code % 16384) (ownSampled i (code % 16384) o (begin t s)) :=
    if_pos (by rw [hd]; rfl)
  obtain ⟨hhigh, hlow, hhigh', hlow', hhk, hrest⟩ := readbackOne_bat i (code % 16384) (ownSampled i (code % 16384) o (begin t s))
  rw [hserve]
  generalize readbackOne i (code % 16384) (ownSampled i (code % 16384) o (begin t s)) = x at hhigh hlow hhigh' hlow' hhk hrest
  have hhk' : (leadAfter 0 m x).hk = { (ownSampled i (code % 16384) o (begin t s)).hk with leadBusy := m } := by
    rw [← hhk]
    rfl
  have hbat : (leadAfter 0 m x).bat = x.bat := rfl
  rw [settle_hk, settle_bat, hhk', hbat]
  refine ⟨Tab.get_set_same _ _ _ _, rfl, Tab.get_set_same _ _ _ _, hhigh, hlow, hhigh', hlow', mem_ownOvr i (code % 16384) o (begin t s), rfl, _, rfl, ?_⟩
  have hoff := congrArg (fun y : State => { y with hk := {}, recent := {} }) hrest
  exact hoff

theorem yields_planSample {v code : Nat} {o m : Bool} (hv : v < 2) (hown : v = 1 ∨ ownDue (begin t s) i = false)
    (hd : planDue (begin t s) v i = true) (h : mayConvert (begin t s) v i = true) (hr : s.hk.restart.contains i = false) :
    Yields (exec (.hkConversion t v i code o m) s) (fun u =>
      ((accOf s v i).count + 1 < 2 ^ (hkInput s i).accShift →
        (accOf u v i).sum = (accOf s v i).sum + sampleCode s v (code % 16384) o ∧
        (accOf u v i).count = (accOf s v i).count + 1 ∧ (accOf u v i).res = (accOf s v i).res) ∧
      (2 ^ (hkInput s i).accShift ≤ (accOf s v i).count + 1 →
        (accOf u v i).res = 4 * ((accOf s v i).sum + sampleCode s v (code % 16384) o) / 2 ^ (hkInput s i).accShift ∧
        (accOf u v i).valid = true ∧ (accOf u v i).count = 0 ∧
        (accOf u v i).sum = 0 ∧ (accOf u v i).ovr = ((accOf s v i).ovrIn || o) ∧
        (failingConv s v = true → (accOf u v i).dis = true) ∧
        (accOf u v i).min = min (accOf s v i).min
          (4 * ((accOf s v i).sum + sampleCode s v (code % 16384) o) / 2 ^ (hkInput s i).accShift) ∧
        (accOf u v i).max = max (accOf s v i).max
          (4 * ((accOf s v i).sum + sampleCode s v (code % 16384) o) / 2 ^ (hkInput s i).accShift)) ∧
      u.hk.cntOvr = satAdd 32 s.hk.cntOvr (bn o) ∧ Leaves t s u (fun x => { x with hk := {}, cb := {} })) := by
  refine yields_conversion hs hi hv h ?_
  have hserve : serveConversion v i (code % 16384) o (begin t s) = planSample v i (code % 16384) o (begin t s) := by
    have hno : ¬ (decide (v = 0) && ownDue (begin t s) i) = true := by
      obtain h1 | h0 := hown
      · rw [h1]
        simp
      · rw [h0, Bool.and_false]
        decide
    exact (if_neg hno).trans (if_pos hd)
  have hacc : ∀ u, accOf (settle s u) v i = accOf u v i := fun u => by rw [accOf, accOf, settle_hk]
  have hsame : accOf (begin t s) v i = accOf s v i := rfl
  obtain ⟨hcount, hoff⟩ := planSample_rest (v := v) (code := code % 16384) (o := o) (s := begin t s) hr
  obtain ⟨hkept, hrest⟩ := leadAfter_rest v m (planSample v i (code % 16384) o (begin t s))
  obtain ⟨d, htaken⟩ := accOf_sampleTaken v i (code % 16384) o (begin t s)
  rw [hserve]
  rw [hacc, accOf_leadAfter, settle_hk]
  refine ⟨fun hshort => ?_, fun hfull => ?_, hkept.trans hcount, _, rfl, ?_⟩
  · have hshort' : (accOf (begin t s) v i).count + 1 < 2 ^ (hkInput (begin t s) i).accShift := hshort
    rw [planSample_short (s := begin t s) hr hshort', htaken, Accum.add_short hshort']
    exact ⟨rfl, rfl, rfl⟩
  · have hfull' : 2 ^ (hkInput (begin t s) i).accShift ≤ (accOf (begin t s) v i).count + 1 := hfull
    obtain ⟨f, b, hmark, hb⟩ := planSample_marks (code := code % 16384) (o := o) (s := begin t s) hv hr hfull'
    rw [hmark, htaken, Accum.add_full hfull']
    exact ⟨rfl, rfl, rfl, rfl, rfl, hb, rfl, rfl⟩
  · exact hrest.trans hoff

theorem yields_urgentSample {code : Nat} {o m : Bool} (hown : ownDue (begin t s) i = false)
    (hplan : planDue (begin t s) 0 i = false) (hcue : cueTarget (begin t s) 0 i = none)
    (hcal : calConvWants (begin t s) 0 i = false) (h : mayConvert (begin t s) 0 i = true) (hleft : 0 < s.hk.urgLeft)
    (hnow : s.hk.urgNow = i) :
    Yields (exec (.hkConversion t 0 i code o m) s) (fun u =>
      u.hk.urgSum = s.hk.urgSum + sampleCode s 0 (code % 16384) o ∧ u.hk.urgLeft = s.hk.urgLeft - 1 ∧
      (s.hk.urgLeft = 1 → u.hk.urgBusy = false ∧ u.hk.urgResult = u.hk.urgSum) ∧
      (1 < s.hk.urgLeft → u.hk.urgBusy = true ∧ u.hk.urgResult = s.hk.urgResult) ∧
      Leaves t s u (fun x => { x with hk := {} })) := by
  refine yields_conversion hs hi (by decide) h ?_
  have hserve : serveConversion 0 i (code % 16384) o (begin t s) = urgentSample 0 (code % 16384) o (begin t s) := by
    rw [serveConversion, hown, hplan, hcue]
    dsimp only
    rw [hcal, Bool.and_false, if_neg (by decide), if_neg (by decide), if_neg (by decide)]
    exact if_pos (by
      rw [show (begin t s).hk.urgLeft = s.hk.urgLeft from rfl, show (begin t s).hk.urgNow = i from hnow, decide_eq_true hleft]
      simp)
  rw [hserve, settle_hk]
  refine ⟨rfl, rfl, fun h1 => ⟨?_, ?_⟩, fun h1 => ⟨?_, ?_⟩, _, rfl, rfl⟩
  · exact decide_eq_false (by rw [show (begin t s).hk.urgLeft = 1 from h1]; decide)
  · exact if_pos (by rw [show (begin t s).hk.urgLeft = 1 from h1])
  · exact decide_eq_true (Nat.sub_pos_of_lt h1)
  · exact if_neg (Nat.sub_ne_zero_of_lt h1)

theorem yields_urgentRequest {p : Path} {P : State → Prop} (hp : p ≠ .tap)
    (hP : P (settle s (urgentGo i { begin t s with hk := { s.hk with urgInput := i } }))) :
    Yields (exec (.hkUrgentRequest t p i) s) P := by
  have hexec : exec (.hkUrgentRequest t p i) s = act t s (onPath p (urgentWrite (word [(31, 1, 1), (0, 5, i)]))) := rfl
  obtain ⟨hfld, hgo⟩ := urgent_fields i hi
  rw [hexec]
  refine yields_act hs ?_
  rw [onPath_of_ne hp, urgentWrite, hfld, hgo]
  exact hP

theorem yields_urgentDropped {p : Path} (hp : p ≠ .tap) (hidle : leadIdle (begin t s) = false) :
    Yields (exec (.hkUrgentRequest t p i) s) (fun u =>
      u.hk.urgDropped = true ∧ u.hk.cntDrop = inc32 s.hk.cntDrop ∧ u.hk.urgBusy = s.hk.urgBusy ∧
      u.hk.urgLeft = s.hk.urgLeft ∧ u.hk.urgNow = s.hk.urgNow ∧ u.hk.urgInput = i ∧
      Leaves t s u (fun x => { x with hk := {} })) := by
  refine yields_urgentRequest hs hi hp ?_
  have hidle' : leadIdle { begin t s with hk := { s.hk with urgInput := i } } = false := hidle
  rw [urgentGo, hidle', settle_hk]
  exact ⟨rfl, rfl, rfl, rfl, rfl, rfl, _, rfl, rfl⟩

theorem yields_urgentTaken {p : Path} (hp : p ≠ .tap) (hidle : leadIdle (begin t s) = true) :
    Yields (exec (.hkUrgentRequest t p i) s) (fun u =>
      u.hk.urgBusy = true ∧ u.hk.urgDropped = false ∧ u.hk.urgNow = i ∧ u.hk.urgInput = i ∧ u.hk.urgLeft = 4 ∧
      u.hk.urgSum = 0 ∧ u.hk.cntDrop = s.hk.cntDrop ∧ Leaves t s u (fun x => { x with hk := {} })) := by
  refine yields_urgentRequest hs hi hp ?_
  have hidle' : leadIdle { begin t s with hk := { s.hk with urgInput := i } } = true := hidle
  rw [urgentGo, hidle', settle_hk]
  exact ⟨rfl, rfl, rfl, rfl, rfl, rfl, rfl, _, rfl, rfl⟩
end

/-- Settles O58, by what a conversion whose turn has come serves. -/
theorem converters : Obligations.Converters := by
  unfold Obligations.Converters
  intro t i code o m p s hs hp hi
  exact ⟨fun hd h => yields_ownSample hs hi hd h,
    fun v hv hown hd h hr => yields_planSample hs hi hv hown hd h hr,
    fun hown hplan hcue hcal h hleft hnow => yields_urgentSample hs hi hown hplan hcue hcal h hleft hnow,
    fun v h => yields_conversionNone hs h, fun hidle => yields_urgentDropped hs hi hp hidle,
    fun hidle => yields_urgentTaken hs hi hp hidle⟩

end Sys2Proof.Machine
end

section
/-! O59: auxiliary turns and the 4-20 mA loop (R431 to R440). -/

namespace Sys2Proof.Machine

/-! ### A turn -/

theorem claimSource_keeps {α : Type} (f : State → α) (hf : ∀ x, f (unserved x) = f x) (r : AuxInput) (s : State) :
    f (claimSource r s) = f s := by
  rw [claimSource]
  split
  · exact serve_keeps f hf _ _ s
  · rfl

/-- The bit of the record's source. -/
def sourceBit (r : AuxInput) : BitVec 4 :=
  match sourceOf r with
  | some k => 1#4 <<< k
  | none => 0

/-- What the make of input `n`'s turn sets. -/
structure Begun (r : AuxInput) (s u : State) : Prop where
  turn : u.hk.turn = s.hk.turn
  makeAt : u.hk.makeAt = none
  samples : u.hk.samples = notchSamples r.notch
  taken : u.hk.taken = 0
  auxSum : u.hk.auxSum = 0
  second : u.hk.second = false
  excI : u.hk.excI = r.excI
  excOn : u.hk.excOn = sourceBit r
  excBad : u.hk.excBad = []
  img : u.img = s.img

theorem beginTurn_begun (n : Nat) (r : AuxInput) (s : State) : Begun r s (beginTurn n r s) where
  turn := claimSource_keeps (fun u => u.hk.turn) (fun _ => rfl) r s
  makeAt := rfl
  samples := rfl
  taken := rfl
  auxSum := rfl
  second := rfl
  excI := rfl
  excOn := rfl
  excBad := rfl
  img := claimSource_keeps State.img (fun _ => rfl) r s

/-- The previous source breaks, and the make follows 25 µs later. -/
def turnBroken (n : Option Nat) (s : State) : State :=
  { s with hk := { s.hk with turn := nextTurn s n, excOn := 0, turnRec := none
                             makeAt := (nextTurn s n).map (fun _ => s.now + 25 * usTicks) } }

theorem moveTurn_hk (n : Option Nat) (s : State) : (moveTurn n s).hk = (turnBroken n s).hk := by
  rw [moveTurn]
  split
  · exact claimSource_keeps State.hk (fun _ => rfl) _ _
  · rfl

theorem auxMade_waits {s : State} (h : s.hk.turn = none ∨ s.hk.makeAt = none ∨ ∃ m, s.hk.makeAt = some m ∧ s.now < m) :
    auxMade s = s := by
  rw [auxMade]
  split
  · rename_i n m hturn hmake
    obtain h | h | ⟨x, h, hlt⟩ := h
    · exact absurd (h.symm.trans hturn) (by simp)
    · exact absurd (h.symm.trans hmake) (by simp)
    · have hx : m = x := Option.some_inj.mp (hmake.symm.trans h)
      rw [if_neg (by omega)]
  · rfl

theorem auxMade_begins {n m : Nat} {r : AuxInput} {s : State} (hturn : s.hk.turn = some n) (hmake : s.hk.makeAt = some m)
    (hm : m ≤ s.now) (hrec : s.hk.turnRec = none) (hr : auxRec s n = some r) : auxMade s = beginTurn n r s := by
  rw [auxMade, hturn, hmake]
  dsimp only
  rw [if_pos hm, hrec, hr]
  rfl

/-! ### Intermediate samples -/

/-- A new EXC_I takes effect. -/
def currentSet (r : AuxInput) (s : State) : State :=
  if r.excI = s.hk.excI then s else { s with hk := { s.hk with excI := r.excI, disturbed := true } }

/-- The monitor has looked at the source in use. -/
def monitored (n : Nat) (r : AuxInput) (current : List Nat) (compliance : List Bool) (s : State) : State :=
  match sourceOf r with
  | some k => monitor n k (current.getD k 0) (compliance.getD k false) (currentSet r s)
  | none => currentSet r s

/-- A sample counts, or is one of the three discarded. -/
def sampleCounted (code : Int) (ovr : Bool) (s : State) : State :=
  if 3 + s.hk.samples ≤ s.hk.taken then s
  else if s.hk.taken < 3 then { s with hk := { s.hk with taken := s.hk.taken + 1 } }
  else { s with hk := { s.hk with taken := s.hk.taken + 1, auxSum := s.hk.auxSum + code, auxOvr := s.hk.auxOvr || ovr } }

theorem auxIntermediate_eq (n : Nat) (r : AuxInput) (code : Int) (ovr : Bool) (current : List Nat) (compliance : List Bool)
    (s : State) : auxIntermediate n r code ovr current compliance s =
      sampleCounted code ovr (monitored n r current compliance s) := rfl

theorem sampleCounted_keeps {α : Type} (f : State → α) (hf : ∀ s a b c,
    f { s with hk := { s.hk with taken := a, auxSum := b, auxOvr := c } } = f s) (code : Int) (ovr : Bool) (s : State) :
    f (sampleCounted code ovr s) = f s := by
  rw [sampleCounted]
  split
  · rfl
  · split
    · exact hf s _ s.hk.auxSum s.hk.auxOvr
    · exact hf s _ _ _

/-- A source that delivers its current, at a fresh count, stays on. -/
theorem monitor_sound (n k nA : Nat) {s : State} (hbad : s.hk.excBad = []) :
    ∃ bad now, monitor n k nA false s = { s with hk := { s.hk with excBad := bad, measured := now } } := by
  rw [monitor]
  split
  · exact ⟨s.hk.excBad, s.hk.measured, rfl⟩
  · refine ⟨_, _, if_neg ?_⟩
    have hget : s.hk.excBad.get 0 k = 0 := by rw [hbad]; rfl
    rw [hget, Bool.false_or]
    split
    · decide
    · decide

theorem auxTake_samples {n : Nat} {r : AuxInput} {c : Int} {o : Bool} {k : List Nat} {g : List Bool} {s u : State}
    (hmade : auxMade s = u) (hturn : u.hk.turn = some n) (hmake : u.hk.makeAt = none) (hr : auxRec u n = some r) :
    auxTake c o k g s = sampleCounted c o (monitored n r k g u) := by
  rw [auxTake, hmade, hturn]
  dsimp only
  rw [hr]
  dsimp only
  rw [hmake]
  exact if_neg (by decide)

theorem noteWorst_hk (s : State) : (noteWorst s).hk = s.hk := rfl

theorem noteWorst_event (s : State) : (noteWorst s).cb = s.cb := rfl

theorem excFails_fault {n e : Nat} (he : e < 4) (s : State) :
    (excFails n e s).hk.excOn.getLsbD e = false ∧ (excFails n e s).hk.excFault.getLsbD e = true ∧
    ((excFails n e s).hk.aux.get {} n).excFault = true ∧ (excFails n e s).hk.disturbed = true ∧
    (excFails n e s).cb.event.getLsbD evAuxFault = true := by
  have hbit : (1#4 <<< e).getLsbD e = true := by simp [he]
  have hon : (excFails n e s).hk.excOn = s.hk.excOn &&& ~~~(1#4 <<< e) := rfl
  have hfault : (excFails n e s).hk.excFault = s.hk.excFault ||| (1#4 <<< e) := rfl
  have haux : (excFails n e s).hk.aux =
      s.hk.aux.upd {} n (fun a => { a with excFault := true, broken := true, setBroken := true }) := rfl
  refine ⟨?_, ?_, ?_, rfl, setEvent_event _ (by decide) _⟩
  · rw [hon, BitVec.getLsbD_and, BitVec.getLsbD_not, hbit]
    simp
  · rw [hfault, BitVec.getLsbD_or, hbit, Bool.or_true]
  · rw [haux, Tab.get_upd_same]

/-! ### The end of a measurement -/

theorem auxGather_hk (n : Nat) (a : AuxOut) (s : State) : calm (auxGather n a s) = calm s := by
  rw [auxGather]
  split
  · rfl
  · exact foldl_keeps calm _ (fun u p => (hkIfFull_tidy _ _ _ _).calm.trans (hkUpd_tidy _ _ _ _).calm) _ s

/-- The output stands, before the cues that gather it and the move of the turn. -/
def outputSet (n : Nat) (r : AuxInput) (s : State) : State :=
  { s with free := s.free + 4, hk := { s.hk with aux := s.hk.aux.set n (auxOutput s n r (s.hk.aux.get {} n)) } }

theorem nextTurn_of_img {s u : State} (h : u.img = s.img) (n : Option Nat) : nextTurn u n = nextTurn s n := by
  have hrec : auxRec u = auxRec s := funext fun k => by rw [auxRec, auxRec, hkPlan, hkPlan, h]
  have henabled : auxEnabled u = auxEnabled s := funext fun k => by rw [auxEnabled, auxEnabled, hrec]
  unfold nextTurn
  rw [henabled]

theorem auxPublish_hk (n : Nat) (r : AuxInput) (s : State) :
    (auxPublish n r s).hk.aux = s.hk.aux.set n (auxOutput s n r (s.hk.aux.get {} n)) ∧
    (auxPublish n r s).hk.turn = nextTurn s (some n) ∧ (auxPublish n r s).hk.excOn = 0 := by
  have hcalm : calm (noteWorst (auxGather n (auxOutput s n r (s.hk.aux.get {} n)) (outputSet n r s))) = calm (outputSet n r s) :=
    (noteWorst_calm _).trans (auxGather_hk _ _ _)
  have hpublish : auxPublish n r s = moveTurn (some n) (noteWorst (auxGather n (auxOutput s n r (s.hk.aux.get {} n))
    (outputSet n r s))) := rfl
  rw [hpublish]
  generalize noteWorst (auxGather n (auxOutput s n r (s.hk.aux.get {} n)) (outputSet n r s)) = x at hcalm
  have hhk := congrArg State.hk hcalm
  have himg := congrArg State.img hcalm
  have hx : x.hk = (outputSet n r s).hk := hhk
  have hxi : x.img = s.img := himg
  rw [moveTurn_hk]
  refine ⟨?_, ?_, rfl⟩
  · have haux : (turnBroken (some n) x).hk.aux = x.hk.aux := rfl
    rw [haux, hx]
    rfl
  · exact nextTurn_of_img (show x.img = s.img from hxi) (some n)

theorem auxEnd_complete {n : Nat} {r : AuxInput} {s : State} (hturn : s.hk.turn = some n) (hmake : s.hk.makeAt = none)
    (hr : auxRec s n = some r) (hfull : 3 + s.hk.samples ≤ s.hk.taken) : auxEnd s =
    if (s.hk.aux.get {} n).wiring = 1 && !s.hk.second then
      { s with hk := { s.hk with
          vLead := auxVolts s (s.hk.aux.get {} n) s.hk.samples, second := true, taken := 0, auxSum := 0
          samples := notchSamples r.notch } }
    else auxPublish n r s := by
  rw [auxEnd, hturn]
  dsimp only
  rw [hr]
  refine if_neg ?_
  rw [hmake]
  simp only [Option.isSome_none, Bool.false_eq_true, false_or]
  exact Nat.not_lt.mpr hfull

/-! ### The statement's clauses on turns -/

section
variable {t : Nat} {s : State} (hs : awake t s = true) {n : Nat} (hturn : s.hk.turn = some n)
include hs hturn

theorem yields_auxCounted {r : AuxInput} {c : Int} {o : Bool} {k : List Nat} {g : List Bool} (hmake : s.hk.makeAt = none)
    (hr : auxRec s n = some r) (hexc : r.excI = s.hk.excI) (hsrc : sourceOf r = none) :
    Yields (exec (.auxSample t c o k g) s) (fun u =>
      (s.hk.taken < 3 → u.hk.taken = s.hk.taken + 1 ∧ u.hk.auxSum = s.hk.auxSum) ∧
      (3 ≤ s.hk.taken → s.hk.taken < 3 + s.hk.samples →
        u.hk.taken = s.hk.taken + 1 ∧ u.hk.auxSum = s.hk.auxSum + c ∧ u.hk.auxOvr = (s.hk.auxOvr || o)) ∧
      (3 + s.hk.samples ≤ s.hk.taken → u.hk = s.hk) ∧
      Leaves t s u (fun x => { x with hk := { x.hk with taken := 0, auxSum := 0, auxOvr := false } })) := by
  have hexec : exec (.auxSample t c o k g) s = act t s (auxTake c o k g) := rfl
  have hmade : auxMade (begin t s) = begin t s := auxMade_waits (.inr (.inl hmake))
  have hmon : monitored n r k g (begin t s) = begin t s := by
    rw [monitored, hsrc]
    exact if_pos hexc
  rw [hexec]
  refine yields_act hs ?_
  rw [auxTake_samples hmade hturn hmake hr, hmon, settle_hk, sampleCounted, begin_hk]
  refine ⟨fun h => ?_, fun h3 hlt => ?_, fun hle => ?_, _, rfl, ?_⟩
  · rw [if_neg (by omega), if_pos h]
    exact ⟨rfl, rfl⟩
  · rw [if_neg (by omega), if_neg (by omega)]
    exact ⟨rfl, rfl, rfl⟩
  · rw [if_pos hle]
    rfl
  · split
    · rfl
    · split
      · rfl
      · rfl

theorem yields_auxLimit {r : AuxInput} {c : Int} {o : Bool} {k : List Nat} {g : List Bool} {e : Nat}
    (hmake : s.hk.makeAt = none) (hr : auxRec s n = some r) (hsrc : sourceOf r = some e) (he : e < 4)
    (hon : s.hk.excOn.getLsbD e = true) (hg : g.getD e false = true) :
    Yields (exec (.auxSample t c o k g) s) (fun u =>
      u.hk.excOn.getLsbD e = false ∧ u.hk.excFault.getLsbD e = true ∧ (u.hk.aux.get {} n).excFault = true ∧
      u.hk.disturbed = true ∧ u.cb.event.getLsbD evAuxFault = true) := by
  have hexec : exec (.auxSample t c o k g) s = act t s (auxTake c o k g) := rfl
  have hmade : auxMade (begin t s) = begin t s := auxMade_waits (.inr (.inl hmake))
  have hset : (currentSet r (begin t s)).hk.excOn = s.hk.excOn := by
    rw [currentSet]
    split
    · rfl
    · rfl
  have hmon : ∃ x, monitored n r k g (begin t s) = excFails n e x := by
    rw [monitored, hsrc]
    dsimp only
    rw [monitor, hset, hon, hg]
    exact ⟨_, (if_neg (by decide)).trans (if_pos rfl)⟩
  obtain ⟨x, hmon⟩ := hmon
  obtain ⟨hoff, hfault, haux, hdist, hev⟩ := excFails_fault (n := n) he x
  rw [hexec]
  refine yields_act hs ?_
  rw [auxTake_samples hmade hturn hmake hr, hmon, settle_hk]
  refine ⟨?_, ?_, ?_, ?_, settle_keeps_event ?_⟩
  · exact (sampleCounted_keeps (fun u => u.hk.excOn.getLsbD e) (fun _ _ _ _ => rfl) c o _).trans hoff
  · exact (sampleCounted_keeps (fun u => u.hk.excFault.getLsbD e) (fun _ _ _ _ => rfl) c o _).trans hfault
  · exact (sampleCounted_keeps (fun u => (u.hk.aux.get {} n).excFault) (fun _ _ _ _ => rfl) c o _).trans haux
  · exact (sampleCounted_keeps (fun u => u.hk.disturbed) (fun _ _ _ _ => rfl) c o _).trans hdist
  · exact (sampleCounted_keeps (fun u => u.cb.event.getLsbD evAuxFault) (fun _ _ _ _ => rfl) c o _).trans hev

theorem yields_auxBroken {c : Int} {o : Bool} {k : List Nat} {g : List Bool} {m : Nat} (hmake : s.hk.makeAt = some m)
    (hm : max s.now t < m) (hr : auxRec s n ≠ none) :
    Yields (exec (.auxSample t c o k g) s) (fun u => Leaves t s u id) := by
  refine yields_same hs (i := .auxSample t c o k g) (f := auxTake c o k g) rfl ?_
  obtain ⟨r, hr⟩ := Option.ne_none_iff_exists'.mp hr
  rw [auxTake, auxMade_waits (s := begin t s) (.inr (.inr ⟨m, hmake, hm⟩)), begin_hk, hturn]
  dsimp only
  rw [show auxRec (begin t s) n = some r from hr]
  dsimp only
  rw [hmake]
  rfl

theorem yields_auxMake {c : Int} {o : Bool} {k : List Nat} {g : List Bool} {m : Nat} {r : AuxInput}
    (hmake : s.hk.makeAt = some m) (hm : m ≤ max s.now t) (hrec : s.hk.turnRec = none) (hr : auxRec s n = some r)
    (hg : ∀ e, sourceOf r = some e → g.getD e false = false) :
    Yields (exec (.auxSample t c o k g) s) (fun u => u.hk.turn = some n ∧ u.hk.makeAt = none ∧ u.hk.taken = 1 ∧
      u.hk.auxSum = 0 ∧ u.hk.second = false ∧ u.hk.samples = notchSamples r.notch ∧ u.hk.excI = r.excI ∧
      u.hk.excOn = sourceBit r) := by
  have hexec : exec (.auxSample t c o k g) s = act t s (auxTake c o k g) := rfl
  have hmade : auxMade (begin t s) = beginTurn n r (begin t s) := auxMade_begins hturn hmake hm hrec hr
  have hb := beginTurn_begun n r (begin t s)
  generalize beginTurn n r (begin t s) = x at hmade hb
  have hrx : auxRec x n = some r := by
    rw [auxRec, hkPlan, hb.img]
    exact hr
  have hset : currentSet r x = x := if_pos hb.excI.symm
  have hmon : ∃ bad now, monitored n r k g x = { x with hk := { x.hk with excBad := bad, measured := now } } := by
    rw [monitored, hset]
    split
    case h_1 e hsrc =>
      rw [hg e hsrc]
      exact monitor_sound n e _ hb.excBad
    case h_2 => exact ⟨x.hk.excBad, x.hk.measured, rfl⟩
  obtain ⟨bad, now, hmon⟩ := hmon
  have hcount : sampleCounted c o { x with hk := { x.hk with excBad := bad, measured := now } } =
      { x with hk := { x.hk with excBad := bad, measured := now, taken := 1 } } := by
    rw [sampleCounted]
    dsimp only
    rw [hb.taken, if_neg (by omega), if_pos (by decide)]
  rw [hexec]
  refine yields_act hs ?_
  rw [auxTake_samples hmade (hb.turn.trans hturn) hb.makeAt hrx, hmon, hcount, settle_hk]
  exact ⟨hb.turn.trans hturn, hb.makeAt, rfl, hb.auxSum, hb.second, hb.samples, hb.excI, hb.excOn⟩

theorem yields_auxEndNone (hr : auxRec s n ≠ none) (h : s.hk.makeAt ≠ none ∨ s.hk.taken < 3 + s.hk.samples) :
    Yields (exec (.auxMeasurementEnd t) s) (fun u => Leaves t s u id) := by
  refine yields_same hs (i := .auxMeasurementEnd t) (f := auxEnd) rfl ?_
  obtain ⟨r, hr⟩ := Option.ne_none_iff_exists'.mp hr
  rw [auxEnd, begin_hk, hturn]
  dsimp only
  rw [show auxRec (begin t s) n = some r from hr]
  refine if_pos ?_
  rw [Option.isSome_iff_ne_none]
  exact h

section
variable {r : AuxInput} (hmake : s.hk.makeAt = none) (hr : auxRec s n = some r) (hfull : 3 + s.hk.samples ≤ s.hk.taken)
include hmake hr hfull

theorem yields_auxFirst (hw : (s.hk.aux.get {} n).wiring = 1) (hsec : s.hk.second = false) :
    Yields (exec (.auxMeasurementEnd t) s) (fun u =>
      u.hk.second = true ∧ u.hk.taken = 0 ∧ u.hk.auxSum = 0 ∧ u.hk.turn = some n ∧ u.hk.aux = s.hk.aux ∧
      u.hk.samples = notchSamples r.notch ∧ Leaves t s u (fun x => { x with hk := {} })) := by
  have hexec : exec (.auxMeasurementEnd t) s = act t s auxEnd := rfl
  rw [hexec]
  refine yields_act hs ?_
  rw [auxEnd_complete (s := begin t s) hturn hmake hr hfull, if_pos (by rw [begin_hk, hw, hsec]; rfl), settle_hk]
  exact ⟨rfl, rfl, rfl, hturn, rfl, rfl, _, rfl, rfl⟩

theorem yields_auxOutput (h : (s.hk.aux.get {} n).wiring ≠ 1 ∨ s.hk.second = true) :
    Yields (exec (.auxMeasurementEnd t) s) (fun u =>
      (u.hk.aux.get {} n).valid = true ∧ (u.hk.aux.get {} n).unsettled = s.hk.disturbed ∧
      (u.hk.aux.get {} n).ovr = s.hk.auxOvr ∧ u.hk.turn = nextTurn s (some n) ∧ u.hk.excOn = 0 ∧
      (s.hk.disturbed = true → (u.hk.aux.get {} n).settled = (s.hk.aux.get {} n).settled ∧
        (u.hk.aux.get {} n).temp = (s.hk.aux.get {} n).temp ∧
        (u.hk.aux.get {} n).setBroken = (s.hk.aux.get {} n).setBroken)) := by
  have hexec : exec (.auxMeasurementEnd t) s = act t s auxEnd := rfl
  have hlast : ¬ (decide (((begin t s).hk.aux.get {} n).wiring = 1) && !(begin t s).hk.second) = true := by
    rw [begin_hk]
    obtain h | h := h
    · rw [decide_eq_false h]
      simp
    · rw [h]
      simp
  obtain ⟨haux, hnext, hoff⟩ := auxPublish_hk n r (begin t s)
  rw [hexec]
  refine yields_act hs ?_
  rw [auxEnd_complete (s := begin t s) hturn hmake hr hfull, if_neg hlast, settle_hk, haux, Tab.get_set_same]
  refine ⟨rfl, rfl, rfl, hnext, hoff, fun hd => ⟨if_pos hd, if_pos hd, if_pos hd⟩⟩
end
end

theorem yields_auxStart {t n : Nat} {s : State} (hs : awake t s = true) {c : Int} {o : Bool} {k : List Nat} {g : List Bool}
    (hturn : s.hk.turn = none) (hnext : nextTurn s none = some n) :
    Yields (exec (.auxSample t c o k g) s) (fun u => u.hk.turn = some n ∧ u.hk.excOn = 0 ∧
      u.hk.makeAt = some (max s.now t + 25 * usTicks)) := by
  have hexec : exec (.auxSample t c o k g) s = act t s (auxTake c o k g) := rfl
  have hgo : auxTake c o k g (begin t s) = moveTurn none (begin t s) := by
    rw [auxTake, auxMade_waits (s := begin t s) (.inl hturn), begin_hk, hturn]
  have hnext' : nextTurn (begin t s) none = some n := hnext
  rw [hexec]
  refine yields_act hs ?_
  rw [hgo, settle_hk, moveTurn_hk, turnBroken, hnext']
  exact ⟨rfl, rfl, rfl⟩

/-! ### The 4-20 mA loop -/

/-- A whole quotient stays, and any other goes to one of its two neighbours. -/
theorem roundFree_div (s : State) (x d : Nat) (hd : 0 < d) :
    (roundFree s ((x : Rat) / (d : Rat))).toNat = x / d ∨
    (x % d ≠ 0 ∧ (roundFree s ((x : Rat) / (d : Rat))).toNat = x / d + 1) := by
  have hfloor : ((x : Rat) / (d : Rat)).floor = ((x / d : Nat) : Int) := by
    have h := Rat.floor_intCast_div_natCast (x : Int) d
    rw [Int.cast_natCast] at h
    exact h.trans (Int.natCast_div x d).symm
  have hround : roundFree s ((x : Rat) / (d : Rat)) = ((x : Rat) / (d : Rat)).floor ∨
      (((x : Rat) / (d : Rat)).den ≠ 1 ∧ roundFree s ((x : Rat) / (d : Rat)) = ((x : Rat) / (d : Rat)).floor + 1) := by
    rw [roundFree]
    split
    case isTrue h =>
      left
      simp [Rat.floor, h]
    case isFalse h =>
      obtain hz | ho := Nat.mod_two_eq_zero_or_one (freeValue s)
      · left
        rw [hz]
        simp
      · right
        rw [ho]
        exact ⟨h, rfl⟩
  obtain h | ⟨hden, h⟩ := hround
  · left
    rw [h, hfloor]
    rfl
  · right
    refine ⟨fun hzero => hden ?_, ?_⟩
    · obtain ⟨q, rfl⟩ := Nat.dvd_of_mod_eq_zero hzero
      have hd' : (d : Rat) ≠ 0 := Nat.cast_ne_zero.mpr (Nat.ne_of_gt hd)
      have hq : ((d * q : Nat) : Rat) / (d : Rat) = (q : Rat) := by
        rw [Nat.cast_mul]
        exact mul_div_cancel_left₀ _ hd'
      rw [hq]
      exact Rat.den_natCast q
    · rw [h, hfloor]
      generalize x / d = q
      omega

theorem loopFaultLevel_cases (s : State) (q : Nat) : loopFaultLevel s q = 3500 ∨ loopFaultLevel s q = 21500 := by
  rw [loopFaultLevel]
  split
  · exact .inl rfl
  · exact .inr rfl

theorem clampInt_bounds {lo hi : Int} (h : lo ≤ hi) (x : Int) : lo ≤ clampInt lo hi x ∧ clampInt lo hi x ≤ hi :=
  ⟨le_max_left _ _, max_le h (min_le_left _ _)⟩

theorem loopCurrent_bounds (s : State) (r : LoopRec) (v : Int) : 3800 ≤ loopCurrent s r v ∧ loopCurrent s r v ≤ 20500 := by
  have hclamp : ∀ x, 3800 ≤ (clampInt 3800 20500 x).toNat ∧ (clampInt 3800 20500 x).toNat ≤ 20500 := by
    intro x
    have hb := clampInt_bounds (lo := 3800) (hi := 20500) (by decide) x
    omega
  exact hclamp _

/-- A loop current lies in its range for a sound source, and at a fault level otherwise. -/
theorem loopDrive_cases (s : State) :
    ((loopDrive s).2 = false → 3800 ≤ (loopDrive s).1 ∧ (loopDrive s).1 ≤ 20500) ∧
    ((loopDrive s).2 = true → (loopDrive s).1 = 3500 ∨ (loopDrive s).1 = 21500) ∧
    (s.hk.loopFault = true ∨ s.img.active = none → (loopDrive s).2 = true) := by
  rw [loopDrive]
  split
  case h_1 => exact ⟨fun h => (nomatch h), fun _ => loopFaultLevel_cases s _, fun _ => rfl⟩
  case h_2 i hi =>
    dsimp only
    split
    case isTrue h => exact ⟨fun h => (nomatch h), fun _ => loopFaultLevel_cases s _, fun _ => rfl⟩
    case isFalse h =>
      refine ⟨fun _ => loopCurrent_bounds s _ _, fun h => (nomatch h), fun hbad => ?_⟩
      obtain hbad | hbad := hbad
      · exact absurd (.inr (.inr hbad)) h
      · exact absurd (hi.symm.trans hbad) (by simp)

/-- The state but for what a loop update moves. -/
def offLoop (s : State) : State := { s with free := 0, cb := {}, hk := {}, recent := {} }

/-- What the check of the measured current `m` leaves. -/
structure LoopChecked (m : Nat) (s u : State) : Prop where
  meas : u.hk.loopMeas = m
  run : u.hk.loopRun = if 100 < max m s.hk.loopCmd - min m s.hk.loopCmd then s.hk.loopRun + 1 else 0
  fault : u.hk.loopFault = (s.hk.loopFault || decide (10 ≤ u.hk.loopRun))
  img : u.img = s.img
  rest : offLoop u = offLoop s

theorem loopCheck_checked (m : Nat) (s : State) : LoopChecked m s (loopCheck m s) := by
  have hrun : (if decide (100 < max m s.hk.loopCmd - min m s.hk.loopCmd) = true then s.hk.loopRun + 1 else 0) =
      if 100 < max m s.hk.loopCmd - min m s.hk.loopCmd then s.hk.loopRun + 1 else 0 := by
    simp only [decide_eq_true_eq]
  unfold loopCheck
  extract_lets off run u
  split
  case isTrue h =>
    rw [Bool.and_eq_true] at h
    refine ⟨rfl, hrun, ?_, rfl, rfl⟩
    have hten : decide (10 ≤ run) = true := h.1
    have hlatched : true = (s.hk.loopFault || decide (10 ≤ run)) := by rw [hten, Bool.or_true]
    exact hlatched
  case isFalse h =>
    refine ⟨rfl, hrun, ?_, rfl, rfl⟩
    have hkept : s.hk.loopFault = (s.hk.loopFault || decide (10 ≤ run)) := by
      cases hf : s.hk.loopFault
      · rw [hf, Bool.not_false, Bool.and_true] at h
        rw [Bool.false_or, Bool.eq_false_iff.mpr h]
      · rfl
    exact hkept

/-- What an update gives for the measured current `m`: the drive, and the run of failing updates. -/
def LoopUpdated (s u : State) : Prop :=
  (u.hk.loopLevel = false → 3800 ≤ u.hk.loopCmd ∧ u.hk.loopCmd ≤ 20500) ∧
  (u.hk.loopLevel = true → u.hk.loopCmd = 3500 ∨ u.hk.loopCmd = 21500) ∧
  (u.hk.loopFault = true ∨ s.img.active = none → u.hk.loopLevel = true) ∧
  (100 < max u.hk.loopMeas s.hk.loopCmd - min u.hk.loopMeas s.hk.loopCmd → u.hk.loopRun = s.hk.loopRun + 1 ∧
    (9 ≤ s.hk.loopRun → u.hk.loopFault = true) ∧ (s.hk.loopRun < 9 → u.hk.loopFault = s.hk.loopFault)) ∧
  (max u.hk.loopMeas s.hk.loopCmd - min u.hk.loopMeas s.hk.loopCmd ≤ 100 → u.hk.loopRun = 0 ∧ u.hk.loopFault = s.hk.loopFault)

/-- The loop drives `d`. -/
def loopDriven (d : Nat × Bool) (u : State) : State := tookFree { u with hk := { u.hk with loopCmd := d.1, loopLevel := d.2 } }

theorem updateLoop_eq (code : Nat) (s : State) : updateLoop code s =
    loopDriven (loopDrive (tookFree (loopCheck (loopMeasured s code) s))) (tookFree (loopCheck (loopMeasured s code) s)) := rfl

theorem LoopChecked.driven {m : Nat} {s u : State} (h : LoopChecked m s u) : LoopUpdated s (loopDriven (loopDrive u) u) := by
  obtain ⟨hsound, hlevel, hbad⟩ := loopDrive_cases u
  have hrun : (loopDriven (loopDrive u) u).hk.loopRun = u.hk.loopRun := rfl
  have hmeas : (loopDriven (loopDrive u) u).hk.loopMeas = m := h.meas
  have hfault : (loopDriven (loopDrive u) u).hk.loopFault = u.hk.loopFault := rfl
  refine ⟨hsound, hlevel, fun hno => hbad ?_, fun hfar => ?_, fun hnear => ?_⟩
  · rw [h.img]
    exact hno
  · rw [hmeas] at hfar
    rw [hrun, hfault, h.fault, h.run, if_pos hfar]
    refine ⟨rfl, fun h9 => ?_, fun h9 => ?_⟩
    · rw [decide_eq_true (Nat.succ_le_succ h9), Bool.or_true]
    · rw [decide_eq_false (by omega), Bool.or_false]
  · rw [hmeas] at hnear
    rw [hrun, hfault, h.fault, h.run, if_neg (Nat.not_lt.mpr hnear)]
    exact ⟨rfl, Bool.or_false _⟩

theorem updateLoop_updated (code : Nat) (s : State) : LoopUpdated s (updateLoop code s) ∧
    (updateLoop code s).hk.loopMeas = loopMeasured s code ∧ offLoop (updateLoop code s) = offLoop s := by
  obtain ⟨hmeas, hrun, hfault, himg, hrest⟩ := loopCheck_checked (loopMeasured s code) s
  have h : LoopChecked (loopMeasured s code) s (tookFree (loopCheck (loopMeasured s code) s)) :=
    ⟨hmeas, hrun, hfault, himg, hrest⟩
  rw [updateLoop_eq]
  generalize tookFree (loopCheck (loopMeasured s code) s) = u at h
  exact ⟨h.driven, h.meas, h.rest⟩

section
variable {t : Nat} {s : State} (hs : awake t s = true)
include hs

theorem yields_loopUpdate (code : Nat) : Yields (exec (.loopUpdate t code) s) (fun u =>
    (u.hk.loopMeas = correctCode s (if (hkInput s 21).conv = 1 then 1 else 0) (code % 16384) * 30000 / 16383 ∨
      (correctCode s (if (hkInput s 21).conv = 1 then 1 else 0) (code % 16384) * 30000 % 16383 ≠ 0 ∧
        u.hk.loopMeas = correctCode s (if (hkInput s 21).conv = 1 then 1 else 0) (code % 16384) * 30000 / 16383 + 1)) ∧
    LoopUpdated s u ∧ Leaves t s u (fun x => { x with free := 0, cb := {}, hk := {} })) := by
  have hexec : exec (.loopUpdate t code) s = act t s (updateLoop code) := rfl
  obtain ⟨hupd, hmeas, hrest⟩ := updateLoop_updated code (begin t s)
  have hround := roundFree_div (begin t s) (correctCode s (if (hkInput s 21).conv = 1 then 1 else 0) (code % 16384) * 30000)
    16383 (by decide)
  have hreading : loopMeasured (begin t s) code = (roundFree (begin t s)
      (((correctCode s (if (hkInput s 21).conv = 1 then 1 else 0) (code % 16384) * 30000 : Nat) : Rat) / ((16383 : Nat) : Rat))).toNat := by
    rw [Nat.cast_mul]
    rfl
  rw [hexec]
  refine yields_act hs ?_
  rw [LoopUpdated, settle_hk]
  refine ⟨?_, hupd, _, rfl, hrest⟩
  rw [hmeas, hreading]
  exact hround

theorem yields_loopClear {p : Path} (hp : p ≠ .tap) : Yields (exec (.loopFaultClear t p) s) (fun u =>
    u.hk.loopFault = false ∧ u.hk.loopCmd = s.hk.loopCmd ∧
      Leaves t s u (fun x => { x with hk := { x.hk with loopFault := false, loopRun := 0 } })) := by
  have hexec : exec (.loopFaultClear t p) s = act t s (onPath p clearLoop) := rfl
  rw [hexec]
  refine yields_act hs ?_
  rw [onPath_of_ne hp, settle_hk]
  exact ⟨rfl, rfl, _, rfl, rfl⟩
end

/-- Settles O59, by the state of the turn that a sample meets. -/
theorem auxAndLoop : Obligations.AuxAndLoop := by
  unfold Obligations.AuxAndLoop
  intro t p s hs hp
  refine ⟨fun c o k g r n hturn hmake hr hexc hsrc => yields_auxCounted hs hturn hmake hr hexc hsrc,
    fun c o k g r n e hturn hmake hr hsrc he hon hg => yields_auxLimit hs hturn hmake hr hsrc he hon hg,
    fun c o k g n hturn hnext => yields_auxStart hs hturn hnext,
    fun c o k g n m hturn hmake hm hr => yields_auxBroken hs hturn hmake hm hr,
    fun c o k g n m r hturn hmake hm hrec hr hg => yields_auxMake hs hturn hmake hm hrec hr hg,
    fun n hturn hr h => yields_auxEndNone hs hturn hr h,
    fun r n hturn hmake hr hfull hw hsec => yields_auxFirst hs hturn hmake hr hfull hw hsec,
    fun r n hturn hmake hr hfull h => yields_auxOutput hs hturn hmake hr hfull h, fun code => ?_, yields_loopClear hs hp⟩
  refine (yields_loopUpdate hs code).imp fun u hu => ?_
  obtain ⟨hm, ⟨hsound, hlevel, hbad, hfar, hnear⟩, hrest⟩ := hu
  exact ⟨hm, hsound, hlevel, hbad, hfar, hnear, hrest⟩

end Sys2Proof.Machine
end

section
/-! O60: hotspots, the shutdown, supply warnings and droop (R441 to R448, R496). -/

namespace Sys2Proof.Machine

/-! ### The four hotspots -/

theorem hotspotBad_of_hk {s u : State} (h : u.hk = s.hk) (d : HotspotDef) : hotspotBad u d = hotspotBad s d := by
  have hdiode : diodeOf u = diodeOf s := funext fun i => by rw [diodeOf, diodeOf, h]
  have hbad : diodeBad u = diodeBad s := funext fun i => by rw [diodeBad, diodeBad, hdiode, h]
  rw [hotspotBad, hotspotBad, hbad, hdiode, h]

/-- Hotspot `h` has its figures `y`. -/
def spotSet (h : Nat) (y : Hotspot) (s : State) : State :=
  tookFree { s with th := { s.th with spots := s.th.spots.set h y } }

theorem stepHotspot_sets (dt h : Nat) (s : State) : ∃ y, (stepHotspot dt h s).th = (spotSet h y s).th ∧
    (stepHotspot dt h s).hk = s.hk ∧ (stepHotspot dt h s).pwr = s.pwr ∧
    (hotspotBad s (hotspotDef h) = true → y.tj = 2400 ∧ y.broken = true) := by
  unfold stepHotspot
  extract_lets d x p d1 d2 bad sum tj
  refine ⟨{ d1 := d1, d2 := d2, tj := tj, broken := bad }, eventIf_stays State.th (fun _ _ => rfl) _ _ _,
    eventIf_stays State.hk (fun _ _ => rfl) _ _ _, eventIf_stays State.pwr (fun _ _ => rfl) _ _ _, fun h => ⟨if_pos h, h⟩⟩

/-- The four steps of a measurement. -/
def spotsStepped (dt : Nat) (s : State) : State := [0, 1, 2, 3].foldl (fun u h => stepHotspot dt h u) s

/-- Only the hotspots changed, and a broken one lies at 150 °C. -/
structure SpotsStepped (s u : State) : Prop where
  th : ∃ x, u.th = { s.th with spots := x }
  pwr : u.pwr = s.pwr
  bad : ∀ h < 4, hotspotBad s (hotspotDef h) = true → (u.th.spots.get {} h).tj = 2400 ∧ (u.th.spots.get {} h).broken = true

theorem spotsStepped_spec (dt : Nat) (s : State) : SpotsStepped s (spotsStepped dt s) := by
  obtain ⟨y0, hth0, hhk0, hpwr0, hbad0⟩ := stepHotspot_sets dt 0 s
  obtain ⟨y1, hth1, hhk1, hpwr1, hbad1⟩ := stepHotspot_sets dt 1 (stepHotspot dt 0 s)
  obtain ⟨y2, hth2, hhk2, hpwr2, hbad2⟩ := stepHotspot_sets dt 2 (stepHotspot dt 1 (stepHotspot dt 0 s))
  obtain ⟨y3, hth3, hhk3, hpwr3, hbad3⟩ := stepHotspot_sets dt 3 (stepHotspot dt 2 (stepHotspot dt 1 (stepHotspot dt 0 s)))
  have hth : (spotsStepped dt s).th = { s.th with
      spots := (((s.th.spots.set 0 y0).set 1 y1).set 2 y2).set 3 y3 } := by
    refine hth3.trans ?_
    rw [spotSet, tookFree_th, hth2, spotSet, tookFree_th, hth1, spotSet, tookFree_th, hth0]
    rfl
  refine ⟨⟨_, hth⟩, hpwr3.trans (hpwr2.trans (hpwr1.trans hpwr0)), fun h hh hb => ?_⟩
  rw [hotspotBad_of_hk hhk0] at hbad1
  rw [hotspotBad_of_hk (hhk1.trans hhk0)] at hbad2
  rw [hotspotBad_of_hk (hhk2.trans (hhk1.trans hhk0))] at hbad3
  rw [hth]
  interval_cases h
  · rw [Tab.get_set_other _ _ _ (by decide), Tab.get_set_other _ _ _ (by decide), Tab.get_set_other _ _ _ (by decide),
      Tab.get_set_same]
    exact hbad0 hb
  · rw [Tab.get_set_other _ _ _ (by decide), Tab.get_set_other _ _ _ (by decide), Tab.get_set_same]
    exact hbad1 hb
  · rw [Tab.get_set_other _ _ _ (by decide), Tab.get_set_same]
    exact hbad2 hb
  · rw [Tab.get_set_same]
    exact hbad3 hb

/-! ### Warning, throttle and shutdown -/

/-- A hotspot that is not broken has reached 160 °C. -/
def overheated (s : State) : Bool := [0, 1, 2, 3].any (fun h => !spotBroken s h && decide (2560 ≤ spotTj s h))

theorem overheated_of {s : State} {h : Nat} (hh : h < 4) (hsound : spotBroken s h = false) (htj : 2560 ≤ spotTj s h) :
    overheated s = true := by
  refine List.any_eq_true.mpr ⟨h, ?_, ?_⟩
  · interval_cases h <;> simp
  · rw [hsound, decide_eq_true htj]
    rfl

/-- What the figures of the hotspots bring. -/
structure HeatJudged (w u : State) : Prop where
  spots : u.th.spots = w.th.spots
  lim : u.th.lim = w.th.lim
  warn : u.th.warn = decide (warnPoint w ≤ topTj w)
  throttle : u.th.throttle = decide (throttlePoint w ≤ topTj w)
  shutdown : u.th.shutdown = (w.th.shutdown || overheated w)
  ends : overheated w = true → inShow u = false

theorem exitShow_th (s : State) : (exitShow s).th = s.th := by
  have hcond := condFrame_refreshConds (showLeft (cuesEnded s))
  have hleft : ∀ u, (showLeft u).th = u.th := fun u =>
    (eq_of_setsFrame (setsFrame_feedIdle _) State.th fun _ => rfl).trans
      (eq_of_spotFrame (spotFrame_stopScene _) State.th fun _ => rfl)
  have hended := congrArg State.th (cuesEnded_calm s)
  rw [exitShow_eq, eq_of_condFrame hcond State.th fun _ => rfl, hleft]
  exact hended.trans (latchCause_keeps 0x12 _ State.th fun _ => rfl)

theorem not_inShow_exitShow (s : State) : inShow (exitShow s) = false := by
  rw [inShow, (exitShow_groups s).1]
  simp

theorem judgeHeat_judged (w : State) : HeatJudged w (judgeHeat w) := by
  unfold judgeHeat
  extract_lets top warn thr shut src srcTh u v
  have hv : v.th = { w.th with
      warn := warn, throttle := thr, tjMax := some (max top (w.th.tjMax.getD top)), shutdown := w.th.shutdown || shut } := by
    have hcond : v.th = u.th := calm_th (setCond_calm 3 0 thr u)
    exact hcond.trans (eventIf_stays State.th (fun _ _ => rfl) _ _ _)
  have hth : ∀ x : State, x.th = v.th → (shut = true → inShow x = false) → HeatJudged w x := fun x hx hshow => by
    rw [hv] at hx
    exact ⟨by rw [hx], by rw [hx], by rw [hx], by rw [hx], by rw [hx]; rfl, hshow⟩
  split
  case isTrue h => exact hth _ (exitShow_th v) fun _ => not_inShow_exitShow v
  case isFalse h =>
    refine hth _ rfl fun hshut => ?_
    rw [hshut, Bool.true_and] at h
    exact Bool.eq_false_iff.mpr h

/-- The measurement step's length is judged apart. -/
theorem judgeRate_rest (s : State) : (judgeRate s).pwr = s.pwr ∧ ∃ a b, (judgeRate s).th = { s.th with fast := a, coolSince := b } := by
  rw [judgeRate]
  split
  · exact ⟨rfl, _, _, rfl⟩
  · split
    · split
      · exact ⟨rfl, s.th.fast, _, rfl⟩
      · split
        · exact ⟨rfl, _, _, rfl⟩
        · exact ⟨rfl, s.th.fast, s.th.coolSince, rfl⟩
    · exact ⟨rfl, s.th.fast, _, rfl⟩

theorem HeatJudged.rated {w u : State} (h : HeatJudged w u) : HeatJudged w (judgeRate u) := by
  obtain ⟨hpwr, a, b, hth⟩ := judgeRate_rest u
  refine ⟨?_, ?_, ?_, ?_, ?_, fun hot => ?_⟩
  · rw [hth]; exact h.spots
  · rw [hth]; exact h.lim
  · rw [hth]; exact h.warn
  · rw [hth]; exact h.throttle
  · rw [hth]; exact h.shutdown
  · rw [inShow, hpwr]
    exact h.ends hot

theorem heatStep_eq (s : State) :
    heatStep s = judgeRate (judgeHeat (spotsStepped (if s.th.fast then 50 else 1000) (noteDiodes s))) := rfl

theorem yields_thermalStep {t : Nat} {s : State} (hs : awake t s = true) : Yields (exec (.thermalStep t) s) (fun u =>
    (∀ h < 4, hotspotBad s (hotspotDef h) = true →
      (u.th.spots.get {} h).tj = 2400 ∧ (u.th.spots.get {} h).broken = true) ∧
    u.th.warn = decide (warnPoint s ≤ topTj u) ∧ u.th.throttle = decide (throttlePoint s ≤ topTj u) ∧
    (∀ h < 4, spotBroken u h = false → 2560 ≤ spotTj u h → u.th.shutdown = true ∧ inShow u = false) ∧
    (s.th.shutdown = true → u.th.shutdown = true)) := by
  have hexec : exec (.thermalStep t) s = act t s heatStep := rfl
  obtain ⟨⟨x, hwth⟩, -, hbad⟩ := spotsStepped_spec (if (begin t s).th.fast then 50 else 1000) (noteDiodes (begin t s))
  have hj : HeatJudged _ (heatStep (begin t s)) :=
    (judgeHeat_judged (spotsStepped (if (begin t s).th.fast then 50 else 1000) (noteDiodes (begin t s)))).rated
  have hlim : (spotsStepped (if (begin t s).th.fast then 50 else 1000) (noteDiodes (begin t s))).th.lim = s.th.lim := by
    rw [hwth]
    rfl
  have hshut : (spotsStepped (if (begin t s).th.fast then 50 else 1000) (noteDiodes (begin t s))).th.shutdown = s.th.shutdown := by
    rw [hwth]
    rfl
  rw [hexec]
  refine yields_act hs ?_
  generalize spotsStepped (if (begin t s).th.fast then 50 else 1000) (noteDiodes (begin t s)) = w at hbad hj hlim hshut
  generalize heatStep (begin t s) = u at hj
  have htj : spotTj (settle s u) = spotTj w := funext fun h => by rw [spotTj, spotTj, settle_th, hj.spots]
  have hbroken : spotBroken (settle s u) = spotBroken w := funext fun h => by rw [spotBroken, spotBroken, settle_th, hj.spots]
  have htop : topTj (settle s u) = topTj w := by rw [topTj, topTj, htj]
  have hwarn : warnPoint w = warnPoint s := by rw [warnPoint, warnPoint, hlim]
  have hthrottle : throttlePoint w = throttlePoint s := by rw [throttlePoint, throttlePoint, hlim]
  have hshow : inShow (settle s u) = inShow u := by rw [inShow, inShow, settle_pwr]
  rw [htop, htj, hbroken, hshow, settle_th]
  refine ⟨fun h hh hb => ?_, ?_, ?_, fun h hh hsound hhot => ?_, fun hold => ?_⟩
  · rw [hj.spots]
    exact hbad h hh hb
  · rw [hj.warn, hwarn]
  · rw [hj.throttle, hthrottle]
  · have hot := overheated_of hh hsound hhot
    exact ⟨by rw [hj.shutdown, hot, Bool.or_true], hj.ends hot⟩
  · rw [hj.shutdown, hshut, hold]
    rfl

/-! ### The clear of the shutdown -/

section
variable {t : Nat} {p : Path} {s : State} (hs : awake t s = true) (hp : p ≠ .tap)
include hs hp

theorem yields_shutdownCleared (h : ∀ h < 4, spotBroken s h = false ∧ spotTj s h ≤ throttlePoint s - 160) :
    Yields (exec (.thermalShutdownClear t p) s) (fun u => u.th.shutdown = false ∧
      Leaves t s u (fun x => { x with th := { x.th with shutdown := false } })) := by
  have hexec : exec (.thermalShutdownClear t p) s = act t s (onPath p clearShutdown) := rfl
  have hgo : clearShutdown (begin t s) = { begin t s with th := { s.th with shutdown := false } } := by
    refine if_pos (List.all_eq_true.mpr fun k hk => ?_)
    have hk4 : k < 4 := by
      simp only [List.mem_cons, List.not_mem_nil, or_false] at hk
      omega
    obtain ⟨hsound, hcool⟩ := h k hk4
    rw [show spotBroken (begin t s) k = false from hsound]
    exact decide_eq_true hcool
  rw [hexec]
  refine yields_act hs ?_
  rw [onPath_of_ne hp, hgo, settle_th]
  exact ⟨rfl, _, rfl, rfl⟩

theorem yields_shutdownKept {h : Nat} (hh : h < 4) (hno : spotBroken s h = true ∨ throttlePoint s - 160 < spotTj s h) :
    Yields (exec (.thermalShutdownClear t p) s) (fun u => Leaves t s u id) := by
  refine yields_same hs (i := .thermalShutdownClear t p) (f := onPath p clearShutdown) rfl ?_
  rw [onPath_of_ne hp]
  refine if_neg fun hall => ?_
  have hmem : h ∈ [0, 1, 2, 3] := by interval_cases h <;> simp
  have hcool := List.all_eq_true.mp hall h hmem
  rw [Bool.and_eq_true, Bool.not_eq_true', decide_eq_true_eq] at hcool
  obtain ⟨hsound, hcool⟩ := hcool
  obtain hno | hno := hno
  · exact absurd (hsound.symm.trans hno) (by decide)
  · exact absurd (Int.lt_of_lt_of_le hno hcool) (Int.lt_irrefl _)
end

/-! ### Supply warnings -/

theorem railMask_bit (r : Rail) : (railMask r).getLsbD (Rail.bit r) = true := by
  cases r <;> decide

/-- PRESENT_N after a command that carries rail `r` at `x`. -/
def presentAfter (r : Rail) (x : Sag) (s u : State) : Prop :=
  presentLow u = if r = .vddIo then decide (1200 ≤ x.mv) else presentLow s

theorem ioLevel_eq (r : Rail) (mv : Nat) (s : State) : ioLevel r mv s =
    { s with th := { s.th with ioOff := if r = .vddIo then decide (mv < 1200) else s.th.ioOff } } := by
  rw [ioLevel]
  split
  · rfl
  · rfl

theorem presentAfter_of {r : Rail} {x : Sag} {s u : State} (h : u.th.ioOff = (ioLevel r x.mv s).th.ioOff) :
    presentAfter r x s u := by
  rw [presentAfter, presentLow, h, ioLevel_eq, presentLow]
  split
  · rw [← decide_not]
    exact decide_eq_decide.mpr Nat.not_lt
  · rfl

/-- Rail `r` is in warning. -/
def warned (r : Rail) (x : Sag) (s : State) : State :=
  { ioLevel r x.mv s with th := { (ioLevel r x.mv s).th with supLive := s.th.supLive ||| railMask r } }

/-- The warning is noted, and its condition judged. -/
def warningNoted (r : Rail) (u : State) : State :=
  setCond 1 0 (supplyCond u)
    (setEvent evSupply { u with
      th := { u.th with supWarn := u.th.supWarn ||| railMask r, cntWarn := inc32 u.th.cntWarn }
      recent := { u.recent with warn := u.recent.warn ||| railMask r } })

theorem ioLevel_supLive (r : Rail) (mv : Nat) (s : State) : (ioLevel r mv s).th.supLive = s.th.supLive := by
  rw [ioLevel_eq]

theorem live_ioLevel (r : Rail) (mv : Nat) (s : State) : live (ioLevel r mv s) = live s := by
  rw [ioLevel_eq]
  rfl

theorem supplyEnter_warns {r : Rail} {x : Sag} {s : State} (ht : usTicks ≤ x.ticks) (hb : beyondWarning r x.mv = true)
    (hno : s.th.supLive.getLsbD (Rail.bit r) = false) :
    supplyEnter r x s = if live s then warningNoted r (warned r x s) else warned r x s := by
  rw [supplyEnter, ioLevel_supLive, hno, hb, decide_eq_false (Nat.not_lt.mpr ht), if_neg (by decide)]
  have hlive : live (warned r x s) = live s := live_ioLevel r x.mv s
  rw [← hlive]
  rfl

theorem supplyEnter_none {r : Rail} {x : Sag} {s : State}
    (h : x.ticks < usTicks ∨ beyondWarning r x.mv = false ∨ s.th.supLive.getLsbD (Rail.bit r) = true) :
    supplyEnter r x s = ioLevel r x.mv s := by
  refine if_pos ?_
  rw [ioLevel_supLive]
  obtain h | h | h := h
  · rw [decide_eq_true h]
    rfl
  · rw [h]
    simp
  · rw [h, Bool.or_true]

theorem warningNoted_th (r : Rail) (u : State) : (warningNoted r u).th =
    { u.th with supWarn := u.th.supWarn ||| railMask r, cntWarn := inc32 u.th.cntWarn } := by
  have h := congrArg State.th (setCond_calm 1 0 (supplyCond u) (setEvent evSupply { u with
      th := { u.th with supWarn := u.th.supWarn ||| railMask r, cntWarn := inc32 u.th.cntWarn }
      recent := { u.recent with warn := u.recent.warn ||| railMask r } }))
  exact h

theorem warningNoted_event (r : Rail) (u : State) : (warningNoted r u).cb.event.getLsbD evSupply = true :=
  (setCond_tidy 1 0 (supplyCond u) _).events evSupply (setEvent_event evSupply (by decide) _)

/-- The state but for the thermal and supply figures and what `calm` blanks. -/
def offTh (s : State) : State := calm { s with th := {} }

theorem offTh_of_calm {s u : State} (h : calm u = calm s) : offTh u = offTh s := by
  have hth := congrArg (fun x : State => { x with th := {} }) h
  exact hth

theorem leaves_of_offTh {t : Nat} {s u : State} (h : offTh u = offTh (begin t s)) :
    Leaves t s (settle s u) (fun x => calm { x with th := {} }) := ⟨u, rfl, congrArg (fun x : State => { x with recent := {} }) h⟩

theorem offTh_warningNoted (r : Rail) (u : State) : offTh (warningNoted r u) = offTh u :=
  (offTh_of_calm (setCond_calm _ _ _ _)).trans rfl

theorem offTh_warned (r : Rail) (x : Sag) (s : State) : offTh (warned r x s) = offTh s := by
  rw [warned, ioLevel_eq]
  rfl

theorem presentLow_settle (b u : State) : presentLow (settle b u) = presentLow u := by
  rw [presentLow, presentLow, settle_th]

section
variable {t : Nat} {r : Rail} {x : Sag} {s : State}

theorem yields_warningEnter (hs : awake t s = true) (ht : usTicks ≤ x.ticks) (hb : beyondWarning r x.mv = true)
    (hno : s.th.supLive.getLsbD (Rail.bit r) = false) :
    Yields (exec (.supplyWarningEnter t r x) s) (fun u => u.th.supLive.getLsbD (Rail.bit r) = true ∧ presentAfter r x s u ∧
      u.th.supWarn.getLsbD (Rail.bit r) = true ∧ u.th.cntWarn = inc32 s.th.cntWarn ∧
      u.cb.event.getLsbD evSupply = true ∧ Leaves t s u (fun x => calm { x with th := {} })) := by
  have hexec : exec (.supplyWarningEnter t r x) s = actAlways t s (supplyEnter r x) := rfl
  obtain ⟨hl, hd⟩ := awake_iff.mp hs
  have hgo : supplyEnter r x (begin t s) = warningNoted r (warned r x (begin t s)) :=
    (supplyEnter_warns (s := begin t s) ht hb hno).trans (if_pos hl)
  have hth : (warned r x (begin t s)).th = { (ioLevel r x.mv (begin t s)).th with supLive := s.th.supLive ||| railMask r } := rfl
  have hio : (ioLevel r x.mv (begin t s)).th.supWarn = s.th.supWarn ∧ (ioLevel r x.mv (begin t s)).th.cntWarn = s.th.cntWarn := by
    rw [ioLevel_eq]
    exact ⟨rfl, rfl⟩
  have hlevel : presentAfter r x s (warningNoted r (warned r x (begin t s))) :=
    presentAfter_of (s := begin t s) (by rw [warningNoted_th, hth])
  rw [hexec]
  refine yields_actAlways hd ?_
  rw [hgo, presentAfter, presentLow_settle, settle_th]
  refine ⟨?_, hlevel, ?_, ?_, settle_keeps_event (warningNoted_event _ _), leaves_of_offTh ?_⟩
  · rw [warningNoted_th, hth, BitVec.getLsbD_or, railMask_bit, Bool.or_true]
  · rw [warningNoted_th, BitVec.getLsbD_or, railMask_bit, Bool.or_true]
  · rw [warningNoted_th, hth, hio.2]
  · rw [offTh_warningNoted, offTh_warned]

theorem yields_warningAsleep (hl : live s = false) (hd : resetDue t s = false) (ht : usTicks ≤ x.ticks)
    (hb : beyondWarning r x.mv = true) (hno : s.th.supLive.getLsbD (Rail.bit r) = false) :
    Yields (exec (.supplyWarningEnter t r x) s) (fun u => u.th.supLive.getLsbD (Rail.bit r) = true ∧ presentAfter r x s u ∧
      u.th.supWarn = s.th.supWarn ∧ u.th.cntWarn = s.th.cntWarn) := by
  have hexec : exec (.supplyWarningEnter t r x) s = actAlways t s (supplyEnter r x) := rfl
  have hgo : supplyEnter r x (begin t s) = warned r x (begin t s) :=
    (supplyEnter_warns (s := begin t s) ht hb hno).trans (if_neg (by rw [show live (begin t s) = false from hl]; decide))
  have hio : (ioLevel r x.mv (begin t s)).th.supWarn = s.th.supWarn ∧ (ioLevel r x.mv (begin t s)).th.cntWarn = s.th.cntWarn := by
    rw [ioLevel_eq]
    exact ⟨rfl, rfl⟩
  have hlevel : presentAfter r x s (warned r x (begin t s)) := presentAfter_of (s := begin t s) rfl
  rw [hexec]
  refine yields_actAlways hd ?_
  rw [hgo, presentAfter, presentLow_settle, settle_th]
  refine ⟨?_, hlevel, hio.1, hio.2⟩
  have hth : (warned r x (begin t s)).th.supLive = s.th.supLive ||| railMask r := rfl
  rw [hth, BitVec.getLsbD_or, railMask_bit, Bool.or_true]

theorem yields_warningNone (hd : resetDue t s = false)
    (h : x.ticks < usTicks ∨ beyondWarning r x.mv = false ∨ s.th.supLive.getLsbD (Rail.bit r) = true) :
    Yields (exec (.supplyWarningEnter t r x) s) (fun u => presentAfter r x s u ∧
      Leaves t s u (fun x => { x with th := { x.th with ioOff := false } })) := by
  have hexec : exec (.supplyWarningEnter t r x) s = actAlways t s (supplyEnter r x) := rfl
  have hlevel : presentAfter r x s (ioLevel r x.mv (begin t s)) := presentAfter_of (s := begin t s) rfl
  rw [hexec]
  refine yields_actAlways hd ?_
  rw [supplyEnter_none (s := begin t s) h, presentAfter, presentLow_settle]
  refine ⟨hlevel, _, rfl, ?_⟩
  rw [ioLevel_eq]
end

/-! ### The end of a warning -/

/-- Rail `r` is back at its reset threshold or above. -/
def railBack (r : Rail) (x : Sag) (s : State) : State :=
  if belowReset r x.mv then ioLevel r x.mv s
  else { ioLevel r x.mv s with th := { (ioLevel r x.mv s).th with railLow := (ioLevel r x.mv s).th.railLow &&& ~~~(railMask r) } }

/-- Rail `r` is out of warning. -/
def unwarned (r : Rail) (x : Sag) (s : State) : State :=
  { railBack r x s with th := { (railBack r x s).th with supLive := (railBack r x s).th.supLive &&& ~~~(railMask r) } }

theorem supplyLeave_eq (r : Rail) (x : Sag) (s : State) : supplyLeave r x s =
    if x.ticks < usTicks || !wellInside r x.mv then railBack r x s
    else if live (unwarned r x s) then setCond 1 0 (supplyCond (unwarned r x s)) (unwarned r x s) else unwarned r x s := rfl

theorem not_belowReset_of_wellInside {r : Rail} {mv : Nat} (h : wellInside r mv = true) : belowReset r mv = false := by
  rw [wellInside, Bool.and_eq_true, decide_eq_true_eq, decide_eq_true_eq] at h
  refine decide_eq_false ?_
  cases r <;> simp only [railLimits, railNominal] at h ⊢ <;> omega

theorem railBack_eq (r : Rail) (x : Sag) (s : State) : railBack r x s = { s with th := { s.th with
    ioOff := if r = .vddIo then decide (x.mv < 1200) else s.th.ioOff
    railLow := if belowReset r x.mv then s.th.railLow else s.th.railLow &&& ~~~(railMask r) } } := by
  rw [railBack, ioLevel_eq]
  split
  · rfl
  · rfl

theorem getLsbD_unmask (r : Rail) (v : BitVec 7) : (v &&& ~~~(railMask r)).getLsbD (Rail.bit r) = false := by
  rw [BitVec.getLsbD_and, BitVec.getLsbD_not, railMask_bit]
  simp

theorem railBack_low (r : Rail) (x : Sag) (s : State) : (railBack r x s).th.railLow.getLsbD (Rail.bit r) =
    (s.th.railLow.getLsbD (Rail.bit r) && belowReset r x.mv) := by
  rw [railBack_eq]
  dsimp only
  cases belowReset r x.mv
  · rw [if_neg (by decide), getLsbD_unmask, Bool.and_false]
  · rw [if_pos rfl, Bool.and_true]

theorem supplyLeave_leaves {r : Rail} {x : Sag} {s : State} (ht : usTicks ≤ x.ticks) (hw : wellInside r x.mv = true) :
    calm (supplyLeave r x s) = calm (unwarned r x s) := by
  rw [supplyLeave_eq, hw, decide_eq_false (Nat.not_lt.mpr ht), if_neg (by decide)]
  split
  · exact setCond_calm _ _ _ _
  · rfl

section
variable {t : Nat} {r : Rail} {x : Sag} {s : State}

theorem yields_warningLeave (hd : resetDue t s = false) (ht : usTicks ≤ x.ticks) (hw : wellInside r x.mv = true) :
    Yields (exec (.supplyWarningLeave t r x) s) (fun u => u.th.supLive.getLsbD (Rail.bit r) = false ∧ presentAfter r x s u ∧
      u.th.supWarn = s.th.supWarn ∧ u.th.railLow.getLsbD (Rail.bit r) = false ∧
      Leaves t s u (fun x => calm { x with th := {} })) := by
  have hexec : exec (.supplyWarningLeave t r x) s = actAlways t s (supplyLeave r x) := rfl
  have hcalm := supplyLeave_leaves (s := begin t s) ht hw
  have hth : (supplyLeave r x (begin t s)).th = (unwarned r x (begin t s)).th := by
    have h := congrArg State.th hcalm
    exact h
  have hun : (unwarned r x (begin t s)).th = { (railBack r x (begin t s)).th with
      supLive := (railBack r x (begin t s)).th.supLive &&& ~~~(railMask r) } := rfl
  have hback := railBack_low r x (begin t s)
  have hio : (railBack r x (begin t s)).th.ioOff = (ioLevel r x.mv (begin t s)).th.ioOff ∧
      (railBack r x (begin t s)).th.supWarn = s.th.supWarn := by
    rw [railBack_eq, ioLevel_eq]
    exact ⟨rfl, rfl⟩
  have hlevel : presentAfter r x s (supplyLeave r x (begin t s)) :=
    presentAfter_of (s := begin t s) (by rw [hth, hun]; exact hio.1)
  have hoff : offTh (unwarned r x (begin t s)) = offTh (begin t s) := by
    rw [unwarned, railBack_eq]
    rfl
  rw [hexec]
  refine yields_actAlways hd ?_
  rw [presentAfter, presentLow_settle, settle_th, hth, hun]
  refine ⟨getLsbD_unmask _ _, hlevel, hio.2, ?_, leaves_of_offTh ((offTh_of_calm hcalm).trans hoff)⟩
  rw [hback, not_belowReset_of_wellInside hw, Bool.and_false]

theorem yields_warningStays (hd : resetDue t s = false) (h : x.ticks < usTicks ∨ wellInside r x.mv = false) :
    Yields (exec (.supplyWarningLeave t r x) s) (fun u => presentAfter r x s u ∧
      u.th.railLow.getLsbD (Rail.bit r) = (s.th.railLow.getLsbD (Rail.bit r) && belowReset r x.mv) ∧
      Leaves t s u (fun x => { x with th := { x.th with ioOff := false, railLow := 0 } })) := by
  have hexec : exec (.supplyWarningLeave t r x) s = actAlways t s (supplyLeave r x) := rfl
  have hgo : supplyLeave r x (begin t s) = railBack r x (begin t s) := by
    rw [supplyLeave_eq]
    refine if_pos ?_
    obtain h | h := h
    · rw [decide_eq_true h]
      rfl
    · rw [h]
      simp
  have hio : (railBack r x (begin t s)).th.ioOff = (ioLevel r x.mv (begin t s)).th.ioOff := by
    rw [railBack_eq, ioLevel_eq]
  have hlevel : presentAfter r x s (railBack r x (begin t s)) := presentAfter_of (s := begin t s) hio
  rw [hexec]
  refine yields_actAlways hd ?_
  rw [hgo, presentAfter, presentLow_settle, settle_th]
  refine ⟨hlevel, railBack_low r x (begin t s), _, rfl, ?_⟩
  rw [railBack_eq]
end

/-! ### The stretch of the clocks -/

section
variable {t mv : Nat} {s : State} (hs : awake t s = true)
include hs

theorem yields_droopFall (h : stretchOf mv < s.th.s) : Yields (exec (.droopFall t mv) s) (fun u => u.th.s = stretchOf mv ∧
    u.th.minS = min s.th.minS (stretchOf mv) ∧ u.th.coreAt = max s.now t ∧
    u.th.cntDroop = satAdd 32 s.th.cntDroop (bn (s.th.s == 8)) ∧ Leaves t s u (fun x => calm { x with th := {} })) := by
  have hexec : exec (.droopFall t mv) s = act t s (droopFall mv) := rfl
  have hmin : min s.th.s (stretchOf mv) = stretchOf mv := Nat.min_eq_right (Nat.le_of_lt h)
  have hgo : droopFall mv (begin t s) = refreshConds { noteValue 0xC0104 (stretchOf mv) (begin t s) with th := { s.th with
      s := stretchOf mv, minS := min s.th.minS (stretchOf mv), coreAt := max s.now t
      cntDroop := satAdd 32 s.th.cntDroop (bn (s.th.s == 8)) } } := by
    rw [droopFall, begin_th, hmin, if_neg (Nat.ne_of_lt h)]
    rfl
  have hcalm := refreshConds_calm { noteValue 0xC0104 (stretchOf mv) (begin t s) with th := { s.th with
      s := stretchOf mv, minS := min s.th.minS (stretchOf mv), coreAt := max s.now t
      cntDroop := satAdd 32 s.th.cntDroop (bn (s.th.s == 8)) } }
  rw [← hgo] at hcalm
  have hth := congrArg State.th hcalm
  have hth' : (droopFall mv (begin t s)).th = { s.th with
      s := stretchOf mv, minS := min s.th.minS (stretchOf mv), coreAt := max s.now t
      cntDroop := satAdd 32 s.th.cntDroop (bn (s.th.s == 8)) } := hth
  rw [hexec]
  refine yields_act hs ?_
  rw [settle_th, hth']
  exact ⟨rfl, rfl, rfl, rfl, leaves_of_offTh ((offTh_of_calm hcalm).trans rfl)⟩

theorem yields_droopNone (h : s.th.s ≤ stretchOf mv) : Yields (exec (.droopFall t mv) s) (fun u => Leaves t s u id) := by
  refine yields_same hs (i := .droopFall t mv) (f := droopFall mv) rfl ?_
  exact if_pos (Nat.min_eq_left h)

theorem yields_droopRaise (h : raiseDue mv (begin t s) = true) : Yields (exec (.droopRaise ⟨t, mv⟩) s) (fun u =>
    u.th.s = s.th.s + 1 ∧ u.th.raisedAt = max s.now t ∧ Leaves t s u (fun x => calm { x with th := {} })) := by
  have hexec : exec (.droopRaise ⟨t, mv⟩) s = act t s (droopRaise mv) := rfl
  have hgo : droopRaise mv (begin t s) = refreshConds { begin t s with th := { s.th with
      s := s.th.s + 1, raisedAt := max s.now t } } := if_pos h
  have hcalm := refreshConds_calm { begin t s with th := { s.th with s := s.th.s + 1, raisedAt := max s.now t } }
  rw [← hgo] at hcalm
  have hth := congrArg State.th hcalm
  have hth' : (droopRaise mv (begin t s)).th = { s.th with s := s.th.s + 1, raisedAt := max s.now t } := hth
  rw [hexec]
  refine yields_act hs ?_
  rw [settle_th, hth']
  exact ⟨rfl, rfl, leaves_of_offTh ((offTh_of_calm hcalm).trans rfl)⟩

theorem yields_raiseNone (h : raiseDue mv (begin t s) = false) :
    Yields (exec (.droopRaise ⟨t, mv⟩) s) (fun u => Leaves t s u id) := by
  refine yields_same hs (i := .droopRaise ⟨t, mv⟩) (f := droopRaise mv) rfl ?_
  exact if_neg (by rw [h]; decide)
end

/-- Settles O60, by the thermal step, the supply warnings and the stretch of the clocks apart. -/
theorem heatAndSupplies : Obligations.HeatAndSupplies := by
  unfold Obligations.HeatAndSupplies
  intro t mv p r x s hp level
  exact ⟨fun hs => yields_thermalStep hs, fun hs h => yields_shutdownCleared hs hp h,
    fun hs h hh hno => yields_shutdownKept hs hp hh hno, fun hs ht hb hno => yields_warningEnter hs ht hb hno,
    fun hl hd ht hb hno => yields_warningAsleep hl hd ht hb hno, fun hd h => yields_warningNone hd h,
    fun hd ht hw => yields_warningLeave hd ht hw, fun hd h => yields_warningStays hd h,
    fun hs h => yields_droopFall hs h, fun hs h => yields_droopNone hs h, fun hs h => yields_droopRaise hs h,
    fun hs h => yields_raiseNone hs h⟩

end Sys2Proof.Machine
end

section
/-! O34: a point of eight windows. R162 gives a point at most four, whose record of 40 bytes fits one cell; the statement
puts no bound on the windows, and the record of eight returns has 72 bytes, which take two cells. -/

namespace Sys2Proof.Machine

/-- A profile for four windows. -/
def fourWindows : ActProfile :=
  { shots1 := 16, phaseReps := 1, maxCand := 4, fset := 0, coincK := 1, coincWin := 1, apHold := 0, ringHold := 0
    gateStart := 0, gateLen := 64, preshowOfs := 0, preshowLen := 0, candThr := 0 }

/-- A window with one stop, in its first bin. -/
def oneStop : Window := { w0 := 0, bins := [(0, 1)] }

/-- A coarse-only point of cue 1 with eight windows that all give a return, in filter engine 0. -/
def eightWindows : Point :=
  { handle := 1, profileIdx := 0, prof := fourWindows, fset := { setId := 0, coefs := [] }, taps := [], edelay := 0, skew := 0
    ptCfg := 0, escCfg := 0, rejCfg := 0, batten := 0, safetyCls := false, state := 3, coarse := true
    windows := List.replicate 8 oneStop, engine := some 0 }

/-- A cue that takes points to queue 0. -/
def pointCue : CueRec :=
  { kind := 1, cls := 2, node := 0, profile := 0, flags := 0, points := 4, queue := 0, hqueue := 0xFFFF, start := 0
    period := 0, count := 1, bound := 0, trig := 0, rerun := 0, tag := 0, runtime := 0 }

/-- It runs, with two points left on channel 0. -/
def runningCue : CueEntry := { state := 3, cue := pointCue, source := .template, left := [(0, 2)] }

/-- An image with one queue, of one cell and of items of one cell. -/
def oneCellImage : Image :=
  { format := 2, serial := 1, workSize := 0, toolVer := 0, nodes := [], members := [], channels := [], battens := [], gov := []
    profiles := [fourWindows], fsets := []
    rej := { ambWeight := 0, nfRange := 0, nfDepth := 0, nfTol := 0, codeEn := false, ftaTrains := 0, ftaGate := 16, ftaMin := 4
             ftaResid := 1, ftaBlank := 0, codeSeed := 1, slotPhase := 0 }
    scene := { profiles := [], steps := [] }, templates := [], triggers := { patterns := [], masks := [] }
    queues := [{ queue := 0, maxItem := 1, consumer := 2, quota := 1, pack := 0, context := 0, producer := 0xFFFF, slane := 0 }]
    lanes := [], hk := { inputs := [], aux := [], loop := { qty := 0, index := 0, low := 0, high := 1 } }
    safety := { devId := 0, peerId := 0, timeExp := 0, tpInterval := 1, restart := 0, xchkN := 1, xtol := 0, sin := []
                refs := [], spikes := [], fields := [], crc := 0 } }

/-- Engine 0 forms the point of eight windows. -/
def wideForming : State :=
  { pwr := { mode := .show }
    img := { active := some oneCellImage }
    sm := { cues := [(1, runningCue)] }
    hist := { chan := [(0, { forming := [eightWindows] })], engines := [(0, { busy := some (0, 1) })] } }

/-- The point as engine 0 forms it: the engine held no set of its own. -/
theorem eightWindows_set : eightWindows = { eightWindows with fset := eightWindows.sets.getD 0 eightWindows.fset } := rfl

/-- The record of eight returns does not commit. -/
theorem wideForming_lost : (getQueue (filterDone 0 (begin 0 wideForming)) 0).items.length = 0 := by decide +kernel

/-- Refutes O34: the clause on point records asks for one cell whatever the point's windows, and the record of eight
returns takes two, more than the queue's MAX_ITEM, so that it is lost. -/
theorem not_pointEngines : ¬ Obligations.PointEngines := by
  intro h
  have hs : awake 0 wideForming = true := by decide +kernel
  obtain ⟨-, -, -, hforms, -⟩ := h
  obtain ⟨-, hrecord, -⟩ := hforms 0 0 0 1 eightWindows eightWindows runningCue wideForming hs rfl (by decide +kernel) rfl
    (by decide) (by decide) rfl rfl eightWindows_set (by decide +kernel) List.Pairwise.nil (by decide +kernel)
  have hcommits := hrecord { queue := 0, maxItem := 1, consumer := 2, quota := 1, pack := 0, context := 0, producer := 0xFFFF
                             slane := 0 }
    (by decide) (.inl (by decide +kernel)) rfl (by decide) (by decide) (by decide +kernel)
  have hexec : exec (.filterDone 0 0) wideForming = .next (settle wideForming (filterDone 0 (begin 0 wideForming))) := by
    have hact : exec (.filterDone 0 0) wideForming = act 0 wideForming (filterDone 0) := rfl
    rw [hact, act_live (awake_iff.mp hs).1 (awake_iff.mp hs).2]
  rw [hexec, yields_next_iff] at hcommits
  obtain ⟨it, hitems, -⟩ := hcommits
  have hlength := congrArg List.length hitems
  rw [getQueue_settle, List.length_append] at hlength
  exact absurd (wideForming_lost.symm.trans hlength) (Nat.ne_of_lt (Nat.succ_pos _))

end Sys2Proof.Machine
end
